-- ==== Sys2Proof/Word.lean ====
section
/-! DEFINITION. The plain data types every other file uses: words, bytes, sparse tables and the description of a
register field. The family reads and writes 32-bit registers (R5) whose bits are numbered from 0 (R4). -/
namespace Sys2Proof

/-- A 32-bit register word (R5). -/
abbrev Word := BitVec 32

/-- One byte of a memory format (R6). -/
abbrev Byte := BitVec 8

/-- A sparse table: keys strictly rising, no entry equal to what an unlisted key reads as. -/
abbrev KMap (α : Type) := List (Nat × α)

/-- A 32-bit register: its BAR0 offset and its reset word. -/
structure Reg where
  off   : Nat
  reset : Word
deriving DecidableEq, Repr

/-- A field of a register: the register, the lowest bit and the number of bits. -/
structure Fld where
  reg : Reg
  lo  : Nat
  len : Nat
deriving DecidableEq, Repr

/-- The access codes of R9. -/
inductive Acc where
  | rw | ro | wo | w1c | rwa
deriving DecidableEq, Repr

/-- The base of spoke k's window in BAR0 (R537). -/
abbrev spk (k : Nat) : Nat := 0x14000 + (k - 1) * 0x4000

/-- The base of CAN controller n in BAR0 (R537). -/
abbrev canBase (n : Nat) : Nat := 0x0A000 + 0x800 * n

end Sys2Proof
end

