-- ==== Sys2Proof/Frames.lean ====
section
/-! DEFINITION. The data that commands carry: spoke-link payloads (R17 to R23), results of PCIe reads (R134), the agents
that write interrupt registers (R429) and the other operand records of the command table. -/
namespace Sys2Proof

/-- The end of a spoke link, or the die, that receives a frame. -/
inductive Side where
  | hub | spoke
deriving DecidableEq, Repr

/-- The link bytes every frame carries (R17): ACK, and SEQ, which IDLE and NAK carry without using it up. -/
structure LinkHdr where
  ack : Nat
  seq : Nat
deriving DecidableEq, Repr

/-- The payload of a SCHED frame (R20). -/
structure SchedP where
  start  : Nat
  finish : Nat
  chan   : Nat
  duty   : Nat
  freq   : Nat
  slot   : Nat
deriving DecidableEq, Repr

/-- The events a FEED frame reports (R23). -/
inductive FeedEvent where
  | opened | closed | endedNoTravel | disabledByFault
deriving DecidableEq, Repr

/-- The payload of a FEED frame (R23): evtPt holds bits [31:0] of the event's PT. -/
structure FeedP where
  evtPt  : Nat
  delay  : Nat
  event  : FeedEvent
  chan   : Nat
  late   : Bool
  slip   : Bool
  slipUs : Nat
deriving DecidableEq, Repr

/-- A command for one control loop, as a CMD frame carries it (R295 to R298): SELECT and VALUE of LOOP_SETPOINT, MODE and
TRACK of LOOP_MODE, a loop block, a friction or cogging table for encoder l, an unload. -/
inductive LoopCmd where
  | setpoint (select : Nat) (value : Int)
  | mode (m : Nat) (track : Bool)
  | block (bytes : List Byte)
  | table (cog : Bool) (bytes : List Byte)
  | unload
deriving DecidableEq, Repr

/-- Who writes a register of an interrupt controller (R429). -/
inductive Agent where
  | host
  | hubFw (core : Nat)
  | spokeFw
deriving DecidableEq, Repr

/-- What firmware did to a core just before an interrupt may be taken (R40, R439): nothing, it ran to its wait instruction, it was power-gated,
or it was powered for another reason. -/
inductive CoreAct where
  | none | wait | gate | power
deriving DecidableEq, Repr

/-- What a CMD frame asks of a spoke (R18). -/
inductive CmdP where
  | regWrite (off : Nat) (value : Word) (by_ : Agent)
  | regRead (off : Nat)
  | loop (l : Nat) (ring index : Nat) (c : LoopCmd)
  | resume
deriving DecidableEq, Repr

/-- What a DATA frame carries (R18, R276, R287, R294): a loop's sample PT, observer states and outputs; a registration stream
with its cycle-start PT; the answer to a loop command; the spoke's count of bad frames; the PT of a measurement epoch, whose frame type the
manual does not give (R347, log entry 161). -/
inductive DataP where
  | sample (loop pt : Nat) (states outputs : List Int)
  | stream (index : Nat) (value : Int) (pt : Nat)
  | loopDone (ring index status detail : Nat)
  | rxBad (count : Nat)
  | epoch (pt : Nat)
deriving DecidableEq, Repr

/-- The payload of a spoke-link frame, by type (R18). -/
inductive Payload where
  | ptsync (pt : Nat) (echo : Option Nat)
  | ptadj (eff : Nat) (plus : Bool)
  | sched (e : SchedP)
  | int (slot : Nat) (level : Bool)
  | cmd (c : CmdP)
  | resp (off : Nat) (value : Word)
  | feed (f : FeedP)
  | data (x : DataP)
deriving DecidableEq, Repr

/-- How a PCIe read the device issued ends (R100, R134). -/
inductive ReadResult where
  | ok (bytes : List Byte)
  | unsupported
  | abort
  | poisoned
deriving DecidableEq, Repr

/-- A request of the device on the PCIe link that may get no completion (R89, R100, R134): a descriptor of a ring, the buffer of
the descriptor with an index, a doorbell read, a compare-and-swap. -/
inductive HostReq where
  | descriptor (ring : Nat)
  | buffer (ring index : Nat)
  | doorbell
  | atomic
deriving DecidableEq, Repr

/-- How far ISO 11898-1 raises the error counters for what a receiver saw, the flags after it included: by one, and by eights of REC and, in an
overload flag after the controller's own frame, of TEC (R387). -/
structure IsoSteps where
  one       : Bool := true
  recEights : Nat := 0
  tecEights : Nat := 0
deriving DecidableEq, Repr

/-- A CAN frame (R378): an identifier of 11 or 29 bits, remote, FD, bit rate switched and error state marks, DLC and data. -/
structure CanFrame where
  id   : Nat
  ide  : Bool := false
  rtr  : Bool := false
  fdf  : Bool := false
  brs  : Bool := false
  esi  : Bool := false
  dlc  : Nat := 0
  data : List Byte := []
deriving DecidableEq, Repr

/-- The part of a frame in which a bit error arose, as far as R390 and R404 tell fields apart. -/
inductive CanField where
  | control | dataCrc | other
deriving DecidableEq, Repr

/-- What the logbook was doing when power was lost (R457). -/
inductive LossPoint where
  | idle
  | step1 (markWritten : Bool)
  | step23
  | step4 (markWritten : Bool)
  | colophon
  | erase (slotsDone : Nat)
deriving DecidableEq, Repr

/-- One image of an image set with the authenticator's verdicts on key, signature and body digest (R55). -/
structure ImageV where
  kind     : Nat
  gen      : Nat
  length   : Nat
  keySlot  : Nat
  rollback : Nat
  keyOk    : Bool
  sigOk    : Bool
  digestOk : Bool
deriving DecidableEq, Repr

/-- One entry of the manifest (R64). -/
structure ManEntry where
  hub    : Nat
  spoke  : Nat
  ucode  : Nat
  abiMin : Nat
  abiMax : Nat
deriving DecidableEq, Repr

/-- An image set: its images, its manifest, the register writes of its set-up defaults and the role record they hold for a host-less
follower (R402). -/
structure ImageSet where
  seq      : Nat := 0
  images   : List ImageV := []
  manifest : List ManEntry := []
  defaults : List (Nat × Word) := []
  role     : Option (List Byte) := none
deriving DecidableEq, Repr

/-- A change at the MSI-X side of the PCIe function (R436, R437): a vector masked or unmasked in BAR2, MSI-X Enable, the function
mask, the link coming up. -/
inductive MsixChange where
  | vector (v : Nat) (masked : Bool)
  | enable (on : Bool)
  | functionMask (on : Bool)
  | linkUp
deriving DecidableEq, Repr

/-- An image set as read from flash (R55, R56): its bytes, and what its set-up defaults image, whose body the manual does not lay out,
holds: register writes and the role record of a host-less follower (R402). -/
structure FlashSet where
  bytes    : List Byte := []
  defaults : List (Nat × Word) := []
  role     : Option (List Byte) := none
deriving DecidableEq, Repr

/-- An event that writes a logbook record (R459, R471): code, severity, source and parameters. -/
structure LogEvt where
  code  : Nat
  sev   : Nat
  die   : Nat
  block : Nat
  index : Nat
  p0    : Nat
  p1    : Nat
  p2    : Nat
deriving DecidableEq, Repr

/-- One sample of an ageing monitor of a die (R480): the oscillator margin in 0.1 %, the junction temperature in °C, the normalised
on-resistance of a channel in 0.1 mΩ, boost capacitance in 0.1 µF, boost ESR in mΩ, η in 1/256, the hottest switch of a cassette
in °C, and the offset of the 32.768 kHz crystal in 0.01 ppm. -/
inductive DieMeas where
  | margin (m : Nat)
  | junction (temp : Int)
  | onResistance (chan microvolts milliamps : Nat) (temp : Int)
  | boostCap (ticks millivolts : Nat)
  | boostEsr (millivolts milliamps : Nat)
  | recovery (v1 v2 milliamps nanohenries : Nat)
  | casTemp (cas : Nat) (temp : Int)
  | aoCrystal (offset : Int)
deriving DecidableEq, Repr

/-- What the reference-load test of a channel measures (R530): node voltage and current with test switch and low side closed, the cassette
ADC's current, the comparator at 0.40 A and at 0.60 A, the time until the current is below 20 mA once the low side opens, and the time until the node is below 1.5 V
once the test switch opens. -/
structure RefMeas where
  chan   : Nat
  nodeUv : Nat
  ma     : Nat
  adcMa  : Nat
  at40   : Bool
  at60   : Bool
  offNs  : Nat
  nodeUs : Nat
deriving DecidableEq, Repr

/-- What a loop-back run finds (R528, R532), by target: bad frames of a spoke link; bad frames and pulses of the tandem link; the channels of a
drive test in the order tested; the mismatches and the worst time of a PWM pair; the codes of each ADC; the rates a pulse input measures in mHz; of the generator run the times to TRACK and
from there to BIT_SYNC in µs with Doppler in mHz and C/N0 in 0.1 dB-Hz; the means of I and Q in 1/256 LSB and whether every bit toggled. -/
inductive LbFound where
  | link (bad : Nat)
  | tandem (bad : Nat)
  | drive (tests : List RefMeas)
  | pwm (mismatches worstPs : Nat)
  | adc (codes : List (List Nat))
  | pulse (rates : List Nat)
  | generator (track : Option Nat) (doppler : Int) (cn0 : Nat) (sync : Option Nat)
  | port (meanI meanQ : Int) (toggled : Bool)
deriving DecidableEq, Repr

/-- One event of a tandem FEED frame (R491): outlet, EVT_PT in implement time, the FEED payload. -/
structure TdmFeed where
  outlet : Nat
  impl   : Nat
  feed   : FeedP
deriving DecidableEq, Repr

/-- One loop of a LOOPSTATE frame (R491): u_j and z_j of each output. -/
structure TdmLoop where
  spoke : Nat
  loop  : Nat
  outs  : List (Int × Int)
deriving DecidableEq, Repr

/-- The payload of an ATTACH frame (R491): role (0 captain, 1 stoker), Soxaek address, spoke dies of the variant, TABLE_ID, applicator ID,
PERIOD, and whether the sender's implement time is leader or LOCKED. -/
structure TdmAttach where
  role    : Nat
  addr    : Nat
  spokes  : Nat
  table   : Nat
  appId   : Nat
  period  : Nat
  timeOk  : Bool
deriving DecidableEq, Repr

/-- One item of a snapshot (R502). -/
inductive XferItem where
  | outlet (o eOn eOff slip : Nat) (coverOn planOn : Bool)
  | rise (spoke chan value : Nat)
  | loop (spoke loop mode : Nat) (outs : List (Int × Int)) (shapers : List (Int × Int))
deriving DecidableEq, Repr

/-- A frame a package puts on the tandem link (R491). -/
inductive TdmFrame where
  | heartbeat (slotTime flags number last : Nat)
  | digest (start value : Nat)
  | feed (events : List TdmFeed)
  | loopstate (loops : List TdmLoop)
  | wbdone (e n : Int) (cycle : Nat)
  | yield_ (start cause : Nat)
  | attach (a : TdmAttach)
  | xfer (block : Nat) (last : Bool) (data : List XferItem)
  | xferAck (block : Nat)
  | detach (start : Nat)
deriving DecidableEq, Repr

/-- Instructions of the test access port (R534). -/
inductive TapInst where
  | bypass | idcode | sample | extest | extestPulse | extestTrain | clamp
deriving DecidableEq, Repr

/-- The balls by the groups of the coverage table (R535) and of the spoke-field and hub-block tables (R509, R510): `k` a spoke,
then the number within the group, 0 to 2 for lines A, B and C of encoder e. -/
inductive Ball where
  | pwmH (k p : Nat) | pwmL (k p : Nat) | qspiClk | qspiCs | qspiIo (n : Nat) | canTx (c : Nat)
  | spiSck (k p : Nat) | spiMosi (k p : Nat) | spiCs (k p : Nat) | agc (k : Nat) | tpulse | pwrEn
  | tdmHb
  | trip (k i : Nat) | sns (k p : Nat) | canRx (c : Nat) | spiMiso (k p : Nat) | enc (k e line : Nat)
  | sclk (k : Nat) | sampleI (k n : Nat) | sampleQ (k n : Nat) | addr (n : Nat) | arm | resetN | perstN | clkreqN
  | pcieTx (n : Nat) | tdmTx | pcieRx (n : Nat) | refclk | tdmRx
  | pulse (k n : Nat) | wake
  | out (k n : Nat) | hs (k c : Nat) | bst (k : Nat) | bsw (k : Nat) | ain (k n : Nat) | aref (k : Nat) | xtal (n : Nat) | supply
deriving DecidableEq, Repr

end Sys2Proof
end

