-- ==== Sys2Proof/Machine/StateTime.lean ====
section
/-! DEFINITION. Part of the state: the time unit, the GNSS basebands and the measurement epochs (10_gnss_baseband.md).
Plain data only. -/
namespace Sys2Proof.Machine

/-- What a spoke latches for one channel at an epoch (R347, R349): the tracking oscillators and symbols as measured, and whether
the carrier loop failed its limits since the previous epoch (R351): how many ticks before the latch the last failure ended. -/
structure ChanMeas where
  codePhase   : Nat := 0
  codePeriods : Nat := 0
  carrier     : Int := 0
  doppler     : Int := 0
  cn0         : Nat := 0
  symCount    : Nat := 0
  symStart    : Nat := 0
  symbols     : Nat := 0
  bitSync     : Bool := false
  carrierSlip : Option Nat := none
deriving DecidableEq, Repr

/-- What a spoke latches at an epoch beside its channels: the power each notch removes, in dB. -/
structure SpokeMeas where
  notchDb : List Nat := []
  chans   : List ChanMeas := []
deriving DecidableEq, Repr

/-- A tracking channel beside GNB_CH (R337, R342, R351): since when its state holds, the slip to report, the PT of the last
slip and the code-phase shift made under R342 in 1/65,536 chip. -/
structure GnssCh where
  since  : Nat := 0
  slip   : Bool := false
  slipAt : Nat := 0
  shift  : Int := 0
deriving DecidableEq, Repr

/-- A PRN searched before the walk (R339): the system and PRN, the Doppler and until when. -/
structure Hint where
  sys     : Nat
  prn     : Nat
  doppler : Int
  upTo    : Option Nat
deriving DecidableEq, Repr

/-- One baseband (R331 to R345): its channels, the PRNs searched first, how many PRNs of the walk come before the next one searched
(R338), the adaptive notches that hold a bin (R343), the run of evaluations at or above JI_TH and the run below it, the PT of the next
epoch as the hub sent it (R347). -/
structure Gnss where
  chans : KMap GnssCh := []
  hints : List Hint := []
  walk  : Nat := 0
  locks : List Nat := []
  hiRun : Nat := 0
  loRun : Nat := 0
  epochAt : Option Nat := none
deriving DecidableEq, Repr

/-- An epoch that waits to be assembled (R347, R348). -/
structure Epoch where
  pt       : Nat
  sections : List Byte
  ports    : Nat
  count    : Nat
  ft       : Nat
  ftValid  : Bool
  holdover : Bool
  ms       : Nat
  unc      : Nat
deriving DecidableEq, Repr

/-- The time unit (R352 to R361, R408): field time in 10⁻¹² ns, the slew and the step still to apply in the same unit, the value
of FT − 4 ns × PT that steering holds, the last whole second that passed as a boundary and as a pulse, the PT the pulse rose and how many
taps of the fine delay behind the tick before, a pulse that waits for the end of the one before, the step that the pulse of the last
boundary does not see (R357), the adjustments of PT of the last second and the values y had (R352, R355),
the PT of the last SET or CORRECT, the PT of the last step, ticks of the running holdover second, the ns of TIM_UNC that stand for a
slew or a step, the words a read of TIM_FT_LO latched, the epochs, the PT adjustments made and due (R35) with the ticks still to be
held, and the rate a follower applies in ns per second with what of it has not become a tick yet. -/
structure TimeUnit where
  ft         : Int := 0
  slew       : Int := 0
  step       : Option Int := none
  hold       : Int := 0
  lastBound  : Int := 0
  lastPulse  : Int := 0
  pulseRise  : Option Nat := none
  pulseTap   : Nat := 0
  pulseWait  : Bool := false
  unstep     : Int := 0
  ptSteps    : List (Nat × Int) := []
  rates      : List (Nat × Int) := []
  lastCorr   : Nat := 0
  lastStepPt : Option Nat := none
  holdTicks  : Nat := 0
  outst      : Nat := 0
  uncOver    : Bool := false
  latchFtHi  : Word := 0
  latchPtLo  : Word := 0
  latchPtHi  : Word := 0
  epochSeq   : Nat := 0
  lastEpoch  : Option Nat := none
  lastEpochFt : Int := 0
  epoch      : Option Epoch := none
  epochSent  : Option (Nat × List Nat) := none
  adjAt      : Option Nat := none
  adjs       : List (Nat × Bool) := []
  holds      : Nat := 0
  rate       : Int := 0
  rateAcc    : Int := 0
deriving DecidableEq, Repr

end Sys2Proof.Machine
end

