-- ==== Sys2Proof/Syntax.lean ====
section
/-! DEFINITION. The commands of the block: one constructor for each row of spec/opcode_table.json, with the row's operands: in the table's
order the rows that have operands, then those that have none.
Operands name the unit concerned and carry what the rest of the world supplies: frames, host reads, measurements. -/
namespace Sys2Proof
open Sys2Proof.Machine (SpokeMeas)

/-- A command. -/
inductive Instr where
  /-- EXTERNAL_RESET (R85). RESET_N held low for at least 1 µs clears the device as a power-on reset does; COLD follows when
  RESET_N rises. -/
  | externalReset (level : Bool)
  /-- PCIE_RESET (R136). PERST_N, a hot reset, an FLR or a link down clears the endpoint and the rings, discards fetched
  descriptors and disarms. -/
  | pcieReset (down : Bool)
  /-- FLASH_DESCRIPTOR_READ (R53). The boot ROM finishes reading the flash descriptor and the state becomes IMAGES. -/
  | flashDescriptorRead (seqA seqB : Nat)
  /-- IMAGE_SET_AUTHENTICATED (R56). Authentication of an image set ends; the manifest and any pending ABI write are checked
  and IMAGES is left, or IMG_WAIT is set. -/
  | imageSetAuthenticated (setA setB : FlashSet)
  /-- SPOKE_LINK_TRAINED (R54). A spoke's link trains and firmware and set-up download begins. -/
  | spokeLinkTrained (spoke : Nat)
  /-- SPOKE_TRAIN_TIMEOUT (R54). A spoke's link has not trained within 100 µs of its switch closing, and the spoke is
  isolated. -/
  | spokeTrainTimeout (spoke : Nat)
  /-- SPOKE_LOADED (R53). A spoke is loaded, PT-aligned and running; after the last spoke the state advances to PRECHARGE,
  RESTRICTED or READY. -/
  | spokeLoaded (spoke : Nat)
  /-- RAIL_AT_TARGET (R61). A spoke's boost rail reaches its precharge target and its PRECHARGED bit sets. -/
  | railAtTarget (spoke rail : Nat)
  /-- PRECHARGE_TIMEOUT (R59). A rail has not reached its target within PWR_PRECHARGE.TIMEOUT; PRECHARGE_FAIL is set and
  charging stops. -/
  | prechargeTimeout (spoke rail : Nat)
  /-- SELFTEST_DONE (R62). Self-test finishes, and make-ready ends in READY or RESTRICTED. -/
  | selftestDone (loads : List (Nat × List RefMeas)) (spokes : List (Nat × Nat)) (device : Option Nat)
  /-- REFCLK_FAIL (R38). The 25 MHz reference stops or deviates by more than 1 %, and the sequencer forces the safe state. -/
  | refclkFail (deviation : Int)
  /-- THERMAL (R76). A die junction goes above 155 °C and the sequencer enters SAFE with cause THERMAL. -/
  | thermal (die : Nat) (temp : Int)
  /-- SPOKE_RESET (R479). The PWR_CMD SPOKE_RESET command resets one spoke and, if it is isolated, releases it while the
  device is not armed. -/
  | spokeReset (spoke : Nat)
  /-- WAKE (R82). The filtered WAKE ball becomes active; a wake during entry aborts it, and otherwise the wake sequence
  starts. -/
  | wake (saving : Bool)
  /-- PARK_TIMER_EXPIRY (R82). The always-on timer PWR_PARK_TIMER expires and wakes the device. -/
  | parkTimerExpiry (saving : Bool)
  /-- HEARTBEAT_WAKE (R82). The tandem heartbeat line toggles 4 times within 500 µs and wakes the device. -/
  | heartbeatWake (saving : Bool)
  /-- IDN_HOST_ABI (R541). A write of the host ABI generation runs the manifest check of R66 and sets or clears ABI_ACCEPTED
  and cause ABI. -/
  | idnHostAbi (value : Word)
  /-- SPOKE_DECLARES_LINK_LOST (R26). A spoke receives no valid frame for 1 µs, or replays one frame 8 times, and turns every
  output off until RESUME. -/
  | spokeDeclaresLinkLost (spoke : Nat)
  /-- LINK_LOST (R27). The hub declares a spoke link lost, sets LINK_LOST, logs, counts the loss and starts retraining. -/
  | linkLost (spoke : Nat)
  /-- ACK_TIMEOUT (R24). No ACK covers a sent frame within 400 ns, and the sender replays from the oldest unacknowledged
  frame. -/
  | ackTimeout (spoke : Nat) (side : Side)
  /-- RETRAINING_DONE (R28). A lost spoke link retrains; PT is re-aligned, current schedule entries are resent and RESUME
  follows. -/
  | retrainingDone (spoke : Nat)
  /-- RETRAIN_TIMEOUT (R478). A spoke has not retrained within 100 µs of a loss, and the hub isolates it. -/
  | retrainTimeout (spoke : Nat)
  /-- RESUME (R26). A spoke receives RESUME in a CMD frame and leaves its link-loss off state. -/
  | resume (spoke : Nat) (hdr : LinkHdr)
  /-- NAK (R24). A sender receives a NAK and replays from the frame after the NAK's ACK. -/
  | nak (spoke : Nat) (side : Side) (hdr : LinkHdr)
  /-- FRAME_BAD_CRC (R24). A spoke-link frame arrives with a bad CRC or a reserved TYPE; it and later frames are discarded
  and one NAK is sent. -/
  | frameBadCrc (spoke : Nat) (side : Side)
  /-- IDLE (R18). An IDLE frame arrives and its ACK frees replay-buffer entries. -/
  | idle (spoke : Nat) (side : Side) (hdr : LinkHdr)
  /-- PTSYNC (R32). A PTSYNC frame arrives; the spoke echoes it, or the hub computes the one-way delay and the value to load.
  -/
  | ptsync (spoke : Nat) (side : Side) (hdr : LinkHdr) (sent : Nat) (echo : Option Nat)
  /-- PTADJ (R35). A spoke receives a PTADJ frame naming an effective PT and a one-tick adjustment. -/
  | ptadj (spoke : Nat) (hdr : LinkHdr) (eff : Nat) (plus : Bool)
  /-- PT_CHECK (R33). The millisecond PT check with a spoke sets PT_MISMATCH and corrects an offset of 2 to 16 ticks, or
  treats a larger one as link loss. -/
  | ptCheck (spoke : Nat) (offset : Int)
  /-- SCHED (R225). A spoke receives a schedule entry, extends its times and merges it, makes it pending or discards it. -/
  | sched (spoke : Nat) (hdr : LinkHdr) (entry : SchedP)
  /-- FEED (R200). The hub receives a channel event and takes it for coverage marking, slip and delay estimation. -/
  | feed (spoke : Nat) (hdr : LinkHdr) (event : FeedP)
  /-- INT (R440). The hub receives a forwarded slot level and applies it as the signal of the matching hub source. -/
  | int (spoke : Nat) (hdr : LinkHdr) (slot : Nat) (level : Bool)
  /-- CMD (R295). A spoke receives a register write or read, or a loop command, and acts on it. -/
  | cmd (spoke : Nat) (hdr : LinkHdr) (cmd : CmdP)
  /-- RESP (R18). The hub receives register read data from a spoke and completes the read. -/
  | resp (spoke : Nat) (hdr : LinkHdr) (off : Nat) (value : Word)
  /-- DATA (R287). A DATA frame carries measurements, state taps, set-point streams or set-up blocks to its receiver. -/
  | data (spoke : Nat) (side : Side) (hdr : LinkHdr) (data : DataP)
  /-- MISS_GRACE_EXPIRY (R194). A miss episode passes MISS_GRACE, so missing points count as excluded and TILE_MISS_EXPIRED
  is logged. -/
  | missGraceExpiry (outlet : Nat)
  /-- MARK_HOLD_EXPIRY (R201). A block goes MARK_HOLD without a mark, and its fresh bits clear. -/
  | markHoldExpiry (tileE tileN : Int)
  /-- WB_IDLE (R204). No horizon has referenced a dirty block for IDLE ms, so its write-back falls due. -/
  | wbIdle (tileE tileN : Int)
  /-- WB_MAX_AGE (R204). The oldest unwritten increment of a tile reaches MAX_AGE, so its write-back falls due. -/
  | wbMaxAge (tileE tileN : Int)
  /-- TILE_WRITE_BACK (R204). A dirty tile is written, merged or in own-layer form, into a fetched WB_BUFFER, which then
  completes. -/
  | tileWriteBack (tileE tileN : Int)
  /-- CAS_COMPLETION (R206). A compare-and-swap on a home-copy word completes; the word merges, is retried, or compare-and-
  swap is withdrawn. -/
  | casCompletion (result : ReadResult)
  /-- INVALIDATE_TIMEOUT (R185). A tile queued by invalidation is not written within 100 ms; it is dropped and its marks are
  counted lost. -/
  | invalidateTimeout (tileE tileN : Int)
  /-- DOORBELL_READ_COMPLETE (R97). A doorbell read returns; EPOCH and CHANGE are checked, tails are taken and descriptor
  fetches are issued. -/
  | doorbellReadComplete (result : ReadResult)
  /-- DESCRIPTOR_ARRIVAL (R112). A fetched descriptor arrives and passes the stage-one checks, or completes with the first
  failing status. -/
  | descriptorArrival (ring : Nat) (result : ReadResult)
  /-- BUFFER_READ_DONE (R112). The buffer read of a host-to-device descriptor completes and its CRC and content checks run.
  -/
  | bufferReadDone (ring index : Nat) (result : ReadResult)
  /-- MODERATION_TIMER (R128). TIME µs pass after the oldest unsignalled completion, and the ring's MSI-X message is sent. -/
  | moderationTimer (ring : Nat)
  /-- MSIX_UNMASK (R437). A vector becomes deliverable when it is unmasked, MSI-X is enabled or the link returns, and its
  pending message is sent. -/
  | msixUnmask (change : MsixChange)
  /-- RING_START (R132). The START command resets a stopped ring's indices and makes it RUNNING, or sets START_REFUSED. -/
  | ringStart (ring : Nat)
  /-- RING_STOP (R133). The STOP command makes a running ring STOPPING and aborts its waiting descriptors. -/
  | ringStop (ring : Nat)
  /-- RING_STOPPED (R133). A stopping ring's last completion and progress entries are written and it becomes STOPPED. -/
  | ringStopped (ring : Nat)
  /-- RING_RESET (R135). The RESET command discards a ring's fetched descriptors and leaves it STOPPED. -/
  | ringReset (ring : Nat)
  /-- HIF_CFG_WRITE (R89). A write to HIF_CFG sets the doorbell period and, with ATOMIC_EN 1, permits compare-and-swap again.
  -/
  | hifCfgWrite (value : Word) (requester : Bool)
  /-- NOP (R111). A NOP completes OK on fetch without action. -/
  | nop (ring : Nat)
  /-- POSE (R156). A pose descriptor is checked and replaces the pose in use, or is counted as superseded. -/
  | pose (ring : Nat)
  /-- TIME_CORR (R354). A SET, CORRECT or LOST field-time correction is checked and applied by the time unit. -/
  | timeCorr (ring : Nat)
  /-- TABLE_LOAD (R146). Part of the implement table is written into the staging area. -/
  | tableLoad (ring : Nat)
  /-- TABLE_COMMIT (R148). The staging area is checked against the commit checks, for activation at the next cycle start. -/
  | tableCommit (ring : Nat)
  /-- FIELD_SET (R143). The field and cell side are set, the cache and pose are dropped and the descriptor completes at the
  next cycle start. -/
  | fieldSet (ring : Nat)
  /-- RATE_TABLE (R175). 256 rate entries are stored, for use from the next cycle start. -/
  | rateTable (ring : Nat)
  /-- TILE_PUSH (R178). A tile is checked and installed in the cache at the next cycle start, joining any unwritten marks. -/
  | tilePush (ring : Nat)
  /-- TILE_REQUEST (R182). A request buffer is fetched and waits to be completed with a tile request. -/
  | tileRequest (ring : Nat)
  /-- TILE_INVALIDATE (R185). Selected tiles are dropped, or queued for write-back, at the next cycle start. -/
  | tileInvalidate (ring : Nat)
  /-- WB_BUFFER (R204). A write-back buffer is fetched and waits for a dirty tile. -/
  | wbBuffer (ring : Nat)
  /-- ARM (R70). An arm descriptor is accepted for arming at the next cycle start, or refused with NOT_ARMED. -/
  | arm (ring : Nat)
  /-- DISARM (R75). A disarm descriptor turns channels off at the next cycle start and enters READY. -/
  | disarm (ring : Nat)
  /-- PROOF (R196). Proof mode is set or cleared at the next cycle start. -/
  | proof (ring : Nat)
  /-- OUTLET_FORCE (R195). A list of outlet forces is checked and applied together at the next cycle start. -/
  | outletForce (ring : Nat)
  /-- LOOP_SETPOINT (R297). A set-point target or manual value is sent to a loop and applies from its next sample. -/
  | loopSetpoint (ring : Nat)
  /-- LOOP_MODE (R298). A loop changes mode at the sample that applies it, with bumpless transfer into AUTO. -/
  | loopMode (ring : Nat)
  /-- LOOP_COEFF (R296). A loop block or feed-forward table is checked and loaded between samples, or a loop is unloaded. -/
  | loopCoeff (ring : Nat)
  /-- LOOP_COMMAND_TIMEOUT (R294). A spoke has not answered a loop command within 10 ms, and it completes with TIMEOUT. -/
  | loopCommandTimeout (ring index : Nat)
  /-- GNSS_BUFFER (R348). An epoch buffer is fetched and waits for the next measurement epoch. -/
  | gnssBuffer (ring : Nat)
  /-- CAN_SEND (R384). A frame is checked and enters the controller's transmit FIFO, or waits for room. -/
  | canSend (ring : Nat)
  /-- CAN_ABORT (R386). Selected queued frames are withdrawn from the transmit FIFO with status ABORTED. -/
  | canAbort (ring : Nat)
  /-- CAN_BUFFER (R379). A receive buffer is fetched and waits for a frame from the receive FIFO. -/
  | canBuffer (ring : Nat)
  /-- LOG_READ (R469). Records are copied from the logbook store into the buffer, oldest first. -/
  | logRead (ring : Nat)
  /-- LOG_FREEZE (R462). The logbook store is frozen once the record in progress is complete. -/
  | logFreeze (ring : Nat)
  /-- LOG_RELEASE (R462). The freeze of the logbook store ends. -/
  | logRelease (ring : Nat)
  /-- FW_BEGIN (R116). A firmware staging session opens for a set of SET_LENGTH bytes. -/
  | fwBegin (ring : Nat)
  /-- FW_CHUNK (R117). A chunk is written into the staged set at OFFSET. -/
  | fwChunk (ring : Nat)
  /-- FW_COMMIT (R118). The staged set is checked, authenticated and placed in the image store, optionally written to flash
  and activated. -/
  | fwCommit (ring : Nat) (defaults : List (Nat × Word)) (role : Option (List Byte))
  /-- FLASH_WRITE_DONE (R118). The flash write and read-back of a commit finish, and the commit completes OK or with TIMEOUT.
  -/
  | flashWriteDone (good : Bool)
  /-- FW_ACTIVATE (R119). The committed set is activated by a restart from the image store, or the command is refused. -/
  | fwActivate (ring : Nat)
  /-- HEALTH_BUFFER (R484). A health buffer is fetched and waits for the next re-plan's descriptor. -/
  | healthBuffer (ring : Nat)
  /-- HEALTH_NOW (R481). A re-plan is scheduled within 100 ms. -/
  | healthNow (ring : Nat)
  /-- TDM_ATTACH (R501). The package starts attaching as captain or stoker, exchanging ATTACH frames and running the attach
  checks. -/
  | tdmAttach (ring : Nat)
  /-- TDM_DETACH (R503). Both packages detach at the next cycle start through a DETACH frame. -/
  | tdmDetach (ring : Nat)
  /-- TDM_YIELD (R500). The captain disables its drive at the next cycle start and sends YIELD so that the stoker takes over.
  -/
  | tdmYield (ring : Nat)
  /-- TDM_BUFFER (R504). A tandem event buffer is fetched and waits for a tandem event. -/
  | tdmBuffer (ring : Nat)
  /-- SB_ROLE (R401). A Soxaek role record is checked, probed if needed, and put in force at the next cycle start. -/
  | sbRole (ring : Nat)
  /-- SB_PROBE (R405). An address probe runs and completes as unique, duplicate or unacknowledged. -/
  | sbProbe (ring : Nat)
  /-- SB_BUFFER (R423). A section-bus event buffer is fetched and waits for an event. -/
  | sbBuffer (ring : Nat)
  /-- ENTRY_START (R226). A pending entry reaches its START; it ends any running entry and its rise becomes due or waits for
  recovery. -/
  | entryStart (spoke chan : Nat)
  /-- ENTRY_END (R227). A running entry reaches its END and the off phase begins. -/
  | entryEnd (spoke chan : Nat)
  /-- WINDOW_START (R227). A grid instant inside a pulsed entry starts a window, and a new opening if the channel was off. -/
  | windowStart (spoke chan : Nat)
  /-- WINDOW_END (R227). A window ends, stretched to MIN_ON where needed, and the off phase begins unless the gap is below
  MIN_OFF. -/
  | windowEnd (spoke chan : Nat)
  /-- SLIP_LIMIT_EXPIRY (R242). A queued rise has waited SLIP_LIMIT and starts as a slow peak. -/
  | slipLimitExpiry (spoke chan : Nat)
  /-- PEAK_I_REACHED (R220). A rise reaches PEAK_I; the channel enters dwell and the boost switch passes to the next queued
  rise. -/
  | peakIReached (spoke chan : Nat)
  /-- BOOST_TMAX_EXPIRY (R220). A rise runs out of BOOST_TMAX before PEAK_I, sets PEAK_TIMEOUT and goes on to dwell. -/
  | boostTmaxExpiry (spoke chan : Nat)
  /-- PEAK_T_EXPIRY (R220). PEAK_T ends, the channel goes to hold, and an opening without detected travel is reported. -/
  | peakTExpiry (spoke chan : Nat)
  /-- CHOP_THRESHOLD (R222). A channel current crosses a chopping threshold, and its low side opens or closes. -/
  | chopThreshold (spoke chan : Nat) (above : Bool)
  /-- RECOVERED (R220). A channel's current falls below 20 mA in its off phase, and the channel is recovered. -/
  | recovered (spoke chan : Nat)
  /-- END_OF_TRAVEL (R251). The armature detector finds the end of travel and an OPENED event is sent. `samples`: in a rise, the
  channel current in mA at each sample of the present segment, the last taken now. -/
  | endOfTravel (spoke chan : Nat) (samples : List Nat)
  /-- DECAY_KINK (R252). The detector finds the decay kink at closing and a CLOSED event is sent. `emf`: the motion EMF in mV at each
  sample since the start of the off phase, the last taken now. -/
  | decayKink (spoke chan : Nat) (emf : List Nat)
  /-- OFF_WIN_EXPIRY (R253). A closing window ends without a kink, and CLOSED is sent with DELAY 0xFFFF. -/
  | offWinExpiry (spoke chan : Nat)
  /-- CLAMP_EVENT (R230). The boost rail passes 80 V and the active clamp conducts until it falls below 78 V. -/
  | clampEvent (spoke rail : Nat)
  /-- OPEN_LOAD_ON (R236). 200 µs after a low side closes, the current is below 50 mA; the opening ends and the fault is
  counted. -/
  | openLoadOn (spoke chan : Nat)
  /-- OPEN_LOAD_OFF (R236). The off-state diagnosis finds an open load and counts it. -/
  | openLoadOff (spoke chan : Nat) (found : Bool)
  /-- SHORT_TO_BATTERY (R236). A channel current exceeds 4.0 A, and the low side opens within 1 µs. -/
  | shortToBattery (spoke chan : Nat)
  /-- SHORT_TO_GROUND (R236). A short to ground persists for 1 ms, and both cassette switches open. -/
  | shortToGround (spoke chan : Nat)
  /-- OVERCURRENT (R236). A channel current exceeds its overcurrent threshold for 20 µs, and the opening ends. -/
  | overcurrent (spoke chan : Nat)
  /-- OVERTEMPERATURE (R236). A channel switch exceeds 175 °C; the opening ends and no new opening starts until it cools. -/
  | overtemperature (spoke chan : Nat)
  /-- OVERTEMP_COOLED (R237). The switch cools below 160 °C, which with RETRY ended lets the channel resume. -/
  | overtempCooled (spoke chan : Nat)
  /-- HIGH_SIDE_OVERCURRENT (R236). A cassette output exceeds 9.6 A for 2 µs, and both cassette switches open. -/
  | highSideOvercurrent (spoke cas : Nat)
  /-- BOOST_FAILURE (R236). The rail stays below MIN for 50 ms while charging, or the clamp conducts for 20 ms, and the
  converter stops. -/
  | boostFailure (spoke : Nat)
  /-- RETRY_END (R237). RETRY ends after a fault, and a running entry starts a new opening or waits for its next window. -/
  | retryEnd (spoke chan : Nat)
  /-- CHANNEL_DISABLED_CLEAR (R238). A write clearing DRV_CH_STATUS.DISABLED re-enables a channel, or bonded pair, and clears
  its counters unless the diagnosis still shows a fault. -/
  | channelDisabledClear (spoke chan : Nat)
  /-- CASSETTE_DISABLED_CLEAR (R238). A write clearing DRV_CAS_STATUS.DISABLED releases a held-off cassette unless a short to
  ground remains. -/
  | cassetteDisabledClear (spoke cas : Nat)
  /-- CAS_OVERLOAD (R247). 100 successive 1 ms means above 4.00 A set OVERLOAD and count a drive event. `means`: in 10 mA, the last of
  them of the millisecond that ends now. -/
  | casOverload (spoke cas : Nat) (means : List Nat)
  /-- OUT_OF_SUPPLY (R515). A spoke's VBAT crosses UV falling or OV rising; every switch opens and the converter stops. -/
  | outOfSupply (spoke : Nat) (high : Bool)
  /-- SUPPLY_RECOVERY (R515). A spoke's VBAT crosses its recovery threshold and entries resume as after RETRY. -/
  | supplyRecovery (spoke : Nat) (high : Bool)
  /-- LOOP_TRIGGER (R266). A loop's timer or compare trigger latches its sources, starts its conversions and writes the
  previous sample's outputs. -/
  | loopTrigger (spoke loop : Nat)
  /-- TRIGGER_TIMEOUT (R265). No compare trigger arrives for 10 ms, and RATE_RANGE is set. -/
  | triggerTimeout (spoke loop : Nat)
  /-- CONVERSION_DONE (R266). An analogue conversion finishes on its ADC, and the next waiting conversion starts. -/
  | conversionDone (spoke ain code : Nat)
  /-- SAMPLE_COMPUTED (R267). The lanes compute a loop sample, with law, shaping and supervision, and hold its outputs. -/
  | sampleComputed (spoke loop : Nat)
  /-- PULSE_EDGE (R273). An active edge on a pulse input is time-stamped in PT. -/
  | pulseEdge (spoke input width : Nat)
  /-- ENCODER_EDGE (R274). An encoder line changes; the count, Hall state or encoder error is updated. -/
  | encoderEdge (spoke enc lines width : Nat)
  /-- SPI_POLL (R275). Every POLL µs, an enabled SPI port sends its frame. -/
  | spiPoll (spoke port : Nat)
  /-- SPI_FRAME_DONE (R275). An SPI frame completes and is checked against its CRC. -/
  | spiFrameDone (spoke port : Nat) (bytes : List Byte)
  /-- PWM_ENABLE (R308). A write to PWM_CFG setting or clearing EN starts or stops a pair's counter on the PT grid. -/
  | pwmEnable (spoke pair : Nat) (on : Bool)
  /-- PERIOD_START (R308). A PWM period starts; shadows are taken, trip suppression and latch clears resolve, and leaks
  count. -/
  | periodStart (spoke pair : Nat)
  /-- MID_PERIOD_UPDATE (R314). With UPD 1, the shadow duty is taken at mid-period and edges move under R314. -/
  | midPeriodUpdate (spoke pair : Nat)
  /-- COMPARE_MATCH (R315). A compare matches its count, and may trigger a loop sample or start a conversion. -/
  | compareMatch (spoke pair cmp : Nat)
  /-- DEAD_TIME_END (R317). A fixed dead time ends and the opposite output turns on. -/
  | deadTimeEnd (spoke pair : Nat)
  /-- NODE_CROSSING (R318). The switching-node sense crosses its threshold and schedules the adaptive on-edge. -/
  | nodeCrossing (spoke pair at_ : Nat)
  /-- DT_MAX_EXPIRY (R318). No crossing comes by DT_MAX; the on-edge occurs and NO_CROSS is counted. -/
  | dtMaxExpiry (spoke pair : Nat)
  /-- BOOTSTRAP_REFRESH (R322). The high output has been on for REFRESH_INT, and a refresh pulse is inserted at the next
  period start. -/
  | bootstrapRefresh (spoke pair : Nat)
  /-- TRIP (R325). A selected trip input becomes active; both outputs go off and the trip period is counted. -/
  | trip (spoke input : Nat)
  /-- CLEAR (R329). A write of CLEAR to PWM_CTL releases a latched pair unless a trip is still active. -/
  | clear (spoke pair : Nat)
  /-- SCLK_CHECK (R334). Every 10 ms, the sample clock is measured against PT and SCLK_BAD is set or cleared. -/
  | sclkCheck (spoke : Nat) (ppm : Option Int)
  /-- AGC_UPDATE (R335). Every 1 ms, the AGC level is adjusted toward AGC_TARGET. -/
  | agcUpdate (spoke large total : Nat)
  /-- ACQUISITION_DETECTION (R338). The acquisition engine detects a PRN and assigns the lowest IDLE channel. -/
  | acquisitionDetection (spoke sys prn : Nat) (doppler : Int)
  /-- LOCK_ACHIEVED (R337). A PULL_IN channel achieves code and carrier lock, enters TRACK, and its Doppler is passed to the
  other spokes. -/
  | lockAchieved (spoke chan : Nat) (doppler : Int)
  /-- PULL_IN_TIMEOUT (R337). A channel fails to lock within 1 s and returns to IDLE. -/
  | pullInTimeout (spoke chan : Nat)
  /-- LOSS_OF_LOCK (R340). A tracking channel's C/N0 or lock indicator fails for its time, and the channel returns to IDLE.
  -/
  | lossOfLock (spoke chan : Nat) (doppler : Int) (cn0 low fail : Nat)
  /-- SIDE_PEAK_SHIFT (R342). A very-early or very-late tap outpowers prompt for 100 ms, and the code phase moves by 0.5
  chip. -/
  | sidePeakShift (spoke chan : Nat) (late : Bool) (tap prompt lasting : Nat)
  /-- NOTCH_LOCK (R343). An adaptive notch locks onto a strong bin. -/
  | notchLock (spoke notch : Nat) (freq : Int) (db : Nat)
  /-- NOTCH_RELEASE (R343). An adaptive notch releases its bin after 100 ms below TH − 3 dB. -/
  | notchRelease (spoke notch : Nat) (db : Int) (lasting : Nat)
  /-- JI_EVALUATION (R344). Every 10 ms, the jamming indicator is computed and JAM is set or cleared. -/
  | jiEvaluation (spoke : Nat) (level : Int)
  /-- EPOCH (R347). At a measurement epoch, every enabled spoke latches its channel measurements. -/
  | epoch (meas : List (Nat × SpokeMeas))
  /-- CAN_ENABLE (R368). A write of CAN_CFG.EN from 0 to 1 enables a controller and zeroes TEC and REC. -/
  | canEnable (ctl : Nat)
  /-- CAN_DISABLE (R372). A write of CAN_CFG.EN from 1 to 0 aborts queued frames and empties the receive FIFO and buffers. -/
  | canDisable (ctl : Nat)
  /-- HALT_CLEAR (R365). A write of HALT from 1 to 0 checks the timing limits and lets the controller join the bus, or sets
  TIMING_BAD. -/
  | haltClear (ctl : Nat)
  /-- BUS_INTEGRATION (R368). After HALT clears, 11 consecutive recessive bits are seen and the controller takes part on the
  bus. -/
  | busIntegration (ctl : Nat)
  /-- FRAME_VALID (R379). A received CAN frame becomes valid; it is stamped, filtered, stored in the FIFO or a dedicated
  buffer, and mirrored. -/
  | frameValid (ctl : Nat) (frame : CanFrame) (stamp : Nat)
  /-- PROTOCOL_EXCEPTION (R370). With FD_EN 0, an FD frame is received; the controller waits for bus idle and counts the
  exception. -/
  | protocolException (ctl : Nat)
  /-- ARBITRATION (R384). The bus becomes idle and the controller offers its highest-ranked candidate frame. -/
  | arbitration (ctl : Nat)
  /-- FRAME_TRANSMITTED (R384). A frame is sent successfully and its CAN_SEND completes. -/
  | frameTransmitted (ctl stamp delay : Nat)
  /-- ATTEMPT_FAILED (R385). A transmission attempt ends on an error; counters move and the frame retries or completes at its
  limit. -/
  | attemptFailed (ctl err : Nat) (data : Bool) (field : CanField) (eights : Nat) (delay : Option Nat)
  /-- BUS_OFF_RECOVERY (R388). 128 occurrences of 11 recessive bits return a bus-off controller to error-active. -/
  | busOffRecovery (ctl : Nat)
  /-- RECOVER (R388). A write of CAN_CTL.RECOVER starts bus-off recovery. -/
  | recover (ctl : Nat)
  /-- FILTER_WORD2_WRITE (R376). A write to word 2 of an extended filter element commits the held words 0 and 1 with it. -/
  | filterWord2Write (ctl elem : Nat) (value : Word)
  /-- SUMMARY_PERIOD (R392). The summary PERIOD elapses, and a section-state summary is queued at the cycle start. -/
  | summaryPeriod (ctl : Nat)
  /-- CADENCE (R407). A follower accepts a CADENCE, stamps it, forms its error and disciplines its PT. -/
  | cadence (frame : CanFrame) (stamp : Nat)
  /-- POSE_BROADCAST (R413). A hosted follower accepts a POSE frame and takes it as a pose, with coefficients once all parts
  arrive. -/
  | poseBroadcast (frame : CanFrame) (stamp : Nat)
  /-- EDGE (R415). A host-less follower applies the ON, END, DUTY and SETUP entries of an EDGE frame, and arms or disarms on
  its ARM bit. -/
  | edge (frame : CanFrame) (stamp : Nat)
  /-- EDGE_KEEPALIVE (R417). A planner that sent a follower no EDGE frame in 20 ms queues one with NENT 0. -/
  | edgeKeepalive (follower : Nat)
  /-- STATE (R420). The planner takes the events of a STATE frame as FEED events of its follower's outlets. -/
  | state (frame : CanFrame) (stamp : Nat)
  /-- FOLLOWER_LOST (R421). No STATE frame arrives from a listed follower for 50 ms, and its outlets are held off. -/
  | followerLost (follower : Nat)
  /-- PROBE (R404). A device accepts a PROBE for its own address and answers with a DUPLICATE, or its own probe finds a
  duplicate. -/
  | probe (frame : CanFrame) (stamp : Nat)
  /-- DUPLICATE (R404). A probing device accepts a DUPLICATE carrying its nonce and finds a duplicate address. -/
  | duplicate (frame : CanFrame) (stamp : Nat)
  /-- SOURCE_SIGNAL_CHANGE (R431). An interrupt source signal changes; its pending bit follows or is set, and delivery is
  evaluated. -/
  | sourceSignalChange (die src : Nat) (level : Bool)
  /-- INTERRUPT_TAKE (R433). A core takes an interrupt, pushing its running priority and raising it to the taken level. -/
  | interruptTake (die core : Nat) (act : CoreAct)
  /-- EOI (R434). A write to the core's EOI register pops its priority stack. -/
  | eoi (die core : Nat) (by_ : Agent) (nothing_ : Bool)
  /-- NUDGE_RAISE (R435). A nudge write with RAISE sets the pending bit of a nudge source. -/
  | nudgeRaise (die core index : Nat) (by_ : Agent)
  /-- NUDGE_LOWER (R435). A nudge write with LOWER clears the pending bit of a nudge source. -/
  | nudgeLower (die core index : Nat) (by_ : Agent)
  /-- PENDING_WORD_WRITE (R444). A write to a pending word sets the edge-sensed bits to the value written, with set-wins. -/
  | pendingWordWrite (die word : Nat) (value edges : Word) (by_ : Agent)
  /-- CONFIGURATION_WRITE (R430). A write to a configuration register sets source sense, priority and target, with ownership
  checks. -/
  | configurationWrite (die reg : Nat) (value : Word) (by_ : Agent)
  /-- LOGBOOK_EVENT (R459). An event that writes a record enters the galley, coalesces or displaces a lower-severity entry.
  -/
  | logbookEvent (event : LogEvt)
  /-- POWER_FAIL_WARNING (R458). VBAT_AO falls below its warning threshold; the logbook completes its record, saves the
  colophon and stops. -/
  | powerFailWarning (below : Bool)
  /-- ERASE (R470). A write of 0xE4A5 to LOG_CTL starts an erase of the store, or sets ERASE_REFUSED. -/
  | erase (value : Nat)
  /-- LEAK_TIMER_EXPIRY (R473). An instance's leak timer runs out and its counter falls by 1. -/
  | leakTimerExpiry (cls inst : Nat)
  /-- HLT_CLEAR (R476). A write to HLT_CLEAR clears one instance of a clearable class, or sets CLEAR_REFUSED. -/
  | hltClear (cls inst : Nat)
  /-- DERATE_CHECK (R483). Each second, a spoke compares its cassette currents with I_d and sets DERATE_OVER. -/
  | derateCheck (spoke : Nat) (means : List Nat)
  /-- HEARTBEAT_SLOT (R492). At its slot, an attached package sends a HEARTBEAT and pulses TDM_HB, and checks its readback.
  -/
  | heartbeatSlot (readback : Bool)
  /-- HEARTBEAT (R492). A HEARTBEAT frame from the partner is received within its slot window. -/
  | heartbeat (good : Bool) (slotTime flags number last : Nat)
  /-- QUIET_TIMEOUT (R496). The outputs are not quiet within 10 ms, so the takeover is blocked. -/
  | quietTimeout (cas : Nat)
  /-- DIGEST (R494). A stoker compares the captain's DIGEST with its own for the same cycle. -/
  | digest (good : Bool) (start digest : Nat)
  /-- TANDEM_FEED (R489). A stoker takes the captain's forwarded FEED events as its own. -/
  | tandemFeed (good : Bool) (events : List TdmFeed)
  /-- LOOPSTATE (R489). A stoker replaces its loop outputs and integral states with those of a LOOPSTATE frame. -/
  | loopstate (good : Bool) (loops : List TdmLoop)
  /-- WBDONE (R489). A stoker clears the increments of a tile that the captain has written back. -/
  | wbdone (good : Bool) (tileE tileN : Int) (cycle : Nat)
  /-- YIELD (R500). A stoker receives YIELD and starts a takeover. -/
  | yield_ (good : Bool) (start cause : Nat)
  /-- ATTACH (R501). The partner's ATTACH frame arrives and the attach checks run. -/
  | attach (good : Bool) (data : TdmAttach)
  /-- XFER (R502). The stoker receives a snapshot block and acknowledges it. -/
  | xfer (good : Bool) (block : Nat) (last : Bool) (data : List XferItem)
  /-- XFER_ACK (R502). The captain receives an XFER acknowledgment for a snapshot block. -/
  | xferAck (good : Bool) (block : Nat)
  /-- DETACH (R503). A DETACH frame arrives, and the package detaches at the cycle start it names. -/
  | detach (good : Bool) (start : Nat)
  /-- FOREIGN_DRIVE (R499). A cassette output reads above 2.0 V for 20 µs with its own switches open, and the package enters
  SAFE with cause TANDEM. -/
  | foreignDrive (cas : Nat)
  /-- LOOPBACK_START (R526). A write of START to PWR_LB_CTL begins the named loop-back, or sets REFUSED. -/
  | loopbackStart (value : Word)
  /-- LOOPBACK_DONE (R528). A loop-back run completes and reports PASSED or FAILED. -/
  | loopbackDone (found : LbFound)
  /-- BOUNDARY_SCAN_INSTRUCTION (R534). A test instruction is loaded at the test access port, and EXTEST and CLAMP force the
  outputs off. `scan`, where a scan of the data register follows it: the balls whose boundary cell takes a 1 (R535). -/
  | boundaryScanInstruction (inst : TapInst) (scan : Option (List Ball))
  /-- REGISTER_WRITE (R538). A write to a register with no behaviour of its own sets its fields, or is discarded under the
  access rules. -/
  | registerWrite (addr size : Nat) (value : Word) (by_ : Agent)
  /-- COMPLETION_TIMEOUT (R134). A descriptor, buffer, doorbell or AtomicOp request receives no completion within the PCIe
  completion timeout, and the ring enters ERROR, DB_READ_ERR is set or compare-and-swap is withdrawn. -/
  | completionTimeout (req : HostReq)
  /-- ARBITRATION_LOST (R385). A CAN frame loses arbitration; this is not an attempt, and the frame competes again, or
  completes ABORTED if a CAN_ABORT selected it. -/
  | arbitrationLost (ctl : Nat)
  /-- RECEIVE_ERROR (R387). A CAN controller detects an error in a frame it is receiving, sends an error flag, raises REC and
  may enter error-passive. -/
  | receiveError (ctl err : Nat) (data : Bool) (steps : IsoSteps)
  /-- CHOP_PERIOD (R232). A proportional channel's chopping period at CHOP begins, and the regulator sets its on-time from
  the ADC samples and the dithered set-point. -/
  | chopPeriod (spoke chan : Nat)
  /-- REFERENCE_EDGE (R312). The PWM counter reaches the duty edge of the reference waveform, and the high output goes off or
  on, with dead time for the opposite output. -/
  | referenceEdge (spoke pair : Nat)
  /-- VBAT_AO_LOSS (R516). VBAT_AO falls through the falling power-on threshold; the part enters power-on reset and stays
  there, with galley contents and any interrupted writes lost. -/
  | vbatAoLoss (at_ : LossPoint)
  /-- POWER_GOOD_LOSS (R514). VIO or a VCORE_S falls below its power-good threshold, so every switch of the affected spoke
  opens and its PWM gate balls go high impedance. -/
  | powerGoodLoss (spoke : Nat)
  /-- MONITOR_MEASUREMENT (R480). A periodic ageing monitor samples (ring oscillators every 1 s, junction temperature every
  10 ms), updating SHL_MARGIN and SHL_THERMAL and setting the spoke's MARGIN_LOW. -/
  | monitorMeasurement (die : Nat) (meas : DieMeas)
  /-- REGISTER_READ (R539). A host read with behaviour of its own: TIM_FT_LO and LOG_OPTIME_LO latch their companions, a
  spoke-window read waits for earlier writes and travels over the link, and R29 and R47 give their values. -/
  | registerRead (addr size : Nat)
  /-- POWER_ON_RESET (R85). VBAT_AO rises through its power-on threshold; every domain and PT is cleared and make-ready
  starts in COLD. -/
  | powerOnReset
  /-- WATCHDOG (R85). The hub watchdog expires; the sequencer enters SAFE, resets the hub and the spokes as R543 gives, and
  restarts from IMAGES out of flash. -/
  | watchdog
  /-- D3HOT (R90). The function enters D3hot; polling stops and the device disarms, and ring state is kept. -/
  | d3hot
  /-- SUPPLIES_GOOD (R48). The internal monitors report VIO, VCORE_H and every VCORE_S good, and make-ready proceeds toward
  BOOT. -/
  | suppliesGood
  /-- SUPPLY_TIMEOUT (R49). A supply is not good within 20 ms of PWR_EN; PWR_EN goes low for 1 s, and after three failures
  the sequencer stays in COLD. -/
  | supplyTimeout
  /-- SUPPLY_RETRY (R49). The 1 s PWR_EN low time ends and the sequencer drives PWR_EN high again. -/
  | supplyRetry
  /-- PLL_LOCKED (R53). The PLL locks; H0 runs the boot ROM, PCIe link training starts and the state becomes BOOT. -/
  | pllLocked
  /-- SPOKE_POWER_SWITCH (R54). At its 100 µs slot, the power switch of the next spoke closes. -/
  | spokePowerSwitch
  /-- HUB_FAULT (R76). An uncorrectable ECC error in hub firmware memory enters SAFE with cause HUB_FAULT. -/
  | hubFault
  /-- SAFE (R76). The PWR_CMD SAFE command enters the safe state with cause HOST. -/
  | safe
  /-- SAFE_CLEAR (R78). The PWR_CMD SAFE_CLEAR command leaves SAFE when every cause bit reads 0, and is refused otherwise. -/
  | safeClear
  /-- PARK (R79). The PWR_CMD PARK command starts parked entry from READY or RESTRICTED, or is refused. -/
  | park
  /-- AUTO_PARK (R79). The WAKE ball has been inactive for PARK_DELAY seconds, so the device disarms if armed and starts
  parked entry. -/
  | autoPark
  /-- PARKED (R80). Parked entry finishes its steps: rings drained, galley flushed, spokes off, hub saved, PWR_EN low and
  state PARKED. -/
  | parked
  /-- RESTART (R85). The PWR_CMD RESTART command restarts the part from the image store under the restart kind. -/
  | restart
  /-- SELFTEST (R62). The PWR_CMD SELFTEST command runs self-test from READY. -/
  | selftest
  /-- WAKE_DELAY_DONE (R81). The 1 ms PWR_EN low time after a latched wake ends and the wake sequence starts. -/
  | wakeDelayDone
  /-- ARM_BALL_LOW (R73). The ARM ball goes low; every switch and PWM output is forced off within 4 µs and the device returns
  to READY. -/
  | armBallLow
  /-- PT_ADJUSTMENT (R35). At the effective PT, every die applies a single-tick deletion or insertion to PT, and field time
  compensates it. -/
  | ptAdjustment
  /-- LANE_POWER_UP (R40). The time unit starts the registration lanes 4 µs before a geometry-cycle start. -/
  | lanePowerUp
  /-- GEOMETRY_CYCLE_START (R208). At each multiple of PERIOD, the engine evaluates horizons, decisions and marks and applies
  the changes that wait for a cycle start. -/
  | geometryCycleStart
  /-- CYCLE_EVALUATION_DONE (R209). The evaluation of a cycle finishes with its last SCHED entry queued; a due cycle that
  waited then starts. -/
  | cycleEvaluationDone
  /-- PREFETCH_WALK (R181). Every prefetch PERIOD, the engine walks each outlet's path and issues tile requests. -/
  | prefetchWalk
  /-- DECISION_REPORT (R212). Every DIV cycles, the engine writes a decision report to host memory. -/
  | decisionReport
  /-- DOORBELL_POLL (R98). The doorbell period elapses and the ring engine reads the CHANGE and EPOCH word. -/
  | doorbellPoll
  /-- TABLE_CHECKS_DONE (R149). Checking of a committed table ends and the table waits to become active at the next cycle
  start. -/
  | tableChecksDone
  /-- EPOCH_RECORD (R348). The hub assembles an epoch record and completes a GNSS_BUFFER with it, or drops the epoch. -/
  | epochRecord
  /-- TIME_PULSE (R360). Field time reaches a whole second plus OFFSET; the pulse rises and any pending step is applied. -/
  | timePulse
  /-- PULSE_END (R360). WIDTH ms after its rise, the time pulse ends. -/
  | pulseEnd
  /-- AUTO_HOLD_EXPIRY (R358). AUTO_HOLD seconds pass without an accepted CORRECT, and the time unit enters holdover. -/
  | autoHoldExpiry
  /-- CADENCE_SEND (R406). At each cadence period, the leader queues a single-shot CADENCE carrying its previous stamp. -/
  | cadenceSend
  /-- CONFLICT_END (R403). No CADENCE from the other leader for LOSS_N periods ends the conflict. -/
  | conflictEnd
  /-- LEADER_LOST (R411). No CADENCE is accepted for LOSS_N periods, and the follower enters HOLDOVER. -/
  | leaderLost
  /-- POSE_PARTS_TIMEOUT (R413). The coefficient parts do not arrive within 5 ms of part 0, so the kinematics alone are
  taken. -/
  | posePartsTimeout
  /-- PLANNER_LOST (R418). No valid EDGE frame arrives for 50 ms, and the host-less follower disarms. -/
  | plannerLost
  /-- STATE_KEEPALIVE (R419). A host-less follower with no events sends a STATE frame with NEV 0 every 20 ms. -/
  | stateKeepalive
  /-- PROBE_WINDOW_END (R405). 20 ms after the third PROBE, the probe ends and reports its outcome. -/
  | probeWindowEnd
  /-- RECORD_STORED (R453). The galley head is written into its chosen slot, preceded by any pending DROPPED summary. -/
  | recordStored
  /-- SCAN_DONE (R456). The post-reset scan of every slot ends and records may be stored. -/
  | scanDone
  /-- COLOPHON_SAVE (R465). Every 60 counts of operating time, the colophon is saved. -/
  | colophonSave
  /-- FREEZE_TIMEOUT (R463). FREEZE_TO seconds after a freeze, it ends by itself and a FREEZE_TIMEOUT record is queued. -/
  | freezeTimeout
  /-- ERASE_DONE (R470). Every slot has been voided and a LOG_ERASED record is stored. -/
  | eraseDone
  /-- REPLAN (R481). Every 10 h of operating time, or on HEALTH_NOW, the margins are re-planned and a health descriptor is
  written. -/
  | replan
  /-- MARGIN_APPLY (R482). With APPLY 1, at the first unarmed instant after a re-plan, slip budgets and dead-time bounds are
  written. -/
  | marginApply
  /-- PARTNER_PERIOD_END (R492). The window of a partner slot closes, and the period is judged received, one-path or missed.
  -/
  | partnerPeriodEnd
  /-- OUTPUTS_QUIET (R497). The cassette outputs stay quiet for 100 µs and the stoker becomes captain and enables its drive.
  -/
  | outputsQuiet
  /-- YIELD_TIMEOUT (R500). No heartbeat from the new captain comes within 20 ms, and TDM_YIELD completes with TIMEOUT. -/
  | yieldTimeout
  /-- ATTACH_TIMEOUT (R501). No partner ATTACH arrives within 100 ms, and TDM_ATTACH completes with TIMEOUT. -/
  | attachTimeout
  /-- XFER_RESEND (R490). An XFER unacknowledged for 50 µs is resent. -/
  | xferResend
  /-- TANDEM_LINK_DOWN (R490). No valid tandem frame arrives for 500 µs, and the link is down. -/
  | tandemLinkDown
  /-- LOOPBACK_STOP (R527). A write of STOP to PWR_LB_CTL ends the running loop-back. -/
  | loopbackStop
  /-- PCIE_LOOPBACK (R533). The link partner directs the port into PCIe Loopback as slave. -/
  | pcieLoopback
  /-- D0_ENTRY (R90). The function returns from D3hot to D0, and polling resumes at the next poll period. -/
  | d0Entry
  /-- SLEW_DONE (R356). A field-time slew has added all of its CORRECT value; SLEWING clears and TIM_UNC drops by the amount
  no longer outstanding. -/
  | slewDone
  /-- AO_CLOCK_FAIL (R39). The 32.768 kHz clock fails, so that parked entry is refused from then on while the device keeps
  running. -/
  | aoClockFail
  /-- HEARTBEAT_PULSE (R492). The partner's 2 µs low pulse on TDM_HB is seen, which counts its period as received on the line
  path. -/
  | heartbeatPulse
  /-- POST_WAKE_PULSE (R493). For 10 ms after wake, a package that was attached when it parked pulses TDM_HB every 100 µs to
  wake its partner. -/
  | postWakePulse
  /-- TANDEM_LINK_DOWN_TIMEOUT (R494). The tandem link has been down for 100 ms, so SYNC clears and SYNC_LOST is queued. -/
  | tandemLinkDownTimeout
  /-- ATTACH_FRAME_SEND (R501). Every 1 ms while attaching, the package sends another ATTACH frame until the partner's
  arrives. -/
  | attachFrameSend
  /-- PROBE_FRAME_SEND (R404). 10 ms after the previous PROBE frame of an address probe, the next single-shot PROBE frame is
  queued. -/
  | probeFrameSend
deriving DecidableEq, Repr

end Sys2Proof
end

