-- ==== Sys2Proof/Decode.lean ====
section
/-! DEFINITION. The words of commands. The block has no encoding of its commands: no row of the opcode table gives bits. -/
namespace Sys2Proof

/-- The command a word spells by the table's bits. Every row of the table has an empty field list, so no word spells one. -/
def decodeTableWord (_nbits _w : Nat) : Option Instr := none

end Sys2Proof
end

