-- ==== Sys2Proof/Machine/RegMap.lean ====
section
/-! DEFINITION. Every register (R.<name>) and register field (F.<name>.<field>) of the manual's register tables, by
BAR0 offset, bit position and reset word. k is a spoke number 1 to 7, n a CAN controller, the other arguments the
instance indices of the defining chapter. Rules R5, R7, R9, R537. -/
namespace Sys2Proof.Machine

/-- The default of HLT_CLASS_CFG(k): WEIGHT, THRESH and LEAK of the class table of R474; class 6 reads 0 (R477). -/
def hltClassReset (k : Nat) : Word :=
  let e := fun (w l t : Nat) => BitVec.ofNat 32 (w + 16 * t + 4096 * l)
  match k with
  | 0 => e 1 1 8 | 1 => e 4 10 8 | 2 => e 2 1 8 | 3 => e 1 60 4 | 4 => e 4 10 8 | 5 => e 4 60 8
  | 7 => e 1 60 3 | 8 => e 1 10 8 | 9 => e 1 3600 4 | 10 => e 1 600 4 | 11 => e 1 1 32 | 12 => e 1 1 16
  | 13 => e 1 10 64 | 14 => e 1 600 4 | 15 => e 1 600 8 | 16 => e 1 1 16 | 17 => e 1 1 32 | 18 => e 1 3600 64
  | _ => 0

def R.PWR_LINK_STATUS : Reg := ⟨0x02040, 0x00000000⟩
def F.PWR_LINK_STATUS.LINK_UP : Fld := ⟨R.PWR_LINK_STATUS, 0, 7⟩
def F.PWR_LINK_STATUS.LINK_LOST : Fld := ⟨R.PWR_LINK_STATUS, 8, 7⟩
def F.PWR_LINK_STATUS.PT_MISMATCH : Fld := ⟨R.PWR_LINK_STATUS, 16, 7⟩
def R.SPK_LINK_COUNT (k : Nat) : Reg := ⟨spk k + 0x0010, 0x00000000⟩
def F.SPK_LINK_COUNT.HUB_RX_BAD (k : Nat) : Fld := ⟨R.SPK_LINK_COUNT k, 0, 16⟩
def F.SPK_LINK_COUNT.SPOKE_RX_BAD (k : Nat) : Fld := ⟨R.SPK_LINK_COUNT k, 16, 16⟩
def R.SPK_LINK_REPLAY (k : Nat) : Reg := ⟨spk k + 0x0014, 0x00000000⟩
def F.SPK_LINK_REPLAY.HUB_REPLAYS (k : Nat) : Fld := ⟨R.SPK_LINK_REPLAY k, 0, 16⟩
def F.SPK_LINK_REPLAY.LOSSES (k : Nat) : Fld := ⟨R.SPK_LINK_REPLAY k, 16, 8⟩
def R.PWR_STATE : Reg := ⟨0x02000, 0x00000000⟩
def F.PWR_STATE.STATE : Fld := ⟨R.PWR_STATE, 0, 4⟩
def F.PWR_STATE.IMG_WAIT : Fld := ⟨R.PWR_STATE, 4, 1⟩
def F.PWR_STATE.ABI_ACCEPTED : Fld := ⟨R.PWR_STATE, 5, 1⟩
def F.PWR_STATE.SET_B : Fld := ⟨R.PWR_STATE, 6, 1⟩
def F.PWR_STATE.PRECHARGED : Fld := ⟨R.PWR_STATE, 8, 7⟩
def F.PWR_STATE.PRECHARGE_FAIL : Fld := ⟨R.PWR_STATE, 16, 7⟩
def F.PWR_STATE.ISOLATED : Fld := ⟨R.PWR_STATE, 24, 7⟩
def R.PWR_CMD : Reg := ⟨0x02004, 0x00000000⟩
def F.PWR_CMD.CMD : Fld := ⟨R.PWR_CMD, 0, 8⟩
def F.PWR_CMD.SPOKE : Fld := ⟨R.PWR_CMD, 8, 3⟩
def R.PWR_ARM : Reg := ⟨0x02008, 0x00000000⟩
def F.PWR_ARM.ARM_BALL : Fld := ⟨R.PWR_ARM, 0, 1⟩
def F.PWR_ARM.ARMED : Fld := ⟨R.PWR_ARM, 1, 1⟩
def F.PWR_ARM.REFUSE : Fld := ⟨R.PWR_ARM, 4, 4⟩
def F.PWR_ARM.ARM_DROP : Fld := ⟨R.PWR_ARM, 8, 1⟩
def F.PWR_ARM.CMD_REFUSED : Fld := ⟨R.PWR_ARM, 9, 1⟩
def F.PWR_ARM.SAFE_CLEAR_REFUSED : Fld := ⟨R.PWR_ARM, 10, 1⟩
def F.PWR_ARM.PARK_REFUSED : Fld := ⟨R.PWR_ARM, 11, 1⟩
def F.PWR_ARM.PARK_ABORTED : Fld := ⟨R.PWR_ARM, 12, 1⟩
def R.PWR_CAUSE : Reg := ⟨0x0200C, 0⟩
def F.PWR_CAUSE.SAFE : Fld := ⟨R.PWR_CAUSE, 0, 7⟩
def F.PWR_CAUSE.FW_COMBO : Fld := ⟨R.PWR_CAUSE, 16, 1⟩
def F.PWR_CAUSE.ABI : Fld := ⟨R.PWR_CAUSE, 17, 1⟩
def F.PWR_CAUSE.RESET : Fld := ⟨R.PWR_CAUSE, 24, 4⟩
def R.PWR_DOMAIN_HUB : Reg := ⟨0x02010, 0x00000003⟩
def F.PWR_DOMAIN_HUB.ON : Fld := ⟨R.PWR_DOMAIN_HUB, 0, 12⟩
def R.PWR_DOMAIN_SPK (k : Nat) : Reg := ⟨0x02020 + 4 * (k - 1), 0x00000000⟩
def F.PWR_DOMAIN_SPK.ON (k : Nat) : Fld := ⟨R.PWR_DOMAIN_SPK k, 0, 12⟩
def R.PWR_PARK_CFG : Reg := ⟨0x02044, 0x00000003⟩
def F.PWR_PARK_CFG.WAKE_EN : Fld := ⟨R.PWR_PARK_CFG, 0, 1⟩
def F.PWR_PARK_CFG.WAKE_POL : Fld := ⟨R.PWR_PARK_CFG, 1, 1⟩
def F.PWR_PARK_CFG.TIMER_EN : Fld := ⟨R.PWR_PARK_CFG, 2, 1⟩
def F.PWR_PARK_CFG.HEARTBEAT_EN : Fld := ⟨R.PWR_PARK_CFG, 3, 1⟩
def F.PWR_PARK_CFG.PARK_DELAY : Fld := ⟨R.PWR_PARK_CFG, 8, 8⟩
def R.PWR_PARK_TIMER : Reg := ⟨0x02048, 0x00000000⟩
def F.PWR_PARK_TIMER.SECONDS : Fld := ⟨R.PWR_PARK_TIMER, 0, 24⟩
def R.PWR_PRECHARGE : Reg := ⟨0x0204C, 0x00000AFA⟩
def F.PWR_PRECHARGE.TIMEOUT : Fld := ⟨R.PWR_PRECHARGE, 0, 8⟩
def F.PWR_PRECHARGE.ILIM : Fld := ⟨R.PWR_PRECHARGE, 8, 5⟩
def R.HIF_CFG : Reg := ⟨0x01000, 0x00000028⟩
def F.HIF_CFG.DB_PERIOD : Fld := ⟨R.HIF_CFG, 0, 10⟩
def F.HIF_CFG.ATOMIC_EN : Fld := ⟨R.HIF_CFG, 10, 1⟩
def R.HIF_DB_ADDR_LO : Reg := ⟨0x01004, 0x00000000⟩
def F.HIF_DB_ADDR_LO.ADDR : Fld := ⟨R.HIF_DB_ADDR_LO, 8, 24⟩
def R.HIF_DB_ADDR_HI : Reg := ⟨0x01008, 0x00000000⟩
def F.HIF_DB_ADDR_HI.ADDR : Fld := ⟨R.HIF_DB_ADDR_HI, 0, 32⟩
def R.HIF_PROG_ADDR_LO : Reg := ⟨0x0100C, 0x00000000⟩
def F.HIF_PROG_ADDR_LO.ADDR : Fld := ⟨R.HIF_PROG_ADDR_LO, 8, 24⟩
def R.HIF_PROG_ADDR_HI : Reg := ⟨0x01010, 0x00000000⟩
def F.HIF_PROG_ADDR_HI.ADDR : Fld := ⟨R.HIF_PROG_ADDR_HI, 0, 32⟩
def R.HIF_EPOCH : Reg := ⟨0x01014, 0x00000000⟩
def F.HIF_EPOCH.EPOCH : Fld := ⟨R.HIF_EPOCH, 0, 16⟩
def R.HIF_STATUS : Reg := ⟨0x01018, 0x00000000⟩
def F.HIF_STATUS.POLLING : Fld := ⟨R.HIF_STATUS, 0, 1⟩
def F.HIF_STATUS.EPOCH_MISMATCH : Fld := ⟨R.HIF_STATUS, 1, 1⟩
def F.HIF_STATUS.DB_READ_ERR : Fld := ⟨R.HIF_STATUS, 2, 1⟩
def F.HIF_STATUS.ATOMIC_ACTIVE : Fld := ⟨R.HIF_STATUS, 3, 1⟩
def F.HIF_STATUS.ATOMIC_FAIL : Fld := ⟨R.HIF_STATUS, 4, 1⟩
def F.HIF_STATUS.BAD_ACCESS : Fld := ⟨R.HIF_STATUS, 5, 1⟩
def F.HIF_STATUS.CFG_DISCARDED : Fld := ⟨R.HIF_STATUS, 6, 1⟩
def F.HIF_STATUS.MISMATCH_COUNT : Fld := ⟨R.HIF_STATUS, 16, 16⟩
def R.HIF_SQ_BASE_LO (i : Nat) : Reg := ⟨0x01100 + 0x20 * i, 0x00000000⟩
def F.HIF_SQ_BASE_LO.ADDR (i : Nat) : Fld := ⟨R.HIF_SQ_BASE_LO i, 12, 20⟩
def R.HIF_SQ_BASE_HI (i : Nat) : Reg := ⟨0x01104 + 0x20 * i, 0x00000000⟩
def F.HIF_SQ_BASE_HI.ADDR (i : Nat) : Fld := ⟨R.HIF_SQ_BASE_HI i, 0, 32⟩
def R.HIF_CQ_BASE_LO (i : Nat) : Reg := ⟨0x01108 + 0x20 * i, 0x00000000⟩
def F.HIF_CQ_BASE_LO.ADDR (i : Nat) : Fld := ⟨R.HIF_CQ_BASE_LO i, 12, 20⟩
def R.HIF_CQ_BASE_HI (i : Nat) : Reg := ⟨0x0110C + 0x20 * i, 0x00000000⟩
def F.HIF_CQ_BASE_HI.ADDR (i : Nat) : Fld := ⟨R.HIF_CQ_BASE_HI i, 0, 32⟩
def R.HIF_RING_CFG (i : Nat) : Reg := ⟨0x01110 + 0x20 * i, 0x00000000⟩
def F.HIF_RING_CFG.CLASS (i : Nat) : Fld := ⟨R.HIF_RING_CFG i, 0, 4⟩
def F.HIF_RING_CFG.LOG2_ENTRIES (i : Nat) : Fld := ⟨R.HIF_RING_CFG i, 4, 5⟩
def F.HIF_RING_CFG.INSTANCE (i : Nat) : Fld := ⟨R.HIF_RING_CFG i, 9, 2⟩
def F.HIF_RING_CFG.PRIO (i : Nat) : Fld := ⟨R.HIF_RING_CFG i, 12, 2⟩
def R.HIF_RING_MOD (i : Nat) : Reg := ⟨0x01114 + 0x20 * i, 0x00000100⟩
def F.HIF_RING_MOD.VECTOR (i : Nat) : Fld := ⟨R.HIF_RING_MOD i, 0, 6⟩
def F.HIF_RING_MOD.MSIX_EN (i : Nat) : Fld := ⟨R.HIF_RING_MOD i, 6, 1⟩
def F.HIF_RING_MOD.COUNT (i : Nat) : Fld := ⟨R.HIF_RING_MOD i, 8, 8⟩
def F.HIF_RING_MOD.TIME (i : Nat) : Fld := ⟨R.HIF_RING_MOD i, 16, 16⟩
def R.HIF_RING_CTL (i : Nat) : Reg := ⟨0x01118 + 0x20 * i, 0x00000000⟩
def F.HIF_RING_CTL.CMD (i : Nat) : Fld := ⟨R.HIF_RING_CTL i, 0, 2⟩
def R.HIF_RING_STATUS (i : Nat) : Reg := ⟨0x0111C + 0x20 * i, 0x00000000⟩
def F.HIF_RING_STATUS.STATE (i : Nat) : Fld := ⟨R.HIF_RING_STATUS i, 0, 2⟩
def F.HIF_RING_STATUS.ERR_CAUSE (i : Nat) : Fld := ⟨R.HIF_RING_STATUS i, 4, 4⟩
def F.HIF_RING_STATUS.START_REFUSED (i : Nat) : Fld := ⟨R.HIF_RING_STATUS i, 8, 1⟩
def F.HIF_RING_STATUS.CFG_DISCARDED (i : Nat) : Fld := ⟨R.HIF_RING_STATUS i, 9, 1⟩
def F.HIF_RING_STATUS.BAD_CRC_SEEN (i : Nat) : Fld := ⟨R.HIF_RING_STATUS i, 10, 1⟩
def F.HIF_RING_STATUS.NO_BUF (i : Nat) : Fld := ⟨R.HIF_RING_STATUS i, 11, 1⟩
def F.HIF_RING_STATUS.ERR_SEQ (i : Nat) : Fld := ⟨R.HIF_RING_STATUS i, 16, 16⟩
def R.REG_POSE_STATUS : Reg := ⟨0x08100, 0x00000001⟩
def F.REG_POSE_STATUS.STALE : Fld := ⟨R.REG_POSE_STATUS, 0, 1⟩
def F.REG_POSE_STATUS.CREEP : Fld := ⟨R.REG_POSE_STATUS, 1, 1⟩
def F.REG_POSE_STATUS.REVERSE : Fld := ⟨R.REG_POSE_STATUS, 2, 1⟩
def F.REG_POSE_STATUS.OVER_SPEED : Fld := ⟨R.REG_POSE_STATUS, 3, 1⟩
def F.REG_POSE_STATUS.INVALID : Fld := ⟨R.REG_POSE_STATUS, 4, 1⟩
def F.REG_POSE_STATUS.BOOM_STALE : Fld := ⟨R.REG_POSE_STATUS, 5, 1⟩
def F.REG_POSE_STATUS.TAP_STALE : Fld := ⟨R.REG_POSE_STATUS, 6, 1⟩
def F.REG_POSE_STATUS.SEEN : Fld := ⟨R.REG_POSE_STATUS, 8, 7⟩
def F.REG_POSE_STATUS.SKIPPED : Fld := ⟨R.REG_POSE_STATUS, 16, 16⟩
def R.REG_POSE_TAG : Reg := ⟨0x08104, 0x00000000⟩
def F.REG_POSE_TAG.TAG : Fld := ⟨R.REG_POSE_TAG, 0, 32⟩
def R.REG_POSE_AGE : Reg := ⟨0x08108, 0xFFFFFFFF⟩
def F.REG_POSE_AGE.AGE : Fld := ⟨R.REG_POSE_AGE, 0, 32⟩
def R.REG_TABLE_STATUS : Reg := ⟨0x0810C, 0x00000000⟩
def F.REG_TABLE_STATUS.ACTIVE : Fld := ⟨R.REG_TABLE_STATUS, 0, 1⟩
def F.REG_TABLE_STATUS.STAGED_DIRTY : Fld := ⟨R.REG_TABLE_STATUS, 1, 1⟩
def F.REG_TABLE_STATUS.LAST_CODE : Fld := ⟨R.REG_TABLE_STATUS, 8, 8⟩
def F.REG_TABLE_STATUS.OUTLETS : Fld := ⟨R.REG_TABLE_STATUS, 16, 16⟩
def R.REG_TABLE_ID : Reg := ⟨0x08110, 0x00000000⟩
def F.REG_TABLE_ID.TABLE_ID : Fld := ⟨R.REG_TABLE_ID, 0, 32⟩
def R.REG_FIELD : Reg := ⟨0x08114, 0x00000007⟩
def F.REG_FIELD.K : Fld := ⟨R.REG_FIELD, 0, 4⟩
def R.REG_FIELD_ID : Reg := ⟨0x08118, 0x00000000⟩
def F.REG_FIELD_ID.FIELD_ID : Fld := ⟨R.REG_FIELD_ID, 0, 32⟩
def R.REG_TAP_STALE : Reg := ⟨0x0811C, 0x00000000⟩
def F.REG_TAP_STALE.SEG : Fld := ⟨R.REG_TAP_STALE, 0, 16⟩
def R.REG_CFG : Reg := ⟨0x08000, 0x00040000⟩
def F.REG_CFG.APPLICATOR_ID : Fld := ⟨R.REG_CFG, 0, 12⟩
def F.REG_CFG.MERGE : Fld := ⟨R.REG_CFG, 12, 1⟩
def F.REG_CFG.PROOF : Fld := ⟨R.REG_CFG, 13, 1⟩
def F.REG_CFG.MARK_HOLD : Fld := ⟨R.REG_CFG, 16, 4⟩
def R.REG_CYCLE : Reg := ⟨0x08004, 0x000003E8⟩
def F.REG_CYCLE.PERIOD : Fld := ⟨R.REG_CYCLE, 0, 15⟩
def R.REG_TIMING : Reg := ⟨0x08008, 0x138801F4⟩
def F.REG_TIMING.LEAD : Fld := ⟨R.REG_TIMING, 0, 15⟩
def F.REG_TIMING.FLEAD : Fld := ⟨R.REG_TIMING, 16, 15⟩
def R.REG_TIMING2 : Reg := ⟨0x0800C, 0x00002710⟩
def F.REG_TIMING2.KEEP : Fld := ⟨R.REG_TIMING2, 0, 16⟩
def F.REG_TIMING2.RATE_ADV : Fld := ⟨R.REG_TIMING2, 16, 16⟩
def R.REG_THRESH : Reg := ⟨0x08010, 0x00321E0A⟩
def F.REG_THRESH.ON_THR : Fld := ⟨R.REG_THRESH, 0, 7⟩
def F.REG_THRESH.OFF_THR : Fld := ⟨R.REG_THRESH, 8, 7⟩
def F.REG_THRESH.MISS_GRACE : Fld := ⟨R.REG_THRESH, 16, 10⟩
def R.REG_PREFETCH : Reg := ⟨0x08014, 0x00323244⟩
def F.REG_PREFETCH.DIST : Fld := ⟨R.REG_PREFETCH, 0, 4⟩
def F.REG_PREFETCH.MARGIN : Fld := ⟨R.REG_PREFETCH, 4, 4⟩
def F.REG_PREFETCH.PERIOD : Fld := ⟨R.REG_PREFETCH, 8, 8⟩
def F.REG_PREFETCH.RETRY : Fld := ⟨R.REG_PREFETCH, 16, 8⟩
def R.REG_WB : Reg := ⟨0x08018, 0x01F403E8⟩
def F.REG_WB.IDLE : Fld := ⟨R.REG_WB, 0, 16⟩
def F.REG_WB.MAX_AGE : Fld := ⟨R.REG_WB, 16, 16⟩
def R.REG_RATE_CFG : Reg := ⟨0x0801C, 0x0000D055⟩
def F.REG_RATE_CFG.V_REF : Fld := ⟨R.REG_RATE_CFG, 0, 19⟩
def F.REG_RATE_CFG.UNIFORM : Fld := ⟨R.REG_RATE_CFG, 19, 1⟩
def F.REG_RATE_CFG.UNIFORM_CODE : Fld := ⟨R.REG_RATE_CFG, 20, 8⟩
def R.REG_REPORT_ADDR_LO : Reg := ⟨0x08020, 0x00000000⟩
def F.REG_REPORT_ADDR_LO.ADDR : Fld := ⟨R.REG_REPORT_ADDR_LO, 8, 24⟩
def R.REG_REPORT_ADDR_HI : Reg := ⟨0x08024, 0x00000000⟩
def F.REG_REPORT_ADDR_HI.ADDR : Fld := ⟨R.REG_REPORT_ADDR_HI, 0, 32⟩
def R.REG_REPORT_CFG : Reg := ⟨0x08028, 0x00000A00⟩
def F.REG_REPORT_CFG.EN : Fld := ⟨R.REG_REPORT_CFG, 0, 1⟩
def F.REG_REPORT_CFG.DIV : Fld := ⟨R.REG_REPORT_CFG, 8, 8⟩
def R.REG_STATUS : Reg := ⟨0x08030, 0x00000000⟩
def F.REG_STATUS.MISS : Fld := ⟨R.REG_STATUS, 0, 1⟩
def F.REG_STATUS.MISS_EXPIRED : Fld := ⟨R.REG_STATUS, 1, 1⟩
def F.REG_STATUS.OVERRUN : Fld := ⟨R.REG_STATUS, 2, 1⟩
def F.REG_STATUS.CAS_FALLBACK : Fld := ⟨R.REG_STATUS, 3, 1⟩
def F.REG_STATUS.MARK_LOST : Fld := ⟨R.REG_STATUS, 4, 1⟩
def F.REG_STATUS.HORIZON_CLIP : Fld := ⟨R.REG_STATUS, 5, 1⟩
def F.REG_STATUS.SHORT : Fld := ⟨R.REG_STATUS, 6, 1⟩
def F.REG_STATUS.LATE : Fld := ⟨R.REG_STATUS, 7, 1⟩
def R.REG_CYCLE_STATS : Reg := ⟨0x08034, 0x00000000⟩
def F.REG_CYCLE_STATS.OVERRUNS : Fld := ⟨R.REG_CYCLE_STATS, 0, 16⟩
def F.REG_CYCLE_STATS.SKIPPED : Fld := ⟨R.REG_CYCLE_STATS, 16, 16⟩
def R.REG_CYCLE_TIME : Reg := ⟨0x08038, 0x00000000⟩
def F.REG_CYCLE_TIME.LAST : Fld := ⟨R.REG_CYCLE_TIME, 0, 16⟩
def F.REG_CYCLE_TIME.MAX : Fld := ⟨R.REG_CYCLE_TIME, 16, 16⟩
def R.REG_TILE_STATS : Reg := ⟨0x0803C, 0x00000000⟩
def F.REG_TILE_STATS.MISS : Fld := ⟨R.REG_TILE_STATS, 0, 12⟩
def F.REG_TILE_STATS.EXPIRED : Fld := ⟨R.REG_TILE_STATS, 12, 8⟩
def F.REG_TILE_STATS.SHORT : Fld := ⟨R.REG_TILE_STATS, 20, 6⟩
def F.REG_TILE_STATS.LOST : Fld := ⟨R.REG_TILE_STATS, 26, 6⟩
def R.REG_TILE_COUNT : Reg := ⟨0x08040, 0x00000000⟩
def F.REG_TILE_COUNT.USED : Fld := ⟨R.REG_TILE_COUNT, 0, 13⟩
def F.REG_TILE_COUNT.DIRTY : Fld := ⟨R.REG_TILE_COUNT, 16, 13⟩
def R.DRV_CFG (k : Nat) : Reg := ⟨spk k + 0x0400, 0x000028C8⟩
def F.DRV_CFG.MERGE_GAP (k : Nat) : Fld := ⟨R.DRV_CFG k, 0, 10⟩
def F.DRV_CFG.RETRY (k : Nat) : Fld := ⟨R.DRV_CFG k, 10, 8⟩
def R.DRV_STATUS (k : Nat) : Reg := ⟨spk k + 0x0404, 0x00000000⟩
def F.DRV_STATUS.DRIVE_EN (k : Nat) : Fld := ⟨R.DRV_STATUS k, 0, 1⟩
def F.DRV_STATUS.DISCARDED (k : Nat) : Fld := ⟨R.DRV_STATUS k, 8, 8⟩
def F.DRV_STATUS.LATE (k : Nat) : Fld := ⟨R.DRV_STATUS k, 16, 16⟩
def R.DRV_BOOST_CFG (k : Nat) : Reg := ⟨spk k + 0x0408, 0x1EA8F0C0⟩
def F.DRV_BOOST_CFG.EN (k : Nat) : Fld := ⟨R.DRV_BOOST_CFG k, 0, 1⟩
def F.DRV_BOOST_CFG.TARGET (k : Nat) : Fld := ⟨R.DRV_BOOST_CFG k, 1, 8⟩
def F.DRV_BOOST_CFG.LIMIT (k : Nat) : Fld := ⟨R.DRV_BOOST_CFG k, 9, 8⟩
def F.DRV_BOOST_CFG.MIN (k : Nat) : Fld := ⟨R.DRV_BOOST_CFG k, 17, 8⟩
def F.DRV_BOOST_CFG.ILIM (k : Nat) : Fld := ⟨R.DRV_BOOST_CFG k, 25, 5⟩
def R.DRV_BOOST_STATUS (k : Nat) : Reg := ⟨spk k + 0x040C, 0x00000000⟩
def F.DRV_BOOST_STATUS.RAIL (k : Nat) : Fld := ⟨R.DRV_BOOST_STATUS k, 0, 9⟩
def F.DRV_BOOST_STATUS.CHARGING (k : Nat) : Fld := ⟨R.DRV_BOOST_STATUS k, 9, 1⟩
def F.DRV_BOOST_STATUS.ABOVE_LIMIT (k : Nat) : Fld := ⟨R.DRV_BOOST_STATUS k, 10, 1⟩
def F.DRV_BOOST_STATUS.CLAMPED (k : Nat) : Fld := ⟨R.DRV_BOOST_STATUS k, 11, 1⟩
def F.DRV_BOOST_STATUS.BOOST_FAIL (k : Nat) : Fld := ⟨R.DRV_BOOST_STATUS k, 12, 1⟩
def F.DRV_BOOST_STATUS.LASTING (k : Nat) : Fld := ⟨R.DRV_BOOST_STATUS k, 13, 1⟩
def F.DRV_BOOST_STATUS.CLAMPS (k : Nat) : Fld := ⟨R.DRV_BOOST_STATUS k, 16, 16⟩
def R.DRV_BOOST_ENERGY (k : Nat) : Reg := ⟨spk k + 0x0410, 0x00000000⟩
def F.DRV_BOOST_ENERGY.RECOVERED (k : Nat) : Fld := ⟨R.DRV_BOOST_ENERGY k, 0, 32⟩
def R.DRV_FAULT_MAP_LO (k : Nat) : Reg := ⟨spk k + 0x0418, 0x00000000⟩
def F.DRV_FAULT_MAP_LO.DISABLED (k : Nat) : Fld := ⟨R.DRV_FAULT_MAP_LO k, 0, 32⟩
def R.DRV_FAULT_MAP_HI (k : Nat) : Reg := ⟨spk k + 0x041C, 0x00000000⟩
def F.DRV_FAULT_MAP_HI.DISABLED (k : Nat) : Fld := ⟨R.DRV_FAULT_MAP_HI k, 0, 32⟩
def R.DRV_TPL_CTL (k t : Nat) : Reg := ⟨spk k + 0x0500 + 0x10 * t, 0x28C86400⟩
def F.DRV_TPL_CTL.MODE (k t : Nat) : Fld := ⟨R.DRV_TPL_CTL k t, 0, 1⟩
def F.DRV_TPL_CTL.OFF_SLOW (k t : Nat) : Fld := ⟨R.DRV_TPL_CTL k t, 1, 1⟩
def F.DRV_TPL_CTL.DITHER_SQ (k t : Nat) : Fld := ⟨R.DRV_TPL_CTL k t, 2, 1⟩
def F.DRV_TPL_CTL.PEAK_I (k t : Nat) : Fld := ⟨R.DRV_TPL_CTL k t, 8, 9⟩
def F.DRV_TPL_CTL.HOLD_I (k t : Nat) : Fld := ⟨R.DRV_TPL_CTL k t, 18, 7⟩
def F.DRV_TPL_CTL.BAND (k t : Nat) : Fld := ⟨R.DRV_TPL_CTL k t, 26, 6⟩
def R.DRV_TPL_PEAK (k t : Nat) : Reg := ⟨spk k + 0x0504 + 0x10 * t, 0x03E807D0⟩
def F.DRV_TPL_PEAK.PEAK_T (k t : Nat) : Fld := ⟨R.DRV_TPL_PEAK k t, 0, 15⟩
def F.DRV_TPL_PEAK.BOOST_TMAX (k t : Nat) : Fld := ⟨R.DRV_TPL_PEAK k t, 16, 13⟩
def R.DRV_TPL_PULSE (k t : Nat) : Reg := ⟨spk k + 0x0508 + 0x10 * t, 0x00000000⟩
def F.DRV_TPL_PULSE.MIN_ON (k t : Nat) : Fld := ⟨R.DRV_TPL_PULSE k t, 0, 15⟩
def F.DRV_TPL_PULSE.MIN_OFF (k t : Nat) : Fld := ⟨R.DRV_TPL_PULSE k t, 16, 15⟩
def R.DRV_TPL_PROP (k t : Nat) : Reg := ⟨spk k + 0x050C + 0x10 * t, 0x14643264⟩
def F.DRV_TPL_PROP.FS_I (k t : Nat) : Fld := ⟨R.DRV_TPL_PROP k t, 0, 7⟩
def F.DRV_TPL_PROP.CHOP (k t : Nat) : Fld := ⟨R.DRV_TPL_PROP k t, 8, 8⟩
def F.DRV_TPL_PROP.DITHER_F (k t : Nat) : Fld := ⟨R.DRV_TPL_PROP k t, 16, 9⟩
def F.DRV_TPL_PROP.DITHER_A (k t : Nat) : Fld := ⟨R.DRV_TPL_PROP k t, 25, 5⟩
def R.DRV_CAS_STATUS (k c : Nat) : Reg := ⟨spk k + 0x0600 + 0x8 * c, 0x00000000⟩
def F.DRV_CAS_STATUS.HELD_OFF (k c : Nat) : Fld := ⟨R.DRV_CAS_STATUS k c, 0, 1⟩
def F.DRV_CAS_STATUS.HS_OC (k c : Nat) : Fld := ⟨R.DRV_CAS_STATUS k c, 1, 1⟩
def F.DRV_CAS_STATUS.SHORT_GND (k c : Nat) : Fld := ⟨R.DRV_CAS_STATUS k c, 2, 1⟩
def F.DRV_CAS_STATUS.DISABLED (k c : Nat) : Fld := ⟨R.DRV_CAS_STATUS k c, 3, 1⟩
def F.DRV_CAS_STATUS.HS_CURRENT (k c : Nat) : Fld := ⟨R.DRV_CAS_STATUS k c, 16, 12⟩
def R.DRV_CAS_TEMP (k c : Nat) : Reg := ⟨spk k + 0x0604 + 0x8 * c, 0x00000000⟩
def F.DRV_CAS_TEMP.TEMP_MAX (k c : Nat) : Fld := ⟨R.DRV_CAS_TEMP k c, 0, 9⟩
def R.DRV_CH_CFG (k m : Nat) : Reg := ⟨spk k + 0x0800 + 0x10 * m, 0x00000000⟩
def F.DRV_CH_CFG.OWNER (k m : Nat) : Fld := ⟨R.DRV_CH_CFG k m, 0, 2⟩
def F.DRV_CH_CFG.TEMPLATE (k m : Nat) : Fld := ⟨R.DRV_CH_CFG k m, 2, 4⟩
def F.DRV_CH_CFG.BOND (k m : Nat) : Fld := ⟨R.DRV_CH_CFG k m, 6, 1⟩
def F.DRV_CH_CFG.BOND_ODD (k m : Nat) : Fld := ⟨R.DRV_CH_CFG k m, 7, 1⟩
def F.DRV_CH_CFG.CONFLICT (k m : Nat) : Fld := ⟨R.DRV_CH_CFG k m, 8, 1⟩
def R.DRV_CH_STATUS (k m : Nat) : Reg := ⟨spk k + 0x0804 + 0x10 * m, 0x00000000⟩
def F.DRV_CH_STATUS.PHASE (k m : Nat) : Fld := ⟨R.DRV_CH_STATUS k m, 0, 3⟩
def F.DRV_CH_STATUS.PENDING (k m : Nat) : Fld := ⟨R.DRV_CH_STATUS k m, 3, 1⟩
def F.DRV_CH_STATUS.DISABLED (k m : Nat) : Fld := ⟨R.DRV_CH_STATUS k m, 4, 1⟩
def F.DRV_CH_STATUS.OPEN (k m : Nat) : Fld := ⟨R.DRV_CH_STATUS k m, 5, 1⟩
def F.DRV_CH_STATUS.SHORT_BAT (k m : Nat) : Fld := ⟨R.DRV_CH_STATUS k m, 6, 1⟩
def F.DRV_CH_STATUS.SHORT_GND (k m : Nat) : Fld := ⟨R.DRV_CH_STATUS k m, 7, 1⟩
def F.DRV_CH_STATUS.OVERCURRENT (k m : Nat) : Fld := ⟨R.DRV_CH_STATUS k m, 8, 1⟩
def F.DRV_CH_STATUS.OVERTEMP (k m : Nat) : Fld := ⟨R.DRV_CH_STATUS k m, 9, 1⟩
def F.DRV_CH_STATUS.PEAK_TIMEOUT (k m : Nat) : Fld := ⟨R.DRV_CH_STATUS k m, 10, 1⟩
def F.DRV_CH_STATUS.STRETCHED (k m : Nat) : Fld := ⟨R.DRV_CH_STATUS k m, 11, 1⟩
def F.DRV_CH_STATUS.SLOW_OFF (k m : Nat) : Fld := ⟨R.DRV_CH_STATUS k m, 12, 1⟩
def F.DRV_CH_STATUS.CURRENT (k m : Nat) : Fld := ⟨R.DRV_CH_STATUS k m, 16, 12⟩
def R.DRV_CH_LEAK (k m : Nat) : Reg := ⟨spk k + 0x0808 + 0x10 * m, 0x00000000⟩
def F.DRV_CH_LEAK.OPEN (k m : Nat) : Fld := ⟨R.DRV_CH_LEAK k m, 0, 8⟩
def F.DRV_CH_LEAK.SHORT (k m : Nat) : Fld := ⟨R.DRV_CH_LEAK k m, 8, 8⟩
def F.DRV_CH_LEAK.OVERCURRENT (k m : Nat) : Fld := ⟨R.DRV_CH_LEAK k m, 16, 8⟩
def F.DRV_CH_LEAK.OVERTEMP (k m : Nat) : Fld := ⟨R.DRV_CH_LEAK k m, 24, 8⟩
def R.DRV_CH_MEAS (k m : Nat) : Reg := ⟨spk k + 0x080C + 0x10 * m, 0x00000000⟩
def F.DRV_CH_MEAS.MEAN (k m : Nat) : Fld := ⟨R.DRV_CH_MEAS k m, 0, 12⟩
def F.DRV_CH_MEAS.RDS (k m : Nat) : Fld := ⟨R.DRV_CH_MEAS k m, 16, 16⟩
def R.DRV_SCHED_CFG (k : Nat) : Reg := ⟨spk k + 0x0420, 0x00080190⟩
def F.DRV_SCHED_CFG.SLIP_LIMIT (k : Nat) : Fld := ⟨R.DRV_SCHED_CFG k, 0, 11⟩
def F.DRV_SCHED_CFG.NT_COUNT (k : Nat) : Fld := ⟨R.DRV_SCHED_CFG k, 16, 4⟩
def R.DRV_CAS_SCHED (k c : Nat) : Reg := ⟨spk k + 0x0640 + 0x8 * c, 0x00000000⟩
def F.DRV_CAS_SCHED.QUEUED (k c : Nat) : Fld := ⟨R.DRV_CAS_SCHED k c, 0, 4⟩
def F.DRV_CAS_SCHED.BOOST_BUSY (k c : Nat) : Fld := ⟨R.DRV_CAS_SCHED k c, 4, 1⟩
def F.DRV_CAS_SCHED.OVERLOAD (k c : Nat) : Fld := ⟨R.DRV_CAS_SCHED k c, 5, 1⟩
def F.DRV_CAS_SCHED.MAX_SLIP (k c : Nat) : Fld := ⟨R.DRV_CAS_SCHED k c, 16, 11⟩
def R.DRV_CAS_PEAKS (k c : Nat) : Reg := ⟨spk k + 0x0644 + 0x8 * c, 0x00000000⟩
def F.DRV_CAS_PEAKS.BOOST_RISES (k c : Nat) : Fld := ⟨R.DRV_CAS_PEAKS k c, 0, 16⟩
def F.DRV_CAS_PEAKS.SLOW_PEAKS (k c : Nat) : Fld := ⟨R.DRV_CAS_PEAKS k c, 16, 16⟩
def R.DRV_DET_CFG (k t : Nat) : Reg := ⟨spk k + 0x0700 + 0x8 * t, 0x10083203⟩
def F.DRV_DET_CFG.DET_EN (k t : Nat) : Fld := ⟨R.DRV_DET_CFG k t, 0, 1⟩
def F.DRV_DET_CFG.SLOPE_N (k t : Nat) : Fld := ⟨R.DRV_DET_CFG k t, 1, 2⟩
def F.DRV_DET_CFG.BLANK (k t : Nat) : Fld := ⟨R.DRV_DET_CFG k t, 8, 8⟩
def F.DRV_DET_CFG.ON_RATIO (k t : Nat) : Fld := ⟨R.DRV_DET_CFG k t, 16, 6⟩
def F.DRV_DET_CFG.OFF_RATIO (k t : Nat) : Fld := ⟨R.DRV_DET_CFG k t, 24, 6⟩
def R.DRV_DET_WIN (k t : Nat) : Reg := ⟨spk k + 0x0704 + 0x8 * t, 0x00001496⟩
def F.DRV_DET_WIN.OFF_WIN (k t : Nat) : Fld := ⟨R.DRV_DET_WIN k t, 0, 8⟩
def F.DRV_DET_WIN.OFF_LEVEL (k t : Nat) : Fld := ⟨R.DRV_DET_WIN k t, 8, 8⟩
def R.DRV_CH_TIMING (k m : Nat) : Reg := ⟨spk k + 0x0C00 + 0x10 * m, 0xFFFFFFFF⟩
def F.DRV_CH_TIMING.LAST_ON (k m : Nat) : Fld := ⟨R.DRV_CH_TIMING k m, 0, 16⟩
def F.DRV_CH_TIMING.LAST_OFF (k m : Nat) : Fld := ⟨R.DRV_CH_TIMING k m, 16, 16⟩
def R.DRV_CH_RISE (k m : Nat) : Reg := ⟨spk k + 0x0C04 + 0x10 * m, 0x00000000⟩
def F.DRV_CH_RISE.T_RISE (k m : Nat) : Fld := ⟨R.DRV_CH_RISE k m, 0, 13⟩
def F.DRV_CH_RISE.LAST_RISE (k m : Nat) : Fld := ⟨R.DRV_CH_RISE k m, 16, 13⟩
def R.DRV_CH_TRAVEL (k m : Nat) : Reg := ⟨spk k + 0x0C08 + 0x10 * m, 0x00000000⟩
def F.DRV_CH_TRAVEL.MISS_ON (k m : Nat) : Fld := ⟨R.DRV_CH_TRAVEL k m, 0, 4⟩
def F.DRV_CH_TRAVEL.NO_MOTION (k m : Nat) : Fld := ⟨R.DRV_CH_TRAVEL k m, 4, 4⟩
def F.DRV_CH_TRAVEL.NO_TRAVEL (k m : Nat) : Fld := ⟨R.DRV_CH_TRAVEL k m, 8, 1⟩
def F.DRV_CH_TRAVEL.STUCK (k m : Nat) : Fld := ⟨R.DRV_CH_TRAVEL k m, 9, 1⟩
def F.DRV_CH_TRAVEL.NO_TRAVEL_SEEN (k m : Nat) : Fld := ⟨R.DRV_CH_TRAVEL k m, 10, 1⟩
def F.DRV_CH_TRAVEL.STUCK_SEEN (k m : Nat) : Fld := ⟨R.DRV_CH_TRAVEL k m, 11, 1⟩
def F.DRV_CH_TRAVEL.SLOW_PEAKS (k m : Nat) : Fld := ⟨R.DRV_CH_TRAVEL k m, 16, 16⟩
def R.REG_EST_INDEX : Reg := ⟨0x08200, 0x00000000⟩
def F.REG_EST_INDEX.OUTLET : Fld := ⟨R.REG_EST_INDEX, 0, 11⟩
def R.REG_EST_DELAY : Reg := ⟨0x08204, 0x00000000⟩
def F.REG_EST_DELAY.D_ON : Fld := ⟨R.REG_EST_DELAY, 0, 16⟩
def F.REG_EST_DELAY.D_OFF : Fld := ⟨R.REG_EST_DELAY, 16, 16⟩
def R.REG_EST_SLIP : Reg := ⟨0x08208, 0x00000000⟩
def F.REG_EST_SLIP.S_ON : Fld := ⟨R.REG_EST_SLIP, 0, 11⟩
def F.REG_EST_SLIP.REJECT_ON : Fld := ⟨R.REG_EST_SLIP, 16, 4⟩
def F.REG_EST_SLIP.REJECT_OFF : Fld := ⟨R.REG_EST_SLIP, 20, 4⟩
def F.REG_EST_SLIP.RESEEDS : Fld := ⟨R.REG_EST_SLIP, 24, 8⟩
def R.REG_EST_CFG : Reg := ⟨0x0820C, 0x00008132⟩
def F.REG_EST_CFG.GATE : Fld := ⟨R.REG_EST_CFG, 0, 6⟩
def F.REG_EST_CFG.SLIP_W : Fld := ⟨R.REG_EST_CFG, 8, 2⟩
def F.REG_EST_CFG.RESEED_N : Fld := ⟨R.REG_EST_CFG, 12, 4⟩
def R.CTL_STATUS (k : Nat) : Reg := ⟨spk k + 0x1800, 0x00000000⟩
def F.CTL_STATUS.LOADED (k : Nat) : Fld := ⟨R.CTL_STATUS k, 0, 5⟩
def F.CTL_STATUS.OVERRUN (k : Nat) : Fld := ⟨R.CTL_STATUS k, 8, 1⟩
def F.CTL_STATUS.FAULT (k : Nat) : Fld := ⟨R.CTL_STATUS k, 9, 1⟩
def F.CTL_STATUS.UTIL (k : Nat) : Fld := ⟨R.CTL_STATUS k, 16, 7⟩
def R.CTL_LOOP_STATUS (k l : Nat) : Reg := ⟨spk k + 0x1840 + 0x10 * l, 0x00000000⟩
def F.CTL_LOOP_STATUS.MODE (k l : Nat) : Fld := ⟨R.CTL_LOOP_STATUS k l, 0, 2⟩
def F.CTL_LOOP_STATUS.LAW (k l : Nat) : Fld := ⟨R.CTL_LOOP_STATUS k l, 2, 2⟩
def F.CTL_LOOP_STATUS.LOADED (k l : Nat) : Fld := ⟨R.CTL_LOOP_STATUS k l, 4, 1⟩
def F.CTL_LOOP_STATUS.CAUSE (k l : Nat) : Fld := ⟨R.CTL_LOOP_STATUS k l, 5, 3⟩
def F.CTL_LOOP_STATUS.SAT (k l : Nat) : Fld := ⟨R.CTL_LOOP_STATUS k l, 8, 1⟩
def F.CTL_LOOP_STATUS.LIMITED (k l : Nat) : Fld := ⟨R.CTL_LOOP_STATUS k l, 9, 1⟩
def F.CTL_LOOP_STATUS.DEST_DOWN (k l : Nat) : Fld := ⟨R.CTL_LOOP_STATUS k l, 10, 1⟩
def F.CTL_LOOP_STATUS.SP_STALE (k l : Nat) : Fld := ⟨R.CTL_LOOP_STATUS k l, 11, 1⟩
def F.CTL_LOOP_STATUS.FAULT_SEEN (k l : Nat) : Fld := ⟨R.CTL_LOOP_STATUS k l, 12, 1⟩
def F.CTL_LOOP_STATUS.OVERRUN (k l : Nat) : Fld := ⟨R.CTL_LOOP_STATUS k l, 13, 1⟩
def F.CTL_LOOP_STATUS.PRESET_SAT (k l : Nat) : Fld := ⟨R.CTL_LOOP_STATUS k l, 14, 1⟩
def F.CTL_LOOP_STATUS.RATE_RANGE (k l : Nat) : Fld := ⟨R.CTL_LOOP_STATUS k l, 15, 1⟩
def F.CTL_LOOP_STATUS.OVERRUNS (k l : Nat) : Fld := ⟨R.CTL_LOOP_STATUS k l, 16, 8⟩
def F.CTL_LOOP_STATUS.INVALID (k l : Nat) : Fld := ⟨R.CTL_LOOP_STATUS k l, 24, 4⟩
def R.CTL_LOOP_Y (k l : Nat) : Reg := ⟨spk k + 0x1844 + 0x10 * l, 0x00000000⟩
def F.CTL_LOOP_Y.Y0 (k l : Nat) : Fld := ⟨R.CTL_LOOP_Y k l, 0, 32⟩
def R.CTL_LOOP_W (k l : Nat) : Reg := ⟨spk k + 0x1848 + 0x10 * l, 0x00000000⟩
def F.CTL_LOOP_W.W0 (k l : Nat) : Fld := ⟨R.CTL_LOOP_W k l, 0, 32⟩
def R.CTL_LOOP_U (k l : Nat) : Reg := ⟨spk k + 0x184C + 0x10 * l, 0x00000000⟩
def F.CTL_LOOP_U.U0 (k l : Nat) : Fld := ⟨R.CTL_LOOP_U k l, 0, 32⟩
def R.ADC_AIN_VAL (k m : Nat) : Reg := ⟨spk k + 0x3400 + 4 * m, 0x00000000⟩
def F.ADC_AIN_VAL.CODE (k m : Nat) : Fld := ⟨R.ADC_AIN_VAL k m, 0, 12⟩
def R.ADC_EN (k : Nat) : Reg := ⟨spk k + 0x3440, 0x00000000⟩
def F.ADC_EN.AIN (k : Nat) : Fld := ⟨R.ADC_EN k, 0, 16⟩
def F.ADC_EN.PULSE (k : Nat) : Fld := ⟨R.ADC_EN k, 16, 8⟩
def F.ADC_EN.ENC (k : Nat) : Fld := ⟨R.ADC_EN k, 24, 3⟩
def F.ADC_EN.SPI (k : Nat) : Fld := ⟨R.ADC_EN k, 27, 2⟩
def R.ADC_PULSE_CFG (k p : Nat) : Reg := ⟨spk k + 0x3480 + 8 * p, 0x03E80000⟩
def F.ADC_PULSE_CFG.EDGE (k p : Nat) : Fld := ⟨R.ADC_PULSE_CFG k p, 0, 1⟩
def F.ADC_PULSE_CFG.FILTER (k p : Nat) : Fld := ⟨R.ADC_PULSE_CFG k p, 1, 3⟩
def F.ADC_PULSE_CFG.AVG (k p : Nat) : Fld := ⟨R.ADC_PULSE_CFG k p, 8, 8⟩
def F.ADC_PULSE_CFG.TIMEOUT (k p : Nat) : Fld := ⟨R.ADC_PULSE_CFG k p, 16, 16⟩
def R.ADC_PULSE_VAL (k p : Nat) : Reg := ⟨spk k + 0x3484 + 8 * p, 0x00000000⟩
def F.ADC_PULSE_VAL.FREQ (k p : Nat) : Fld := ⟨R.ADC_PULSE_VAL k p, 0, 32⟩
def R.ADC_ENC_CFG (k e : Nat) : Reg := ⟨spk k + 0x34C0 + 0x10 * e, 0x00640000⟩
def F.ADC_ENC_CFG.MODE (k e : Nat) : Fld := ⟨R.ADC_ENC_CFG k e, 0, 1⟩
def F.ADC_ENC_CFG.DIR (k e : Nat) : Fld := ⟨R.ADC_ENC_CFG k e, 1, 1⟩
def F.ADC_ENC_CFG.FILTER (k e : Nat) : Fld := ⟨R.ADC_ENC_CFG k e, 2, 3⟩
def F.ADC_ENC_CFG.TIMEOUT (k e : Nat) : Fld := ⟨R.ADC_ENC_CFG k e, 16, 16⟩
def R.ADC_ENC_POS (k e : Nat) : Reg := ⟨spk k + 0x34C4 + 0x10 * e, 0x00000000⟩
def F.ADC_ENC_POS.POS (k e : Nat) : Fld := ⟨R.ADC_ENC_POS k e, 0, 32⟩
def R.ADC_ENC_SPEED (k e : Nat) : Reg := ⟨spk k + 0x34C8 + 0x10 * e, 0x00000000⟩
def F.ADC_ENC_SPEED.SPEED (k e : Nat) : Fld := ⟨R.ADC_ENC_SPEED k e, 0, 32⟩
def R.ADC_ENC_STATUS (k e : Nat) : Reg := ⟨spk k + 0x34CC + 0x10 * e, 0x00000000⟩
def F.ADC_ENC_STATUS.HALL (k e : Nat) : Fld := ⟨R.ADC_ENC_STATUS k e, 0, 3⟩
def F.ADC_ENC_STATUS.ERR (k e : Nat) : Fld := ⟨R.ADC_ENC_STATUS k e, 3, 1⟩
def F.ADC_ENC_STATUS.ERRORS (k e : Nat) : Fld := ⟨R.ADC_ENC_STATUS k e, 16, 16⟩
def R.ADC_SPI_CFG (k p : Nat) : Reg := ⟨spk k + 0x3500 + 0x20 * p, 0x03E80904⟩
def F.ADC_SPI_CFG.LEN (k p : Nat) : Fld := ⟨R.ADC_SPI_CFG k p, 0, 4⟩
def F.ADC_SPI_CFG.MODE (k p : Nat) : Fld := ⟨R.ADC_SPI_CFG k p, 4, 2⟩
def F.ADC_SPI_CFG.CRC_EN (k p : Nat) : Fld := ⟨R.ADC_SPI_CFG k p, 6, 1⟩
def F.ADC_SPI_CFG.CLKDIV (k p : Nat) : Fld := ⟨R.ADC_SPI_CFG k p, 8, 8⟩
def F.ADC_SPI_CFG.POLL (k p : Nat) : Fld := ⟨R.ADC_SPI_CFG k p, 16, 16⟩
def R.ADC_SPI_MAP (k p : Nat) : Reg := ⟨spk k + 0x3504 + 0x20 * p, 0x00000000⟩
def F.ADC_SPI_MAP.OFF (k p : Nat) : Fld := ⟨R.ADC_SPI_MAP k p, 0, 16⟩
def R.ADC_SPI_TX (k p i : Nat) : Reg := ⟨spk k + 0x3508 + 0x20 * p + 4 * i, 0x00000000⟩
def F.ADC_SPI_TX.TX (k p i : Nat) : Fld := ⟨R.ADC_SPI_TX k p i, 0, 32⟩
def R.ADC_SPI_STATUS (k p : Nat) : Reg := ⟨spk k + 0x3518 + 0x20 * p, 0x00000000⟩
def F.ADC_SPI_STATUS.VALID (k p : Nat) : Fld := ⟨R.ADC_SPI_STATUS k p, 0, 1⟩
def F.ADC_SPI_STATUS.CRC_ERR (k p : Nat) : Fld := ⟨R.ADC_SPI_STATUS k p, 1, 1⟩
def F.ADC_SPI_STATUS.ERRORS (k p : Nat) : Fld := ⟨R.ADC_SPI_STATUS k p, 16, 16⟩
def R.REG_STREAM (s : Nat) : Reg := ⟨0x08300 + 4 * s, 0x00000000⟩
def F.REG_STREAM.EN (s : Nat) : Fld := ⟨R.REG_STREAM s, 0, 1⟩
def F.REG_STREAM.G_LO (s : Nat) : Fld := ⟨R.REG_STREAM s, 8, 8⟩
def F.REG_STREAM.G_HI (s : Nat) : Fld := ⟨R.REG_STREAM s, 16, 8⟩
def R.PWM_CFG (k p : Nat) : Reg := ⟨spk k + 0x1000 + 0x40 * p, 0x00000000⟩
def F.PWM_CFG.EN (k p : Nat) : Fld := ⟨R.PWM_CFG k p, 0, 1⟩
def F.PWM_CFG.MODE (k p : Nat) : Fld := ⟨R.PWM_CFG k p, 1, 1⟩
def F.PWM_CFG.UPD (k p : Nat) : Fld := ⟨R.PWM_CFG k p, 2, 1⟩
def F.PWM_CFG.PRESC (k p : Nat) : Fld := ⟨R.PWM_CFG k p, 3, 3⟩
def F.PWM_CFG.NARROW (k p : Nat) : Fld := ⟨R.PWM_CFG k p, 6, 1⟩
def F.PWM_CFG.DT_MODE (k p : Nat) : Fld := ⟨R.PWM_CFG k p, 7, 1⟩
def F.PWM_CFG.POL_H (k p : Nat) : Fld := ⟨R.PWM_CFG k p, 8, 1⟩
def F.PWM_CFG.POL_L (k p : Nat) : Fld := ⟨R.PWM_CFG k p, 9, 1⟩
def F.PWM_CFG.IDLE_H (k p : Nat) : Fld := ⟨R.PWM_CFG k p, 10, 1⟩
def F.PWM_CFG.IDLE_L (k p : Nat) : Fld := ⟨R.PWM_CFG k p, 11, 1⟩
def F.PWM_CFG.TRIP_SEL (k p : Nat) : Fld := ⟨R.PWM_CFG k p, 12, 4⟩
def R.PWM_PER (k p : Nat) : Reg := ⟨spk k + 0x1004 + 0x40 * p, 0x000030D4⟩
def F.PWM_PER.PER (k p : Nat) : Fld := ⟨R.PWM_PER k p, 0, 16⟩
def R.PWM_PHASE (k p : Nat) : Reg := ⟨spk k + 0x1008 + 0x40 * p, 0x00000000⟩
def F.PWM_PHASE.PHASE (k p : Nat) : Fld := ⟨R.PWM_PHASE k p, 0, 24⟩
def R.PWM_DT (k p : Nat) : Reg := ⟨spk k + 0x100C + 0x40 * p, 0x00000FA0⟩
def F.PWM_DT.DT (k p : Nat) : Fld := ⟨R.PWM_DT k p, 0, 14⟩
def R.PWM_ADT (k p : Nat) : Reg := ⟨spk k + 0x1010 + 0x40 * p, 0x1F400320⟩
def F.PWM_ADT.DT_MIN (k p : Nat) : Fld := ⟨R.PWM_ADT k p, 0, 14⟩
def F.PWM_ADT.DT_MAX (k p : Nat) : Fld := ⟨R.PWM_ADT k p, 16, 14⟩
def R.PWM_SENSE (k p : Nat) : Reg := ⟨spk k + 0x1014 + 0x40 * p, 0x000800A0⟩
def F.PWM_SENSE.MARGIN (k p : Nat) : Fld := ⟨R.PWM_SENSE k p, 0, 10⟩
def F.PWM_SENSE.SNS_TH (k p : Nat) : Fld := ⟨R.PWM_SENSE k p, 12, 8⟩
def R.PWM_PULSE (k p : Nat) : Reg := ⟨spk k + 0x1018 + 0x40 * p, 0x1F400640⟩
def F.PWM_PULSE.MIN_PULSE (k p : Nat) : Fld := ⟨R.PWM_PULSE k p, 0, 14⟩
def F.PWM_PULSE.REFRESH_W (k p : Nat) : Fld := ⟨R.PWM_PULSE k p, 16, 14⟩
def R.PWM_REFRESH (k p : Nat) : Reg := ⟨spk k + 0x101C + 0x40 * p, 0x000003E8⟩
def F.PWM_REFRESH.REFRESH_INT (k p : Nat) : Fld := ⟨R.PWM_REFRESH k p, 0, 16⟩
def R.PWM_TRIP_LIM (k p : Nat) : Reg := ⟨spk k + 0x1020 + 0x40 * p, 0x00004008⟩
def F.PWM_TRIP_LIM.TRIP_N (k p : Nat) : Fld := ⟨R.PWM_TRIP_LIM k p, 0, 8⟩
def F.PWM_TRIP_LIM.TRIP_M (k p : Nat) : Fld := ⟨R.PWM_TRIP_LIM k p, 8, 8⟩
def R.PWM_CMP (k p i : Nat) : Reg := ⟨spk k + 0x1024 + 0x40 * p + 4 * i, 0x00000000⟩
def F.PWM_CMP.VALUE (k p i : Nat) : Fld := ⟨R.PWM_CMP k p i, 0, 16⟩
def F.PWM_CMP.DIR (k p i : Nat) : Fld := ⟨R.PWM_CMP k p i, 16, 2⟩
def F.PWM_CMP.ADC_EN (k p i : Nat) : Fld := ⟨R.PWM_CMP k p i, 18, 1⟩
def F.PWM_CMP.AIN (k p i : Nat) : Fld := ⟨R.PWM_CMP k p i, 20, 4⟩
def R.PWM_STATUS (k p : Nat) : Reg := ⟨spk k + 0x1034 + 0x40 * p, 0x00000000⟩
def F.PWM_STATUS.STATE (k p : Nat) : Fld := ⟨R.PWM_STATUS k p, 0, 3⟩
def F.PWM_STATUS.LATCHED (k p : Nat) : Fld := ⟨R.PWM_STATUS k p, 3, 1⟩
def F.PWM_STATUS.TRIP_ACTIVE (k p : Nat) : Fld := ⟨R.PWM_STATUS k p, 4, 1⟩
def F.PWM_STATUS.CLAIMED (k p : Nat) : Fld := ⟨R.PWM_STATUS k p, 5, 1⟩
def F.PWM_STATUS.TRIP_CNT (k p : Nat) : Fld := ⟨R.PWM_STATUS k p, 8, 8⟩
def F.PWM_STATUS.TRIPPED (k p : Nat) : Fld := ⟨R.PWM_STATUS k p, 16, 1⟩
def F.PWM_STATUS.LATCH_SEEN (k p : Nat) : Fld := ⟨R.PWM_STATUS k p, 17, 1⟩
def F.PWM_STATUS.CLEAR_REFUSED (k p : Nat) : Fld := ⟨R.PWM_STATUS k p, 18, 1⟩
def F.PWM_STATUS.NARROW_H (k p : Nat) : Fld := ⟨R.PWM_STATUS k p, 19, 1⟩
def F.PWM_STATUS.NARROW_L (k p : Nat) : Fld := ⟨R.PWM_STATUS k p, 20, 1⟩
def F.PWM_STATUS.NO_CROSS (k p : Nat) : Fld := ⟨R.PWM_STATUS k p, 21, 1⟩
def F.PWM_STATUS.CFG_LOCKED (k p : Nat) : Fld := ⟨R.PWM_STATUS k p, 22, 1⟩
def R.PWM_CTL (k p : Nat) : Reg := ⟨spk k + 0x1038 + 0x40 * p, 0x00000000⟩
def F.PWM_CTL.CLEAR (k p : Nat) : Fld := ⟨R.PWM_CTL k p, 0, 1⟩
def R.PWM_COUNT (k p : Nat) : Reg := ⟨spk k + 0x103C + 0x40 * p, 0x00000000⟩
def F.PWM_COUNT.TRIPS (k p : Nat) : Fld := ⟨R.PWM_COUNT k p, 0, 12⟩
def F.PWM_COUNT.NO_CROSSES (k p : Nat) : Fld := ⟨R.PWM_COUNT k p, 12, 10⟩
def F.PWM_COUNT.REFRESHES (k p : Nat) : Fld := ⟨R.PWM_COUNT k p, 22, 10⟩
def R.PWM_TRIP_CFG (k : Nat) : Reg := ⟨spk k + 0x1300, 0x00000000⟩
def F.PWM_TRIP_CFG.FILT (k i : Nat) : Fld := ⟨R.PWM_TRIP_CFG k, 8 * i, 7⟩
def F.PWM_TRIP_CFG.POL (k i : Nat) : Fld := ⟨R.PWM_TRIP_CFG k, 8 * i + 7, 1⟩
def R.PWM_TRIP_STATUS (k : Nat) : Reg := ⟨spk k + 0x1304, 0x00000000⟩
def F.PWM_TRIP_STATUS.LEVEL (k : Nat) : Fld := ⟨R.PWM_TRIP_STATUS k, 0, 4⟩
def F.PWM_TRIP_STATUS.SEEN (k : Nat) : Fld := ⟨R.PWM_TRIP_STATUS k, 4, 4⟩
def R.TIM_CFG : Reg := ⟨0x0C000, 0x00000320⟩
def F.TIM_CFG.PPS_EN : Fld := ⟨R.TIM_CFG, 0, 1⟩
def F.TIM_CFG.PPS_POL : Fld := ⟨R.TIM_CFG, 1, 1⟩
def F.TIM_CFG.STEER : Fld := ⟨R.TIM_CFG, 2, 1⟩
def F.TIM_CFG.WIDTH : Fld := ⟨R.TIM_CFG, 3, 10⟩
def F.TIM_CFG.AUTO_HOLD : Fld := ⟨R.TIM_CFG, 13, 8⟩
def R.TIM_PPS_OFFSET : Reg := ⟨0x0C004, 0x00000000⟩
def F.TIM_PPS_OFFSET.OFFSET : Fld := ⟨R.TIM_PPS_OFFSET, 0, 32⟩
def R.TIM_HOLD : Reg := ⟨0x0C008, 0x6464000A⟩
def F.TIM_HOLD.HOLD_RATE : Fld := ⟨R.TIM_HOLD, 0, 16⟩
def F.TIM_HOLD.AO_PPM : Fld := ⟨R.TIM_HOLD, 16, 8⟩
def F.TIM_HOLD.SLEW : Fld := ⟨R.TIM_HOLD, 24, 7⟩
def R.TIM_UNC_LIMIT : Reg := ⟨0x0C00C, 0x00000000⟩
def F.TIM_UNC_LIMIT.UNC_LIMIT : Fld := ⟨R.TIM_UNC_LIMIT, 0, 32⟩
def R.TIM_STATUS : Reg := ⟨0x0C010, 0x00000000⟩
def F.TIM_STATUS.VALID : Fld := ⟨R.TIM_STATUS, 0, 1⟩
def F.TIM_STATUS.HOLDOVER : Fld := ⟨R.TIM_STATUS, 1, 1⟩
def F.TIM_STATUS.SLEWING : Fld := ⟨R.TIM_STATUS, 2, 1⟩
def F.TIM_STATUS.STEP_PENDING : Fld := ⟨R.TIM_STATUS, 3, 1⟩
def F.TIM_STATUS.STEER_LIMIT : Fld := ⟨R.TIM_STATUS, 4, 1⟩
def F.TIM_STATUS.STEPPED : Fld := ⟨R.TIM_STATUS, 8, 1⟩
def F.TIM_STATUS.HOLD_ENTERED : Fld := ⟨R.TIM_STATUS, 9, 1⟩
def F.TIM_STATUS.UNC_OVER : Fld := ⟨R.TIM_STATUS, 10, 1⟩
def F.TIM_STATUS.EPOCH_DROP : Fld := ⟨R.TIM_STATUS, 11, 1⟩
def F.TIM_STATUS.STEPS : Fld := ⟨R.TIM_STATUS, 16, 16⟩
def R.TIM_UNC : Reg := ⟨0x0C014, 0xFFFFFFFF⟩
def F.TIM_UNC.UNC : Fld := ⟨R.TIM_UNC, 0, 32⟩
def R.TIM_FT_LO : Reg := ⟨0x0C018, 0x00000000⟩
def F.TIM_FT_LO.FT : Fld := ⟨R.TIM_FT_LO, 0, 32⟩
def R.TIM_FT_HI : Reg := ⟨0x0C01C, 0x00000000⟩
def F.TIM_FT_HI.FT : Fld := ⟨R.TIM_FT_HI, 0, 32⟩
def R.TIM_PT_LO : Reg := ⟨0x0C020, 0x00000000⟩
def F.TIM_PT_LO.PT : Fld := ⟨R.TIM_PT_LO, 0, 32⟩
def R.TIM_PT_HI : Reg := ⟨0x0C024, 0x00000000⟩
def F.TIM_PT_HI.PT : Fld := ⟨R.TIM_PT_HI, 0, 32⟩
def R.TIM_RATE : Reg := ⟨0x0C028, 0x00000000⟩
def F.TIM_RATE.RATE : Fld := ⟨R.TIM_RATE, 0, 32⟩
def R.GNB_EPOCH : Reg := ⟨0x0C040, 0x00000064⟩
def F.GNB_EPOCH.EPOCH_MS : Fld := ⟨R.GNB_EPOCH, 0, 10⟩
def F.GNB_EPOCH.ALIGN : Fld := ⟨R.GNB_EPOCH, 10, 1⟩
def R.GNB_CFG (k : Nat) : Reg := ⟨spk k + 0x2800, 0x00000000⟩
def F.GNB_CFG.EN (k : Nat) : Fld := ⟨R.GNB_CFG k, 0, 1⟩
def F.GNB_CFG.INVERT (k : Nat) : Fld := ⟨R.GNB_CFG k, 1, 1⟩
def F.GNB_CFG.AGC_POL (k : Nat) : Fld := ⟨R.GNB_CFG k, 2, 1⟩
def F.GNB_CFG.IF (k : Nat) : Fld := ⟨R.GNB_CFG k, 8, 24⟩
def R.GNB_SV_GPS (k : Nat) : Reg := ⟨spk k + 0x2804, 0xFFFFFFFF⟩
def F.GNB_SV_GPS.EN (k : Nat) : Fld := ⟨R.GNB_SV_GPS k, 0, 32⟩
def R.GNB_SV_GAL_LO (k : Nat) : Reg := ⟨spk k + 0x2808, 0xFFFFFFFF⟩
def F.GNB_SV_GAL_LO.EN (k : Nat) : Fld := ⟨R.GNB_SV_GAL_LO k, 0, 32⟩
def R.GNB_SV_GAL_HI (k : Nat) : Reg := ⟨spk k + 0x280C, 0x0000000F⟩
def F.GNB_SV_GAL_HI.EN (k : Nat) : Fld := ⟨R.GNB_SV_GAL_HI k, 0, 4⟩
def R.GNB_TRACK (k : Nat) : Reg := ⟨spk k + 0x2810, 0x00C9928F⟩
def F.GNB_TRACK.PLL_BW (k : Nat) : Fld := ⟨R.GNB_TRACK k, 0, 6⟩
def F.GNB_TRACK.DLL_BW (k : Nat) : Fld := ⟨R.GNB_TRACK k, 6, 6⟩
def F.GNB_TRACK.DROP (k : Nat) : Fld := ⟨R.GNB_TRACK k, 12, 6⟩
def F.GNB_TRACK.ACQ_DOPP (k : Nat) : Fld := ⟨R.GNB_TRACK k, 18, 8⟩
def R.GNB_TAPS (k : Nat) : Reg := ⟨spk k + 0x2814, 0x00808810⟩
def F.GNB_TAPS.GPS_EL (k : Nat) : Fld := ⟨R.GNB_TAPS k, 0, 6⟩
def F.GNB_TAPS.GPS_VE (k : Nat) : Fld := ⟨R.GNB_TAPS k, 6, 6⟩
def F.GNB_TAPS.GAL_EL (k : Nat) : Fld := ⟨R.GNB_TAPS k, 12, 6⟩
def F.GNB_TAPS.GAL_VE (k : Nat) : Fld := ⟨R.GNB_TAPS k, 18, 6⟩
def R.GNB_NOTCH_CFG (k : Nat) : Reg := ⟨spk k + 0x2818, 0x00000F55⟩
def F.GNB_NOTCH_CFG.MODE (k i : Nat) : Fld := ⟨R.GNB_NOTCH_CFG k, 2 * i, 2⟩
def F.GNB_NOTCH_CFG.WIDTH (k : Nat) : Fld := ⟨R.GNB_NOTCH_CFG k, 6, 2⟩
def F.GNB_NOTCH_CFG.TH (k : Nat) : Fld := ⟨R.GNB_NOTCH_CFG k, 8, 8⟩
def R.GNB_NOTCH (k i : Nat) : Reg := ⟨spk k + 0x281C + 4 * i, 0x00000000⟩
def F.GNB_NOTCH.FIXED_F (k i : Nat) : Fld := ⟨R.GNB_NOTCH k i, 0, 16⟩
def F.GNB_NOTCH.LIVE_F (k i : Nat) : Fld := ⟨R.GNB_NOTCH k i, 16, 16⟩
def R.GNB_JAM (k : Nat) : Reg := ⟨spk k + 0x2828, 0x4D420058⟩
def F.GNB_JAM.JI_TH (k : Nat) : Fld := ⟨R.GNB_JAM k, 0, 4⟩
def F.GNB_JAM.JI_N (k : Nat) : Fld := ⟨R.GNB_JAM k, 4, 4⟩
def F.GNB_JAM.AGC_NOM (k : Nat) : Fld := ⟨R.GNB_JAM k, 8, 10⟩
def F.GNB_JAM.AGC_STEP (k : Nat) : Fld := ⟨R.GNB_JAM k, 18, 6⟩
def F.GNB_JAM.AGC_TARGET (k : Nat) : Fld := ⟨R.GNB_JAM k, 24, 8⟩
def R.GNB_STATUS (k : Nat) : Reg := ⟨spk k + 0x282C, 0x00000000⟩
def F.GNB_STATUS.JI (k : Nat) : Fld := ⟨R.GNB_STATUS k, 0, 4⟩
def F.GNB_STATUS.AGC (k : Nat) : Fld := ⟨R.GNB_STATUS k, 4, 10⟩
def F.GNB_STATUS.TRACKING (k : Nat) : Fld := ⟨R.GNB_STATUS k, 14, 5⟩
def F.GNB_STATUS.JAM (k : Nat) : Fld := ⟨R.GNB_STATUS k, 19, 1⟩
def F.GNB_STATUS.JAM_SEEN (k : Nat) : Fld := ⟨R.GNB_STATUS k, 20, 1⟩
def F.GNB_STATUS.SCLK_BAD (k : Nat) : Fld := ⟨R.GNB_STATUS k, 21, 1⟩
def F.GNB_STATUS.SCLK_SEEN (k : Nat) : Fld := ⟨R.GNB_STATUS k, 22, 1⟩
def R.GNB_SCLK (k : Nat) : Reg := ⟨spk k + 0x2830, 0x00000000⟩
def F.GNB_SCLK.PPM (k : Nat) : Fld := ⟨R.GNB_SCLK k, 0, 16⟩
def R.GNB_CH (k c : Nat) : Reg := ⟨spk k + 0x2840 + 4 * c, 0x00000000⟩
def F.GNB_CH.PRN (k c : Nat) : Fld := ⟨R.GNB_CH k c, 0, 6⟩
def F.GNB_CH.SYSTEM (k c : Nat) : Fld := ⟨R.GNB_CH k c, 6, 1⟩
def F.GNB_CH.STATE (k c : Nat) : Fld := ⟨R.GNB_CH k c, 8, 2⟩
def F.GNB_CH.CN0 (k c : Nat) : Fld := ⟨R.GNB_CH k c, 16, 16⟩
def R.CAN_CFG (n : Nat) : Reg := ⟨canBase n + 0x000, 0x00000012⟩
def F.CAN_CFG.EN (n : Nat) : Fld := ⟨R.CAN_CFG n, 0, 1⟩
def F.CAN_CFG.HALT (n : Nat) : Fld := ⟨R.CAN_CFG n, 1, 1⟩
def F.CAN_CFG.FD_EN (n : Nat) : Fld := ⟨R.CAN_CFG n, 2, 1⟩
def F.CAN_CFG.LISTEN (n : Nat) : Fld := ⟨R.CAN_CFG n, 3, 1⟩
def F.CAN_CFG.BO_AUTO (n : Nat) : Fld := ⟨R.CAN_CFG n, 4, 1⟩
def F.CAN_CFG.FIFO_OW (n : Nat) : Fld := ⟨R.CAN_CFG n, 5, 1⟩
def F.CAN_CFG.DROP_STD (n : Nat) : Fld := ⟨R.CAN_CFG n, 6, 1⟩
def F.CAN_CFG.DROP_EXT (n : Nat) : Fld := ⟨R.CAN_CFG n, 7, 1⟩
def F.CAN_CFG.DROP_RTR (n : Nat) : Fld := ⟨R.CAN_CFG n, 8, 1⟩
def F.CAN_CFG.RETRY (n : Nat) : Fld := ⟨R.CAN_CFG n, 9, 4⟩
def F.CAN_CFG.TRIPLE (n : Nat) : Fld := ⟨R.CAN_CFG n, 13, 1⟩
def R.CAN_NOMBIT (n : Nat) : Reg := ⟨canBase n + 0x004, 0x020FC410⟩
def F.CAN_NOMBIT.NJW (n : Nat) : Fld := ⟨R.CAN_NOMBIT n, 0, 6⟩
def F.CAN_NOMBIT.NSEGB (n : Nat) : Fld := ⟨R.CAN_NOMBIT n, 6, 8⟩
def F.CAN_NOMBIT.NSEGA (n : Nat) : Fld := ⟨R.CAN_NOMBIT n, 14, 9⟩
def F.CAN_NOMBIT.NPRE (n : Nat) : Fld := ⟨R.CAN_NOMBIT n, 23, 9⟩
def R.CAN_DATABIT (n : Nat) : Reg := ⟨canBase n + 0x008, 0x10417D08⟩
def F.CAN_DATABIT.DJW (n : Nat) : Fld := ⟨R.CAN_DATABIT n, 0, 5⟩
def F.CAN_DATABIT.DSEGB (n : Nat) : Fld := ⟨R.CAN_DATABIT n, 5, 5⟩
def F.CAN_DATABIT.DSEGA (n : Nat) : Fld := ⟨R.CAN_DATABIT n, 10, 6⟩
def F.CAN_DATABIT.DPRE (n : Nat) : Fld := ⟨R.CAN_DATABIT n, 16, 6⟩
def F.CAN_DATABIT.DCOMP (n : Nat) : Fld := ⟨R.CAN_DATABIT n, 22, 1⟩
def F.CAN_DATABIT.DCOMP_OFS (n : Nat) : Fld := ⟨R.CAN_DATABIT n, 23, 7⟩
def R.CAN_FILT (n : Nat) : Reg := ⟨canBase n + 0x00C, 0x00000000⟩
def F.CAN_FILT.STD_COUNT (n : Nat) : Fld := ⟨R.CAN_FILT n, 0, 8⟩
def F.CAN_FILT.EXT_COUNT (n : Nat) : Fld := ⟨R.CAN_FILT n, 8, 7⟩
def R.CAN_RXB_LO (n : Nat) : Reg := ⟨canBase n + 0x010, 0x00000000⟩
def F.CAN_RXB_LO.EN (n : Nat) : Fld := ⟨R.CAN_RXB_LO n, 0, 1⟩
def F.CAN_RXB_LO.ADDR (n : Nat) : Fld := ⟨R.CAN_RXB_LO n, 8, 24⟩
def R.CAN_RXB_HI (n : Nat) : Reg := ⟨canBase n + 0x014, 0x00000000⟩
def F.CAN_RXB_HI.ADDR (n : Nat) : Fld := ⟨R.CAN_RXB_HI n, 0, 32⟩
def R.CAN_STATUS (n : Nat) : Reg := ⟨canBase n + 0x020, 0x00000003⟩
def F.CAN_STATUS.STATE (n : Nat) : Fld := ⟨R.CAN_STATUS n, 0, 2⟩
def F.CAN_STATUS.ALONE (n : Nat) : Fld := ⟨R.CAN_STATUS n, 2, 1⟩
def F.CAN_STATUS.LISTEN_ONLY (n : Nat) : Fld := ⟨R.CAN_STATUS n, 3, 1⟩
def F.CAN_STATUS.BUS_OFF_SEEN (n : Nat) : Fld := ⟨R.CAN_STATUS n, 8, 1⟩
def F.CAN_STATUS.PASSIVE_SEEN (n : Nat) : Fld := ⟨R.CAN_STATUS n, 9, 1⟩
def F.CAN_STATUS.ALONE_SEEN (n : Nat) : Fld := ⟨R.CAN_STATUS n, 10, 1⟩
def F.CAN_STATUS.ID_COLLISION (n : Nat) : Fld := ⟨R.CAN_STATUS n, 11, 1⟩
def F.CAN_STATUS.RX_LOST (n : Nat) : Fld := ⟨R.CAN_STATUS n, 12, 1⟩
def F.CAN_STATUS.TIMING_BAD (n : Nat) : Fld := ⟨R.CAN_STATUS n, 13, 1⟩
def F.CAN_STATUS.CFG_DISCARDED (n : Nat) : Fld := ⟨R.CAN_STATUS n, 14, 1⟩
def F.CAN_STATUS.EXC_SEEN (n : Nat) : Fld := ⟨R.CAN_STATUS n, 15, 1⟩
def F.CAN_STATUS.SUM_FAIL (n : Nat) : Fld := ⟨R.CAN_STATUS n, 16, 1⟩
def R.CAN_ERR (n : Nat) : Reg := ⟨canBase n + 0x024, 0x00000000⟩
def F.CAN_ERR.TEC (n : Nat) : Fld := ⟨R.CAN_ERR n, 0, 8⟩
def F.CAN_ERR.REC (n : Nat) : Fld := ⟨R.CAN_ERR n, 8, 7⟩
def F.CAN_ERR.REC_PASSIVE (n : Nat) : Fld := ⟨R.CAN_ERR n, 15, 1⟩
def F.CAN_ERR.ERR (n : Nat) : Fld := ⟨R.CAN_ERR n, 16, 3⟩
def F.CAN_ERR.DATA_ERR (n : Nat) : Fld := ⟨R.CAN_ERR n, 20, 3⟩
def R.CAN_COLL_ID (n : Nat) : Reg := ⟨canBase n + 0x028, 0x00000000⟩
def F.CAN_COLL_ID.ID (n : Nat) : Fld := ⟨R.CAN_COLL_ID n, 0, 29⟩
def F.CAN_COLL_ID.IDE (n : Nat) : Fld := ⟨R.CAN_COLL_ID n, 29, 1⟩
def R.CAN_COUNT (n : Nat) : Reg := ⟨canBase n + 0x02C, 0x00000000⟩
def F.CAN_COUNT.BUS_OFFS (n : Nat) : Fld := ⟨R.CAN_COUNT n, 0, 8⟩
def F.CAN_COUNT.EXCEPTIONS (n : Nat) : Fld := ⟨R.CAN_COUNT n, 8, 8⟩
def F.CAN_COUNT.RX_LOST (n : Nat) : Fld := ⟨R.CAN_COUNT n, 16, 16⟩
def R.CAN_QUEUE (n : Nat) : Reg := ⟨canBase n + 0x030, 0x00000000⟩
def F.CAN_QUEUE.TX_FILL (n : Nat) : Fld := ⟨R.CAN_QUEUE n, 0, 6⟩
def F.CAN_QUEUE.RX_FILL (n : Nat) : Fld := ⟨R.CAN_QUEUE n, 8, 7⟩
def F.CAN_QUEUE.SUM_PENDING (n : Nat) : Fld := ⟨R.CAN_QUEUE n, 16, 1⟩
def R.CAN_LOOP_DELAY (n : Nat) : Reg := ⟨canBase n + 0x034, 0x00000000⟩
def F.CAN_LOOP_DELAY.DELAY (n : Nat) : Fld := ⟨R.CAN_LOOP_DELAY n, 0, 7⟩
def R.CAN_CTL (n : Nat) : Reg := ⟨canBase n + 0x038, 0x00000000⟩
def F.CAN_CTL.RECOVER (n : Nat) : Fld := ⟨R.CAN_CTL n, 0, 1⟩
def R.CAN_SUM_CFG (n : Nat) : Reg := ⟨canBase n + 0x040, 0x00640000⟩
def F.CAN_SUM_CFG.EN (n : Nat) : Fld := ⟨R.CAN_SUM_CFG n, 0, 1⟩
def F.CAN_SUM_CFG.ON_CHANGE (n : Nat) : Fld := ⟨R.CAN_SUM_CFG n, 1, 1⟩
def F.CAN_SUM_CFG.MIXED_ON (n : Nat) : Fld := ⟨R.CAN_SUM_CFG n, 2, 1⟩
def F.CAN_SUM_CFG.G_FIRST (n : Nat) : Fld := ⟨R.CAN_SUM_CFG n, 8, 8⟩
def F.CAN_SUM_CFG.PERIOD (n : Nat) : Fld := ⟨R.CAN_SUM_CFG n, 16, 16⟩
def R.CAN_SUM_ID (n : Nat) : Reg := ⟨canBase n + 0x044, 0x00000000⟩
def F.CAN_SUM_ID.ID (n : Nat) : Fld := ⟨R.CAN_SUM_ID n, 0, 29⟩
def F.CAN_SUM_ID.IDE (n : Nat) : Fld := ⟨R.CAN_SUM_ID n, 29, 1⟩
def R.CAN_SUM_TPL (n : Nat) : Reg := ⟨canBase n + 0x048, 0x00000000⟩
def F.CAN_SUM_TPL.TPL (n : Nat) : Fld := ⟨R.CAN_SUM_TPL n, 0, 32⟩
def R.CAN_SUM_LAST (n : Nat) : Reg := ⟨canBase n + 0x04C, 0x00000000⟩
def F.CAN_SUM_LAST.V (n : Nat) : Fld := ⟨R.CAN_SUM_LAST n, 0, 32⟩
def R.CAN_SB_CFG : Reg := ⟨0x0A800 + 0x080, 0x00000000⟩
def F.CAN_SB_CFG.ROLE : Fld := ⟨R.CAN_SB_CFG, 0, 2⟩
def F.CAN_SB_CFG.POSE_IN : Fld := ⟨R.CAN_SB_CFG, 2, 1⟩
def F.CAN_SB_CFG.POSE_OUT : Fld := ⟨R.CAN_SB_CFG, 3, 1⟩
def F.CAN_SB_CFG.MIRROR : Fld := ⟨R.CAN_SB_CFG, 4, 1⟩
def F.CAN_SB_CFG.ADDR : Fld := ⟨R.CAN_SB_CFG, 8, 6⟩
def F.CAN_SB_CFG.LEADER : Fld := ⟨R.CAN_SB_CFG, 16, 6⟩
def F.CAN_SB_CFG.NFOL : Fld := ⟨R.CAN_SB_CFG, 24, 4⟩
def R.CAN_SB_STATUS : Reg := ⟨0x0A800 + 0x084, 0x00000000⟩
def F.CAN_SB_STATUS.PROBED : Fld := ⟨R.CAN_SB_STATUS, 0, 1⟩
def F.CAN_SB_STATUS.DUP_ADDR : Fld := ⟨R.CAN_SB_STATUS, 1, 1⟩
def F.CAN_SB_STATUS.CONFLICT : Fld := ⟨R.CAN_SB_STATUS, 2, 1⟩
def F.CAN_SB_STATUS.PLANNER_OK : Fld := ⟨R.CAN_SB_STATUS, 3, 1⟩
def F.CAN_SB_STATUS.LEADER_LOST_SEEN : Fld := ⟨R.CAN_SB_STATUS, 8, 1⟩
def F.CAN_SB_STATUS.FOLLOWER_LOST_SEEN : Fld := ⟨R.CAN_SB_STATUS, 9, 1⟩
def F.CAN_SB_STATUS.PLANNER_LOST_SEEN : Fld := ⟨R.CAN_SB_STATUS, 10, 1⟩
def F.CAN_SB_STATUS.DUP_SEEN : Fld := ⟨R.CAN_SB_STATUS, 11, 1⟩
def F.CAN_SB_STATUS.CONFLICT_SEEN : Fld := ⟨R.CAN_SB_STATUS, 12, 1⟩
def F.CAN_SB_STATUS.BAD_SEEN : Fld := ⟨R.CAN_SB_STATUS, 13, 1⟩
def R.CAN_SB_PRESENT : Reg := ⟨0x0A800 + 0x088, 0x00000000⟩
def F.CAN_SB_PRESENT.IN_FORCE : Fld := ⟨R.CAN_SB_PRESENT, 0, 15⟩
def R.CAN_SB_COUNT : Reg := ⟨0x0A800 + 0x08C, 0x00000000⟩
def F.CAN_SB_COUNT.BAD : Fld := ⟨R.CAN_SB_COUNT, 0, 8⟩
def F.CAN_SB_COUNT.MISSED : Fld := ⟨R.CAN_SB_COUNT, 8, 8⟩
def F.CAN_SB_COUNT.DUP : Fld := ⟨R.CAN_SB_COUNT, 16, 8⟩
def F.CAN_SB_COUNT.BAD_ENTRY : Fld := ⟨R.CAN_SB_COUNT, 24, 8⟩
def R.TIM_IMPL_STATUS : Reg := ⟨0x0C02C, 0x00000000⟩
def F.TIM_IMPL_STATUS.STATE : Fld := ⟨R.TIM_IMPL_STATUS, 0, 3⟩
def F.TIM_IMPL_STATUS.LEADER_LOST : Fld := ⟨R.TIM_IMPL_STATUS, 3, 1⟩
def F.TIM_IMPL_STATUS.MISMATCH : Fld := ⟨R.TIM_IMPL_STATUS, 4, 1⟩
def F.TIM_IMPL_STATUS.LOCK_SEEN : Fld := ⟨R.TIM_IMPL_STATUS, 8, 1⟩
def F.TIM_IMPL_STATUS.UNLOCK_SEEN : Fld := ⟨R.TIM_IMPL_STATUS, 9, 1⟩
def F.TIM_IMPL_STATUS.REACQ_SEEN : Fld := ⟨R.TIM_IMPL_STATUS, 10, 1⟩
def F.TIM_IMPL_STATUS.REACQS : Fld := ⟨R.TIM_IMPL_STATUS, 16, 16⟩
def R.TIM_IMPL_OFF_LO : Reg := ⟨0x0C030, 0x00000000⟩
def F.TIM_IMPL_OFF_LO.O : Fld := ⟨R.TIM_IMPL_OFF_LO, 0, 32⟩
def R.TIM_IMPL_OFF_HI : Reg := ⟨0x0C034, 0x00000000⟩
def F.TIM_IMPL_OFF_HI.O : Fld := ⟨R.TIM_IMPL_OFF_HI, 0, 32⟩
def R.TIM_IMPL_ERR : Reg := ⟨0x0C038, 0x00000000⟩
def F.TIM_IMPL_ERR.E : Fld := ⟨R.TIM_IMPL_ERR, 0, 32⟩
def R.TIM_IMPL_FREQ : Reg := ⟨0x0C03C, 0x00000000⟩
def F.TIM_IMPL_FREQ.FREQ : Fld := ⟨R.TIM_IMPL_FREQ, 0, 32⟩
def R.HIC_STATUS : Reg := ⟨0x03000, 0x00000000⟩
def F.HIC_STATUS.CFG_DISCARDED : Fld := ⟨R.HIC_STATUS, 0, 1⟩
def F.HIC_STATUS.EOI_UNDERFLOW : Fld := ⟨R.HIC_STATUS, 1, 1⟩
def R.HIC_PEND (w : Nat) : Reg := ⟨0x03080 + 4 * w, 0x00000000⟩
def F.HIC_PEND.PEND (w : Nat) : Fld := ⟨R.HIC_PEND w, 0, 32⟩
def R.HIC_EN (w : Nat) : Reg := ⟨0x03100 + 4 * w, 0x00000000⟩
def F.HIC_EN.EN (w : Nat) : Fld := ⟨R.HIC_EN w, 0, 32⟩
def R.HIC_MASK (w : Nat) : Reg := ⟨0x03180 + 4 * w, 0x00000000⟩
def F.HIC_MASK.MASK (w : Nat) : Fld := ⟨R.HIC_MASK w, 0, 32⟩
def R.HIC_RAW (w : Nat) : Reg := ⟨0x03200 + 4 * w, 0x00000000⟩
def F.HIC_RAW.RAW (w : Nat) : Fld := ⟨R.HIC_RAW w, 0, 32⟩
def R.HIC_CFG (m : Nat) : Reg := ⟨0x03400 + 4 * m, (if m < 80 then 0 else 0x01000100)⟩
def F.HIC_CFG.SRC_EVEN (m : Nat) : Fld := ⟨R.HIC_CFG m, 0, 16⟩
def F.HIC_CFG.SRC_ODD (m : Nat) : Fld := ⟨R.HIC_CFG m, 16, 16⟩
def R.HIC_CORE_STATUS (k : Nat) : Reg := ⟨0x03C00 + 0x10 * k, 0x00000000⟩
def F.HIC_CORE_STATUS.RUN_PRIO (k : Nat) : Fld := ⟨R.HIC_CORE_STATUS k, 0, 4⟩
def F.HIC_CORE_STATUS.DEPTH (k : Nat) : Fld := ⟨R.HIC_CORE_STATUS k, 4, 4⟩
def F.HIC_CORE_STATUS.GATED (k : Nat) : Fld := ⟨R.HIC_CORE_STATUS k, 8, 1⟩
def F.HIC_CORE_STATUS.SPURIOUS (k : Nat) : Fld := ⟨R.HIC_CORE_STATUS k, 16, 16⟩
def R.HIC_CORE_EOI (k : Nat) : Reg := ⟨0x03C04 + 0x10 * k, 0x00000000⟩
def F.HIC_CORE_EOI.NOTHING (k : Nat) : Fld := ⟨R.HIC_CORE_EOI k, 0, 1⟩
def R.HIC_NUDGE (k : Nat) : Reg := ⟨0x03C08 + 0x10 * k, 0x00000000⟩
def F.HIC_NUDGE.INDEX (k : Nat) : Fld := ⟨R.HIC_NUDGE k, 0, 4⟩
def F.HIC_NUDGE.RAISE (k : Nat) : Fld := ⟨R.HIC_NUDGE k, 4, 1⟩
def F.HIC_NUDGE.LOWER (k : Nat) : Fld := ⟨R.HIC_NUDGE k, 5, 1⟩
def R.SIC_STATUS (k : Nat) : Reg := ⟨spk k + 0x3800, 0x00000000⟩
def F.SIC_STATUS.CFG_DISCARDED (k : Nat) : Fld := ⟨R.SIC_STATUS k, 0, 1⟩
def F.SIC_STATUS.EOI_UNDERFLOW (k : Nat) : Fld := ⟨R.SIC_STATUS k, 1, 1⟩
def R.SIC_CORE (k : Nat) : Reg := ⟨spk k + 0x3804, 0x00000000⟩
def F.SIC_CORE.RUN_PRIO (k : Nat) : Fld := ⟨R.SIC_CORE k, 0, 4⟩
def F.SIC_CORE.DEPTH (k : Nat) : Fld := ⟨R.SIC_CORE k, 4, 4⟩
def F.SIC_CORE.GATED (k : Nat) : Fld := ⟨R.SIC_CORE k, 8, 1⟩
def F.SIC_CORE.SPURIOUS (k : Nat) : Fld := ⟨R.SIC_CORE k, 16, 16⟩
def R.SIC_EOI (k : Nat) : Reg := ⟨spk k + 0x3808, 0x00000000⟩
def F.SIC_EOI.NOTHING (k : Nat) : Fld := ⟨R.SIC_EOI k, 0, 1⟩
def R.SIC_NUDGE (k : Nat) : Reg := ⟨spk k + 0x380C, 0x00000000⟩
def F.SIC_NUDGE.INDEX (k : Nat) : Fld := ⟨R.SIC_NUDGE k, 0, 4⟩
def F.SIC_NUDGE.RAISE (k : Nat) : Fld := ⟨R.SIC_NUDGE k, 4, 1⟩
def F.SIC_NUDGE.LOWER (k : Nat) : Fld := ⟨R.SIC_NUDGE k, 5, 1⟩
def R.SIC_PEND (k w : Nat) : Reg := ⟨spk k + 0x3820 + 4 * w, 0x00000000⟩
def F.SIC_PEND.PEND (k w : Nat) : Fld := ⟨R.SIC_PEND k w, 0, 32⟩
def R.SIC_EN (k w : Nat) : Reg := ⟨spk k + 0x3840 + 4 * w, 0x00000000⟩
def F.SIC_EN.EN (k w : Nat) : Fld := ⟨R.SIC_EN k w, 0, 32⟩
def R.SIC_MASK (k w : Nat) : Reg := ⟨spk k + 0x3860 + 4 * w, 0x00000000⟩
def F.SIC_MASK.MASK (k w : Nat) : Fld := ⟨R.SIC_MASK k w, 0, 32⟩
def R.SIC_RAW (k w : Nat) : Reg := ⟨spk k + 0x3880 + 4 * w, 0x00000000⟩
def F.SIC_RAW.RAW (k w : Nat) : Fld := ⟨R.SIC_RAW k w, 0, 32⟩
def R.SIC_CFG (k m : Nat) : Reg := ⟨spk k + 0x3900 + 4 * m, (if m < 16 then 0 else 0x01000100)⟩
def F.SIC_CFG.SRC_EVEN (k m : Nat) : Fld := ⟨R.SIC_CFG k m, 0, 16⟩
def F.SIC_CFG.SRC_ODD (k m : Nat) : Fld := ⟨R.SIC_CFG k m, 16, 16⟩
def R.LOG_CFG : Reg := ⟨0x04000, 0x00000005⟩
def F.LOG_CFG.FREEZE_TO : Fld := ⟨R.LOG_CFG, 0, 6⟩
def R.LOG_STATUS : Reg := ⟨0x04004, 0x00000000⟩
def F.LOG_STATUS.FROZEN : Fld := ⟨R.LOG_STATUS, 0, 1⟩
def F.LOG_STATUS.SCANNED : Fld := ⟨R.LOG_STATUS, 1, 1⟩
def F.LOG_STATUS.ERASING : Fld := ⟨R.LOG_STATUS, 2, 1⟩
def F.LOG_STATUS.GALLEY : Fld := ⟨R.LOG_STATUS, 8, 7⟩
def F.LOG_STATUS.DROP_SEEN : Fld := ⟨R.LOG_STATUS, 16, 1⟩
def F.LOG_STATUS.GALLEY_DROP_SEEN : Fld := ⟨R.LOG_STATUS, 17, 1⟩
def F.LOG_STATUS.FREEZE_TIMEOUT : Fld := ⟨R.LOG_STATUS, 18, 1⟩
def F.LOG_STATUS.CORRUPT_SEEN : Fld := ⟨R.LOG_STATUS, 19, 1⟩
def F.LOG_STATUS.ERASE_REFUSED : Fld := ⟨R.LOG_STATUS, 20, 1⟩
def R.LOG_NEXT_SEQ : Reg := ⟨0x04008, 0x00000000⟩
def F.LOG_NEXT_SEQ.SEQ : Fld := ⟨R.LOG_NEXT_SEQ, 0, 32⟩
def R.LOG_OLDEST_SEQ : Reg := ⟨0x0400C, 0x00000000⟩
def F.LOG_OLDEST_SEQ.SEQ : Fld := ⟨R.LOG_OLDEST_SEQ, 0, 32⟩
def R.LOG_COUNT : Reg := ⟨0x04010, 0x00000000⟩
def F.LOG_COUNT.VALID : Fld := ⟨R.LOG_COUNT, 0, 13⟩
def F.LOG_COUNT.CORRUPT : Fld := ⟨R.LOG_COUNT, 16, 13⟩
def R.LOG_OPTIME_LO : Reg := ⟨0x04014, 0x00000000⟩
def F.LOG_OPTIME_LO.OP_TIME : Fld := ⟨R.LOG_OPTIME_LO, 0, 32⟩
def R.LOG_OPTIME_HI : Reg := ⟨0x04018, 0x00000000⟩
def F.LOG_OPTIME_HI.OP_TIME : Fld := ⟨R.LOG_OPTIME_HI, 0, 4⟩
def R.LOG_PCYC : Reg := ⟨0x0401C, 0x00000000⟩
def F.LOG_PCYC.PCYC : Fld := ⟨R.LOG_PCYC, 0, 24⟩
def R.LOG_DROP_LO : Reg := ⟨0x04020, 0x00000000⟩
def F.LOG_DROP_LO.DROP (i : Nat) : Fld := ⟨R.LOG_DROP_LO, 8 * i, 8⟩
def R.LOG_DROP_HI : Reg := ⟨0x04024, 0x00000000⟩
def F.LOG_DROP_HI.DROP (i : Nat) : Fld := ⟨R.LOG_DROP_HI, 8 * i, 8⟩
def R.LOG_GDROP_LO : Reg := ⟨0x04028, 0x00000000⟩
def F.LOG_GDROP_LO.GDROP (i : Nat) : Fld := ⟨R.LOG_GDROP_LO, 8 * i, 8⟩
def R.LOG_GDROP_HI : Reg := ⟨0x0402C, 0x00000000⟩
def F.LOG_GDROP_HI.GDROP (i : Nat) : Fld := ⟨R.LOG_GDROP_HI, 8 * i, 8⟩
def R.LOG_CTL : Reg := ⟨0x04030, 0x00000000⟩
def F.LOG_CTL.ERASE : Fld := ⟨R.LOG_CTL, 0, 16⟩
def R.HLT_CFG : Reg := ⟨0x05000, 0x00000000⟩
def F.HLT_CFG.APPLY : Fld := ⟨R.HLT_CFG, 0, 1⟩
def R.HLT_STATUS : Reg := ⟨0x05004, 0x00000000⟩
def F.HLT_STATUS.LASTING : Fld := ⟨R.HLT_STATUS, 0, 1⟩
def F.HLT_STATUS.LASTING_SEEN : Fld := ⟨R.HLT_STATUS, 8, 1⟩
def F.HLT_STATUS.MARGIN_LOW : Fld := ⟨R.HLT_STATUS, 9, 1⟩
def F.HLT_STATUS.CLEAR_REFUSED : Fld := ⟨R.HLT_STATUS, 10, 1⟩
def F.HLT_STATUS.REPORT_HELD : Fld := ⟨R.HLT_STATUS, 11, 1⟩
def F.HLT_STATUS.LASTING_NOW : Fld := ⟨R.HLT_STATUS, 16, 16⟩
def R.HLT_REPLAN : Reg := ⟨0x05008, 0x00008CA0⟩
def F.HLT_REPLAN.REMAIN : Fld := ⟨R.HLT_REPLAN, 0, 32⟩
def R.HLT_PKG : Reg := ⟨0x0500C, 0⟩
def F.HLT_PKG.PKG_ILIM : Fld := ⟨R.HLT_PKG, 0, 16⟩
def R.HLT_SEL : Reg := ⟨0x05010, 0x00000000⟩
def F.HLT_SEL.CLASS : Fld := ⟨R.HLT_SEL, 0, 5⟩
def F.HLT_SEL.INSTANCE : Fld := ⟨R.HLT_SEL, 8, 11⟩
def R.HLT_INST : Reg := ⟨0x05014, 0x00000000⟩
def F.HLT_INST.VALUE : Fld := ⟨R.HLT_INST, 0, 8⟩
def F.HLT_INST.LASTING : Fld := ⟨R.HLT_INST, 8, 1⟩
def F.HLT_INST.EVENTS : Fld := ⟨R.HLT_INST, 16, 16⟩
def R.HLT_CLEAR : Reg := ⟨0x05018, 0x00000000⟩
def F.HLT_CLEAR.CLASS : Fld := ⟨R.HLT_CLEAR, 0, 5⟩
def F.HLT_CLEAR.INSTANCE : Fld := ⟨R.HLT_CLEAR, 8, 11⟩
def R.HLT_CLASS_CFG (k : Nat) : Reg := ⟨0x05100 + 4 * k, (hltClassReset k)⟩
def F.HLT_CLASS_CFG.WEIGHT (k : Nat) : Fld := ⟨R.HLT_CLASS_CFG k, 0, 4⟩
def F.HLT_CLASS_CFG.THRESH (k : Nat) : Fld := ⟨R.HLT_CLASS_CFG k, 4, 8⟩
def F.HLT_CLASS_CFG.LEAK (k : Nat) : Fld := ⟨R.HLT_CLASS_CFG k, 12, 16⟩
def R.SHL_STATUS (k : Nat) : Reg := ⟨spk k + 0x3C00, 0x00000000⟩
def F.SHL_STATUS.DERATE_OVER (k : Nat) : Fld := ⟨R.SHL_STATUS k, 0, 1⟩
def F.SHL_STATUS.DERATE_SEEN (k : Nat) : Fld := ⟨R.SHL_STATUS k, 8, 1⟩
def F.SHL_STATUS.MARGIN_LOW (k : Nat) : Fld := ⟨R.SHL_STATUS k, 9, 1⟩
def R.SHL_MARGIN (k : Nat) : Reg := ⟨spk k + 0x3C04, 0x00000000⟩
def F.SHL_MARGIN.LAST (k : Nat) : Fld := ⟨R.SHL_MARGIN k, 0, 10⟩
def F.SHL_MARGIN.LEAST (k : Nat) : Fld := ⟨R.SHL_MARGIN k, 16, 10⟩
def R.SHL_THERMAL (k : Nat) : Reg := ⟨spk k + 0x3C08, 0x00000000⟩
def F.SHL_THERMAL.TJ (k : Nat) : Fld := ⟨R.SHL_THERMAL k, 0, 9⟩
def F.SHL_THERMAL.TJ_MAX (k : Nat) : Fld := ⟨R.SHL_THERMAL k, 16, 9⟩
def R.SHL_ILIM (k : Nat) : Reg := ⟨spk k + 0x3C0C, 0x000000C8⟩
def F.SHL_ILIM.I_D (k : Nat) : Fld := ⟨R.SHL_ILIM k, 0, 16⟩
def R.TDM_STATUS : Reg := ⟨0x06000, 0x00000000⟩
def F.TDM_STATUS.STATE : Fld := ⟨R.TDM_STATUS, 0, 3⟩
def F.TDM_STATUS.SYNC : Fld := ⟨R.TDM_STATUS, 3, 1⟩
def F.TDM_STATUS.PARTNER_SYNC : Fld := ⟨R.TDM_STATUS, 4, 1⟩
def F.TDM_STATUS.LINK_UP : Fld := ⟨R.TDM_STATUS, 5, 1⟩
def F.TDM_STATUS.HB_FAULT : Fld := ⟨R.TDM_STATUS, 6, 1⟩
def F.TDM_STATUS.TAKEOVER_SEEN : Fld := ⟨R.TDM_STATUS, 8, 1⟩
def F.TDM_STATUS.YIELD_SEEN : Fld := ⟨R.TDM_STATUS, 9, 1⟩
def F.TDM_STATUS.PARTNER_LOST_SEEN : Fld := ⟨R.TDM_STATUS, 10, 1⟩
def F.TDM_STATUS.DIVERGE_SEEN : Fld := ⟨R.TDM_STATUS, 11, 1⟩
def F.TDM_STATUS.BLOCKED_SEEN : Fld := ⟨R.TDM_STATUS, 12, 1⟩
def F.TDM_STATUS.FOREIGN_SEEN : Fld := ⟨R.TDM_STATUS, 13, 1⟩
def F.TDM_STATUS.FENCE_SEEN : Fld := ⟨R.TDM_STATUS, 14, 1⟩
def F.TDM_STATUS.LINK_LOST_SEEN : Fld := ⟨R.TDM_STATUS, 15, 1⟩
def R.TDM_PARTNER : Reg := ⟨0x06004, 0x00000000⟩
def F.TDM_PARTNER.ADDR : Fld := ⟨R.TDM_PARTNER, 0, 6⟩
def F.TDM_PARTNER.FLAGS : Fld := ⟨R.TDM_PARTNER, 8, 5⟩
def R.TDM_COUNT : Reg := ⟨0x06008, 0x00000000⟩
def F.TDM_COUNT.TAKEOVERS : Fld := ⟨R.TDM_COUNT, 0, 8⟩
def F.TDM_COUNT.ONE_PATH : Fld := ⟨R.TDM_COUNT, 8, 8⟩
def F.TDM_COUNT.DIVERGED : Fld := ⟨R.TDM_COUNT, 16, 16⟩
def R.TDM_LAST : Reg := ⟨0x0600C, 0x00000000⟩
def F.TDM_LAST.GAP : Fld := ⟨R.TDM_LAST, 0, 16⟩
def F.TDM_LAST.QUIET : Fld := ⟨R.TDM_LAST, 16, 16⟩
def R.PWR_SUPPLY : Reg := ⟨0x02050, 0x00000000⟩
def F.PWR_SUPPLY.VBAT_AO : Fld := ⟨R.PWR_SUPPLY, 0, 8⟩
def F.PWR_SUPPLY.AO_WARN : Fld := ⟨R.PWR_SUPPLY, 8, 1⟩
def R.SPK_SUPPLY (k : Nat) : Reg := ⟨spk k + 0x0020, 0x00000000⟩
def F.SPK_SUPPLY.VBAT (k : Nat) : Fld := ⟨R.SPK_SUPPLY k, 0, 8⟩
def F.SPK_SUPPLY.UV (k : Nat) : Fld := ⟨R.SPK_SUPPLY k, 8, 1⟩
def F.SPK_SUPPLY.OV (k : Nat) : Fld := ⟨R.SPK_SUPPLY k, 9, 1⟩
def F.SPK_SUPPLY.OUTS (k : Nat) : Fld := ⟨R.SPK_SUPPLY k, 16, 16⟩
def R.PWR_LB_CTL : Reg := ⟨0x02060, 0x00000000⟩
def F.PWR_LB_CTL.TARGET : Fld := ⟨R.PWR_LB_CTL, 0, 4⟩
def F.PWR_LB_CTL.DEPTH : Fld := ⟨R.PWR_LB_CTL, 4, 2⟩
def F.PWR_LB_CTL.SPOKE : Fld := ⟨R.PWR_LB_CTL, 6, 3⟩
def F.PWR_LB_CTL.INSTANCE : Fld := ⟨R.PWR_LB_CTL, 9, 7⟩
def F.PWR_LB_CTL.STOP : Fld := ⟨R.PWR_LB_CTL, 30, 1⟩
def F.PWR_LB_CTL.START : Fld := ⟨R.PWR_LB_CTL, 31, 1⟩
def R.PWR_LB_STATUS : Reg := ⟨0x02064, 0x00000000⟩
def F.PWR_LB_STATUS.STATE : Fld := ⟨R.PWR_LB_STATUS, 0, 2⟩
def F.PWR_LB_STATUS.REFUSED : Fld := ⟨R.PWR_LB_STATUS, 2, 1⟩
def F.PWR_LB_STATUS.REFUSE : Fld := ⟨R.PWR_LB_STATUS, 4, 3⟩
def F.PWR_LB_STATUS.ERRORS : Fld := ⟨R.PWR_LB_STATUS, 16, 16⟩
def R.PWR_LB_RESULT : Reg := ⟨0x02068, 0x00000000⟩
def F.PWR_LB_RESULT.VALUE : Fld := ⟨R.PWR_LB_RESULT, 0, 32⟩
def R.PWR_LB_GEN : Reg := ⟨0x0206C, 0x00002801⟩
def F.PWR_LB_GEN.PRN : Fld := ⟨R.PWR_LB_GEN, 0, 6⟩
def F.PWR_LB_GEN.SYSTEM : Fld := ⟨R.PWR_LB_GEN, 6, 1⟩
def F.PWR_LB_GEN.CN0 : Fld := ⟨R.PWR_LB_GEN, 8, 8⟩
def F.PWR_LB_GEN.DOPPLER : Fld := ⟨R.PWR_LB_GEN, 16, 16⟩
def R.IDN_ID : Reg := ⟨0x00000, 0⟩
def F.IDN_ID.VENDOR : Fld := ⟨R.IDN_ID, 0, 16⟩
def F.IDN_ID.DEVICE : Fld := ⟨R.IDN_ID, 16, 16⟩
def R.IDN_REV : Reg := ⟨0x00004, 0⟩
def F.IDN_REV.STEPPING : Fld := ⟨R.IDN_REV, 0, 8⟩
def F.IDN_REV.SPOKES : Fld := ⟨R.IDN_REV, 8, 3⟩
def F.IDN_REV.CHANNELS : Fld := ⟨R.IDN_REV, 16, 9⟩
def R.IDN_FW_GEN : Reg := ⟨0x00008, 0x00000000⟩
def F.IDN_FW_GEN.HUB_GEN : Fld := ⟨R.IDN_FW_GEN, 0, 16⟩
def F.IDN_FW_GEN.SPOKE_GEN : Fld := ⟨R.IDN_FW_GEN, 16, 16⟩
def R.IDN_UCODE_GEN : Reg := ⟨0x0000C, 0x00000000⟩
def F.IDN_UCODE_GEN.UCODE_GEN : Fld := ⟨R.IDN_UCODE_GEN, 0, 16⟩
def F.IDN_UCODE_GEN.MANIFEST : Fld := ⟨R.IDN_UCODE_GEN, 16, 7⟩
def R.IDN_HOST_ABI : Reg := ⟨0x00010, 0x00000000⟩
def F.IDN_HOST_ABI.ABI : Fld := ⟨R.IDN_HOST_ABI, 0, 16⟩
def R.IDN_SERIAL_LO : Reg := ⟨0x00014, 0⟩
def F.IDN_SERIAL_LO.SERIAL : Fld := ⟨R.IDN_SERIAL_LO, 0, 32⟩
def R.IDN_SERIAL_HI : Reg := ⟨0x00018, 0⟩
def F.IDN_SERIAL_HI.SERIAL : Fld := ⟨R.IDN_SERIAL_HI, 0, 32⟩

/-- Standard filter element j (R373). -/
def R.CAN_STD_FILT (n j : Nat) : Reg := ⟨canBase n + 0x200 + 4 * j, 0x00000000⟩
/-- Word i of extended filter element j (R373). -/
def R.CAN_EXT_FILT (n j i : Nat) : Reg := ⟨canBase n + 0x400 + 12 * j + 4 * i, 0x00000000⟩

end Sys2Proof.Machine
end

