-- ==== Sys2Proof/Config.lean ====
section
/-! DEFINITION. What the specification leaves free. Log entry 1. -/
namespace Sys2Proof

/-- The value the device produces where the specification states none (R542 and every "unspecified" value). It has no
body: nothing can be proved about it. The step applies it to a plain counter of the state, so each use is a new value. -/
opaque Config.freeNat : Nat → Nat

/-- Whether an encoder in quadrature mode counts up when line A leads line B. R274 takes the direction from the phase of the
lines and does not say which order is forward. -/
opaque Config.quadForward : Bool

end Sys2Proof
end

