-- ==== Sys2Proof/Machine/StateBase.lean ====
section
/-! DEFINITION. Part of the state: the part itself, its pins, the make-ready sequencer, the spoke links, the PCIe side,
the rings, the interrupt controllers, the logbook and the health unit. Plain data only. -/
namespace Sys2Proof.Machine

/-- The three parts of R1. -/
inductive Variant where
  | yn2 | yn4 | yn8
deriving DecidableEq, Repr

/-- What is fixed when the part is made or strapped: the variant (R1), the serial number (R540), the ADDR straps (R400)
and the fuses (R55): the hashes of the four key slots, the slots revoked, the rollback floor. -/
structure Chip where
  variant       : Variant := .yn8
  serialLo      : Word := 0
  serialHi      : Word := 0
  strapAddr     : Nat := 0
  keyHashes     : List (List Byte) := []
  revokedSlots  : List Nat := []
  rollbackFloor : Nat := 0
deriving DecidableEq, Repr

/-- The states of the make-ready sequencer (R51). -/
inductive PwrState where
  | cold | boot | images | spokes | link | precharge | selftest | ready | armed | restricted | safe | parked
deriving DecidableEq, Repr

/-- The balls the rules read or drive, levels after their filters, whether VBAT_AO is below its warning threshold (R516), whether TRST_N
is high and the instruction at the test access port (R46, R534), the balls whose boundary cell holds a 1 (R535), the level of
TESTMODE (R536). -/
structure Pins where
  vbatAo   : Bool := true
  resetN   : Bool := true
  arm      : Bool := false
  wake     : Bool := false
  pwrEn    : Bool := false
  timePulse : Bool := false
  aoWarn    : Bool := false
  trstN     : Bool := false
  tap       : TapInst := .idcode
  cells     : List Ball := []
  testMode  : Bool := false
deriving DecidableEq, Repr

/-- Steps of parked entry (R80) and of the wake that follows (R81 to R83). -/
inductive ParkStep where
  | awake | entering | saved | waking
deriving DecidableEq, Repr

/-- The make-ready sequencer (R46 to R85): its state, whether it has reached READY and whether it had before a wake in progress, the
instant t0 from which step 2 of R53 counts and the PT at which PWR_EN then goes high, the supply attempts with their deadlines, where
the images of this run come from, the sequence numbers of the flash sets (R56), the next spoke to power with the PT of the first
switch, the spokes powered, those whose link must train by a PT, those running, the image store (R57), the manifest loaded, an
ABI write that waits for the end of IMAGES (R541), the spokes that precharge with their deadlines, those whose precharge failed
since their boost was enabled (R59, R61), whether self-test runs, the arm and disarm descriptors that wait for a cycle start, parked entry with the state before it and the PT of its acceptance, the ticks since
entry to PARKED, the wake latched in it and the wake in progress, the PT at which the low time of PWR_EN ends, a failed 32.768 kHz clock
(R39), the conditions that persist (R77), the PT since when WAKE is inactive (R79), operating time with the ticks of its running
count (R464), the shadow of the spoke set-up (R80, R85) the spokes whose VIO or VCORE_S is below power good (R514), and
whether a safe-state cause arose in a state without an exit to SAFE (R52). -/
structure Pwr where
  state        : PwrState := .cold
  reachedReady : Bool := false
  readyBefore  : Bool := false
  powerFrom    : Option Nat := none
  powerAt      : Option Nat := none
  attempts     : Nat := 0
  pgDeadline   : Option Nat := none
  retryAt      : Option Nat := none
  suppliesGood : Bool := false
  fromStore    : Bool := false
  seqA         : Nat := 0
  seqB         : Nat := 0
  nextSpoke    : Nat := 1
  slotAt       : Nat := 0
  spokeOn      : List Nat := []
  trainBy      : KMap Nat := []
  loaded       : List Nat := []
  store        : ImageSet := {}
  storeValid   : Bool := false
  manifest     : List ManEntry := []
  abiPending   : Bool := false
  prechargeBy  : KMap Nat := []
  noCharge     : List Nat := []
  testing      : Bool := false
  armAccepted  : List (Nat × Nat) := []
  disarmWait   : List (Nat × Nat) := []
  park         : ParkStep := .awake
  parkPrior    : PwrState := .ready
  parkAt       : Nat := 0
  parkTicks    : Nat := 0
  wakeLatched  : Option Nat := none
  wakeSource   : Nat := 0
  wakeDelay    : Option Nat := none
  aoFail       : Bool := false
  persistRef   : Bool := false
  hotDies      : List Nat := []
  wakeIdle     : Nat := 0
  opTicks      : Nat := 0
  opTime       : Nat := 0
  shadow       : KMap Word := []
  lowSpokes    : List Nat := []
  heldSafe     : Bool := false
deriving DecidableEq, Repr

/-- A word of a buffer whose ECC check will find an error (R42 to R44): the row of the crossing table (R45) that reads it next, the
ring, spoke, controller or record it belongs to as that row counts them, and whether the check can correct it. The words
upset are the environment's: no command names one (log entry 99). -/
structure Upset where
  row     : Nat
  unit    : Nat
  fixable : Bool
deriving DecidableEq, Repr

/-- A sent frame no ACK has covered (R24): its SEQ and payload, the payload bits on the lane, the PT at which it was sent last and
how often it was replayed. -/
structure SentFrame where
  seq     : Nat
  payload : Payload
  bits    : Nat := 0
  at_     : Nat := 0
  tries   : Nat := 0
deriving DecidableEq, Repr

/-- One end of a spoke link as sender and receiver (R18, R24): the next SEQ, the replay buffer, oldest first, the SEQ of the frames
a replay still has to send, the frames that wait for a slot, a NAK that waits for one, the SEQ expected next, the NAK already
sent for this gap, and the PT of the last valid frame. -/
structure LinkEnd where
  nextSeq : Nat := 0
  replay  : List SentFrame := []
  resend  : List Nat := []
  waiting : List Payload := []
  nakDue  : Bool := false
  expect  : Nat := 0
  nakSent : Bool := false
  lastValid : Nat := 0
deriving DecidableEq, Repr

/-- One spoke link (R24 to R36): both ends, whether it is up, the loss in progress, the spoke's offset of PT, the PTSYNC
exchange, the adjustments due, the reads that wait for RESP, the off state that RESUME ends, and a RESUME that waits for the spoke's INT
frames (R441). -/
structure Link where
  hub       : LinkEnd := {}
  spoke     : LinkEnd := {}
  up        : Bool := false
  lostAt    : Option Nat := none
  spokeOff  : Bool := false
  resumeDue : Bool := false
  ptOff     : Int := 0
  echoed    : Option Nat := none
  syncSent  : Option Nat := none
  adjLeft   : Int := 0
  reads     : List Nat := []
  rxBad     : Nat := 0
  adjs      : List (Nat × Bool) := []
  holds     : Nat := 0
deriving DecidableEq, Repr

/-- The PCIe function as configuration software and BAR2 set it (R86, R437): link, the BAR words, Max_Read_Request_Size and the payload size in
bytes, D3hot, MSI-X enable and function mask, the words of the MSI-X table, vector masks, the pending-bit array and the vectors whose message
went out in the present tick (R128). -/
structure Pcie where
  linkUp     : Bool := false
  bars       : KMap Word := []
  mrrs       : Nat := 512
  mps        : Nat := 128
  msixWords  : KMap Word := []
  sent       : List Nat := []
  d3hot      : Bool := false
  msixEnable : Bool := false
  funcMask   : Bool := false
  unmasked   : List Nat := []
  pba        : List Nat := []
  atomicReq  : Bool := false
  loopback   : Bool := false
deriving DecidableEq, Repr

/-- What a scan of the data register shifts out at TDO (R534, R535): the identification code, the one bit of the bypass register, or the
level of each covered ball. -/
inductive ScanData where
  | idcode (code : Word)
  | bypass
  | boundary (levels : List (Ball × Bool))
deriving DecidableEq, Repr

/-- What the device puts on the PCIe link and on its other boundaries, in the order it issues it (R88). -/
inductive OutEvent where
  | hostWrite (addr : Nat) (bytes : List Byte)
  | hostRead (addr len : Nat)
  | cas (addr : Nat) (expect new : Nat)
  | msix (vector addr data : Nat)
  | readDone (off : Nat) (value : Word)
  | unsupported (addr : Nat)
  | linkFrame (spoke : Nat) (by_ : Side) (bytes : List Byte)
  | flashWrite (setB : Bool)
  | tandem (seq : Nat) (frame : TdmFrame) (bytes : List Byte)
  | hbPulse
  | spiFrame (spoke port : Nat) (bytes : List Byte)
  | scanOut (data : ScanData)
deriving DecidableEq, Repr

/-- The states of a ring (R130 to R135). -/
inductive RingState where
  | stopped | running | stopping | error
deriving DecidableEq, Repr

/-- How far a fetched descriptor has come (R112): its buffer is being read, it may start, it has started and waits for its effect or its
event, or it has finished and its completion is about to be written (R542). -/
inductive DescStage where
  | reading | ready | waiting | done
deriving DecidableEq, Repr

/-- A fetched descriptor that has no completion yet (R104). -/
structure InDesc where
  index  : Nat
  opcode : Nat
  irq    : Bool := false
  fence  : Bool := false
  tag    : Nat := 0
  addr   : Nat := 0
  len    : Nat := 0
  bufCrc : Nat := 0
  param  : List Byte := []
  buf    : List Byte := []
  stage  : DescStage := .ready
  order  : Nat := 0
  aux    : Nat := 0
deriving DecidableEq, Repr

/-- One ring pair (R92 to R135), its state in HIF_RING_STATUS: descriptors requested, fetched and completed since START,
the tail last taken, the descriptors in flight oldest first, the completions not yet signalled, when the oldest of them was written and
the moderation time in force (R128). -/
structure Ring where
  issued     : Nat := 0
  head       : Nat := 0
  tail       : Nat := 0
  cqTail     : Nat := 0
  inflight   : List InDesc := []
  unsignalled : Nat := 0
  oldest     : Option Nat := none
  modTime    : Nat := 0
deriving DecidableEq, Repr

/-- A descriptor that has finished in the present geometry-cycle start, with what its completion carries (R542). -/
structure Finished where
  ring   : Nat
  desc   : InDesc
  status : Nat
  detail : Nat
  data   : List Byte
deriving DecidableEq, Repr

/-- One read request to host memory (R86) and what it is for. -/
structure HostRead where
  owner : HostReq
  addr  : Nat
  len   : Nat
deriving DecidableEq, Repr

/-- The ring engine beside its rings (R97 to R100), the rings started since the tails read in progress was issued (R132), the firmware
session (R116 to R120), the commit that waits, the reads outstanding and those that wait for one of the 32 places (R86), and the
completions of a geometry-cycle start or prefetch walk, held till its end (R542). -/
structure HostIf where
  rings       : KMap Ring := []
  reads       : List HostRead := []
  readWait    : List HostRead := []
  finished    : List Finished := []
  lastChange  : Nat := 0
  startedSince : Bool := false
  lateStart   : List Nat := []
  polling     : Bool := false
  readingTails : Bool := false
  changeSeen  : Nat := 0
  failedPolls : Nat := 0
  fetchCount  : Nat := 0
  nextPoll    : Nat := 0
  fwOpen      : Bool := false
  fwLength    : Nat := 0
  fwCommitted : Bool := false
  flashCommit : Option (Nat × Nat × Bool) := none
  staged      : ImageSet := {}
deriving DecidableEq, Repr

/-- What a core does between interrupts (R40, R439): it runs, it waits clock-gated at its wait instruction, or firmware has power-gated it. -/
inductive CoreRun where
  | running | waiting | gated
deriving DecidableEq, Repr

/-- An interrupt controller beyond its register words (R426 to R447): each core's stack, running level on top, the cores that do not run, the
priority each core's line has asked for (0 while the line is low) with the tick since when it holds, newest first, and the slots whose
level at the spoke is 1. -/
structure IrqCtl where
  coreStacks : KMap (List Nat) := []
  cores   : KMap CoreRun := []
  history : KMap (List (Nat × Nat)) := []
  slots   : List Nat := []
deriving DecidableEq, Repr

/-- A logbook event in the galley (R459), and with its SEQ and CRC a record in the store (R449). -/
structure LogEntry where
  code   : Nat
  sev    : Nat
  die    : Nat
  block  : Nat
  index  : Nat
  p0     : Nat
  p1     : Nat
  p2     : Nat
  opTime : Nat
  pcyc   : Nat
  repeat_ : Nat := 0
deriving DecidableEq, Repr

/-- A record in a slot of the store: the entry, its SEQ and the CRC the slot holds (R449). -/
structure LogRecord where
  entry : LogEntry
  seq   : Nat
  crc   : Nat
deriving DecidableEq, Repr

/-- One copy of the colophon (R448): saved operating time, power-cycle count and next SEQ; ok while its CRC passes. -/
structure Colophon where
  opTime  : Nat := 0
  pcyc    : Nat := 0
  nextSeq : Nat := 0
  ok      : Bool := false
deriving DecidableEq, Repr

/-- The logbook (R448 to R472): the store by slot, the colophon copies, the galley oldest first, the counts of the pending
DROPPED summary by severity with the time of the first drop, the freeze with its end, the erase in progress with the next slot it takes and
the valid records it has erased (R470), whether writing has stopped (R458), the writes each slot and colophon copy (4096 and 4097) took and the erases (R480), whether the scan is done and when the
colophon is due. -/
structure Logbook where
  store     : KMap (Option LogRecord) := []
  colA      : Colophon := {}
  colB      : Colophon := {}
  newerB    : Bool := false
  galley    : List LogEntry := []
  dropped   : KMap Nat := []
  firstDrop : Nat := 0
  frozen    : Option Nat := none
  erasing   : Bool := false
  erasePos  : Nat := 0
  erased    : Nat := 0
  stopped   : Bool := false
  writes    : KMap Nat := []
  erases    : Nat := 0
  scanned   : Bool := false
  nextSave  : Nat := 0
deriving DecidableEq, Repr

/-- One instance counter (R473): c, lasting, EVENTS, the PT at which its leak timer runs out, and for class 1 whether
the lasting state came from a short to ground (R475). -/
structure Inst where
  c        : Nat := 0
  lasting  : Bool := false
  events   : Nat := 0
  leakAt   : Option Nat := none
  toGround : Bool := false
deriving DecidableEq, Repr

/-- One monitor interval of a die (R480), since the last re-plan: the least margin, the highest junction temperature, the sum of the
on-resistances of its channels with their count, the highest with its channel, the newest boost capacitance, boost ESR and η, and by
adaptive pair the least and the greatest t_c − t_off with the edges that crossed and those that did not. -/
structure DieMon where
  margin   : Option Nat := none
  tjMax    : Option Int := none
  rdsSum   : Nat := 0
  rdsCount : Nat := 0
  rdsMax   : Option (Nat × Nat) := none
  boostC   : Option Nat := none
  boostEsr : Option Nat := none
  eta      : Option Nat := none
  dt       : KMap (Nat × Nat × Nat × Nat) := []
deriving DecidableEq, Repr

/-- The health unit (R473 to R485): instances by class and number, monitors by die, the operating time of the last periodic re-plan, a
HEALTH_NOW that is scheduled, the count of re-plans, the crystal offsets measured, the descriptor that waits for a buffer, margins
computed and not yet applied with the slip budget by spoke and the dead-time bounds by pair, the delays of each outlet at the
periodic re-plans since activation, newest first, the flags and reseeds of each outlet since the last descriptor, and LEAK of each
class as it stood at the last event of the class (R477). -/
structure Health where
  insts      : KMap Inst := []
  mon        : KMap DieMon := []
  lastReplan : Nat := 0
  nowPending : Bool := false
  seq        : Nat := 0
  xtal       : Option Int := none
  aoXtal     : Option Int := none
  held       : Option (List Byte) := none
  marginDue  : Bool := false
  slips      : KMap Nat := []
  bounds     : KMap (Nat × Nat) := []
  trend      : KMap (List (Nat × Nat)) := []
  flags      : KMap Nat := []
  reseeds    : KMap Nat := []
  leaks      : KMap Nat := []
deriving DecidableEq, Repr

end Sys2Proof.Machine
end

