-- ==== Sys2Proof/Machine/StateCan.lean ====
section
/-! DEFINITION. Part of the state: the CAN controllers (11_can_controllers.md) and the Soxaek engine (12_section_bus.md).
Plain data only. -/
namespace Sys2Proof.Machine

/-- Whose frame an entry of a transmit queue is: a CAN_SEND descriptor of a ring, or one a RESET discarded, a section-state summary with
its V, or a Soxaek frame of a class. -/
inductive TxFrom where
  | send (ring index : Nat)
  | discarded
  | summary (v : Nat)
  | soxaek (cls : Nat)
deriving DecidableEq, Repr

/-- A frame that waits to be sent (R384, R385): its retry limit (0 unlimited), failed attempts, the error of the last one, and
whether a CAN_ABORT selected it while it was on the bus, and whether the retry limit is its own and not CAN_CFG.RETRY. -/
structure TxEntry where
  from_    : TxFrom
  frame    : CanFrame
  single   : Bool := false
  retry    : Nat := 0
  attempts : Nat := 0
  lastErr  : Nat := 0
  abort    : Bool := false
  ownRetry : Bool := false
deriving DecidableEq, Repr

/-- Which candidate is on the bus (R384, R399). -/
inductive OnBus where
  | none | fifo | summary | soxaek
deriving DecidableEq, Repr

/-- A dedicated receive buffer (R381): new-data bit, COUNT and the newest record. -/
structure RxBuf where
  nd    : Bool := false
  count : Nat := 0
  rec_  : List Byte := []
deriving DecidableEq, Repr

/-- One CAN controller beside its registers: whether it takes part, TEC and REC, bus-off with its recovery, the wait of a protocol
exception, the PT at which HALT came while another node's frame might be on the bus, the words CAN_CFG had before its last writes with
their PT, oldest first (R368), the queues, the count of R389, the bit error of the attempt before (R390), the words held under R376,
and the summaries with the PT at which the next periodic one is due. -/
structure CanCtl where
  joined    : Bool := false
  tec       : Nat := 0
  rec_      : Nat := 0
  busOff    : Bool := false
  recover   : Bool := false
  excWait   : Bool := false
  haltAt    : Option Nat := none
  cfgLog    : List (Nat × Word) := []
  alone     : Bool := false
  fifo      : List TxEntry := []
  summary   : Option TxEntry := none
  nextSum   : Option TxEntry := none
  sox       : List TxEntry := []
  soxWait   : List TxEntry := []
  onBus     : OnBus := .none
  rx        : List (List Byte) := []
  lost      : Nat := 0
  bufs      : KMap RxBuf := []
  ackRun    : Nat := 0
  prevBit   : Option (Nat × Bool) := none
  held      : KMap Word := []
  lastV     : Option Nat := none
  sumAt     : Option Nat := none
  sumDue    : Option Nat := none
deriving DecidableEq, Repr

/-- A Soxaek role record (R401): the fields beside those of CAN_SB_CFG. -/
structure RoleRec where
  role      : Nat := 0
  poseIn    : Bool := false
  poseOut   : Bool := false
  leader    : Nat := 0
  cableNs   : Nat := 0
  cadPeriod : Nat := 1000
  lossN     : Nat := 10
  followers : List Nat := []
  planner   : Nat := 0
deriving DecidableEq, Repr

/-- An address probe (R404): its nonce, the PROBE frames queued, the PT of the last, the frames acknowledged and ended, whether it
found a duplicate, and the descriptor of SB_PROBE or SB_ROLE it runs for. -/
structure Probe where
  nonce  : List Byte
  sent   : Nat := 0
  lastAt : Nat := 0
  acked  : Nat := 0
  dup    : Bool := false
  role   : Option RoleRec := none
  desc   : Option (Nat × Nat) := none
deriving DecidableEq, Repr

/-- A broadcast pose whose coefficient parts are awaited (R413): bytes of part 0, the PT it arrived, the parts so far. -/
structure PoseParts where
  part0 : List Byte
  at_   : Nat
  parts : KMap (List Byte) := []
deriving DecidableEq, Repr

/-- An event a host-less follower holds for its STATE frames (R419). -/
structure StateEvent where
  chan   : Nat
  event  : Nat
  late   : Bool
  slip   : Bool
  at_    : Nat
  delay  : Nat
  slipUs : Nat
deriving DecidableEq, Repr

/-- The Soxaek engine and the follower's discipline (R394 to R424): the role in force and the one that waits for a cycle start with
its descriptor, the probe, the last COUNTER by source and class and the next one to send by class, the SEQ of the
leader's next CADENCE, SEQ and stamp of the one sent last, the PT of the last grid instant served, the addresses in conflict with the PT of their last CADENCE, the cadence a follower stamped last, whether ACQUIRE is due, the offset O in ticks, the freq term in 1/64 ns, the runs
of good and bad errors, when a CADENCE was last accepted, its period in µs, the followers with the PT of their last STATE frame, the
PT of the last EDGE frame accepted, an arming and a disarming that wait for a cycle start, the last EDGE frame sent by follower, the channels
set up by SETUP (1 + FREQ + 128 SLOT), those whose entry is closing (1 + its START), the followers that have their SETUP entries and the releases due by follower and channel, the events that wait, the STATE events held, and the pose parts. -/
structure Sox where
  role      : RoleRec := {}
  newRole   : Option (RoleRec × Option (Nat × Nat)) := none
  probe     : Option Probe := none
  rxCount   : KMap Nat := []
  txCount   : KMap Nat := []
  cadSeq    : Nat := 0
  cadStamp  : Option (Nat × Nat) := none
  cadLast   : Option Nat := none
  conflicts : KMap Nat := []
  stamped   : Option (Nat × Nat) := none
  acquire   : Bool := true
  o         : Int := 0
  freq      : Int := 0
  good      : Nat := 0
  bad       : Nat := 0
  cadAt     : Nat := 0
  cadUs     : Nat := 1000
  lastState : KMap Nat := []
  edgeAt    : Option Nat := none
  edgeArm   : Bool := false
  edgeOff   : Bool := false
  edgeSent  : KMap Nat := []
  setup     : KMap Nat := []
  closing   : KMap Nat := []
  setupSent : List Nat := []
  releases  : List (Nat × Nat) := []
  events    : List (List Byte) := []
  feeds     : List StateEvent := []
  feedLost  : Bool := false
  stateAt   : Nat := 0
  poses     : List PoseParts := []
deriving DecidableEq, Repr

end Sys2Proof.Machine
end

