-- ==== Sys2Proof/Machine/StateEngine.lean ====
section
/-! DEFINITION. Part of the state: the registration engine: the implement table in force, the pose, the field, the tile cache
and what the engine keeps for each outlet (04_implement_and_pose.md, 05_registration_decisions.md). -/
namespace Sys2Proof.Machine

/-- A state tap of a segment (R148, R164). -/
structure Tap where
  spoke : Nat := 0
  loop  : Nat := 0
  state : Nat := 0
  repl  : Bool := false
  shift : Int := 0
  gain  : Int := 0
deriving DecidableEq, Repr

/-- A boom segment (R163). -/
structure Segment where
  px   : Int := 0
  py   : Int := 0
  span : Nat := 1
  dir  : Nat := 0
  taps : List Tap := []
deriving DecidableEq, Repr

/-- An outlet record of the active table with its footprint points. -/
structure Outlet where
  kind     : Nat := 0
  follower : Nat := 0
  chan     : Nat := 0
  profile  : Nat := 0
  segment  : Nat := 0
  onSeed   : Nat := 0
  offSeed  : Nat := 0
  fluid    : Nat := 0
  flow     : Nat := 0
  group    : Nat := 0
  slot     : Nat := 0
  pwmEn    : Bool := false
  freq     : Nat := 0
  parallel : Bool := false
  disabled : Bool := false
  dutyMin  : Nat := 0
  dutyMax  : Nat := 0
  points   : List (Int × Int) := []
deriving DecidableEq, Repr

/-- The implement table as the engine reads it (R144). -/
structure Table where
  id          : Nat := 0
  poseTimeout : Nat := 300
  tapTimeout  : Nat := 20
  creep       : Nat := 2222
  segments    : List Segment := []
  outlets     : List Outlet := []
deriving DecidableEq, Repr

/-- A pose (R138, POSE parameters). -/
structure Pose where
  tag     : Nat
  east    : Int
  north   : Int
  heading : Nat
  speed   : Int
  yaw     : Int
  accel   : Int
  noApply : Bool
deriving DecidableEq, Repr

/-- A tile of the cache (R171 to R173, R178, R201, R204), with the mark that its write-back is due: its cells and unwritten increments by payload index, its fresh bits,
whether it is mark-only, when a horizon last referenced it, its oldest increment, the oldest since a write-back took its snapshot, the
last mark, the drop that waits, and on a tandem stoker the marks made by cycle and cell (R489). -/
structure Tile where
  kind      : Nat
  e         : Int
  n         : Int
  k         : Nat
  fid       : Nat
  gen       : Nat := 0
  home      : Nat := 0
  cells     : KMap Nat := []
  incr      : KMap Nat := []
  fresh     : List Nat := []
  markOnly  : Bool := false
  lastRef   : Nat := 0
  cycleRef  : Nat := 0
  oldest    : Option Nat := none
  since     : Option Nat := none
  lastMark  : Nat := 0
  dropBy    : Option Nat := none
  dropFor   : List (Nat × Nat) := []
  wbDue     : Bool := false
  marks     : List (Nat × Nat) := []
deriving DecidableEq, Repr

/-- A write-back that is merging (R206): the tile, the WB_BUFFER it goes to, the snapshot of increments, the cells as they go out, the word
being merged with its tries and the value expected, and the words that kept their increments or merged. -/
structure WriteBack where
  kind   : Nat
  e      : Int
  n      : Int
  k      : Nat
  fid    : Nat
  ring   : Nat
  index  : Nat
  snap   : KMap Nat
  cells  : KMap Nat
  word   : Nat
  tries  : Nat
  expect : Nat
  kept   : List Nat
  merged : List Nat
  cycle  : Nat
deriving DecidableEq, Repr

/-- An applying interval (R200): from the OPENED; `lastClosed` is the last CLOSED so far of a pulsed outlet, `entryEnd` the END of its entry
once a later entry has begun. -/
structure AppIv where
  start      : Nat
  entryEnd   : Option Nat := none
  stop       : Option Nat := none
  lastClosed : Option Nat := none
deriving DecidableEq, Repr

/-- A delay estimator (R259, R260): E in 1/16 µs and the samples rejected in a row, newest last. -/
structure Estim where
  e      : Nat := 0
  reject : List Nat := []
deriving DecidableEq, Repr

/-- What the engine keeps for an outlet: coverage rule, plan, duty, miss episode, force, the start and end of the entry it sent last, whether it
holds an entry on, the valve as FEED events tell it, applying intervals (R200), estimators, slip estimate. -/
structure OutletSt where
  coverOn   : Bool := false
  planOn    : Bool := false
  reason    : Nat := 1
  duty      : Option Nat := none
  dose      : Nat × Nat := (0, 1)
  sent      : Nat := 0
  clipLow   : Bool := false
  clipHigh  : Bool := false
  miss      : Bool := false
  missAt    : Option Nat := none
  expired   : Bool := false
  forceMode : Nat := 0
  forceDuty : Nat := 0
  runStart  : Nat := 0
  runEnd    : Nat := 0
  open_     : Bool := false
  slip      : Bool := false
  entryOn   : Bool := false
  valveOpen : Bool := false
  lost      : Bool := false
  wantSlip  : Bool := false
  ivs       : List AppIv := []
  on        : Estim := {}
  off       : Estim := {}
  s         : Nat := 0
  reseeds   : Nat := 0
deriving DecidableEq, Repr

/-- What the planner asks of a KIND 1 outlet (R416): a turn on, a renewal, a changed duty with a renewal, a turn off at L or at
the cycle start. -/
inductive EdgeAct where
  | on | renew | duty | off | offNow
deriving DecidableEq, Repr

/-- A FEED event the hub holds for the next cycle start (R249, R261): the outlet, the event's PT, its kind, DELAY, SLIP_US,
late and slow marks, and whether the closing was in fast decay; or that events before it were lost (R420). -/
structure HeldFeed where
  outlet : Nat
  at_    : Nat
  event  : FeedEvent
  delay  : Nat := 0xFFFF
  late   : Bool := false
  slip   : Bool := false
  slipUs : Nat := 0
  fast   : Bool := false
  lost   : Bool := false
deriving DecidableEq, Repr

/-- A state-tap sample of a loop state (R164, R165). -/
structure TapSample where
  value : Int
  pt    : Nat
deriving DecidableEq, Repr

/-- The registration engine; `cycleAt` is the PT at which the last cycle began, its start or the tick after it (R36); `cacheOn` says that the
tile cache was accessed since its domains were last off (R40); `casStale` counts the compare-and-swap requests still outstanding of
merges that were given up (R89). -/
structure Engine where
  table      : Option Table := none
  commit     : Option (Table × Bool × Nat × Nat × Bool) := none
  fieldId    : Nat := 0
  k          : Nat := 7
  originLat  : Int := 0
  originLon  : Int := 0
  pose       : Option Pose := none
  newestTag  : Option Nat := none
  coeffs     : List (List Int) := []
  recordTag  : Option Nat := none
  zeroed     : Bool := false
  rates      : KMap Nat := []
  tiles      : List Tile := []
  writing    : Option WriteBack := none
  requested  : List ((Nat × Int × Int) × Nat) := []
  lostSeen   : List (Nat × Nat × Int × Int) := []
  shortTiles : List (Nat × Int × Int) := []
  outlets    : KMap OutletSt := []
  chanOutlet : KMap Nat := []
  feeds      : List HeldFeed := []
  taps       : KMap (List TapSample) := []
  waiting    : List (Nat × Nat) := []
  evaluating : Bool := false
  cycleStart : Nat := 0
  prevCycle  : Nat := 0
  cycleAt    : Option Nat := none
  lastGrid   : Option Nat := none
  lateCycle  : Bool := false
  proof      : Bool := false
  reportDiv  : Nat := 0
  reportSeq  : Nat := 0
  reportDue  : Bool := false
  nextWalk   : Nat := 0
  lanesOn    : Bool := false
  cacheOn    : Bool := false
  casWithdrawn : Bool := false
  casStale   : Nat := 0
  edges      : List (Nat × EdgeAct) := []
deriving DecidableEq, Repr

end Sys2Proof.Machine
end

