-- ==== Sys2Proof/Machine/StateLoop.lean ====
section
/-! DEFINITION. Part of the state: the control engine of a spoke (08_control_loops.md) and its PWM pairs (09_motor_pwm.md).
Plain data only. -/
namespace Sys2Proof.Machine

/-- A coefficient m × 2^(s − 31) (R269). -/
structure Coeff where
  m : Int := 0
  s : Int := 0
deriving DecidableEq, Repr

/-- A source entry of a loop block (R271, R272, R305). -/
structure SrcCfg where
  kind    : Nat := 0
  index   : Nat := 0
  validLo : Nat := 0
  validHi : Nat := 0
  off     : Int := 0
  gain    : Coeff := {}
deriving DecidableEq, Repr

/-- A set-point of a loop block: its source, RATE and ACCEL (R292, R305). -/
structure SetCfg where
  src   : SrcCfg := {}
  rate  : Nat := 0
  accel : Nat := 0
deriving DecidableEq, Repr

/-- An output of a loop block (R281, R283, R284, R305). -/
structure OutCfg where
  kind      : Nat := 0
  enc       : Nat := 0
  rot       : Nat := 0
  index     : Nat := 0
  uMin      : Int := 0
  uMax      : Int := 0
  safeVal   : Int := 0
  manPreset : Int := 0
deriving DecidableEq, Repr

/-- A loop block (R305, R306). -/
structure LoopBlock where
  law      : Nat := 0
  trigCmp  : Bool := false
  pub      : Bool := false
  ffEn     : Bool := false
  ffEnc    : Nat := 0
  n        : Nat := 0
  p        : Nat := 1
  q        : Nat := 1
  r        : Nat := 1
  pair     : Nat := 0
  cmp      : Nat := 0
  period   : Nat := 0
  tblCpr   : Nat := 0
  action   : Nat := 0
  pmEn     : Bool := false
  fzEn     : Bool := false
  lossN    : Nat := 0
  pmN      : Nat := 0
  pmBand   : Int := 0
  fzWin    : Nat := 0
  fzAct    : Int := 0
  safeRate : Nat := 0
  bandHi   : Int := 0
  bandLo   : Int := 0
  pmA      : Coeff := {}
  pmB      : Coeff := {}
  pmC      : Int := 0
  meas     : List SrcCfg := []
  sets     : List SetCfg := []
  outs     : List OutCfg := []
  coeffs   : List Coeff := []
deriving DecidableEq, Repr

/-- A source value latched for a sample: the raw value, none while its conversion is due, and whether it is valid. -/
structure RawVal where
  x  : Option Int
  ok : Bool
deriving DecidableEq, Repr

/-- A LOOP command that waits for the sample that applies it (R297, R298), or a load or unload for the gap between two samples (R296). -/
inductive LoopWait where
  | target (i : Nat) (v : Int)
  | man (j : Nat) (v : Int)
  | mode (m : Nat) (track : Bool) (ring index : Nat)
  | block (bytes : List Byte) (ring index : Nat)
  | unload (ring index : Nat)
deriving DecidableEq, Repr

/-- A shaper of R292: the shaped value in 2⁻³¹ of full scale and its rate in 2⁻⁴⁷ of full scale per second. -/
structure Shaper where
  ws  : Int := 0
  rho : Int := 0
deriving DecidableEq, Repr

/-- One control loop (R264 to R304). MODE, LAW, LOADED, CAUSE and the flags stand in CTL_LOOP_STATUS; Y0, W0 and U0 in
their registers. `goals` are the conditioned targets, each the last valid one (R272, R293); `ramp` the outputs a disarm ramps (R304);
`fromOff` that the last transfer to AUTO came from DISABLED; `trigAt` and `gap` the last trigger and its distance from the one before
(R265, R290); `outAt` the trigger that wrote outputs last (R267); `lossRun` counts for each measurement (R301). -/
structure Loop where
  block     : Option LoopBlock := none
  xh        : List Int := []
  z         : List Int := []
  u         : List Int := []
  man       : List Int := []
  targets   : List Int := []
  goals     : List Int := []
  shapers   : List Shaper := []
  y         : List Int := []
  hitHi     : List Bool := []
  hitLo     : List Bool := []
  cmds      : List LoopWait := []
  ramp      : List Nat := []
  faultAct  : Nat := 0
  firstAuto : Bool := false
  fromOff   : Bool := false
  track     : Bool := false
  prevTrig  : Option Nat := none
  lastTrig  : Option Nat := none
  trigAt    : Option Nat := none
  gap       : Option Nat := none
  outAt     : Option Nat := none
  matches_  : Nat := 0
  since     : Nat := 0
  latched   : Option Nat := none
  raws      : List RawVal := []
  setRaws   : List RawVal := []
  ready     : Bool := false
  ff        : Nat × Int × Bool := (0, 0, false)
  result    : Option (List Int) := none
  yhat      : Int := 0
  pmRun     : Nat := 0
  fzRaw     : Int := 0
  fzStart   : Option Nat := none
  lossRun   : List Nat := []
deriving DecidableEq, Repr

/-- A conversion that waits on an ADC (R266, R316): the input, the loop and measurement it belongs to if any, and the PT it
started. -/
structure Conv where
  ain   : Nat
  owner : Option (Nat × Nat)
  start : Option Nat := none
deriving DecidableEq, Repr

/-- A pulse input (R273): the PT of its edges, newest first. -/
structure Pulse where
  edges : List Nat := []
deriving DecidableEq, Repr

/-- An encoder input (R274): its lines, the boundary count of the Hall state with its start and the duration of the state
before, the last direction, the edges of the last 1 ms with their counts, newest first, and the PT of the last error. -/
structure Enc where
  lines   : Nat := 0
  seen    : Bool := false
  begun   : Nat := 0
  prevDur : Nat := 0
  back    : Bool := false
  edges   : List (Nat × Int) := []
  lastErr : Option Nat := none
deriving DecidableEq, Repr

/-- An SPI port (R275): the last poll, whether a frame is running, its words and the PT of the last valid frame. -/
structure Spi where
  lastPoll : Option Nat := none
  busy     : Bool := false
  words    : List Int := []
  validAt  : Option Nat := none
deriving DecidableEq, Repr

/-- A registration stream as a spoke received it (R276). -/
structure StreamVal where
  value : Int := 0
  pt    : Nat := 0
deriving DecidableEq, Repr

/-- The control engine and the input block of a spoke. `tripIn` holds one more than the PT since which a trip input has been active while its
filter judges it (R325). -/
structure LoopEngine where
  loops   : KMap Loop := []
  adc0    : List Conv := []
  adc1    : List Conv := []
  lane    : Option (Nat × Nat) := none
  laneLog : List (Nat × Nat) := []
  utilAt  : Nat := 0
  pulses  : KMap Pulse := []
  encs    : KMap Enc := []
  spis    : KMap Spi := []
  streams : KMap StreamVal := []
  tripIn  : KMap Nat := []
  fric    : KMap (List Int) := []
  cog     : KMap (List Int) := []
deriving DecidableEq, Repr

/-- What a loop asks of a pair (R283, R284, R294): a duty, both outputs off, or the idle levels. -/
inductive PairReq where
  | duty (u : Int)
  | float
  | idle
deriving DecidableEq, Repr

/-- A dead time in progress (R317, R318): the output that turns on, the off-edge in fine units of 125 ps, and the on-edge, known
once the fixed dead time or a node crossing gives it. -/
structure DeadTime where
  high : Bool
  off  : Nat
  on   : Option Nat
deriving DecidableEq, Repr

/-- One PWM pair (R307 to R330). `lowOn` says that its low output has turned on in this period, `noLow` that it does not turn on again
in it (R314). -/
structure Pair where
  claim      : Option Nat := none
  started    : Bool := false
  perStart   : Nat := 0
  shadow     : PairReq := .idle
  active     : PairReq := .idle
  following  : Bool := false
  refHigh    : Bool := false
  riseAt     : Option Nat := none
  fallAt     : Option Nat := none
  high       : Bool := false
  low        : Bool := false
  lowOn      : Bool := false
  noLow      : Bool := false
  dt         : Option DeadTime := none
  suppress   : Bool := false
  hold       : Bool := false
  cleanRun   : Nat := 0
  tripPer    : Bool := false
  highSince  : Option Nat := none
  refreshDue : Bool := false
  refreshing : Bool := false
  cmps       : List Word := []
  matched    : KMap Nat := []
  dtReg      : Word := 0x00000FA0
  adtReg     : Word := 0x1F400320
  senseReg   : Word := 0x000800A0
  pulseReg   : Word := 0x1F400640
deriving DecidableEq, Repr

end Sys2Proof.Machine
end

