-- ==== Sys2Proof/Machine/StateSpoke.lean ====
section
/-! DEFINITION. Part of the state: what each spoke holds beyond its registers: drive channels and cassettes. -/
namespace Sys2Proof.Machine

/-- A schedule entry with its times extended to 64 bits (R21), the duty changes merges made with the PT from which each
applies (R225), the late mark of R22 until an opening takes it, and whether the next opening counts its SLIP_US from START: the
first, and the first after a RETRY (R237, R243). -/
structure Entry where
  start  : Nat
  finish : Nat
  duty   : Nat
  freq   : Nat
  slot   : Nat
  late   : Bool := false
  duties : List (Nat × Nat) := []
  lastG  : Option Nat := none
  ended  : Bool := false
  fromStart : Bool := true
  begun     : Bool := false
deriving DecidableEq, Repr

/-- The phase of a channel (R220, R232, R237). -/
inductive Phase where
  | idle | rise | dwell | hold | off | regulation
deriving DecidableEq, Repr

/-- An opening in progress: the scheduled start SLIP_US counts from, the start of its peak,
slow peak or boost rise, whether travel was detected, whether its first event was sent, and the end of its interval on. -/
structure Opening where
  sched    : Nat
  peak     : Nat
  slow     : Bool := false
  travel   : Bool := false
  reported : Bool := false
  late     : Bool := false
deriving DecidableEq, Repr

/-- A closing the detector watches (R252): the start of the off phase, fast or slow decay, whether the entry ended with it. -/
structure Closing where
  start    : Nat
  slow     : Bool
  ended    : Bool
  offEvent : Bool := true
  recAt    : Option Nat := none
deriving DecidableEq, Repr

/-- A slope of the detector (R250): current over time. -/
structure Slope where
  rise : Int
  time : Nat
deriving DecidableEq, Repr

/-- What the detector holds in dwell (R250, R251): the start of the on-interval, the least slope, the end of travel it found. -/
structure DwellSlopes where
  onAt  : Option Nat := none
  least : Option Slope := none
  found : Option Nat := none
deriving DecidableEq, Repr

/-- One drive channel (R218 to R238, R245, R254). E_r after a reset is that of the templates' reset value of BOOST_TMAX (R245). -/
structure Chan where
  running   : Option Entry := none
  pending   : Option Entry := none
  phase     : Phase := .idle
  opening   : Option Opening := none
  onEnd     : Option Nat := none
  closing   : Option Closing := none
  waitRec   : Bool := false
  retryEnd  : Option Nat := none
  hot       : Bool := false
  offDiag   : Bool := false
  diagOpen  : Bool := false
  diagGnd   : Bool := false
  byCas     : Bool := false
  releasing : Bool := false
  er        : Nat := 4000
  noKink    : Bool := false
  lowClosed : Bool := false
  loopSet   : Nat := 0
  regAt     : Nat := 0
  target    : Nat := 0
  onTime    : Nat := 0
  closedAt  : Option Nat := none
  lastSlow  : Bool := false
  setPt     : Nat := 0
  setAt     : Nat := 0
  slopes    : DwellSlopes := {}
deriving DecidableEq, Repr

/-- A rise in the queue of the boost switch (R239): its key, its channel and the scheduled start of its opening. -/
structure Rise where
  key   : Nat
  chan  : Nat
  sched : Nat
  late  : Bool
deriving DecidableEq, Repr

/-- One cassette sequencer (R239 to R247): the queue, the rise the boost switch serves with the PT it began, the hold
after a cassette fault, whether the output stands on the boost rail and since when it has stood where it stands (R216, R250), and the
successive 1 ms means of the output current: the last in 10 mA, its PT, and the run above 4.00 A (R247). -/
structure Cassette where
  queue    : List Rise := []
  serving  : Option (Nat × Nat) := none
  retryEnd : Option Nat := none
  onRail   : Bool := false
  feedAt   : Nat := 0
  mean     : Nat := 0
  meanAt   : Nat := 0
  overRun  : Nat := 0
deriving DecidableEq, Repr

/-- The boost converter (R228 to R231, R236): the rail in 0.25 V as last measured, charging, the clamp. -/
structure Boost where
  rail     : Nat := 0
  charging : Bool := false
  clamping : Bool := false
deriving DecidableEq, Repr

end Sys2Proof.Machine
end

