-- ==== Sys2Proof/Machine/StateTandem.lean ====
section
/-! DEFINITION. Part of the state: the tandem link (R486 to R504) and the loop-back that runs (R526 to R533). Plain data only. -/
namespace Sys2Proof.Machine

/-- An attach in progress (R501, R502): the request and its descriptor, when it began, when the last ATTACH frame went, whether the
partner's frame passed the checks, whether the snapshot has been taken, its blocks, whether the last one was acknowledged, whether it has been loaded,
and the events forwarded before that. -/
structure Attach where
  role     : Nat
  addr     : Nat
  desc     : Nat × Nat
  begun    : Nat
  sentAt   : Nat
  passed   : Bool := false
  taken    : Bool := false
  blocks   : List (List XferItem) := []
  next     : Nat := 0
  sent     : Option Nat := none
  tries    : Nat := 0
  received : List XferItem := []
  allIn    : Bool := false
  synced   : Bool := false
  held     : List TdmFeed := []
deriving DecidableEq, Repr

/-- A takeover in its quiet check (R495, R496): cause, and PT of the cause. -/
structure Takeover where
  cause : Nat
  at_   : Nat
deriving DecidableEq, Repr

/-- The tandem link beside the TDM registers: the attach, SEQ and heartbeat numbers, what the running partner period has seen, the run
of missed periods, when heartbeats and frames last came, the digests that wait, the takeover, the yield and detach in progress, the
failing slots of R498, the PT until which the package counts as attached for R499, the pulses after a wake, the slot and the partner slot served last in implement time, the events that wait. -/
structure Tandem where
  attach     : Option Attach := none
  seq        : Nat := 0
  hbNumber   : Nat := 0
  hbLast     : Nat := 0
  hbAcked    : Nat := 0
  byFrame    : Bool := false
  byLine     : Bool := false
  missed     : Nat := 0
  lastHb     : Nat := 0
  lastFrame  : Nat := 0
  downAt     : Option Nat := none
  downSaid   : Bool := false
  own        : List (Nat × Nat) := []
  theirs     : List (Nat × Nat) := []
  diverging  : Bool := false
  takeover   : Option Takeover := none
  yielding   : Option (Nat × Option (Nat × Nat)) := none
  yieldNext  : Option (Nat × Nat) := none
  resumeNext : Bool := false
  detachAt   : Option (Nat × Option (Nat × Nat)) := none
  badSlots   : Nat := 0
  attachedAt : Option Nat := none
  partnerLost : Bool := false
  parkAttached : Bool := false
  pulseEnd   : Option Nat := none
  lastPulse  : Option Nat := none
  judged     : Option Nat := none
  events     : List (List Byte) := []
deriving DecidableEq, Repr

/-- The loop-back that runs (R526): target, depth, spoke, instance, and when it began. -/
structure LbRun where
  target : Nat
  depth  : Nat
  spoke  : Nat
  inst   : Nat
  at_    : Nat
deriving DecidableEq, Repr

end Sys2Proof.Machine
end

