-- ==== Sys2Proof/Machine/State.lean ====
section
/-! DEFINITION. The state of the block, the reasons a step stops, and the state right after power-on reset. -/
namespace Sys2Proof.Machine

/-- What a spoke holds beyond its registers (R12, R13). -/
structure Spoke where
  chans  : KMap Chan := []
  cas    : KMap Cassette := []
  boost  : Boost := {}
  ctl    : LoopEngine := {}
  pairs  : KMap Pair := []
  gnss   : Gnss := {}
deriving DecidableEq, Repr

/-- The device without its byte memories and its command queue. `pt` is package time, a 64-bit count of 4 ns ticks (R31), `ticks` the
reference ticks gone by, which no adjustment of PT changes (R35, R433); `free` is the model's own counter of free values used (log entry 1); `regs` is the register file by BAR0 offset, `marks` the bits of it that hardware has set since the last
tick (R9); `out` is
what the device has issued at its boundaries, newest last (R88); `ecc` the words of its buffers that an upset has changed (R42). -/
structure Dev where
  chip   : Chip := {}
  pt     : Nat := 0
  ticks  : Nat := 0
  free   : Nat := 0
  regs   : KMap Word := []
  marks  : KMap Nat := []
  ecc    : List Upset := []
  out    : List OutEvent := []
  pins   : Pins := {}
  pwr    : Pwr := {}
  links  : KMap Link := []
  pcie   : Pcie := {}
  host   : HostIf := {}
  hic    : IrqCtl := {}
  sic    : KMap IrqCtl := []
  log    : Logbook := {}
  health : Health := {}
  spokes : KMap Spoke := []
  eng    : Engine := {}
  time   : TimeUnit := {}
  can    : KMap CanCtl := []
  sox    : Sox := {}
  tdm    : Tandem := {}
  lb     : Option LbRun := none
deriving DecidableEq, Repr

/-- The byte memories: the implement-table staging area (R145), the staged image set of the firmware ring (R117). -/
structure Mems where
  staging : List Host.Cell := []
  fwSet   : List Host.Cell := []
deriving DecidableEq, Repr

/-- The whole state: the commands that wait, first in, first out, the byte memories and the device. -/
structure State where
  pending : List Instr := []
  mem     : Mems := {}
  dev     : Dev := {}
deriving DecidableEq, Repr

/-- Why a step stops with a fault. -/
inductive Fault where
  /-- A command names a channel, cassette, pair, loop, ring or controller that no part has (R1, R13). Raised by `onUnit` and `onHub`.
  Safe: nothing is there that could act. -/
  | absentUnit (unit : Nat)
deriving DecidableEq, Repr

/-- Why a step is refused. -/
inductive Refusal where
  /-- The command has no meaning yet. Raised by the dispatcher only. Safe. -/
  | notModelled (mnemonic : String)
deriving DecidableEq, Repr

/-- The device right after power-on reset (R53, R85): every register at its reset value, but PWR_CAUSE.RESET, which names the reset,
the power-cycle count, which gains 1 (R466), and the package current of HLT_PKG, which the variant gives. PWR_EN goes high 50 µs
later (step 2 of R53). Log entries 4 and 5. -/
def Dev.reset : Dev :=
  { regs := [(0x0200C, 0x01000000), (0x0401C, 0x00000001), (0x0500C, 0x000003C0)]
    pwr  := { powerFrom := some 0, opTime := 1 }
    health := { lastReplan := 1 } }

/-- The state right after reset: nothing waits, the byte memories list nothing. -/
def State.reset : State := { dev := Dev.reset }

end Sys2Proof.Machine
end

