-- ==== Sys2Proof/Machine/Ops.lean ====
section
/-! DEFINITION. The named operations over sparse tables, byte memories, register fields, package time, free values and
check codes that every family of commands uses. -/
namespace Sys2Proof.Machine

/-! ### Sparse tables -/

/-- The value at key k, `dflt` where the table lists none. -/
def kget {α : Type} (m : KMap α) (k : Nat) (dflt : α) : α :=
  match m with
  | [] => dflt
  | (j, v) :: rest => if j = k then v else kget rest k dflt

/-- The table without key k. -/
def kdel {α : Type} (m : KMap α) (k : Nat) : KMap α :=
  m.filter fun e => e.1 != k

/-- The table with an entry for k placed in key order. -/
def kins {α : Type} (m : KMap α) (k : Nat) (v : α) : KMap α :=
  match m with
  | [] => [(k, v)]
  | (j, w) :: rest =>
    if k < j then (k, v) :: (j, w) :: rest
    else if k = j then (k, v) :: rest
    else (j, w) :: kins rest k v

/-- Write v at key k; a value equal to the default is not listed. -/
def kput {α : Type} [DecidableEq α] (m : KMap α) (k : Nat) (v dflt : α) : KMap α :=
  if v = dflt then kdel m k else kins m k v

/-- Change the value at key k. -/
def kupd {α : Type} [DecidableEq α] (m : KMap α) (k : Nat) (dflt : α) (f : α → α) : KMap α :=
  kput m k (f (kget m k dflt)) dflt

/-- The canonical form: keys strictly rising and no entry equal to the default. -/
def kwf {α : Type} [DecidableEq α] (dflt : α) : KMap α → Bool
  | [] => true
  | [(_, v)] => v != dflt
  | (j, v) :: (k, w) :: rest => decide (j < k) && v != dflt && kwf dflt ((k, w) :: rest)

/-- A byte memory is in canonical form (an unlisted address reads as 0). -/
def Memory.wf (m : List Host.Cell) : Bool := kwf (0 : Byte) m

/-- Read one byte. -/
def memRead (m : List Host.Cell) (a : Nat) : Byte := kget m a 0

/-- Write one byte. -/
def memWrite (m : List Host.Cell) (a : Nat) (b : Byte) : List Host.Cell := kput m a b 0

/-- Write bytes at rising addresses. -/
def memWriteBytes (m : List Host.Cell) (a : Nat) : List Byte → List Host.Cell
  | [] => m
  | b :: bs => memWriteBytes (memWrite m a b) (a + 1) bs

/-- Read n bytes at rising addresses. -/
def memReadBytes (m : List Host.Cell) (a : Nat) : Nat → List Byte
  | 0 => []
  | n + 1 => memRead m a :: memReadBytes m (a + 1) n

/-! ### Numbers and bytes -/

/-- The value of little-endian bytes (R5). -/
def leVal : List Byte → Nat
  | [] => 0
  | b :: bs => b.toNat + 256 * leVal bs

/-- n little-endian bytes of a value (R5). -/
def leBytes : Nat → Nat → List Byte
  | 0, _ => []
  | n + 1, v => BitVec.ofNat 8 v :: leBytes n (v / 256)

/-- The n bytes at an offset of a structure (R6), as a value. -/
def leAt (bs : List Byte) (off n : Nat) : Nat := leVal ((bs.drop off).take n)

/-- The two's-complement value of n bits (R8). -/
def signedOf (n v : Nat) : Int :=
  if v % 2 ^ n < 2 ^ (n - 1) then (v % 2 ^ n : Nat) else (v % 2 ^ n : Nat) - (2 ^ n : Nat)

/-- n bits of an integer in two's complement. -/
def toBits (n : Nat) (x : Int) : Nat := (x % (2 ^ n : Nat)).toNat

/-- Limit an integer to a range. -/
def clampI (lo hi x : Int) : Int := if x < lo then lo else if hi < x then hi else x

/-- Add to a counter that stops at a ceiling. -/
def satAdd (ceil x n : Nat) : Nat := min ceil (x + n)

/-- Bit b of a number. -/
def bit (v b : Nat) : Bool := v.testBit b

/-- A number with bit b set or cleared. -/
def putBit (v b : Nat) (on : Bool) : Nat :=
  if on then v ||| 2 ^ b else v - (if v.testBit b then 2 ^ b else 0)

/-- The larger integer not above the square root (structural bisection on n bits). -/
def isqrtAux (x : Nat) : Nat → Nat → Nat
  | 0, r => r
  | n + 1, r =>
    let t := r + 2 ^ n
    isqrtAux x n (if t * t ≤ x then t else r)

/-- ⌊√x⌋ for x below 2^128. -/
def isqrt (x : Nat) : Nat := isqrtAux x 64 0

/-! ### Check codes -/

/-- One bit step of a CRC of width n with polynomial p, most significant bit first. -/
def crcStep (n p c : Nat) : Nat :=
  if c.testBit (n - 1) then ((c * 2) % 2 ^ n) ^^^ p else (c * 2) % 2 ^ n

/-- CRC-16 of R17: polynomial 0x1021, initial value 0xFFFF, most significant bit first. -/
def crc16Byte (c : Nat) (b : Byte) : Nat :=
  (List.range 8).foldl (fun c _ => crcStep 16 0x1021 c) (c ^^^ (b.toNat * 256))

/-- CRC-16 over bytes (R17, R450). -/
def crc16 (bs : List Byte) : Nat := bs.foldl crc16Byte 0xFFFF

/-- One reflected byte of CRC-32C (R105): polynomial 0x1EDC6F41, reflected 0x82F63B78. -/
def crc32Byte (c : Nat) (b : Byte) : Nat :=
  (List.range 8).foldl (fun c _ => if c % 2 = 1 then (c / 2) ^^^ 0x82F63B78 else c / 2) (c ^^^ b.toNat)

/-- CRC-32C over bytes (R105). -/
def crc32c (bs : List Byte) : Nat := (bs.foldl crc32Byte 0xFFFFFFFF) ^^^ 0xFFFFFFFF

/-! ### Register fields -/

/-- The stored word of a register. -/
def rget (r : Reg) (d : Dev) : Word := kget d.regs r.off r.reset

/-- Store the word of a register. -/
def rput (r : Reg) (w : Word) (d : Dev) : Dev := { d with regs := kput d.regs r.off w r.reset }

/-- The bits [lo + len − 1 : lo] of a word (R4). -/
def wordField (w : Word) (lo len : Nat) : Nat := (w.toNat >>> lo) % 2 ^ len

/-- A word with those bits replaced. -/
def wordPut (w : Word) (lo len v : Nat) : Word :=
  BitVec.ofNat 32 (w.toNat - (wordField w lo len <<< lo) + ((v % 2 ^ len) <<< lo))

/-- The value of a register field. -/
def getF (f : Fld) (d : Dev) : Nat := wordField (rget f.reg d) f.lo f.len

/-- Set a register field. -/
def setF (f : Fld) (v : Nat) (d : Dev) : Dev := rput f.reg (wordPut (rget f.reg d) f.lo f.len v) d

/-! ### Package time, free values, boundary -/

/-- Ticks of n microseconds, milliseconds and seconds (R10). -/
def us (n : Nat) : Nat := 250 * n
def ms (n : Nat) : Nat := 250000 * n
def sec (n : Nat) : Nat := 250000000 * n

/-- Set PT: a 64-bit count (R31). -/
def setPt (n : Nat) (d : Dev) : Dev := { d with pt := n % 2 ^ 64 }

/-- A value the specification leaves open (log entry 1), and the device with that value used up. -/
def fresh (d : Dev) : Nat × Dev := (Config.freeNat d.free, { d with free := d.free + 1 })

/-- n bytes the specification leaves open. -/
def freeBytes : Nat → Dev → List Byte × Dev
  | 0, d => ([], d)
  | n + 1, d =>
    let (v, d) := fresh d
    let (bs, d) := freeBytes n d
    (BitVec.ofNat 8 v :: bs, d)

/-- Issue something at the device's boundary (R88). -/
def emit (e : OutEvent) (d : Dev) : Dev := { d with out := d.out ++ [e] }

/-- Ticks to a whole number of microseconds. Where the specification does not say how a fraction rounds, a free bit
decides (log entry 2). -/
def toUs (t : Nat) (d : Dev) : Nat × Dev :=
  if t % 250 = 0 then (t / 250, d)
  else
    let (v, d) := fresh d
    (t / 250 + v % 2, d)

/-- The grid instant n × period + offset reached at PT t: the first tick with PT not below it. A deleted tick puts PT one
past the instant (R36). -/
def gridReached (period offset t : Nat) : Option Nat :=
  if period = 0 || t < offset then none
  else
    let past := (t - offset) % period
    if past ≤ 1 then some (t - past) else none

/-- num / den (den > 0) as a whole number. Where the specification does not say how a fraction rounds, a free bit
decides between the two neighbours (log entry 2). -/
def divFree (num : Int) (den : Nat) (d : Dev) : Int × Dev :=
  if num % (den : Int) = 0 then (num / (den : Int), d)
  else
    let (v, d) := fresh d
    (num / (den : Int) + (v % 2 : Nat), d)

/-- A value that was measured, or where none was an open one below a bound. -/
def measuredOr (o : Option Nat) (bound : Nat) (d : Dev) : Nat × Dev :=
  match o with
  | some v => (v, d)
  | none =>
    let (v, d) := fresh d
    (v % bound, d)

/-- A measured quotient in a field of values below `bound`; one outside the field is open. -/
def measured (num den bound : Nat) (d : Dev) : Nat × Dev :=
  if den = 0 then measuredOr none bound d
  else
    let (q, d) := divFree num den d
    measuredOr (if q.toNat < bound then some q.toNat else none) bound d

/-- Do f if c. -/
def whenD (c : Bool) (f : Dev → Dev) (d : Dev) : Dev := if c then f d else d

/-- Do f for each element, in order. -/
def eachD {α : Type} (xs : List α) (f : α → Dev → Dev) (d : Dev) : Dev := xs.foldl (fun d x => f x d) d

/-! ### Status codes of a completion (R124) -/

def stOk : Nat := 0x00
def stBadCrc : Nat := 0x01
def stBadOpcode : Nat := 0x02
def stBadLength : Nat := 0x03
def stRingClass : Nat := 0x04
def stNotArmed : Nat := 0x05
def stRestricted : Nat := 0x06
def stRetryLimit : Nat := 0x07
def stNoAck : Nat := 0x08
def stTimeout : Nat := 0x09
def stBusy : Nat := 0x0A
def stAborted : Nat := 0x0B

end Sys2Proof.Machine
end

