-- ==== Sys2Proof/Machine/Flags.lean ====
section
/-! DEFINITION. Flags: setting, clearing and reading the one-bit fields of registers, bit maps and counters that stop at their
ceiling (R4, R9). Every status bit, cause bit and sticky error the rules name goes through these. -/
namespace Sys2Proof.Machine

/-- Whether a one-bit field reads 1. -/
def isSet (f : Fld) (d : Dev) : Bool := getF f d != 0

/-- The bits of a register that hardware has set in the present tick (R9). -/
def marksOf (off : Nat) (d : Dev) : Nat := kget d.marks off 0

/-- Note that hardware sets bits of a register in the present tick. -/
def markBits (off n : Nat) (d : Dev) : Dev := { d with marks := kupd d.marks off 0 (· ||| n) }

/-- Set a one-bit field or a flag. -/
def raise (f : Fld) (d : Dev) : Dev := markBits f.reg.off (2 ^ f.lo) (setF f 1 d)

/-- Hardware has set a one-bit flag in the present tick, so that a 1 written in that tick does not clear it (R9). -/
def setNow (f : Fld) (d : Dev) : Bool := bit (marksOf f.reg.off d) f.lo

/-- Clear a field. -/
def lower (f : Fld) (d : Dev) : Dev := setF f 0 d

/-- Set or clear a one-bit field. -/
def flag (f : Fld) (b : Bool) (d : Dev) : Dev := if b then raise f d else lower f d

/-- Add 1 to a counter field, which stops at its largest value. -/
def countF (f : Fld) (d : Dev) : Dev := setF f (satAdd (2 ^ f.len - 1) (getF f d) 1) d

/-- Set one bit of a field that is a bit map. -/
def bitF (f : Fld) (b : Nat) (on : Bool) (d : Dev) : Dev :=
  whenD on (markBits f.reg.off (2 ^ (f.lo + b))) (setF f (putBit (getF f d) b on) d)

/-- Bit b of a field that is a bit map. -/
def bitOf (f : Fld) (b : Nat) (d : Dev) : Bool := bit (getF f d) b

end Sys2Proof.Machine
end

