-- ==== Sys2Proof/Machine/Operands.lean ====
section
/-! DEFINITION. The units that commands name: the spokes of the part (R1, R12), their channels, cassettes, pairs, loops and
links, the reading and changing of each, and how a meaning answers for a unit the part has or lacks. -/
namespace Sys2Proof.Machine

/-! ### The part -/

/-- Spokes of the part (R1). -/
def nSpokes (d : Dev) : Nat :=
  match d.chip.variant with
  | .yn2 => 1
  | .yn4 => 3
  | .yn8 => 7

/-- Whether the part has spoke k (R12). -/
def hasSpoke (k : Nat) (d : Dev) : Bool := decide (1 ≤ k) && decide (k ≤ nSpokes d)

/-- The spokes of the part, ascending. -/
def spokeList (d : Dev) : List Nat := (List.range (nSpokes d)).map (· + 1)

def getSpoke (k : Nat) (d : Dev) : Spoke := kget d.spokes k {}
def updSpoke (k : Nat) (f : Spoke → Spoke) (d : Dev) : Dev := { d with spokes := kupd d.spokes k {} f }
def getLink (k : Nat) (d : Dev) : Link := kget d.links k {}
def updLink (k : Nat) (f : Link → Link) (d : Dev) : Dev := { d with links := kupd d.links k {} f }
def getChan (k n : Nat) (d : Dev) : Chan := kget (getSpoke k d).chans n {}
def updChan (k n : Nat) (f : Chan → Chan) (d : Dev) : Dev :=
  updSpoke k (fun s => { s with chans := kupd s.chans n {} f }) d
def getCas (k c : Nat) (d : Dev) : Cassette := kget (getSpoke k d).cas c {}
def updCas (k c : Nat) (f : Cassette → Cassette) (d : Dev) : Dev :=
  updSpoke k (fun s => { s with cas := kupd s.cas c {} f }) d
def getPair (k p : Nat) (d : Dev) : Pair := kget (getSpoke k d).pairs p {}
def updPair (k p : Nat) (f : Pair → Pair) (d : Dev) : Dev :=
  updSpoke k (fun s => { s with pairs := kupd s.pairs p {} f }) d
def getCtl (k : Nat) (d : Dev) : LoopEngine := (getSpoke k d).ctl
def updCtl (k : Nat) (f : LoopEngine → LoopEngine) (d : Dev) : Dev := updSpoke k (fun s => { s with ctl := f s.ctl }) d
def getLoop (k l : Nat) (d : Dev) : Loop := kget (getCtl k d).loops l {}
def updLoop (k l : Nat) (f : Loop → Loop) (d : Dev) : Dev :=
  updCtl k (fun c => { c with loops := kupd c.loops l {} f }) d
def getGnss (k : Nat) (d : Dev) : Gnss := (getSpoke k d).gnss
def updGnss (k : Nat) (f : Gnss → Gnss) (d : Dev) : Dev := updSpoke k (fun s => { s with gnss := f s.gnss }) d
def updTime (f : TimeUnit → TimeUnit) (d : Dev) : Dev := { d with time := f d.time }
def updBoost (k : Nat) (f : Boost → Boost) (d : Dev) : Dev := updSpoke k (fun s => { s with boost := f s.boost }) d

/-- The spoke's PT: the hub's, but for an offset a PT check would find (R32, R33). -/
def spokePt (k : Nat) (d : Dev) : Nat := ((d.pt : Int) + (getLink k d).ptOff).toNat

/-- The sequencer's state (R51). -/
def pstate (d : Dev) : PwrState := d.pwr.state

/-- A boundary-scan instruction holds the outputs off (R534). -/
def tapHolds (d : Dev) : Bool :=
  match d.pins.tap with
  | .extest => true | .extestPulse => true | .extestTrain => true | .clamp => true
  | .bypass => false | .idcode => false | .sample => false

/-- The ARM ball is high, and no boundary-scan instruction makes the part act as with it low (R73, R534). -/
def armHigh (d : Dev) : Bool := d.pins.arm && !tapHolds d

/-- A write of a set-up register that a command stands for: discarded in restricted service (R69). -/
def setUp (f : Dev → Dev) (d : Dev) : Dev := if pstate d = .restricted then d else f d

/-- A spoke is powered, and not in restricted service, where its output domains are off (R46, R69). -/
def spokeFull (k : Nat) (d : Dev) : Bool := d.pwr.spokeOn.contains k && pstate d != .restricted

/-- The SBOOST domain of a spoke is powered (R46, R545). -/
def sboostOn (k : Nat) (d : Dev) : Bool := spokeFull k d && isSet (F.DRV_BOOST_CFG.EN k) d

/-- Some channel of drive quarter q is configured. -/
def quarterUsed (k q : Nat) (d : Dev) : Bool := (List.range 16).any fun i => getF (F.DRV_CH_CFG.OWNER k (16 * q + i)) d != 0

/-- The domain of drive quarter q of a spoke is powered (R40, R46). -/
def sdqOn (k q : Nat) (d : Dev) : Bool := spokeFull k d && quarterUsed k q d

/-- Outputs are enabled (R51). -/
def isArmed (d : Dev) : Bool := d.pwr.state = .armed

/-- Spoke k is isolated (R478). -/
def isIsolated (k : Nat) (d : Dev) : Bool := bitOf F.PWR_STATE.ISOLATED (k - 1) d

/-- The 64-bit PT whose low 32 bits are v and that lies in [p − 2³¹, p + 2³¹) (R21). Where that value is negative, PT 0
(log entry 113). -/
def extendPt (p v : Nat) : Nat :=
  let low := v % 2 ^ 32
  let base := p - p % 2 ^ 32 + low
  if base ≥ p + 2 ^ 31 then base - 2 ^ 32
  else if base + 2 ^ 31 < p then base + 2 ^ 32
  else base

/-! ### How a meaning answers -/

/-- The next state with the device changed. -/
def run (f : Dev → Dev) (s : State) : Host.Outcome State Fault Refusal := .next { s with dev := f s.dev }

/-- As `run`, for a command about spoke k: in a part without that spoke nothing is there that it could act on (log entry 112). -/
def onSpoke (k : Nat) (f : Dev → Dev) (s : State) : Host.Outcome State Fault Refusal := if hasSpoke k s.dev then run f s else .next s

/-- As `onSpoke`, for unit n of a kind every spoke has m of (R13). -/
def onUnit (k n m : Nat) (f : Dev → Dev) (s : State) : Host.Outcome State Fault Refusal :=
  if n < m then onSpoke k f s else .fault (.absentUnit n)

/-- As `run`, for unit n of a kind the hub has m of. -/
def onHub (n m : Nat) (f : Dev → Dev) (s : State) : Host.Outcome State Fault Refusal :=
  if n < m then run f s else .fault (.absentUnit n)

end Sys2Proof.Machine
end

