-- ==== Sys2Proof/Machine/Auth.lean ====
section
/-! DEFINITION. The image authenticator (R55): SHA-256, the signature check of ECDSA over P-256 (FIPS 180 and FIPS 186, which R55 names), and the
image header. -/
namespace Sys2Proof.Machine

/-! ### Big-endian numbers -/

/-- The value of big-endian bytes. -/
def beVal (bs : List Byte) : Nat := bs.foldl (fun n b => n * 256 + b.toNat) 0

/-- n big-endian bytes of a value. -/
def beBytes (n v : Nat) : List Byte := (leBytes n v).reverse

/-! ### SHA-256 -/

/-- Rotate a 32-bit word right. -/
def rotr (n x : Nat) : Nat := (x >>> n) ||| ((x <<< (32 - n)) % 2 ^ 32)

/-- n is a prime number above 1, for n below 400. -/
def isPrime (n : Nat) : Bool := (List.range 18).all fun q => n % (q + 2) != 0 || n == q + 2

/-- The first n primes. -/
def primes (n : Nat) : List Nat := ((List.range 312).filter fun m => decide (2 ≤ m) && isPrime m).take n

/-- The greatest r below 2^n, above those bits of r already found, whose k-th power is at most x. -/
def rootAux (k x : Nat) : Nat → Nat → Nat
  | 0, r => r
  | n + 1, r => rootAux k x n (if (r + 2 ^ n) ^ k ≤ x then r + 2 ^ n else r)

/-- The first 32 fraction bits of the k-th root of p. -/
def rootBits (k p : Nat) : Nat := rootAux k (p * 2 ^ (32 * k)) 37 0 % 2 ^ 32

/-- The round constants: from the cube roots of the first 64 primes. -/
def shaK : List Nat := (primes 64).map (rootBits 3)

/-- The initial hash value: from the square roots of the first 8 primes. -/
def shaInit : List Nat := (primes 8).map (rootBits 2)

/-- The next word of the message schedule from the last sixteen, newest first. -/
def shaNext (w : List Nat) : Nat :=
  let a := w.getD 14 0
  let b := w.getD 1 0
  let s0 := rotr 7 a ^^^ rotr 18 a ^^^ (a >>> 3)
  let s1 := rotr 17 b ^^^ rotr 19 b ^^^ (b >>> 10)
  (w.getD 15 0 + s0 + w.getD 6 0 + s1) % 2 ^ 32

/-- The message schedule grows by n words, newest first. -/
def shaExpand : Nat → List Nat → List Nat
  | 0, w => w
  | n + 1, w => shaExpand n (shaNext w :: w)

/-- One round on the working variables a to h. -/
def shaRound (v : List Nat) (kw : Nat) : List Nat :=
  match v with
  | [a, b, c, d, e, f, g, h] =>
    let t1 := h + (rotr 6 e ^^^ rotr 11 e ^^^ rotr 25 e) + ((e &&& f) ^^^ ((2 ^ 32 - 1 - e) &&& g)) + kw
    let t2 := (rotr 2 a ^^^ rotr 13 a ^^^ rotr 22 a) + ((a &&& b) ^^^ (a &&& c) ^^^ (b &&& c))
    [(t1 + t2) % 2 ^ 32, a, b, c, (d + t1) % 2 ^ 32, e, f, g]
  | _ => v

/-- n successive 32-bit words of a message, newest first. -/
def shaWords : Nat → List Byte → List Nat → List Nat
  | 0, _, w => w
  | n + 1, bs, w => shaWords n (bs.drop 4) (beVal (bs.take 4) :: w)

/-- The compression of one 64-byte block. -/
def shaBlock (h : List Nat) (bs : List Byte) : List Nat :=
  let w := (shaExpand 48 (shaWords 16 bs [])).reverse
  let v := (shaK.zip w).foldl (fun v kw => shaRound v (kw.1 + kw.2)) h
  (h.zip v).map fun x => (x.1 + x.2) % 2 ^ 32

/-- The compression of n blocks. -/
def shaBlocks : Nat → List Nat → List Byte → List Nat
  | 0, h, _ => h
  | n + 1, h, bs => shaBlocks n (shaBlock h bs) (bs.drop 64)

/-- The SHA-256 digest of a message. -/
def sha256 (bs : List Byte) : List Byte :=
  let n := bs.length
  let zeros := (119 - n % 64) % 64
  let msg := bs ++ (0x80 : Byte) :: List.replicate zeros 0 ++ beBytes 8 (8 * n)
  (shaBlocks (msg.length / 64) shaInit msg).flatMap (beBytes 4)

/-! ### The curve P-256 -/

def p256P : Nat := 2 ^ 256 - 2 ^ 224 + 2 ^ 192 + 2 ^ 96 - 1
def p256N : Nat := 0xffffffff00000000ffffffffffffffffbce6faada7179e84f3b9cac2fc632551
def p256B : Nat := 0x5ac635d8aa3a93e7b3ebbd55769886bc651d06b0cc53b0f63bce3c3e27d2604b
def p256G : Nat × Nat :=
  (0x6b17d1f2e12c4247f8bce6e563a440f277037d812deb33a0f4a13945d898c296,
   0x4fe342e2fe1a7f9b8ee7eb4a7c0f9e162bce33576b315ececbb6406837bf51f5)

/-- A difference in the field. -/
def subP (a b : Nat) : Nat := (a + p256P - b % p256P) % p256P

/-- A point with Jacobian coordinates; z 0 is the point at infinity. -/
structure JPoint where
  x : Nat
  y : Nat
  z : Nat
deriving DecidableEq, Repr

/-- Twice a point (a = −3). -/
def jDouble (q : JPoint) : JPoint :=
  let d := q.z * q.z % p256P
  let g := q.y * q.y % p256P
  let b := q.x * g % p256P
  let a := 3 * (subP q.x d * ((q.x + d) % p256P)) % p256P
  let x := subP (a * a % p256P) (8 * b)
  { x := x, y := subP (a * subP (4 * b) x % p256P) (8 * (g * g % p256P)), z := 2 * q.y * q.z % p256P }

/-- A point plus a point with affine coordinates. -/
def jAdd (q : JPoint) (r : Nat × Nat) : JPoint :=
  if q.z = 0 then { x := r.1, y := r.2, z := 1 }
  else
    let zz := q.z * q.z % p256P
    let u := r.1 * zz % p256P
    let s := r.2 * (zz * q.z % p256P) % p256P
    if u = q.x then (if s = q.y then jDouble q else { x := 1, y := 1, z := 0 })
    else
      let h := subP u q.x
      let t := subP s q.y
      let hh := h * h % p256P
      let hhh := h * hh % p256P
      let v := q.x * hh % p256P
      let x := subP (subP (t * t % p256P) hhh) (2 * v)
      { x := x, y := subP (t * subP v x % p256P) (q.y * hhh % p256P), z := q.z * h % p256P }

/-- The sum of u times G and v times Q over the n low bits of u and v, highest first. -/
def jSum (u v : Nat) (q : Nat × Nat) : Nat → JPoint → JPoint
  | 0, a => a
  | n + 1, a =>
    let a := jDouble a
    let a := if u.testBit n then jAdd a p256G else a
    jSum u v q n (if v.testBit n then jAdd a q else a)

/-- A power modulo m: the exponent's n low bits, highest first. -/
def powMod (m b e : Nat) : Nat → Nat → Nat
  | 0, a => a
  | n + 1, a =>
    let a := a * a % m
    powMod m b e n (if e.testBit n then a * b % m else a)

/-- A public key is a point of the curve. -/
def onCurve (q : Nat × Nat) : Bool :=
  decide (q.1 < p256P) && decide (q.2 < p256P) &&
    (q.2 * q.2 % p256P == (q.1 * q.1 % p256P * q.1 + subP p256B (3 * q.1)) % p256P)

/-- (r, s) is an ECDSA signature of a digest under the key q. -/
def ecdsaValid (digest : Nat) (r s : Nat) (q : Nat × Nat) : Bool :=
  if r = 0 || p256N ≤ r || s = 0 || p256N ≤ s || !onCurve q then false
  else
    let w := powMod p256N s (p256N - 2) 256 1
    let a := jSum (digest * w % p256N) (r * w % p256N) q 256 { x := 1, y := 1, z := 0 }
    let zi := powMod p256P a.z (p256P - 2) 256 1
    a.z != 0 && (a.x * (zi * zi % p256P) % p256P) % p256N == r

/-! ### Images -/

/-- The image whose header begins at an offset of a set (R55), with the authenticator's verdict on key, signature and body. -/
def imageAt (c : Chip) (m : List Byte) (off : Nat) : ImageV :=
  let h := (m.drop off).take 256
  let len := leAt h 8 4
  let key := (h.drop 112).take 64
  let slot := leAt h 5 1
  { kind := leAt h 4 1, keySlot := slot, gen := leAt h 6 2, length := len, rollback := leAt h 12 2
    keyOk := decide (slot < 4) && c.keyHashes[slot]? == some (sha256 key) && !c.revokedSlots.contains slot
    sigOk := ecdsaValid (beVal (sha256 (h.take 48))) (beVal ((h.drop 48).take 32)) (beVal ((h.drop 80).take 32))
      (beVal (key.take 32), beVal (key.drop 32))
    digestOk := sha256 ((m.drop (off + 256)).take len) == (h.drop 16).take 32 }

/-- The first of the conditions of R55 that an image fails, as a commit DETAIL (R118); 0: it is accepted. -/
def imageDetail (v : ImageV) (c : Chip) : Nat :=
  if !v.keyOk then 2
  else if !v.sigOk then 3
  else if !v.digestOk then 4
  else if v.rollback < c.rollbackFloor then 5
  else 0

/-- An image passes R55. -/
def imageAccepted (v : ImageV) (c : Chip) : Bool := imageDetail v c == 0

/-- Bytes of one image in a set: header and body, up to a multiple of 256. -/
def imageSpan (body : Nat) : Nat := (256 + body + 255) / 256 * 256

/-- The images of a set of bytes: the offset of each header; none where a block is neither a header nor a gap of zeros, or an image runs
past the end (log entry 41). -/
def findImages (m : List Byte) : Nat → Nat → Option (List Nat)
  | 0, _ => some []
  | n + 1, off =>
    if m.length ≤ off then some []
    else if leAt m off 4 = 0x594E4931 then
      let body := leAt m (off + 8) 4
      if m.length < off + 256 + body then none
      else (findImages m n (off + imageSpan body)).map (off :: ·)
    else if ((m.drop off).take 256).all (· == 0) then findImages m n (off + 256)
    else none

/-- The entries of a manifest body (R64). COUNT 0 lists none, and of a COUNT above 64 the first 64 are read (log entry 115). -/
def manifestAt (m : List Byte) (off : Nat) : List ManEntry :=
  let f := fun (o : Nat) => leAt m (off + o) 2
  (List.range (min 64 (f 0))).map fun i =>
    { hub := f (4 + 12 * i), spoke := f (6 + 12 * i), ucode := f (8 + 12 * i), abiMin := f (10 + 12 * i), abiMax := f (12 + 12 * i) }

/-- The set that bytes spell: its images as the authenticator judges them, in order, and its manifest; none where the layout is broken. -/
def parseSet (c : Chip) (m : List Byte) : Option ImageSet :=
  (findImages m (m.length / 256 + 1) 0).map fun offs =>
    { images := offs.map (imageAt c m)
      manifest := match offs.find? fun off => leAt m (off + 4) 1 == 4 with
        | some off => manifestAt m (off + 256)
        | none => [] }

end Sys2Proof.Machine
end

