-- ==== Sys2Proof/Machine/Log.lean ====
section
/-! DEFINITION. The logbook: how an event enters the galley (R459 to R461), how a record is stored (R453 to R455), the
colophon (R465), the scan (R456) and what LOG_READ copies (R469). -/
namespace Sys2Proof.Machine

/-- Where an event comes from (R452): die, block and index. -/
structure LogSrc where
  die   : Nat
  block : Nat
  index : Nat := 0
deriving DecidableEq, Repr

/-- The pending DROPPED summary gains one drop of severity s (R455). -/
def noteDrop (s : Nat) (d : Dev) : Dev :=
  let l := d.log
  { d with log := { l with
      dropped := kupd l.dropped s 0 (satAdd 255 · 1)
      firstDrop := if l.dropped = [] then d.pwr.opTime else l.firstDrop } }

/-- Count a galley drop of severity s (R461). -/
def galleyDrop (s : Nat) (d : Dev) : Dev :=
  d |> (if s < 4 then countF (F.LOG_GDROP_LO.GDROP s) else countF (F.LOG_GDROP_HI.GDROP (s - 4)))
    |> raise F.LOG_STATUS.GALLEY_DROP_SEEN
    |> noteDrop s

/-- Count a store drop of severity s (R454). -/
def storeDrop (s : Nat) (d : Dev) : Dev :=
  d |> (if s < 4 then countF (F.LOG_DROP_LO.DROP s) else countF (F.LOG_DROP_HI.DROP (s - 4)))
    |> raise F.LOG_STATUS.DROP_SEEN
    |> noteDrop s

/-- Two events coalesce (R460). -/
def sameEvent (a b : LogEntry) : Bool :=
  a.code == b.code && a.die == b.die && a.block == b.block && a.index == b.index

/-- The galley without its youngest entry of severity s. -/
def dropYoungest (s : Nat) (g : List LogEntry) : List LogEntry :=
  let r := g.reverse
  (r.takeWhile (fun e => e.sev != s) ++ (r.dropWhile (fun e => e.sev != s)).drop 1).reverse

/-- The logbook may store a record now (R456, R458, R462, R470). -/
def mayStore (d : Dev) : Bool :=
  d.log.scanned && d.log.frozen.isNone && !d.log.erasing && !d.log.stopped

/-- The galley head while its store write is under way (R460): whenever the logbook may store a record (log entry 146). -/
def galleyWriting (d : Dev) : List LogEntry := if mayStore d then d.log.galley.take 1 else []

/-- The entries waiting in the galley (R460, R461): all but the one whose store write has begun. -/
def galleyWaiting (d : Dev) : List LogEntry := if mayStore d then d.log.galley.drop 1 else d.log.galley

/-- An event enters the galley: coalesced with the youngest entry, or taking an entry, or dropped (R459 to R461). -/
def enterGalley (e : LogEntry) (d : Dev) : Dev :=
  let g := galleyWaiting d
  let keep := fun (w : List LogEntry) => { d with log := { d.log with galley := galleyWriting d ++ w } }
  match g.getLast? with
  | some y =>
    if sameEvent y e && decide (y.repeat_ < 255) then keep (g.dropLast ++ [{ y with repeat_ := y.repeat_ + 1 }])
    else if g.length < 64 then keep (g ++ [e])
    else
      let low := g.foldl (fun m x => min m x.sev) 7
      if low < e.sev then galleyDrop low (keep (dropYoungest low g ++ [e])) else galleyDrop e.sev d
  | none => keep [e]

/-- An event that writes a logbook record (R459): its code, severity, source and parameters, with the operating time and
power-cycle count of the event. -/
def logEvent (code sev : Nat) (src : LogSrc) (p0 p1 p2 : Nat) (d : Dev) : Dev :=
  enterGalley { code := code, sev := sev, die := src.die, block := src.block, index := src.index,
                p0 := p0 % 2 ^ 32, p1 := p1 % 2 ^ 32, p2 := p2 % 2 ^ 32,
                opTime := d.pwr.opTime, pcyc := getF F.LOG_PCYC.PCYC d } d

/-- Bytes 1 to 17 of a record (R449). -/
def recordHead (e : LogEntry) (seq : Nat) : List Byte :=
  leBytes 1 e.repeat_ ++ leBytes 2 e.code ++ leBytes 4 seq ++ leBytes 4 e.opTime
    ++ leBytes 1 ((e.opTime / 2 ^ 32) % 16 + 16 * (e.sev % 8)) ++ leBytes 3 e.pcyc
    ++ leBytes 1 (e.die % 8 + 8 * (e.block % 32)) ++ leBytes 1 e.index

/-- Bytes 20 to 31 of a record (R449). -/
def recordParams (e : LogEntry) : List Byte := leBytes 4 e.p0 ++ leBytes 4 e.p1 ++ leBytes 4 e.p2

/-- The CRC of a record (R450). -/
def recordCrc (e : LogEntry) (seq : Nat) : Nat := crc16 (recordHead e seq ++ recordParams e)

/-- A record as its slot holds it, MARK and CRC included (R449). -/
def recordBytes (r : LogRecord) : List Byte :=
  leBytes 1 0x5A ++ recordHead r.entry r.seq ++ leBytes 2 r.crc ++ recordParams r.entry

/-- A held record is valid, or else corrupt (R456). -/
def recordValid (r : LogRecord) : Bool := r.crc == recordCrc r.entry r.seq

/-- The records the store holds, by slot. -/
def heldRecords (d : Dev) : List (Nat × LogRecord) :=
  d.log.store.filterMap fun e => e.2.map (e.1, ·)

/-- The age of a record (R454). -/
def recordAge (d : Dev) (r : LogRecord) : Nat := (getF F.LOG_NEXT_SEQ.SEQ d + 2 ^ 32 - r.seq % 2 ^ 32) % 2 ^ 32

/-- The oldest of a list of records. -/
def oldestRecord (d : Dev) (rs : List (Nat × LogRecord)) : Option (Nat × LogRecord) :=
  rs.foldl (fun best e =>
    match best with
    | none => some e
    | some b => if recordAge d b.2 < recordAge d e.2 then some e else some b) none

/-- The lowest slot number from n up that the sorted list of held slots leaves void. -/
def firstVoid : List Nat → Nat → Nat
  | [], n => n
  | k :: ks, n => if k = n then firstVoid ks (n + 1) else n

/-- The slot for a record of severity s (R454). -/
def chooseSlot (s : Nat) (d : Dev) : Option Nat :=
  let rs := heldRecords d
  let v := firstVoid (rs.map (·.1)) 0
  if v < 4096 then some v
  else
    match oldestRecord d (rs.filter fun e => e.2.entry.sev == 0 && !recordValid e.2) with
    | some e => some e.1
    | none => (oldestRecord d (rs.filter fun e => decide (e.2.entry.sev ≤ s) && recordValid e.2)).map (·.1)

/-- Write an entry into a slot with the next sequence number (R453, R467). -/
def writeSlot (slot : Nat) (e : LogEntry) (d : Dev) : Dev :=
  let seq := getF F.LOG_NEXT_SEQ.SEQ d
  let d := { d with log := { d.log with
    store := kput d.log.store slot (some { entry := e, seq := seq, crc := recordCrc e seq }) none
    writes := kupd d.log.writes slot 0 (· + 1) } }
  setF F.LOG_NEXT_SEQ.SEQ ((seq + 1) % 2 ^ 32) d

/-- The highest severity among pending drops. -/
def dropSev (d : Dev) : Nat := d.log.dropped.foldl (fun m e => max m e.1) 0

/-- Four drop counts in one parameter (R455). -/
def dropWord (d : Dev) (s : Nat) : Nat :=
  (List.range 4).foldl (fun w i => w + kget d.log.dropped (s + i) 0 * 256 ^ i) 0

/-- The pending DROPPED summary ahead of record e (R455): it bears the time of that record. -/
def summaryBefore (e : LogEntry) (d : Dev) : LogEntry :=
  { code := 0x0801, sev := dropSev d, die := 0, block := 6, index := 0, p0 := dropWord d 0, p1 := dropWord d 4
    p2 := d.log.firstDrop % 2 ^ 32, opTime := e.opTime, pcyc := e.pcyc }

/-- The slot of the pending summary ahead of record e, if it has one that leaves the record a slot of its own: a summary stands directly
ahead of another record (R455; log entry 163). -/
def summarySlot (e : LogEntry) (d : Dev) : Option Nat :=
  if d.log.dropped = [] then none
  else (chooseSlot (dropSev d) d).filter fun slot =>
    match chooseSlot e.sev (writeSlot slot (summaryBefore e d) d) with
    | some own => own != slot
    | none => false

/-- Store the pending summary ahead of record e where it has a slot (R455). -/
def storeSummary (e : LogEntry) (d : Dev) : Dev :=
  match summarySlot e d with
  | none => d
  | some slot =>
    let d := writeSlot slot (summaryBefore e d) d
    { d with log := { d.log with dropped := [], firstDrop := 0 } }

/-- Store one entry, the summary first; without a slot the record is dropped (R454, R455). -/
def storeEntry (e : LogEntry) (d : Dev) : Dev :=
  let d := storeSummary e d
  match chooseSlot e.sev d with
  | some slot => writeSlot slot e d
  | none => storeDrop e.sev d

/-- Save the colophon to its older copy (R465). -/
def saveColophon (d : Dev) : Dev :=
  let c : Colophon := { opTime := d.pwr.opTime, pcyc := getF F.LOG_PCYC.PCYC d,
                        nextSeq := getF F.LOG_NEXT_SEQ.SEQ d, ok := true }
  let l := { d.log with nextSave := d.pwr.opTime + 60 }
  if d.log.newerB then { d with log := { l with colA := c, newerB := false, writes := kupd l.writes 4096 0 (· + 1) } }
  else { d with log := { l with colB := c, newerB := true, writes := kupd l.writes 4097 0 (· + 1) } }

/-- Writes to the most-written slot or colophon copy (R480). -/
def mostWritten (l : Logbook) : Nat := l.writes.foldl (fun m e => max m (if e.1 < 4096 then e.2 + l.erases else e.2)) l.erases

/-- End a freeze (R462, R463). -/
def endFreeze (d : Dev) : Dev := { d with log := { d.log with frozen := none } }

/-- The scan ends (R456): corrupt records are noted and the new power-cycle count is saved (R466). -/
def scanDone (d : Dev) : Dev :=
  if d.log.scanned || !d.pwr.suppliesGood then d
  else
    d |> (fun d => { d with log := { d.log with scanned := true } })
      |> raise F.LOG_STATUS.SCANNED
      |> whenD ((heldRecords d).any fun e => !recordValid e.2) (raise F.LOG_STATUS.CORRUPT_SEEN)
      |> whenD (!d.log.stopped) saveColophon

/-- A freeze ends by itself (R463). -/
def freezeTimeout (d : Dev) : Dev :=
  match d.log.frozen with
  | some t =>
    if d.pt < t then d
    else d |> endFreeze |> raise F.LOG_STATUS.FREEZE_TIMEOUT |> logEvent 0x0803 2 ⟨0, 6, 0⟩ d.log.galley.length 0 0
  | none => d

/-- A write to LOG_CTL (R470). -/
def eraseWrite (v : Nat) (d : Dev) : Dev :=
  if v % 65536 = 0xE4A5 && !isArmed d && d.log.frozen.isNone && !d.log.erasing && !d.log.stopped then
    let d := saveColophon d
    { d with log := { d.log with erasing := true, erasePos := 0, erased := 0 } }
  else raise F.LOG_STATUS.ERASE_REFUSED d

/-- A running erase takes the slots below n, in ascending order (R470). -/
def eraseTo (n : Nat) (d : Dev) : Dev :=
  let n := max d.log.erasePos (min n 4096)
  let gone := (heldRecords d).filter fun e => decide (e.1 < n)
  { d with log := { d.log with
      erasePos := n
      erased := d.log.erased + (gone.filter fun e => recordValid e.2).length
      store := d.log.store.filter fun e => decide (n ≤ e.1) } }

/-- The slots a running erase takes in one tick: the next one, or none yet, which is free (R470: within 20 ms). Log entry 164. -/
def tickErase (d : Dev) : Dev :=
  if !d.log.erasing then d
  else
    let (v, d) := fresh d
    eraseTo (d.log.erasePos + v % 2) d

/-- Every slot is void: the LOG_ERASED record is stored, a pending summary ahead of it (R455, R470), behind the entries that waited through
the erase (R459). The scan comes first (R456). -/
def eraseDone (d : Dev) : Dev :=
  if !d.log.erasing || !d.log.scanned then d
  else
    let d := eraseTo 4096 d
    let e : LogEntry := { code := 0x0802, sev := 6, die := 0, block := 6, index := 0, p0 := d.log.erased, p1 := 0, p2 := 0, opTime := d.pwr.opTime
                          pcyc := getF F.LOG_PCYC.PCYC d }
    let d := { d with log := { d.log with erasing := false, erasePos := 0, erased := 0, erases := d.log.erases + 1 } }
    if d.log.galley = [] then storeEntry e d else enterGalley e d

/-- The records LOG_READ copies (R469): all it selects, oldest first, or the newest `room`. -/
def insertAged (d : Dev) (r : LogRecord) (l : List LogRecord) : List LogRecord :=
  match l with
  | [] => [r]
  | x :: xs => if recordAge d x < recordAge d r then r :: x :: xs else x :: insertAged d r xs

/-- COUNT, MORE, GAP and FROZEN of a LOG_READ with the bytes it copies. -/
def readRecords (start : Nat) (newest : Bool) (room : Nat) (d : Dev) : Nat × List Byte :=
  let all := (heldRecords d).foldl (fun l e => insertAged d e.2 l) []
  let next := getF F.LOG_NEXT_SEQ.SEQ d
  let age := (next + 2 ^ 32 - start) % 2 ^ 32
  let sel := if newest then all.drop (all.length - room) else (all.filter fun r => decide (recordAge d r ≤ age))
  let out := sel.take room
  let more := decide (room < sel.length)
  let gap := !newest && match out with | r :: _ => r.seq % 2 ^ 32 != start | [] => false
  (out.length + (if more then 2 ^ 13 else 0) + (if gap then 2 ^ 14 else 0) + (if d.log.frozen.isSome then 2 ^ 15 else 0), out.flatMap recordBytes)

/-- The entry whose writing a loss of power cuts: a pending summary that has a slot, or the galley head. -/
def nextWrite (d : Dev) : Option (LogEntry × Nat) :=
  match d.log.galley with
  | [] => none
  | e :: _ =>
    if !mayStore d then none
    else
      match summarySlot e d with
      | some slot => some (summaryBefore e d, slot)
      | none => (chooseSlot e.sev d).map fun slot => (e, slot)

/-- An erase that ends before its last slot: the slots it has taken, n at least, are void, the later ones intact, and no LOG_ERASED record is
stored (R457). -/
def eraseCut (n : Nat) (d : Dev) : Dev :=
  if d.log.erasing then
    let d := eraseTo n d
    { d with log := { d.log with erasing := false, erasePos := 0, erased := 0
                                 writes := (List.range d.log.erasePos).foldl (fun m i => kupd m i 0 (· + 1)) d.log.writes } }
  else d

/-- What the store holds after power was lost at a point (R457). -/
def powerLost (at_ : LossPoint) (d : Dev) : Dev :=
  let void := fun (slot : Nat) => { d with log := { d.log with store := kput d.log.store slot none none } }
  match at_ with
  | .idle => d
  | .step1 written => match nextWrite d with | some w => if written then void w.2 else d | none => d
  | .step23 => match nextWrite d with | some w => void w.2 | none => d
  | .step4 written => match nextWrite d with | some w => if written then writeSlot w.2 w.1 d else void w.2 | none => d
  | .colophon =>
    if d.log.newerB then { d with log := { d.log with colA := { d.log.colA with ok := false } } }
    else { d with log := { d.log with colB := { d.log.colB with ok := false } } }
  | .erase n => eraseCut n d

/-- The colophon copy the resume rules choose (R465): the larger operating time of the copies whose CRC passes. -/
def chosenColophon (l : Logbook) : Option Colophon :=
  match l.colA.ok, l.colB.ok with
  | true, true => some (if l.colA.opTime < l.colB.opTime then l.colB else l.colA)
  | true, false => some l.colA
  | false, true => some l.colB
  | false, false => none

/-- The next sequence number after a power-on or external reset (R467). -/
def resumeSeq (l : Logbook) : Nat :=
  let seqs := (l.store.filterMap (·.2)).filterMap fun r => if recordValid r then some (r.seq % 2 ^ 32) else none
  let ahead := fun (n s : Nat) => (s + 2 ^ 32 - n) % 2 ^ 32
  let n := match chosenColophon l with
    | some c => c.nextSeq % 2 ^ 32
    | none => ((seqs.filter fun n => seqs.all fun s => ahead n s < 2 ^ 31).head?).getD 0
  let k := seqs.foldl (fun k s => if ahead n s < 2 ^ 31 then max k (ahead n s + 1) else k) 0
  (n + k) % 2 ^ 32

/-- The operating time after a power-on or external reset (R465). The newest valid record is the one whose SEQ the next
sequence number follows most closely. -/
def resumeOpTime (l : Logbook) : Nat :=
  let next := resumeSeq l
  let age := fun (r : LogRecord) => (next + 2 ^ 32 - r.seq % 2 ^ 32) % 2 ^ 32
  let newest := ((l.store.filterMap (·.2)).filter recordValid).foldl (fun (b : Option LogRecord) r =>
    match b with
    | none => some r
    | some q => if age r < age q then some r else some q) none
  let t1 := ((chosenColophon l).map (·.opTime)).getD 0
  let t2 := (newest.map (·.entry.opTime)).getD 0
  (max t1 t2 + 1) % 2 ^ 36

end Sys2Proof.Machine
end

