-- ==== Sys2Proof/Machine/Health.lean ====
section
/-! DEFINITION. The leaky counters of the health unit (R473 to R477). The lasting action of a class belongs to the block it
acts on: `healthEvent` answers whether the instance became lasting with this event. -/
namespace Sys2Proof.Machine

/-- The key of an instance of a class. -/
def instKey (cls i : Nat) : Nat := cls * 4096 + i

/-- The state of an instance. -/
def getInst (cls i : Nat) (d : Dev) : Inst := kget d.health.insts (instKey cls i) {}

def updInst (cls i : Nat) (f : Inst → Inst) (d : Dev) : Dev :=
  { d with health := { d.health with insts := kupd d.health.insts (instKey cls i) {} f } }

/-- The leak time of a class at an event of it (R477). -/
def noteLeak (cls leak : Nat) (d : Dev) : Dev := { d with health := { d.health with leaks := kput d.health.leaks cls leak 0 } }

/-- An event of a class at an instance (R473). The second result says that the instance became lasting with it. -/
def healthEvent (cls i : Nat) (toGround : Bool) (d : Dev) : Dev × Bool :=
  let x := getInst cls i d
  let ev := satAdd 0xFFFF x.events 1
  let leak := getF (F.HLT_CLASS_CFG.LEAK cls) d
  let d := noteLeak cls leak d
  if x.lasting then (updInst cls i (fun x => { x with events := ev }) d, false)
  else
    let c := satAdd 255 x.c (getF (F.HLT_CLASS_CFG.WEIGHT cls) d)
    let leakAt := if x.c = 0 then some (d.pt + sec leak) else x.leakAt
    if getF (F.HLT_CLASS_CFG.THRESH cls) d ≤ c then
      let d := updInst cls i (fun x => { x with c := c, events := ev, lasting := true, leakAt := none,
                                                toGround := toGround }) d
      (d |> logEvent 0x0901 5 ⟨0, 7, cls⟩ cls i ev |> raise F.HLT_STATUS.LASTING_SEEN, true)
    else (updInst cls i (fun x => { x with c := c, events := ev, leakAt := leakAt }) d, false)

/-- As `healthEvent`, for a class whose lasting action is the report alone (R475). -/
def healthReport (cls i : Nat) (d : Dev) : Dev := (healthEvent cls i false d).1

/-- The clear of an instance: c 0 and the lasting state ended (R475); EVENTS counts from the clear (R506). -/
def clearInst (cls i : Nat) (d : Dev) : Dev := updInst cls i (fun _ => {}) d

/-- The leak timer of an instance runs out (R473); it runs LEAK as it stood at the last event of the class (R477). -/
def leakInst (cls i : Nat) (d : Dev) : Dev :=
  let x := getInst cls i d
  match x.leakAt with
  | none => d
  | some t =>
    if x.lasting || d.pt < t then d
    else
      let c := x.c - 1
      let next := if c = 0 then none else some (t + sec (kget d.health.leaks cls 0))
      updInst cls i (fun x => { x with c := c, leakAt := next }) d

/-- Whether a class has an instance i on this part (R474). -/
def hasInst (cls i : Nat) (d : Dev) : Bool :=
  let n := nSpokes d
  match cls with
  | 0 | 1 | 2 | 3 => i < 64 * n
  | 4 | 10 => i < 8 * n
  | 5 | 7 => i < n
  | 6 => i < 12 * n
  | 8 => i < 24 * n
  | 9 => i < 2048
  | 11 | 12 | 13 | 15 | 16 | 17 => i == 0
  | 14 => i < 4
  | 18 => i < n + 1
  | _ => false

def updHealth (f : Health → Health) (d : Dev) : Dev := { d with health := f d.health }

def getMon (die : Nat) (d : Dev) : DieMon := kget d.health.mon die {}
def updMon (die : Nat) (f : DieMon → DieMon) (d : Dev) : Dev := updHealth (fun h => { h with mon := kupd h.mon die {} f }) d

/-- Instances lasting now (HLT_STATUS.LASTING_NOW), class 6 counted apart. -/
def lastingNow (d : Dev) : Nat := (d.health.insts.filter fun e => e.2.lasting).length

end Sys2Proof.Machine
end

