-- ==== Sys2Proof/Machine/Link.lean ====
section
/-! DEFINITION. The spoke links (R17 to R30): sending under the replay buffer, receiving in sequence, NAK and replay. -/
namespace Sys2Proof.Machine

/-- The arbitration rank of a payload (R18). -/
def payloadRank : Payload → Nat
  | .ptsync .. => 2
  | .ptadj .. => 2
  | .sched .. => 3
  | .int .. => 4
  | .cmd .. => 5
  | .resp .. => 5
  | .feed .. => 6
  | .data .. => 7

/-- Put a frame behind every waiting frame of its rank or a lower rank number (R18, R25). -/
def enqueue (p : Payload) (ws : List Payload) : List Payload :=
  ws.takeWhile (fun q => decide (payloadRank q ≤ payloadRank p)) ++ p ::
    ws.dropWhile (fun q => decide (payloadRank q ≤ payloadRank p))

/-- The end of link k on a side. -/
def linkEnd (k : Nat) (s : Side) (d : Dev) : LinkEnd :=
  match s with
  | .hub => (getLink k d).hub
  | .spoke => (getLink k d).spoke

def updEnd (k : Nat) (s : Side) (f : LinkEnd → LinkEnd) (d : Dev) : Dev :=
  match s with
  | .hub => updLink k (fun l => { l with hub := f l.hub }) d
  | .spoke => updLink k (fun l => { l with spoke := f l.spoke }) d

/-- A loop-back runs on link k, which is out of service (R529). -/
def linkLooped (k : Nat) (d : Dev) : Bool := match d.lb with | some r => r.target == 1 && r.spoke == k | none => false

/-- Side s of link k has a frame to send: it waits for its slot (R18). -/
def linkSend (k : Nat) (s : Side) (p : Payload) (d : Dev) : Dev := updEnd k s (fun e => { e with waiting := enqueue p e.waiting }) d

/-- The frames sent after the one an ACK names, oldest first; none is freed where it names no frame of the buffer (R17, R24). -/
def takeAck (ack : Nat) (e : LinkEnd) : LinkEnd :=
  if e.replay.any fun f => f.seq == ack % 64 then
    let after := (e.replay.dropWhile fun f => f.seq != ack % 64).drop 1
    { e with replay := after, resend := e.resend.filter fun q => after.any fun f => f.seq == q }
  else e

/-- A valid frame arrives at side s: its ACK is taken, and the lane is not silent (R24). -/
def hearFrame (k : Nat) (s : Side) (ack : Nat) (d : Dev) : Dev :=
  updEnd k s (fun e => { takeAck ack e with lastValid := d.pt }) d

/-- A valid sequenced frame arrives at side s (R24, R25): its ACK is taken, and the frame is accepted if its SEQ is the one
expected. The second result says that it is. -/
def receive (k : Nat) (s : Side) (h : LinkHdr) (d : Dev) : Dev × Bool :=
  let ok := h.seq % 64 == (linkEnd k s d).expect
  (d |> hearFrame k s h.ack
     |> whenD ok (updEnd k s fun e => { e with expect := (e.expect + 1) % 64, nakSent := false, nakDue := false }), ok)

/-- Act on a sequenced frame that arrives at side s, if it is accepted. -/
def onFrame (k : Nat) (s : Side) (h : LinkHdr) (act : Dev → Dev) (d : Dev) : Dev :=
  let (d, ok) := receive k s h d
  if ok then act d else d

/-- The other end of a link. -/
def otherSide : Side → Side
  | .hub => .spoke
  | .spoke => .hub

/-- A sender replays every frame of its buffer from the oldest, in the original order (R24); the slots that follow send them. -/
def replayAll (k : Nat) (s : Side) (d : Dev) : Dev := updEnd k s (fun e => { e with resend := e.replay.map (·.seq) }) d

/-- The oldest frame of the buffer was replayed 8 times and no ACK has covered it (R24). -/
def replaysSpent (e : LinkEnd) : Bool := match e.replay with | f :: _ => decide (8 ≤ f.tries) | [] => false

/-- A frame was sent 400 ns ago and no ACK covers it (R24). -/
def ackOverdue (t : Nat) (e : LinkEnd) : Bool := e.replay.any fun f => decide (f.at_ + 100 ≤ t)

/-- A frame with a bad CRC or a reserved TYPE arrives at side s (R19, R24): it is discarded and counted, and one NAK is
sent per gap. A spoke reports its count with each (log entry 110). -/
def badFrame (k : Nat) (s : Side) (d : Dev) : Dev :=
  let e := linkEnd k s d
  let d := match s with
    | .hub => countF (F.SPK_LINK_COUNT.HUB_RX_BAD k) d
    | .spoke =>
      let n := satAdd 0xFFFF (getLink k d).rxBad 1
      linkSend k .spoke (.data (.rxBad n)) (updLink k (fun l => { l with rxBad := n }) d)
  if e.nakSent then d else updEnd k s (fun e => { e with nakSent := true, nakDue := true }) d

/-! ### Frames on the lane (R17, R20, R23) -/

/-- The EVENT codes of the FEED table (R23). -/
def feedCode (e : FeedEvent) : Nat := match e with | .opened => 0 | .closed => 1 | .endedNoTravel => 2 | .disabledByFault => 3

/-- TYPE of a payload's frame (R18). -/
def typeCode : Payload → Nat
  | .ptsync .. => 0x2
  | .ptadj .. => 0x3
  | .sched .. => 0x4
  | .int .. => 0x5
  | .cmd .. => 0x6
  | .resp .. => 0x7
  | .feed .. => 0x8
  | .data .. => 0x9

/-- The 96 payload bits of a SCHED frame (R20): START from byte 4, END from byte 8, the rest from byte 12. -/
def schedBits (e : SchedP) : Nat :=
  e.start % 2 ^ 32 + 2 ^ 32 * (e.finish % 2 ^ 32) +
    2 ^ 64 * (e.chan % 64 + 2 ^ 6 * (e.duty % 65536) + 2 ^ 22 * (e.freq % 128) + 2 ^ 29 * (e.slot % 8))

/-- The 96 payload bits of a FEED frame (R23): EVT_PT from byte 4, DELAY to SLIP from byte 8, SLIP_US from byte 12. -/
def feedBits (f : FeedP) : Nat :=
  f.evtPt % 2 ^ 32 +
    2 ^ 32 * (f.delay % 65536 + 2 ^ 16 * feedCode f.event + 2 ^ 19 * (f.chan % 64) + (if f.late then 2 ^ 25 else 0) + (if f.slip then 2 ^ 26 else 0)) +
    2 ^ 64 * (f.slipUs % 65536)

/-- The payload bits of a frame. The manual lays out those of SCHED and FEED only; the others are free (log entry 111). -/
def payloadBits (p : Payload) (d : Dev) : Nat × Dev :=
  match p with
  | .sched e => (schedBits e, d)
  | .feed f => (feedBits f, d)
  | _ =>
    let (v, d) := fresh d
    (v % 2 ^ 96, d)

/-- The 16 bytes of a frame (R17): the CRC over bytes 2 to 15, then ACK, SEQ, TYPE and the payload. -/
def frameBytes (ack seq typ bits : Nat) : List Byte :=
  let body := leBytes 2 (ack % 64 + 64 * (seq % 64) + 4096 * (typ % 16)) ++ leBytes 12 bits
  leBytes 2 (crc16 body) ++ body

/-- The ACK a side sends: the last frame it received in order and with good CRC (R17). -/
def ackOf (e : LinkEnd) : Nat := (e.expect + 63) % 64

end Sys2Proof.Machine
end

