-- ==== Sys2Proof/RegName.lean ====
section
/-! DEFINITION. The names of the set-up registers (R537, register index), one constructor per register of the manual. -/
namespace Sys2Proof

/-- Every register of the register index of 18_address_map.md; CAN_STD_FILT and CAN_EXT_FILT are the filter elements. -/
inductive RegName where
  | PWR_LINK_STATUS | SPK_LINK_COUNT | SPK_LINK_REPLAY | PWR_STATE | PWR_CMD | PWR_ARM | PWR_CAUSE
  | PWR_DOMAIN_HUB | PWR_DOMAIN_SPK | PWR_PARK_CFG | PWR_PARK_TIMER | PWR_PRECHARGE | HIF_CFG
  | HIF_DB_ADDR_LO | HIF_DB_ADDR_HI | HIF_PROG_ADDR_LO | HIF_PROG_ADDR_HI | HIF_EPOCH | HIF_STATUS
  | HIF_SQ_BASE_LO | HIF_SQ_BASE_HI | HIF_CQ_BASE_LO | HIF_CQ_BASE_HI | HIF_RING_CFG | HIF_RING_MOD
  | HIF_RING_CTL | HIF_RING_STATUS | REG_POSE_STATUS | REG_POSE_TAG | REG_POSE_AGE | REG_TABLE_STATUS
  | REG_TABLE_ID | REG_FIELD | REG_FIELD_ID | REG_TAP_STALE | REG_CFG | REG_CYCLE | REG_TIMING | REG_TIMING2
  | REG_THRESH | REG_PREFETCH | REG_WB | REG_RATE_CFG | REG_REPORT_ADDR_LO | REG_REPORT_ADDR_HI
  | REG_REPORT_CFG | REG_STATUS | REG_CYCLE_STATS | REG_CYCLE_TIME | REG_TILE_STATS | REG_TILE_COUNT
  | DRV_CFG | DRV_STATUS | DRV_BOOST_CFG | DRV_BOOST_STATUS | DRV_BOOST_ENERGY | DRV_FAULT_MAP_LO
  | DRV_FAULT_MAP_HI | DRV_TPL_CTL | DRV_TPL_PEAK | DRV_TPL_PULSE | DRV_TPL_PROP | DRV_CAS_STATUS
  | DRV_CAS_TEMP | DRV_CH_CFG | DRV_CH_STATUS | DRV_CH_LEAK | DRV_CH_MEAS | DRV_SCHED_CFG | DRV_CAS_SCHED
  | DRV_CAS_PEAKS | DRV_DET_CFG | DRV_DET_WIN | DRV_CH_TIMING | DRV_CH_RISE | DRV_CH_TRAVEL | REG_EST_INDEX
  | REG_EST_DELAY | REG_EST_SLIP | REG_EST_CFG | CTL_STATUS | CTL_LOOP_STATUS | CTL_LOOP_Y | CTL_LOOP_W
  | CTL_LOOP_U | ADC_AIN_VAL | ADC_EN | ADC_PULSE_CFG | ADC_PULSE_VAL | ADC_ENC_CFG | ADC_ENC_POS
  | ADC_ENC_SPEED | ADC_ENC_STATUS | ADC_SPI_CFG | ADC_SPI_MAP | ADC_SPI_TX | ADC_SPI_STATUS | REG_STREAM
  | PWM_CFG | PWM_PER | PWM_PHASE | PWM_DT | PWM_ADT | PWM_SENSE | PWM_PULSE | PWM_REFRESH | PWM_TRIP_LIM
  | PWM_CMP | PWM_STATUS | PWM_CTL | PWM_COUNT | PWM_TRIP_CFG | PWM_TRIP_STATUS | TIM_CFG | TIM_PPS_OFFSET
  | TIM_HOLD | TIM_UNC_LIMIT | TIM_STATUS | TIM_UNC | TIM_FT_LO | TIM_FT_HI | TIM_PT_LO | TIM_PT_HI
  | TIM_RATE | GNB_EPOCH | GNB_CFG | GNB_SV_GPS | GNB_SV_GAL_LO | GNB_SV_GAL_HI | GNB_TRACK | GNB_TAPS
  | GNB_NOTCH_CFG | GNB_NOTCH | GNB_JAM | GNB_STATUS | GNB_SCLK | GNB_CH | CAN_CFG | CAN_NOMBIT | CAN_DATABIT
  | CAN_FILT | CAN_RXB_LO | CAN_RXB_HI | CAN_STATUS | CAN_ERR | CAN_COLL_ID | CAN_COUNT | CAN_QUEUE
  | CAN_LOOP_DELAY | CAN_CTL | CAN_SUM_CFG | CAN_SUM_ID | CAN_SUM_TPL | CAN_SUM_LAST | CAN_SB_CFG
  | CAN_SB_STATUS | CAN_SB_PRESENT | CAN_SB_COUNT | TIM_IMPL_STATUS | TIM_IMPL_OFF_LO | TIM_IMPL_OFF_HI
  | TIM_IMPL_ERR | TIM_IMPL_FREQ | HIC_STATUS | HIC_PEND | HIC_EN | HIC_MASK | HIC_RAW | HIC_CFG
  | HIC_CORE_STATUS | HIC_CORE_EOI | HIC_NUDGE | SIC_STATUS | SIC_CORE | SIC_EOI | SIC_NUDGE | SIC_PEND
  | SIC_EN | SIC_MASK | SIC_RAW | SIC_CFG | LOG_CFG | LOG_STATUS | LOG_NEXT_SEQ | LOG_OLDEST_SEQ | LOG_COUNT
  | LOG_OPTIME_LO | LOG_OPTIME_HI | LOG_PCYC | LOG_DROP_LO | LOG_DROP_HI | LOG_GDROP_LO | LOG_GDROP_HI
  | LOG_CTL | HLT_CFG | HLT_STATUS | HLT_REPLAN | HLT_PKG | HLT_SEL | HLT_INST | HLT_CLEAR | HLT_CLASS_CFG
  | SHL_STATUS | SHL_MARGIN | SHL_THERMAL | SHL_ILIM | TDM_STATUS | TDM_PARTNER | TDM_COUNT | TDM_LAST
  | PWR_SUPPLY | SPK_SUPPLY | PWR_LB_CTL | PWR_LB_STATUS | PWR_LB_RESULT | PWR_LB_GEN | IDN_ID | IDN_REV
  | IDN_FW_GEN | IDN_UCODE_GEN | IDN_HOST_ABI | IDN_SERIAL_LO | IDN_SERIAL_HI | CAN_STD_FILT | CAN_EXT_FILT
deriving DecidableEq, Repr

end Sys2Proof
end

