-- ==== Sys2Proof/Machine/RegTable.lean ====
section
/-! DEFINITION. The register table: for each register of the register index (R537) its block, place, instances, reset
word and the access code of each field (R9). Bits no field occupies are reserved (R7). -/
namespace Sys2Proof.Machine

/-- Where a register lies: in a hub block, in every spoke window, or in every CAN controller (R537). -/
inductive RegSpace where
  | hub | spoke | can
deriving DecidableEq, Repr

/-- How the reset word of a register is found. -/
inductive RegReset where
  | const (w : Word) | hicCfg | sicCfg | hltPkg | hltClass | idnId | idnRev | serialLo | serialHi
deriving DecidableEq, Repr

/-- One field of a table row: lowest bit, width, access code. -/
structure RowField where
  lo  : Nat
  len : Nat
  acc : Acc
deriving DecidableEq, Repr

/-- One row of the register table: n1 instances stride1 apart, each of n2 words stride2 apart. -/
structure RegRow where
  name    : RegName
  space   : RegSpace
  base    : Nat
  n1      : Nat
  stride1 : Nat
  n2      : Nat
  stride2 : Nat
  reset   : RegReset
  fields  : List RowField
deriving DecidableEq, Repr

/-- Part 1 of the register table. -/
def regRows1 : List RegRow := [
  ⟨.PWR_LINK_STATUS, .hub, 0x02040, 1, 4, 1, 4, .const 0x00000000, [⟨0, 7, .ro⟩, ⟨8, 7, .w1c⟩, ⟨16, 7, .w1c⟩]⟩,
  ⟨.SPK_LINK_COUNT, .spoke, 0x0010, 1, 4, 1, 4, .const 0x00000000, [⟨0, 16, .ro⟩, ⟨16, 16, .ro⟩]⟩,
  ⟨.SPK_LINK_REPLAY, .spoke, 0x0014, 1, 4, 1, 4, .const 0x00000000, [⟨0, 16, .ro⟩, ⟨16, 8, .ro⟩]⟩,
  ⟨.PWR_STATE, .hub, 0x02000, 1, 4, 1, 4, .const 0x00000000, [⟨0, 4, .ro⟩, ⟨4, 1, .ro⟩, ⟨5, 1, .ro⟩, ⟨6, 1, .ro⟩, ⟨8, 7, .ro⟩, ⟨16, 7, .w1c⟩, ⟨24, 7, .ro⟩]⟩,
  ⟨.PWR_CMD, .hub, 0x02004, 1, 4, 1, 4, .const 0x00000000, [⟨0, 8, .wo⟩, ⟨8, 3, .wo⟩]⟩,
  ⟨.PWR_ARM, .hub, 0x02008, 1, 4, 1, 4, .const 0x00000000, [⟨0, 1, .ro⟩, ⟨1, 1, .ro⟩, ⟨4, 4, .ro⟩, ⟨8, 1, .w1c⟩, ⟨9, 1, .w1c⟩, ⟨10, 1, .w1c⟩, ⟨11, 1, .w1c⟩, ⟨12, 1, .w1c⟩]⟩,
  ⟨.PWR_CAUSE, .hub, 0x0200C, 1, 4, 1, 4, .const 0, [⟨0, 7, .w1c⟩, ⟨16, 1, .ro⟩, ⟨17, 1, .ro⟩, ⟨24, 4, .w1c⟩]⟩,
  ⟨.PWR_DOMAIN_HUB, .hub, 0x02010, 1, 4, 1, 4, .const 0x00000003, [⟨0, 12, .ro⟩]⟩,
  ⟨.PWR_DOMAIN_SPK, .hub, 0x02020, 7, 4, 1, 4, .const 0x00000000, [⟨0, 12, .ro⟩]⟩,
  ⟨.PWR_PARK_CFG, .hub, 0x02044, 1, 4, 1, 4, .const 0x00000003, [⟨0, 1, .rw⟩, ⟨1, 1, .rw⟩, ⟨2, 1, .rw⟩, ⟨3, 1, .rw⟩, ⟨8, 8, .rw⟩]⟩,
  ⟨.PWR_PARK_TIMER, .hub, 0x02048, 1, 4, 1, 4, .const 0x00000000, [⟨0, 24, .rw⟩]⟩,
  ⟨.PWR_PRECHARGE, .hub, 0x0204C, 1, 4, 1, 4, .const 0x00000AFA, [⟨0, 8, .rwa⟩, ⟨8, 5, .rwa⟩]⟩,
  ⟨.HIF_CFG, .hub, 0x01000, 1, 4, 1, 4, .const 0x00000028, [⟨0, 10, .rw⟩, ⟨10, 1, .rw⟩]⟩,
  ⟨.HIF_DB_ADDR_LO, .hub, 0x01004, 1, 4, 1, 4, .const 0x00000000, [⟨8, 24, .rw⟩]⟩,
  ⟨.HIF_DB_ADDR_HI, .hub, 0x01008, 1, 4, 1, 4, .const 0x00000000, [⟨0, 32, .rw⟩]⟩,
  ⟨.HIF_PROG_ADDR_LO, .hub, 0x0100C, 1, 4, 1, 4, .const 0x00000000, [⟨8, 24, .rw⟩]⟩,
  ⟨.HIF_PROG_ADDR_HI, .hub, 0x01010, 1, 4, 1, 4, .const 0x00000000, [⟨0, 32, .rw⟩]⟩,
  ⟨.HIF_EPOCH, .hub, 0x01014, 1, 4, 1, 4, .const 0x00000000, [⟨0, 16, .rw⟩]⟩,
  ⟨.HIF_STATUS, .hub, 0x01018, 1, 4, 1, 4, .const 0x00000000, [⟨0, 1, .ro⟩, ⟨1, 1, .w1c⟩, ⟨2, 1, .w1c⟩, ⟨3, 1, .ro⟩, ⟨4, 1, .w1c⟩, ⟨5, 1, .w1c⟩, ⟨6, 1, .w1c⟩, ⟨16, 16, .ro⟩]⟩,
  ⟨.HIF_SQ_BASE_LO, .hub, 0x01100, 32, 0x20, 1, 4, .const 0x00000000, [⟨12, 20, .rw⟩]⟩,
  ⟨.HIF_SQ_BASE_HI, .hub, 0x01104, 32, 0x20, 1, 4, .const 0x00000000, [⟨0, 32, .rw⟩]⟩,
  ⟨.HIF_CQ_BASE_LO, .hub, 0x01108, 32, 0x20, 1, 4, .const 0x00000000, [⟨12, 20, .rw⟩]⟩,
  ⟨.HIF_CQ_BASE_HI, .hub, 0x0110C, 32, 0x20, 1, 4, .const 0x00000000, [⟨0, 32, .rw⟩]⟩,
  ⟨.HIF_RING_CFG, .hub, 0x01110, 32, 0x20, 1, 4, .const 0x00000000, [⟨0, 4, .rw⟩, ⟨4, 5, .rw⟩, ⟨9, 2, .rw⟩, ⟨12, 2, .rw⟩]⟩,
  ⟨.HIF_RING_MOD, .hub, 0x01114, 32, 0x20, 1, 4, .const 0x00000100, [⟨0, 6, .rw⟩, ⟨6, 1, .rw⟩, ⟨8, 8, .rw⟩, ⟨16, 16, .rw⟩]⟩,
  ⟨.HIF_RING_CTL, .hub, 0x01118, 32, 0x20, 1, 4, .const 0x00000000, [⟨0, 2, .wo⟩]⟩,
  ⟨.HIF_RING_STATUS, .hub, 0x0111C, 32, 0x20, 1, 4, .const 0x00000000, [⟨0, 2, .ro⟩, ⟨4, 4, .ro⟩, ⟨8, 1, .w1c⟩, ⟨9, 1, .w1c⟩, ⟨10, 1, .w1c⟩, ⟨11, 1, .w1c⟩, ⟨16, 16, .ro⟩]⟩,
  ⟨.REG_POSE_STATUS, .hub, 0x08100, 1, 4, 1, 4, .const 0x00000001, [⟨0, 1, .ro⟩, ⟨1, 1, .ro⟩, ⟨2, 1, .ro⟩, ⟨3, 1, .ro⟩, ⟨4, 1, .ro⟩, ⟨5, 1, .ro⟩, ⟨6, 1, .ro⟩, ⟨8, 7, .w1c⟩, ⟨16, 16, .ro⟩]⟩,
  ⟨.REG_POSE_TAG, .hub, 0x08104, 1, 4, 1, 4, .const 0x00000000, [⟨0, 32, .ro⟩]⟩,
  ⟨.REG_POSE_AGE, .hub, 0x08108, 1, 4, 1, 4, .const 0xFFFFFFFF, [⟨0, 32, .ro⟩]⟩,
  ⟨.REG_TABLE_STATUS, .hub, 0x0810C, 1, 4, 1, 4, .const 0x00000000, [⟨0, 1, .ro⟩, ⟨1, 1, .ro⟩, ⟨8, 8, .ro⟩, ⟨16, 16, .ro⟩]⟩,
  ⟨.REG_TABLE_ID, .hub, 0x08110, 1, 4, 1, 4, .const 0x00000000, [⟨0, 32, .ro⟩]⟩,
  ⟨.REG_FIELD, .hub, 0x08114, 1, 4, 1, 4, .const 0x00000007, [⟨0, 4, .ro⟩]⟩,
  ⟨.REG_FIELD_ID, .hub, 0x08118, 1, 4, 1, 4, .const 0x00000000, [⟨0, 32, .ro⟩]⟩,
  ⟨.REG_TAP_STALE, .hub, 0x0811C, 1, 4, 1, 4, .const 0x00000000, [⟨0, 16, .ro⟩]⟩,
  ⟨.REG_CFG, .hub, 0x08000, 1, 4, 1, 4, .const 0x00040000, [⟨0, 12, .rwa⟩, ⟨12, 1, .rw⟩, ⟨13, 1, .ro⟩, ⟨16, 4, .rw⟩]⟩,
  ⟨.REG_CYCLE, .hub, 0x08004, 1, 4, 1, 4, .const 0x000003E8, [⟨0, 15, .rwa⟩]⟩,
  ⟨.REG_TIMING, .hub, 0x08008, 1, 4, 1, 4, .const 0x138801F4, [⟨0, 15, .rwa⟩, ⟨16, 15, .rwa⟩]⟩,
  ⟨.REG_TIMING2, .hub, 0x0800C, 1, 4, 1, 4, .const 0x00002710, [⟨0, 16, .rw⟩, ⟨16, 16, .rw⟩]⟩,
  ⟨.REG_THRESH, .hub, 0x08010, 1, 4, 1, 4, .const 0x00321E0A, [⟨0, 7, .rw⟩, ⟨8, 7, .rw⟩, ⟨16, 10, .rw⟩]⟩]

/-- Part 2 of the register table. -/
def regRows2 : List RegRow := [
  ⟨.REG_PREFETCH, .hub, 0x08014, 1, 4, 1, 4, .const 0x00323244, [⟨0, 4, .rw⟩, ⟨4, 4, .rw⟩, ⟨8, 8, .rw⟩, ⟨16, 8, .rw⟩]⟩,
  ⟨.REG_WB, .hub, 0x08018, 1, 4, 1, 4, .const 0x01F403E8, [⟨0, 16, .rw⟩, ⟨16, 16, .rw⟩]⟩,
  ⟨.REG_RATE_CFG, .hub, 0x0801C, 1, 4, 1, 4, .const 0x0000D055, [⟨0, 19, .rw⟩, ⟨19, 1, .rw⟩, ⟨20, 8, .rw⟩]⟩,
  ⟨.REG_REPORT_ADDR_LO, .hub, 0x08020, 1, 4, 1, 4, .const 0x00000000, [⟨8, 24, .rwa⟩]⟩,
  ⟨.REG_REPORT_ADDR_HI, .hub, 0x08024, 1, 4, 1, 4, .const 0x00000000, [⟨0, 32, .rwa⟩]⟩,
  ⟨.REG_REPORT_CFG, .hub, 0x08028, 1, 4, 1, 4, .const 0x00000A00, [⟨0, 1, .rw⟩, ⟨8, 8, .rw⟩]⟩,
  ⟨.REG_STATUS, .hub, 0x08030, 1, 4, 1, 4, .const 0x00000000, [⟨0, 1, .w1c⟩, ⟨1, 1, .w1c⟩, ⟨2, 1, .w1c⟩, ⟨3, 1, .w1c⟩, ⟨4, 1, .w1c⟩, ⟨5, 1, .w1c⟩, ⟨6, 1, .w1c⟩, ⟨7, 1, .w1c⟩]⟩,
  ⟨.REG_CYCLE_STATS, .hub, 0x08034, 1, 4, 1, 4, .const 0x00000000, [⟨0, 16, .ro⟩, ⟨16, 16, .ro⟩]⟩,
  ⟨.REG_CYCLE_TIME, .hub, 0x08038, 1, 4, 1, 4, .const 0x00000000, [⟨0, 16, .ro⟩, ⟨16, 16, .ro⟩]⟩,
  ⟨.REG_TILE_STATS, .hub, 0x0803C, 1, 4, 1, 4, .const 0x00000000, [⟨0, 12, .ro⟩, ⟨12, 8, .ro⟩, ⟨20, 6, .ro⟩, ⟨26, 6, .ro⟩]⟩,
  ⟨.REG_TILE_COUNT, .hub, 0x08040, 1, 4, 1, 4, .const 0x00000000, [⟨0, 13, .ro⟩, ⟨16, 13, .ro⟩]⟩,
  ⟨.DRV_CFG, .spoke, 0x0400, 1, 4, 1, 4, .const 0x000028C8, [⟨0, 10, .rwa⟩, ⟨10, 8, .rwa⟩]⟩,
  ⟨.DRV_STATUS, .spoke, 0x0404, 1, 4, 1, 4, .const 0x00000000, [⟨0, 1, .ro⟩, ⟨8, 8, .ro⟩, ⟨16, 16, .ro⟩]⟩,
  ⟨.DRV_BOOST_CFG, .spoke, 0x0408, 1, 4, 1, 4, .const 0x1EA8F0C0, [⟨0, 1, .rwa⟩, ⟨1, 8, .rwa⟩, ⟨9, 8, .rwa⟩, ⟨17, 8, .rwa⟩, ⟨25, 5, .rwa⟩]⟩,
  ⟨.DRV_BOOST_STATUS, .spoke, 0x040C, 1, 4, 1, 4, .const 0x00000000, [⟨0, 9, .ro⟩, ⟨9, 1, .ro⟩, ⟨10, 1, .ro⟩, ⟨11, 1, .w1c⟩, ⟨12, 1, .w1c⟩, ⟨13, 1, .ro⟩, ⟨16, 16, .ro⟩]⟩,
  ⟨.DRV_BOOST_ENERGY, .spoke, 0x0410, 1, 4, 1, 4, .const 0x00000000, [⟨0, 32, .ro⟩]⟩,
  ⟨.DRV_FAULT_MAP_LO, .spoke, 0x0418, 1, 4, 1, 4, .const 0x00000000, [⟨0, 32, .ro⟩]⟩,
  ⟨.DRV_FAULT_MAP_HI, .spoke, 0x041C, 1, 4, 1, 4, .const 0x00000000, [⟨0, 32, .ro⟩]⟩,
  ⟨.DRV_TPL_CTL, .spoke, 0x0500, 16, 0x10, 1, 4, .const 0x28C86400, [⟨0, 1, .rwa⟩, ⟨1, 1, .rwa⟩, ⟨2, 1, .rwa⟩, ⟨8, 9, .rwa⟩, ⟨18, 7, .rwa⟩, ⟨26, 6, .rwa⟩]⟩,
  ⟨.DRV_TPL_PEAK, .spoke, 0x0504, 16, 0x10, 1, 4, .const 0x03E807D0, [⟨0, 15, .rwa⟩, ⟨16, 13, .rwa⟩]⟩,
  ⟨.DRV_TPL_PULSE, .spoke, 0x0508, 16, 0x10, 1, 4, .const 0x00000000, [⟨0, 15, .rwa⟩, ⟨16, 15, .rwa⟩]⟩,
  ⟨.DRV_TPL_PROP, .spoke, 0x050C, 16, 0x10, 1, 4, .const 0x14643264, [⟨0, 7, .rwa⟩, ⟨8, 8, .rwa⟩, ⟨16, 9, .rwa⟩, ⟨25, 5, .rwa⟩]⟩,
  ⟨.DRV_CAS_STATUS, .spoke, 0x0600, 8, 0x8, 1, 4, .const 0x00000000, [⟨0, 1, .ro⟩, ⟨1, 1, .w1c⟩, ⟨2, 1, .w1c⟩, ⟨3, 1, .w1c⟩, ⟨16, 12, .ro⟩]⟩,
  ⟨.DRV_CAS_TEMP, .spoke, 0x0604, 8, 0x8, 1, 4, .const 0x00000000, [⟨0, 9, .ro⟩]⟩,
  ⟨.DRV_CH_CFG, .spoke, 0x0800, 64, 0x10, 1, 4, .const 0x00000000, [⟨0, 2, .ro⟩, ⟨2, 4, .ro⟩, ⟨6, 1, .ro⟩, ⟨7, 1, .ro⟩, ⟨8, 1, .ro⟩]⟩,
  ⟨.DRV_CH_STATUS, .spoke, 0x0804, 64, 0x10, 1, 4, .const 0x00000000, [⟨0, 3, .ro⟩, ⟨3, 1, .ro⟩, ⟨4, 1, .w1c⟩, ⟨5, 1, .w1c⟩, ⟨6, 1, .w1c⟩, ⟨7, 1, .w1c⟩, ⟨8, 1, .w1c⟩, ⟨9, 1, .w1c⟩, ⟨10, 1, .w1c⟩, ⟨11, 1, .w1c⟩, ⟨12, 1, .w1c⟩, ⟨16, 12, .ro⟩]⟩,
  ⟨.DRV_CH_LEAK, .spoke, 0x0808, 64, 0x10, 1, 4, .const 0x00000000, [⟨0, 8, .ro⟩, ⟨8, 8, .ro⟩, ⟨16, 8, .ro⟩, ⟨24, 8, .ro⟩]⟩,
  ⟨.DRV_CH_MEAS, .spoke, 0x080C, 64, 0x10, 1, 4, .const 0x00000000, [⟨0, 12, .ro⟩, ⟨16, 16, .ro⟩]⟩,
  ⟨.DRV_SCHED_CFG, .spoke, 0x0420, 1, 4, 1, 4, .const 0x00080190, [⟨0, 11, .rwa⟩, ⟨16, 4, .rwa⟩]⟩,
  ⟨.DRV_CAS_SCHED, .spoke, 0x0640, 8, 0x8, 1, 4, .const 0x00000000, [⟨0, 4, .ro⟩, ⟨4, 1, .ro⟩, ⟨5, 1, .w1c⟩, ⟨16, 11, .ro⟩]⟩,
  ⟨.DRV_CAS_PEAKS, .spoke, 0x0644, 8, 0x8, 1, 4, .const 0x00000000, [⟨0, 16, .ro⟩, ⟨16, 16, .ro⟩]⟩,
  ⟨.DRV_DET_CFG, .spoke, 0x0700, 16, 0x8, 1, 4, .const 0x10083203, [⟨0, 1, .rwa⟩, ⟨1, 2, .rwa⟩, ⟨8, 8, .rwa⟩, ⟨16, 6, .rwa⟩, ⟨24, 6, .rwa⟩]⟩,
  ⟨.DRV_DET_WIN, .spoke, 0x0704, 16, 0x8, 1, 4, .const 0x00001496, [⟨0, 8, .rwa⟩, ⟨8, 8, .rwa⟩]⟩,
  ⟨.DRV_CH_TIMING, .spoke, 0x0C00, 64, 0x10, 1, 4, .const 0xFFFFFFFF, [⟨0, 16, .ro⟩, ⟨16, 16, .ro⟩]⟩,
  ⟨.DRV_CH_RISE, .spoke, 0x0C04, 64, 0x10, 1, 4, .const 0x00000000, [⟨0, 13, .ro⟩, ⟨16, 13, .ro⟩]⟩,
  ⟨.DRV_CH_TRAVEL, .spoke, 0x0C08, 64, 0x10, 1, 4, .const 0x00000000, [⟨0, 4, .ro⟩, ⟨4, 4, .ro⟩, ⟨8, 1, .ro⟩, ⟨9, 1, .ro⟩, ⟨10, 1, .w1c⟩, ⟨11, 1, .w1c⟩, ⟨16, 16, .ro⟩]⟩,
  ⟨.REG_EST_INDEX, .hub, 0x08200, 1, 4, 1, 4, .const 0x00000000, [⟨0, 11, .rw⟩]⟩,
  ⟨.REG_EST_DELAY, .hub, 0x08204, 1, 4, 1, 4, .const 0x00000000, [⟨0, 16, .ro⟩, ⟨16, 16, .ro⟩]⟩,
  ⟨.REG_EST_SLIP, .hub, 0x08208, 1, 4, 1, 4, .const 0x00000000, [⟨0, 11, .ro⟩, ⟨16, 4, .ro⟩, ⟨20, 4, .ro⟩, ⟨24, 8, .ro⟩]⟩,
  ⟨.REG_EST_CFG, .hub, 0x0820C, 1, 4, 1, 4, .const 0x00008132, [⟨0, 6, .rw⟩, ⟨8, 2, .rw⟩, ⟨12, 4, .rw⟩]⟩]

/-- Part 3 of the register table. -/
def regRows3 : List RegRow := [
  ⟨.CTL_STATUS, .spoke, 0x1800, 1, 4, 1, 4, .const 0x00000000, [⟨0, 5, .ro⟩, ⟨8, 1, .w1c⟩, ⟨9, 1, .w1c⟩, ⟨16, 7, .ro⟩]⟩,
  ⟨.CTL_LOOP_STATUS, .spoke, 0x1840, 24, 0x10, 1, 4, .const 0x00000000, [⟨0, 2, .ro⟩, ⟨2, 2, .ro⟩, ⟨4, 1, .ro⟩, ⟨5, 3, .ro⟩, ⟨8, 1, .ro⟩, ⟨9, 1, .ro⟩, ⟨10, 1, .ro⟩, ⟨11, 1, .ro⟩, ⟨12, 1, .w1c⟩, ⟨13, 1, .w1c⟩, ⟨14, 1, .w1c⟩, ⟨15, 1, .w1c⟩, ⟨16, 8, .ro⟩, ⟨24, 4, .ro⟩]⟩,
  ⟨.CTL_LOOP_Y, .spoke, 0x1844, 24, 0x10, 1, 4, .const 0x00000000, [⟨0, 32, .ro⟩]⟩,
  ⟨.CTL_LOOP_W, .spoke, 0x1848, 24, 0x10, 1, 4, .const 0x00000000, [⟨0, 32, .ro⟩]⟩,
  ⟨.CTL_LOOP_U, .spoke, 0x184C, 24, 0x10, 1, 4, .const 0x00000000, [⟨0, 32, .ro⟩]⟩,
  ⟨.ADC_AIN_VAL, .spoke, 0x3400, 16, 4, 1, 4, .const 0x00000000, [⟨0, 12, .ro⟩]⟩,
  ⟨.ADC_EN, .spoke, 0x3440, 1, 4, 1, 4, .const 0x00000000, [⟨0, 16, .rw⟩, ⟨16, 8, .rw⟩, ⟨24, 3, .rw⟩, ⟨27, 2, .rw⟩]⟩,
  ⟨.ADC_PULSE_CFG, .spoke, 0x3480, 8, 8, 1, 4, .const 0x03E80000, [⟨0, 1, .rw⟩, ⟨1, 3, .rw⟩, ⟨8, 8, .rw⟩, ⟨16, 16, .rw⟩]⟩,
  ⟨.ADC_PULSE_VAL, .spoke, 0x3484, 8, 8, 1, 4, .const 0x00000000, [⟨0, 32, .ro⟩]⟩,
  ⟨.ADC_ENC_CFG, .spoke, 0x34C0, 3, 0x10, 1, 4, .const 0x00640000, [⟨0, 1, .rw⟩, ⟨1, 1, .rw⟩, ⟨2, 3, .rw⟩, ⟨16, 16, .rw⟩]⟩,
  ⟨.ADC_ENC_POS, .spoke, 0x34C4, 3, 0x10, 1, 4, .const 0x00000000, [⟨0, 32, .rw⟩]⟩,
  ⟨.ADC_ENC_SPEED, .spoke, 0x34C8, 3, 0x10, 1, 4, .const 0x00000000, [⟨0, 32, .ro⟩]⟩,
  ⟨.ADC_ENC_STATUS, .spoke, 0x34CC, 3, 0x10, 1, 4, .const 0x00000000, [⟨0, 3, .ro⟩, ⟨3, 1, .w1c⟩, ⟨16, 16, .ro⟩]⟩,
  ⟨.ADC_SPI_CFG, .spoke, 0x3500, 2, 0x20, 1, 4, .const 0x03E80904, [⟨0, 4, .rw⟩, ⟨4, 2, .rw⟩, ⟨6, 1, .rw⟩, ⟨8, 8, .rw⟩, ⟨16, 16, .rw⟩]⟩,
  ⟨.ADC_SPI_MAP, .spoke, 0x3504, 2, 0x20, 1, 4, .const 0x00000000, [⟨0, 16, .rw⟩]⟩,
  ⟨.ADC_SPI_TX, .spoke, 0x3508, 2, 0x20, 4, 4, .const 0x00000000, [⟨0, 32, .rw⟩]⟩,
  ⟨.ADC_SPI_STATUS, .spoke, 0x3518, 2, 0x20, 1, 4, .const 0x00000000, [⟨0, 1, .ro⟩, ⟨1, 1, .w1c⟩, ⟨16, 16, .ro⟩]⟩,
  ⟨.REG_STREAM, .hub, 0x08300, 8, 4, 1, 4, .const 0x00000000, [⟨0, 1, .rw⟩, ⟨8, 8, .rw⟩, ⟨16, 8, .rw⟩]⟩,
  ⟨.PWM_CFG, .spoke, 0x1000, 12, 0x40, 1, 4, .const 0x00000000, [⟨0, 1, .rw⟩, ⟨1, 1, .rw⟩, ⟨2, 1, .rw⟩, ⟨3, 3, .rw⟩, ⟨6, 1, .rw⟩, ⟨7, 1, .rw⟩, ⟨8, 1, .rw⟩, ⟨9, 1, .rw⟩, ⟨10, 1, .rw⟩, ⟨11, 1, .rw⟩, ⟨12, 4, .rw⟩]⟩,
  ⟨.PWM_PER, .spoke, 0x1004, 12, 0x40, 1, 4, .const 0x000030D4, [⟨0, 16, .rw⟩]⟩,
  ⟨.PWM_PHASE, .spoke, 0x1008, 12, 0x40, 1, 4, .const 0x00000000, [⟨0, 24, .rw⟩]⟩,
  ⟨.PWM_DT, .spoke, 0x100C, 12, 0x40, 1, 4, .const 0x00000FA0, [⟨0, 14, .rwa⟩]⟩,
  ⟨.PWM_ADT, .spoke, 0x1010, 12, 0x40, 1, 4, .const 0x1F400320, [⟨0, 14, .rwa⟩, ⟨16, 14, .rwa⟩]⟩,
  ⟨.PWM_SENSE, .spoke, 0x1014, 12, 0x40, 1, 4, .const 0x000800A0, [⟨0, 10, .rwa⟩, ⟨12, 8, .rwa⟩]⟩,
  ⟨.PWM_PULSE, .spoke, 0x1018, 12, 0x40, 1, 4, .const 0x1F400640, [⟨0, 14, .rwa⟩, ⟨16, 14, .rwa⟩]⟩,
  ⟨.PWM_REFRESH, .spoke, 0x101C, 12, 0x40, 1, 4, .const 0x000003E8, [⟨0, 16, .rwa⟩]⟩,
  ⟨.PWM_TRIP_LIM, .spoke, 0x1020, 12, 0x40, 1, 4, .const 0x00004008, [⟨0, 8, .rwa⟩, ⟨8, 8, .rwa⟩]⟩,
  ⟨.PWM_CMP, .spoke, 0x1024, 12, 0x40, 4, 4, .const 0x00000000, [⟨0, 16, .rw⟩, ⟨16, 2, .rw⟩, ⟨18, 1, .rw⟩, ⟨20, 4, .rw⟩]⟩,
  ⟨.PWM_STATUS, .spoke, 0x1034, 12, 0x40, 1, 4, .const 0x00000000, [⟨0, 3, .ro⟩, ⟨3, 1, .ro⟩, ⟨4, 1, .ro⟩, ⟨5, 1, .ro⟩, ⟨8, 8, .ro⟩, ⟨16, 1, .w1c⟩, ⟨17, 1, .w1c⟩, ⟨18, 1, .w1c⟩, ⟨19, 1, .w1c⟩, ⟨20, 1, .w1c⟩, ⟨21, 1, .w1c⟩, ⟨22, 1, .w1c⟩]⟩,
  ⟨.PWM_CTL, .spoke, 0x1038, 12, 0x40, 1, 4, .const 0x00000000, [⟨0, 1, .wo⟩]⟩,
  ⟨.PWM_COUNT, .spoke, 0x103C, 12, 0x40, 1, 4, .const 0x00000000, [⟨0, 12, .ro⟩, ⟨12, 10, .ro⟩, ⟨22, 10, .ro⟩]⟩,
  ⟨.PWM_TRIP_CFG, .spoke, 0x1300, 1, 4, 1, 4, .const 0x00000000, [⟨0, 7, .rwa⟩, ⟨7, 1, .rwa⟩, ⟨8, 7, .rwa⟩, ⟨15, 1, .rwa⟩, ⟨16, 7, .rwa⟩, ⟨23, 1, .rwa⟩, ⟨24, 7, .rwa⟩, ⟨31, 1, .rwa⟩]⟩,
  ⟨.PWM_TRIP_STATUS, .spoke, 0x1304, 1, 4, 1, 4, .const 0x00000000, [⟨0, 4, .ro⟩, ⟨4, 4, .w1c⟩]⟩,
  ⟨.TIM_CFG, .hub, 0x0C000, 1, 4, 1, 4, .const 0x00000320, [⟨0, 1, .rw⟩, ⟨1, 1, .rw⟩, ⟨2, 1, .rw⟩, ⟨3, 10, .rw⟩, ⟨13, 8, .rw⟩]⟩,
  ⟨.TIM_PPS_OFFSET, .hub, 0x0C004, 1, 4, 1, 4, .const 0x00000000, [⟨0, 32, .rw⟩]⟩,
  ⟨.TIM_HOLD, .hub, 0x0C008, 1, 4, 1, 4, .const 0x6464000A, [⟨0, 16, .rw⟩, ⟨16, 8, .rw⟩, ⟨24, 7, .rw⟩]⟩,
  ⟨.TIM_UNC_LIMIT, .hub, 0x0C00C, 1, 4, 1, 4, .const 0x00000000, [⟨0, 32, .rw⟩]⟩,
  ⟨.TIM_STATUS, .hub, 0x0C010, 1, 4, 1, 4, .const 0x00000000, [⟨0, 1, .ro⟩, ⟨1, 1, .ro⟩, ⟨2, 1, .ro⟩, ⟨3, 1, .ro⟩, ⟨4, 1, .ro⟩, ⟨8, 1, .w1c⟩, ⟨9, 1, .w1c⟩, ⟨10, 1, .w1c⟩, ⟨11, 1, .w1c⟩, ⟨16, 16, .ro⟩]⟩,
  ⟨.TIM_UNC, .hub, 0x0C014, 1, 4, 1, 4, .const 0xFFFFFFFF, [⟨0, 32, .ro⟩]⟩,
  ⟨.TIM_FT_LO, .hub, 0x0C018, 1, 4, 1, 4, .const 0x00000000, [⟨0, 32, .ro⟩]⟩]

/-- Part 4 of the register table. -/
def regRows4 : List RegRow := [
  ⟨.TIM_FT_HI, .hub, 0x0C01C, 1, 4, 1, 4, .const 0x00000000, [⟨0, 32, .ro⟩]⟩,
  ⟨.TIM_PT_LO, .hub, 0x0C020, 1, 4, 1, 4, .const 0x00000000, [⟨0, 32, .ro⟩]⟩,
  ⟨.TIM_PT_HI, .hub, 0x0C024, 1, 4, 1, 4, .const 0x00000000, [⟨0, 32, .ro⟩]⟩,
  ⟨.TIM_RATE, .hub, 0x0C028, 1, 4, 1, 4, .const 0x00000000, [⟨0, 32, .ro⟩]⟩,
  ⟨.GNB_EPOCH, .hub, 0x0C040, 1, 4, 1, 4, .const 0x00000064, [⟨0, 10, .rw⟩, ⟨10, 1, .rw⟩]⟩,
  ⟨.GNB_CFG, .spoke, 0x2800, 1, 4, 1, 4, .const 0x00000000, [⟨0, 1, .rw⟩, ⟨1, 1, .rw⟩, ⟨2, 1, .rw⟩, ⟨8, 24, .rw⟩]⟩,
  ⟨.GNB_SV_GPS, .spoke, 0x2804, 1, 4, 1, 4, .const 0xFFFFFFFF, [⟨0, 32, .rw⟩]⟩,
  ⟨.GNB_SV_GAL_LO, .spoke, 0x2808, 1, 4, 1, 4, .const 0xFFFFFFFF, [⟨0, 32, .rw⟩]⟩,
  ⟨.GNB_SV_GAL_HI, .spoke, 0x280C, 1, 4, 1, 4, .const 0x0000000F, [⟨0, 4, .rw⟩]⟩,
  ⟨.GNB_TRACK, .spoke, 0x2810, 1, 4, 1, 4, .const 0x00C9928F, [⟨0, 6, .rw⟩, ⟨6, 6, .rw⟩, ⟨12, 6, .rw⟩, ⟨18, 8, .rw⟩]⟩,
  ⟨.GNB_TAPS, .spoke, 0x2814, 1, 4, 1, 4, .const 0x00808810, [⟨0, 6, .rw⟩, ⟨6, 6, .rw⟩, ⟨12, 6, .rw⟩, ⟨18, 6, .rw⟩]⟩,
  ⟨.GNB_NOTCH_CFG, .spoke, 0x2818, 1, 4, 1, 4, .const 0x00000F55, [⟨0, 2, .rw⟩, ⟨2, 2, .rw⟩, ⟨4, 2, .rw⟩, ⟨6, 2, .rw⟩, ⟨8, 8, .rw⟩]⟩,
  ⟨.GNB_NOTCH, .spoke, 0x281C, 3, 4, 1, 4, .const 0x00000000, [⟨0, 16, .rw⟩, ⟨16, 16, .ro⟩]⟩,
  ⟨.GNB_JAM, .spoke, 0x2828, 1, 4, 1, 4, .const 0x4D420058, [⟨0, 4, .rw⟩, ⟨4, 4, .rw⟩, ⟨8, 10, .rw⟩, ⟨18, 6, .rw⟩, ⟨24, 8, .rw⟩]⟩,
  ⟨.GNB_STATUS, .spoke, 0x282C, 1, 4, 1, 4, .const 0x00000000, [⟨0, 4, .ro⟩, ⟨4, 10, .ro⟩, ⟨14, 5, .ro⟩, ⟨19, 1, .ro⟩, ⟨20, 1, .w1c⟩, ⟨21, 1, .ro⟩, ⟨22, 1, .w1c⟩]⟩,
  ⟨.GNB_SCLK, .spoke, 0x2830, 1, 4, 1, 4, .const 0x00000000, [⟨0, 16, .ro⟩]⟩,
  ⟨.GNB_CH, .spoke, 0x2840, 24, 4, 1, 4, .const 0x00000000, [⟨0, 6, .ro⟩, ⟨6, 1, .ro⟩, ⟨8, 2, .ro⟩, ⟨16, 16, .ro⟩]⟩,
  ⟨.CAN_CFG, .can, 0x000, 1, 4, 1, 4, .const 0x00000012, [⟨0, 1, .rw⟩, ⟨1, 1, .rw⟩, ⟨2, 1, .rw⟩, ⟨3, 1, .rw⟩, ⟨4, 1, .rw⟩, ⟨5, 1, .rw⟩, ⟨6, 1, .rw⟩, ⟨7, 1, .rw⟩, ⟨8, 1, .rw⟩, ⟨9, 4, .rw⟩, ⟨13, 1, .rw⟩]⟩,
  ⟨.CAN_NOMBIT, .can, 0x004, 1, 4, 1, 4, .const 0x020FC410, [⟨0, 6, .rw⟩, ⟨6, 8, .rw⟩, ⟨14, 9, .rw⟩, ⟨23, 9, .rw⟩]⟩,
  ⟨.CAN_DATABIT, .can, 0x008, 1, 4, 1, 4, .const 0x10417D08, [⟨0, 5, .rw⟩, ⟨5, 5, .rw⟩, ⟨10, 6, .rw⟩, ⟨16, 6, .rw⟩, ⟨22, 1, .rw⟩, ⟨23, 7, .rw⟩]⟩,
  ⟨.CAN_FILT, .can, 0x00C, 1, 4, 1, 4, .const 0x00000000, [⟨0, 8, .rw⟩, ⟨8, 7, .rw⟩]⟩,
  ⟨.CAN_RXB_LO, .can, 0x010, 1, 4, 1, 4, .const 0x00000000, [⟨0, 1, .rw⟩, ⟨8, 24, .rw⟩]⟩,
  ⟨.CAN_RXB_HI, .can, 0x014, 1, 4, 1, 4, .const 0x00000000, [⟨0, 32, .rw⟩]⟩,
  ⟨.CAN_STATUS, .can, 0x020, 1, 4, 1, 4, .const 0x00000003, [⟨0, 2, .ro⟩, ⟨2, 1, .ro⟩, ⟨3, 1, .ro⟩, ⟨8, 1, .w1c⟩, ⟨9, 1, .w1c⟩, ⟨10, 1, .w1c⟩, ⟨11, 1, .w1c⟩, ⟨12, 1, .w1c⟩, ⟨13, 1, .w1c⟩, ⟨14, 1, .w1c⟩, ⟨15, 1, .w1c⟩, ⟨16, 1, .w1c⟩]⟩,
  ⟨.CAN_ERR, .can, 0x024, 1, 4, 1, 4, .const 0x00000000, [⟨0, 8, .ro⟩, ⟨8, 7, .ro⟩, ⟨15, 1, .ro⟩, ⟨16, 3, .ro⟩, ⟨20, 3, .ro⟩]⟩,
  ⟨.CAN_COLL_ID, .can, 0x028, 1, 4, 1, 4, .const 0x00000000, [⟨0, 29, .ro⟩, ⟨29, 1, .ro⟩]⟩,
  ⟨.CAN_COUNT, .can, 0x02C, 1, 4, 1, 4, .const 0x00000000, [⟨0, 8, .ro⟩, ⟨8, 8, .ro⟩, ⟨16, 16, .ro⟩]⟩,
  ⟨.CAN_QUEUE, .can, 0x030, 1, 4, 1, 4, .const 0x00000000, [⟨0, 6, .ro⟩, ⟨8, 7, .ro⟩, ⟨16, 1, .ro⟩]⟩,
  ⟨.CAN_LOOP_DELAY, .can, 0x034, 1, 4, 1, 4, .const 0x00000000, [⟨0, 7, .ro⟩]⟩,
  ⟨.CAN_CTL, .can, 0x038, 1, 4, 1, 4, .const 0x00000000, [⟨0, 1, .wo⟩]⟩,
  ⟨.CAN_SUM_CFG, .can, 0x040, 1, 4, 1, 4, .const 0x00640000, [⟨0, 1, .rw⟩, ⟨1, 1, .rw⟩, ⟨2, 1, .rw⟩, ⟨8, 8, .rw⟩, ⟨16, 16, .rw⟩]⟩,
  ⟨.CAN_SUM_ID, .can, 0x044, 1, 4, 1, 4, .const 0x00000000, [⟨0, 29, .rw⟩, ⟨29, 1, .rw⟩]⟩,
  ⟨.CAN_SUM_TPL, .can, 0x048, 1, 4, 1, 4, .const 0x00000000, [⟨0, 32, .rw⟩]⟩,
  ⟨.CAN_SUM_LAST, .can, 0x04C, 1, 4, 1, 4, .const 0x00000000, [⟨0, 32, .ro⟩]⟩,
  ⟨.CAN_SB_CFG, .hub, 0x0A880, 1, 4, 1, 4, .const 0x00000000, [⟨0, 2, .ro⟩, ⟨2, 1, .ro⟩, ⟨3, 1, .ro⟩, ⟨4, 1, .rw⟩, ⟨8, 6, .ro⟩, ⟨16, 6, .ro⟩, ⟨24, 4, .ro⟩]⟩,
  ⟨.CAN_SB_STATUS, .hub, 0x0A884, 1, 4, 1, 4, .const 0x00000000, [⟨0, 1, .ro⟩, ⟨1, 1, .ro⟩, ⟨2, 1, .ro⟩, ⟨3, 1, .ro⟩, ⟨8, 1, .w1c⟩, ⟨9, 1, .w1c⟩, ⟨10, 1, .w1c⟩, ⟨11, 1, .w1c⟩, ⟨12, 1, .w1c⟩, ⟨13, 1, .w1c⟩]⟩,
  ⟨.CAN_SB_PRESENT, .hub, 0x0A888, 1, 4, 1, 4, .const 0x00000000, [⟨0, 15, .ro⟩]⟩,
  ⟨.CAN_SB_COUNT, .hub, 0x0A88C, 1, 4, 1, 4, .const 0x00000000, [⟨0, 8, .ro⟩, ⟨8, 8, .ro⟩, ⟨16, 8, .ro⟩, ⟨24, 8, .ro⟩]⟩,
  ⟨.TIM_IMPL_STATUS, .hub, 0x0C02C, 1, 4, 1, 4, .const 0x00000000, [⟨0, 3, .ro⟩, ⟨3, 1, .ro⟩, ⟨4, 1, .ro⟩, ⟨8, 1, .w1c⟩, ⟨9, 1, .w1c⟩, ⟨10, 1, .w1c⟩, ⟨16, 16, .ro⟩]⟩,
  ⟨.TIM_IMPL_OFF_LO, .hub, 0x0C030, 1, 4, 1, 4, .const 0x00000000, [⟨0, 32, .ro⟩]⟩]

/-- Part 5 of the register table. -/
def regRows5 : List RegRow := [
  ⟨.TIM_IMPL_OFF_HI, .hub, 0x0C034, 1, 4, 1, 4, .const 0x00000000, [⟨0, 32, .ro⟩]⟩,
  ⟨.TIM_IMPL_ERR, .hub, 0x0C038, 1, 4, 1, 4, .const 0x00000000, [⟨0, 32, .ro⟩]⟩,
  ⟨.TIM_IMPL_FREQ, .hub, 0x0C03C, 1, 4, 1, 4, .const 0x00000000, [⟨0, 32, .ro⟩]⟩,
  ⟨.HIC_STATUS, .hub, 0x03000, 1, 4, 1, 4, .const 0x00000000, [⟨0, 1, .w1c⟩, ⟨1, 1, .w1c⟩]⟩,
  ⟨.HIC_PEND, .hub, 0x03080, 32, 4, 1, 4, .const 0x00000000, [⟨0, 32, .rw⟩]⟩,
  ⟨.HIC_EN, .hub, 0x03100, 32, 4, 1, 4, .const 0x00000000, [⟨0, 32, .rw⟩]⟩,
  ⟨.HIC_MASK, .hub, 0x03180, 32, 4, 1, 4, .const 0x00000000, [⟨0, 32, .rw⟩]⟩,
  ⟨.HIC_RAW, .hub, 0x03200, 32, 4, 1, 4, .const 0x00000000, [⟨0, 32, .ro⟩]⟩,
  ⟨.HIC_CFG, .hub, 0x03400, 512, 4, 1, 4, .hicCfg, [⟨0, 16, .rw⟩, ⟨16, 16, .rw⟩]⟩,
  ⟨.HIC_CORE_STATUS, .hub, 0x03C00, 4, 0x10, 1, 4, .const 0x00000000, [⟨0, 4, .ro⟩, ⟨4, 4, .ro⟩, ⟨8, 1, .ro⟩, ⟨16, 16, .ro⟩]⟩,
  ⟨.HIC_CORE_EOI, .hub, 0x03C04, 4, 0x10, 1, 4, .const 0x00000000, [⟨0, 1, .wo⟩]⟩,
  ⟨.HIC_NUDGE, .hub, 0x03C08, 4, 0x10, 1, 4, .const 0x00000000, [⟨0, 4, .wo⟩, ⟨4, 1, .wo⟩, ⟨5, 1, .wo⟩]⟩,
  ⟨.SIC_STATUS, .spoke, 0x3800, 1, 4, 1, 4, .const 0x00000000, [⟨0, 1, .w1c⟩, ⟨1, 1, .w1c⟩]⟩,
  ⟨.SIC_CORE, .spoke, 0x3804, 1, 4, 1, 4, .const 0x00000000, [⟨0, 4, .ro⟩, ⟨4, 4, .ro⟩, ⟨8, 1, .ro⟩, ⟨16, 16, .ro⟩]⟩,
  ⟨.SIC_EOI, .spoke, 0x3808, 1, 4, 1, 4, .const 0x00000000, [⟨0, 1, .wo⟩]⟩,
  ⟨.SIC_NUDGE, .spoke, 0x380C, 1, 4, 1, 4, .const 0x00000000, [⟨0, 4, .wo⟩, ⟨4, 1, .wo⟩, ⟨5, 1, .wo⟩]⟩,
  ⟨.SIC_PEND, .spoke, 0x3820, 8, 4, 1, 4, .const 0x00000000, [⟨0, 32, .rw⟩]⟩,
  ⟨.SIC_EN, .spoke, 0x3840, 8, 4, 1, 4, .const 0x00000000, [⟨0, 32, .rw⟩]⟩,
  ⟨.SIC_MASK, .spoke, 0x3860, 8, 4, 1, 4, .const 0x00000000, [⟨0, 32, .rw⟩]⟩,
  ⟨.SIC_RAW, .spoke, 0x3880, 8, 4, 1, 4, .const 0x00000000, [⟨0, 32, .ro⟩]⟩,
  ⟨.SIC_CFG, .spoke, 0x3900, 128, 4, 1, 4, .sicCfg, [⟨0, 16, .rw⟩, ⟨16, 16, .rw⟩]⟩,
  ⟨.LOG_CFG, .hub, 0x04000, 1, 4, 1, 4, .const 0x00000005, [⟨0, 6, .rw⟩]⟩,
  ⟨.LOG_STATUS, .hub, 0x04004, 1, 4, 1, 4, .const 0x00000000, [⟨0, 1, .ro⟩, ⟨1, 1, .ro⟩, ⟨2, 1, .ro⟩, ⟨8, 7, .ro⟩, ⟨16, 1, .w1c⟩, ⟨17, 1, .w1c⟩, ⟨18, 1, .w1c⟩, ⟨19, 1, .w1c⟩, ⟨20, 1, .w1c⟩]⟩,
  ⟨.LOG_NEXT_SEQ, .hub, 0x04008, 1, 4, 1, 4, .const 0x00000000, [⟨0, 32, .ro⟩]⟩,
  ⟨.LOG_OLDEST_SEQ, .hub, 0x0400C, 1, 4, 1, 4, .const 0x00000000, [⟨0, 32, .ro⟩]⟩,
  ⟨.LOG_COUNT, .hub, 0x04010, 1, 4, 1, 4, .const 0x00000000, [⟨0, 13, .ro⟩, ⟨16, 13, .ro⟩]⟩,
  ⟨.LOG_OPTIME_LO, .hub, 0x04014, 1, 4, 1, 4, .const 0x00000000, [⟨0, 32, .ro⟩]⟩,
  ⟨.LOG_OPTIME_HI, .hub, 0x04018, 1, 4, 1, 4, .const 0x00000000, [⟨0, 4, .ro⟩]⟩,
  ⟨.LOG_PCYC, .hub, 0x0401C, 1, 4, 1, 4, .const 0x00000000, [⟨0, 24, .ro⟩]⟩,
  ⟨.LOG_DROP_LO, .hub, 0x04020, 1, 4, 1, 4, .const 0x00000000, [⟨0, 8, .ro⟩, ⟨8, 8, .ro⟩, ⟨16, 8, .ro⟩, ⟨24, 8, .ro⟩]⟩,
  ⟨.LOG_DROP_HI, .hub, 0x04024, 1, 4, 1, 4, .const 0x00000000, [⟨0, 8, .ro⟩, ⟨8, 8, .ro⟩, ⟨16, 8, .ro⟩, ⟨24, 8, .ro⟩]⟩,
  ⟨.LOG_GDROP_LO, .hub, 0x04028, 1, 4, 1, 4, .const 0x00000000, [⟨0, 8, .ro⟩, ⟨8, 8, .ro⟩, ⟨16, 8, .ro⟩, ⟨24, 8, .ro⟩]⟩,
  ⟨.LOG_GDROP_HI, .hub, 0x0402C, 1, 4, 1, 4, .const 0x00000000, [⟨0, 8, .ro⟩, ⟨8, 8, .ro⟩, ⟨16, 8, .ro⟩, ⟨24, 8, .ro⟩]⟩,
  ⟨.LOG_CTL, .hub, 0x04030, 1, 4, 1, 4, .const 0x00000000, [⟨0, 16, .wo⟩]⟩,
  ⟨.HLT_CFG, .hub, 0x05000, 1, 4, 1, 4, .const 0x00000000, [⟨0, 1, .rw⟩]⟩,
  ⟨.HLT_STATUS, .hub, 0x05004, 1, 4, 1, 4, .const 0x00000000, [⟨0, 1, .ro⟩, ⟨8, 1, .w1c⟩, ⟨9, 1, .w1c⟩, ⟨10, 1, .w1c⟩, ⟨11, 1, .w1c⟩, ⟨16, 16, .ro⟩]⟩,
  ⟨.HLT_REPLAN, .hub, 0x05008, 1, 4, 1, 4, .const 0x00008CA0, [⟨0, 32, .ro⟩]⟩,
  ⟨.HLT_PKG, .hub, 0x0500C, 1, 4, 1, 4, .hltPkg, [⟨0, 16, .ro⟩]⟩,
  ⟨.HLT_SEL, .hub, 0x05010, 1, 4, 1, 4, .const 0x00000000, [⟨0, 5, .rw⟩, ⟨8, 11, .rw⟩]⟩,
  ⟨.HLT_INST, .hub, 0x05014, 1, 4, 1, 4, .const 0x00000000, [⟨0, 8, .ro⟩, ⟨8, 1, .ro⟩, ⟨16, 16, .ro⟩]⟩]

/-- Part 6 of the register table. -/
def regRows6 : List RegRow := [
  ⟨.HLT_CLEAR, .hub, 0x05018, 1, 4, 1, 4, .const 0x00000000, [⟨0, 5, .wo⟩, ⟨8, 11, .wo⟩]⟩,
  ⟨.HLT_CLASS_CFG, .hub, 0x05100, 19, 4, 1, 4, .hltClass, [⟨0, 4, .rwa⟩, ⟨4, 8, .rwa⟩, ⟨12, 16, .rwa⟩]⟩,
  ⟨.SHL_STATUS, .spoke, 0x3C00, 1, 4, 1, 4, .const 0x00000000, [⟨0, 1, .ro⟩, ⟨8, 1, .w1c⟩, ⟨9, 1, .w1c⟩]⟩,
  ⟨.SHL_MARGIN, .spoke, 0x3C04, 1, 4, 1, 4, .const 0x00000000, [⟨0, 10, .ro⟩, ⟨16, 10, .ro⟩]⟩,
  ⟨.SHL_THERMAL, .spoke, 0x3C08, 1, 4, 1, 4, .const 0x00000000, [⟨0, 9, .ro⟩, ⟨16, 9, .ro⟩]⟩,
  ⟨.SHL_ILIM, .spoke, 0x3C0C, 1, 4, 1, 4, .const 0x000000C8, [⟨0, 16, .ro⟩]⟩,
  ⟨.TDM_STATUS, .hub, 0x06000, 1, 4, 1, 4, .const 0x00000000, [⟨0, 3, .ro⟩, ⟨3, 1, .ro⟩, ⟨4, 1, .ro⟩, ⟨5, 1, .ro⟩, ⟨6, 1, .ro⟩, ⟨8, 1, .w1c⟩, ⟨9, 1, .w1c⟩, ⟨10, 1, .w1c⟩, ⟨11, 1, .w1c⟩, ⟨12, 1, .w1c⟩, ⟨13, 1, .w1c⟩, ⟨14, 1, .w1c⟩, ⟨15, 1, .w1c⟩]⟩,
  ⟨.TDM_PARTNER, .hub, 0x06004, 1, 4, 1, 4, .const 0x00000000, [⟨0, 6, .ro⟩, ⟨8, 5, .ro⟩]⟩,
  ⟨.TDM_COUNT, .hub, 0x06008, 1, 4, 1, 4, .const 0x00000000, [⟨0, 8, .ro⟩, ⟨8, 8, .ro⟩, ⟨16, 16, .ro⟩]⟩,
  ⟨.TDM_LAST, .hub, 0x0600C, 1, 4, 1, 4, .const 0x00000000, [⟨0, 16, .ro⟩, ⟨16, 16, .ro⟩]⟩,
  ⟨.PWR_SUPPLY, .hub, 0x02050, 1, 4, 1, 4, .const 0x00000000, [⟨0, 8, .ro⟩, ⟨8, 1, .ro⟩]⟩,
  ⟨.SPK_SUPPLY, .spoke, 0x0020, 1, 4, 1, 4, .const 0x00000000, [⟨0, 8, .ro⟩, ⟨8, 1, .ro⟩, ⟨9, 1, .ro⟩, ⟨16, 16, .ro⟩]⟩,
  ⟨.PWR_LB_CTL, .hub, 0x02060, 1, 4, 1, 4, .const 0x00000000, [⟨0, 4, .rw⟩, ⟨4, 2, .rw⟩, ⟨6, 3, .rw⟩, ⟨9, 7, .rw⟩, ⟨30, 1, .wo⟩, ⟨31, 1, .wo⟩]⟩,
  ⟨.PWR_LB_STATUS, .hub, 0x02064, 1, 4, 1, 4, .const 0x00000000, [⟨0, 2, .ro⟩, ⟨2, 1, .w1c⟩, ⟨4, 3, .ro⟩, ⟨16, 16, .ro⟩]⟩,
  ⟨.PWR_LB_RESULT, .hub, 0x02068, 1, 4, 1, 4, .const 0x00000000, [⟨0, 32, .ro⟩]⟩,
  ⟨.PWR_LB_GEN, .hub, 0x0206C, 1, 4, 1, 4, .const 0x00002801, [⟨0, 6, .rw⟩, ⟨6, 1, .rw⟩, ⟨8, 8, .rw⟩, ⟨16, 16, .rw⟩]⟩,
  ⟨.IDN_ID, .hub, 0x00000, 1, 4, 1, 4, .idnId, [⟨0, 16, .ro⟩, ⟨16, 16, .ro⟩]⟩,
  ⟨.IDN_REV, .hub, 0x00004, 1, 4, 1, 4, .idnRev, [⟨0, 8, .ro⟩, ⟨8, 3, .ro⟩, ⟨16, 9, .ro⟩]⟩,
  ⟨.IDN_FW_GEN, .hub, 0x00008, 1, 4, 1, 4, .const 0x00000000, [⟨0, 16, .ro⟩, ⟨16, 16, .ro⟩]⟩,
  ⟨.IDN_UCODE_GEN, .hub, 0x0000C, 1, 4, 1, 4, .const 0x00000000, [⟨0, 16, .ro⟩, ⟨16, 7, .ro⟩]⟩,
  ⟨.IDN_HOST_ABI, .hub, 0x00010, 1, 4, 1, 4, .const 0x00000000, [⟨0, 16, .rw⟩]⟩,
  ⟨.IDN_SERIAL_LO, .hub, 0x00014, 1, 4, 1, 4, .serialLo, [⟨0, 32, .ro⟩]⟩,
  ⟨.IDN_SERIAL_HI, .hub, 0x00018, 1, 4, 1, 4, .serialHi, [⟨0, 32, .ro⟩]⟩,
  ⟨.CAN_STD_FILT, .can, 0x200, 128, 4, 1, 4, .const 0, [⟨0, 32, .rw⟩]⟩,
  ⟨.CAN_EXT_FILT, .can, 0x400, 64, 12, 3, 4, .const 0, [⟨0, 32, .rw⟩]⟩]

/-- The whole register table. -/
def regRows : List RegRow :=
  regRows1 ++ regRows2 ++ regRows3 ++ regRows4 ++ regRows5 ++ regRows6

end Sys2Proof.Machine
end

