-- ==== Sys2Proof/Machine/Irq.lean ====
section
/-! DEFINITION. The interrupt controllers (R426 to R447): sources, pending bits, delivery to cores and to the host, forwarding
from spokes, and MSI-X. -/
namespace Sys2Proof.Machine

/-! ### MSI-X (R437) -/

/-- A message of vector v can be sent now. -/
def msixOpen (v : Nat) (d : Dev) : Bool :=
  d.pcie.linkUp && !d.pcie.d3hot && d.pcie.msixEnable && !d.pcie.funcMask && d.pcie.unmasked.contains v

/-- A dword of the MSI-X table (R86): four for each vector, address low and high, data, vector control. -/
def msixWord (n : Nat) (d : Dev) : Word :=
  if n % 4 = 3 then (if d.pcie.unmasked.contains (n / 4) then 0 else 1) else kget d.pcie.msixWords n 0

/-- The message of a vector, as its table entry gives it. -/
def msixEvent (v : Nat) (d : Dev) : OutEvent :=
  .msix v ((msixWord (4 * v) d).toNat + 2 ^ 32 * (msixWord (4 * v + 1) d).toNat) (msixWord (4 * v + 2) d).toNat

/-- A list without the last element that equals x. -/
def dropLast {α : Type} [BEq α] (x : α) (xs : List α) : List α := (xs.reverse.erase x).reverse

/-- A message goes out; messages of one vector that fall due together are one, behind what they signal (R127, R128, log entry 119). -/
def msixGo (v : Nat) (d : Dev) : Dev :=
  let e := msixEvent v d
  if d.pcie.sent.contains v then { d with out := dropLast e d.out ++ [e] }
  else { emit e d with pcie := { d.pcie with sent := v :: d.pcie.sent } }

/-- A message of vector v falls due: sent, or held in the pending-bit array. -/
def msixSend (v : Nat) (d : Dev) : Dev :=
  if msixOpen v d then msixGo v d
  else if d.pcie.pba.contains v then d
  else { d with pcie := { d.pcie with pba := d.pcie.pba ++ [v] } }

/-- Send every held message whose vector can be sent now. -/
def msixRelease (d : Dev) : Dev :=
  let go := d.pcie.pba.filter fun v => msixOpen v d
  let d := { d with pcie := { d.pcie with pba := d.pcie.pba.filter fun v => !msixOpen v d } }
  eachD go msixGo d

/-! ### Controllers -/

/-- The hub controller, or that of spoke k. -/
inductive Ctl where
  | hub
  | spoke (k : Nat)
deriving DecidableEq, Repr

def Ctl.pendReg (c : Ctl) (w : Nat) : Reg := match c with | .hub => R.HIC_PEND w | .spoke k => R.SIC_PEND k w
def Ctl.enReg (c : Ctl) (w : Nat) : Reg := match c with | .hub => R.HIC_EN w | .spoke k => R.SIC_EN k w
def Ctl.maskReg (c : Ctl) (w : Nat) : Reg := match c with | .hub => R.HIC_MASK w | .spoke k => R.SIC_MASK k w
def Ctl.rawReg (c : Ctl) (w : Nat) : Reg := match c with | .hub => R.HIC_RAW w | .spoke k => R.SIC_RAW k w
def Ctl.cfgReg (c : Ctl) (m : Nat) : Reg := match c with | .hub => R.HIC_CFG m | .spoke k => R.SIC_CFG k m
def Ctl.discarded (c : Ctl) : Fld :=
  match c with | .hub => F.HIC_STATUS.CFG_DISCARDED | .spoke k => F.SIC_STATUS.CFG_DISCARDED k
def Ctl.underflow (c : Ctl) : Fld :=
  match c with | .hub => F.HIC_STATUS.EOI_UNDERFLOW | .spoke k => F.SIC_STATUS.EOI_UNDERFLOW k
def Ctl.spurious (c : Ctl) (core : Nat) : Fld :=
  match c with | .hub => F.HIC_CORE_STATUS.SPURIOUS core | .spoke k => F.SIC_CORE.SPURIOUS k
/-- Sources of the controller (R426). -/
def Ctl.sources (c : Ctl) : Nat := match c with | .hub => 1024 | .spoke _ => 256
/-- Ticks of 4 controller clocks (R433): 8 ns on the hub, 16 ns on a spoke. -/
def Ctl.window (c : Ctl) : Nat := match c with | .hub => 2 | .spoke _ => 4

def getIrq (c : Ctl) (d : Dev) : IrqCtl := match c with | .hub => d.hic | .spoke k => kget d.sic k {}
def updIrq (c : Ctl) (f : IrqCtl → IrqCtl) (d : Dev) : Dev :=
  match c with
  | .hub => { d with hic := f d.hic }
  | .spoke k => { d with sic := kupd d.sic k {} f }

/-- Bit of source s in the words of a register array. -/
def srcBit (r : Nat → Reg) (s : Nat) (d : Dev) : Bool := (rget (r (s / 32)) d).toNat.testBit (s % 32)

/-- Set or clear that bit. -/
def setSrcBit (r : Nat → Reg) (s : Nat) (on : Bool) (d : Dev) : Dev :=
  rput (r (s / 32)) (BitVec.ofNat 32 (putBit (rget (r (s / 32)) d).toNat (s % 32) on)) d

/-- Hardware sets a pending bit (R431, R435). -/
def raisePend (c : Ctl) (s : Nat) (d : Dev) : Dev := markBits (c.pendReg (s / 32)).off (2 ^ (s % 32)) (setSrcBit c.pendReg s true d)

/-- Sources of word w. -/
def wordSources (w : Nat) : List Nat := (List.range 32).map (32 * w + ·)

/-- The configuration half of source s (R430). -/
def srcHalf (c : Ctl) (s : Nat) (d : Dev) : Nat := wordField (rget (c.cfgReg (s / 2)) d) (16 * (s % 2)) 16

def halfPrio (h : Nat) : Nat := h % 16
def halfSense (h : Nat) : Nat := (h / 16) % 4
def halfPol (h : Nat) : Bool := h.testBit 6
def halfWake (h : Nat) : Bool := h.testBit 7
def halfOut (h : Nat) : Bool := h.testBit 8
def halfTarget (h : Nat) : Nat := (h / 512) % 64

/-- Source s is private to a core (R426). -/
def isPrivate (c : Ctl) (s : Nat) : Bool := match c with | .hub => decide (s < 128) | .spoke _ => decide (s < 32)

/-- The sense of source s; a forwarded source has none of its own, and its pending bit follows its signal (R430, log entry 145). -/
def srcSense (c : Ctl) (s : Nat) (d : Dev) : Nat :=
  let h := srcHalf c s d
  match c with
  | .hub => halfSense h
  | .spoke _ => if !isPrivate c s && halfOut h then 0 else halfSense h

/-- Source s targets a core, and which (R426, R430). -/
def srcCore (c : Ctl) (s : Nat) (d : Dev) : Option Nat :=
  let h := srcHalf c s d
  match c with
  | .hub => if s < 128 then some (s / 32) else if halfOut h then none else some (halfTarget h % 4)
  | .spoke _ => if isPrivate c s then some 0 else if halfOut h then none else some 0

/-- Pending, enabled, unmasked and of a priority above 0. -/
def srcActive (c : Ctl) (s : Nat) (d : Dev) : Bool :=
  srcBit c.pendReg s d && srcBit c.enReg s d && halfPrio (srcHalf c s d) != 0 && !srcBit c.maskReg s d

/-- The vector on which source s is deliverable to the host, if it is (R436). -/
def srcVector (s : Nat) (d : Dev) : Option Nat :=
  if s < 128 then none
  else
    let h := srcHalf .hub s d
    if halfOut h && srcActive .hub s d then some (halfTarget h) else none

/-- Sources that can target a core: only firmware-owned ones (R429). -/
def coreSources (c : Ctl) (core : Nat) : List Nat :=
  match c with
  | .hub => (List.range 32).map (32 * core + ·) ++ (List.range 32).map (128 + ·)
  | .spoke _ => List.range 32

/-- The highest priority eligible for a core (R432). -/
def topPrio (c : Ctl) (core : Nat) (d : Dev) : Nat :=
  (coreSources c core).foldl (fun m s =>
    if srcCore c s d = some core && srcActive c s d then max m (halfPrio (srcHalf c s d)) else m) 0

/-- The cores of a controller. -/
def ctlCores (c : Ctl) : List Nat := match c with | .hub => [0, 1, 2, 3] | .spoke _ => [0]

/-- The running priority of a core: the top of its stack (R432). -/
def runPrio (c : Ctl) (core : Nat) (d : Dev) : Nat := (kget (getIrq c d).coreStacks core []).headD 0

/-- The interrupt line of a core (R432). -/
def irqLine (c : Ctl) (core : Nat) (d : Dev) : Bool := decide (runPrio c core d < topPrio c core d)

/-- What a core does now (R439). -/
def coreRun (c : Ctl) (core : Nat) (d : Dev) : CoreRun := kget (getIrq c d).cores core .running
def setCore (c : Ctl) (core : Nat) (r : CoreRun) (d : Dev) : Dev := updIrq c (fun i => { i with cores := kput i.cores core r .running }) d

/-- Some source eligible for a core has WAKE set (R439). -/
def wakeEligible (c : Ctl) (core : Nat) (d : Dev) : Bool :=
  (coreSources c core).any fun s => srcCore c s d = some core && srcActive c s d && halfWake (srcHalf c s d)

/-- A core in its wait state is woken by its own line, a power-gated one by an eligible source with WAKE (R439). -/
def wakeCore (c : Ctl) (core : Nat) (d : Dev) : Dev :=
  match coreRun c core d with
  | .running => d
  | .waiting => whenD (irqLine c core d) (setCore c core .running) d
  | .gated => whenD (wakeEligible c core d) (setCore c core .running) d

/-- The priority a core's line asks for: the highest eligible one while the line is high, else 0 (R432). -/
def linePrio (c : Ctl) (core : Nat) (d : Dev) : Nat := if irqLine c core d then topPrio c core d else 0

/-- Note what each core's line asks for with the tick since when it does, as far back as R433 looks; a core that it wakes runs. -/
def noteEligible (c : Ctl) (d : Dev) : Dev :=
  eachD (ctlCores c) (fun core d =>
    let h := kget (getIrq c d).history core []
    let now := linePrio c core d
    let h := match h with
      | [] => [(d.ticks, now)]
      | (t, p) :: rest => if p = now then (t, p) :: rest else if t = d.ticks then (t, now) :: rest else (d.ticks, now) :: (t, p) :: rest
    let recent := h.takeWhile fun e => decide (d.ticks < e.1 + c.window)
    let kept := recent ++ (h.drop recent.length).take 1
    wakeCore c core (updIrq c (fun i => { i with history := kput i.history core kept [] }) d)) d

/-- The taken level of a core (R433): the highest priority that was eligible 4 controller clocks ago, while the line was high. -/
def takenLevel (c : Ctl) (core : Nat) (d : Dev) : Nat :=
  (((kget (getIrq c d).history core []).find? fun e => decide (e.1 + c.window ≤ d.ticks)).map (·.2)).getD 0

/-- A list without repeats, first occurrences kept. -/
def uniq (xs : List Nat) : List Nat := xs.foldl (fun acc x => if acc.contains x then acc else acc ++ [x]) []

/-- Change the hub controller and send one message on each vector on which one of the given sources becomes deliverable
(R436); several sources of one vector send one. -/
def withDelivery (srcs : List Nat) (f : Dev → Dev) (d : Dev) : Dev :=
  let d2 := f d
  let vs := srcs.filterMap fun s =>
    match srcVector s d2 with
    | none => none
    | some v => if srcVector s d = some v then none else some v
  noteEligible .hub (eachD (uniq vs) msixSend d2)

/-- The pending bit of source s follows or is set by a signal going from `old` to `new` (R431). -/
def followSignal (c : Ctl) (s : Nat) (old new : Bool) (d : Dev) : Dev :=
  let h := srcHalf c s d
  let edge := match srcSense c s d with
    | 1 => !old && new
    | 2 => old && !new
    | 3 => old != new
    | _ => false
  if srcSense c s d = 0 then setSrcBit c.pendReg s (new != halfPol h) d
  else if edge then raisePend c s d
  else d

/-- A nudge source has no input (R435). -/
def isNudge (c : Ctl) (s : Nat) : Bool := isPrivate c s && decide (16 ≤ s % 32)

/-- The pending bit of a level-sensed source equals its signal, taken at POL (R431). -/
def levelPend (c : Ctl) (s : Nat) (d : Dev) : Dev :=
  if srcSense c s d = 0 && !isNudge c s then setSrcBit c.pendReg s (srcBit c.rawReg s d != halfPol (srcHalf c s d)) d else d

/-! ### Forwarding (R440) -/

/-- The slots of spoke k whose level is 1: the OR of the forwarded signals, taken at POL and gated by EN. -/
def slotsHigh (k : Nat) (d : Dev) : List Nat :=
  let srcs := (List.range 224).map (32 + ·)
  let live := srcs.filter fun s =>
    let h := srcHalf (.spoke k) s d
    halfOut h && srcBit (Ctl.spoke k).enReg s d && (srcBit (Ctl.spoke k).rawReg s d != halfPol h)
  (List.range 64).filter fun j => live.any fun s => halfTarget (srcHalf (.spoke k) s d) == j

/-- Send an INT frame for each slot of spoke k whose level changed (R440). -/
def forwardSlots (k : Nat) (d : Dev) : Dev :=
  let old := (getIrq (.spoke k) d).slots
  let new := slotsHigh k d
  let changed := (List.range 64).filter fun j => old.contains j != new.contains j
  let d := updIrq (.spoke k) (fun i => { i with slots := new }) d
  eachD changed (fun j => linkSend k .spoke (.int j (new.contains j))) d

/-- After a change in a spoke controller: slot levels and the spoke core's eligible priority. -/
def spokeSettle (k : Nat) (d : Dev) : Dev := noteEligible (.spoke k) (forwardSlots k d)

/-- The sources of a controller whose signal, pending bit or configuration differs from its reset value: of the others every level-sensed
pending bit is 0, as its signal is. -/
def touchedSources (c : Ctl) (d : Dev) : List Nat :=
  let idle := fun (r : Reg) => rget r d == r.reset
  (List.range (c.sources / 32)).flatMap fun w =>
    if idle (c.rawReg w) && idle (c.pendReg w) && (List.range 16).all (fun m => idle (c.cfgReg (16 * w + m))) then []
    else wordSources w

/-- The level-sensed pending bits of a controller that was restored or set up follow their signals (R431, R442). -/
def levelsPend (c : Ctl) (d : Dev) : Dev := eachD (touchedSources c d) (levelPend c) d

/-- The signal of a hub source takes a level (R431, R436). The controller of an unpowered hub sees no edge (R442). -/
def hubSignal (s : Nat) (level : Bool) (d : Dev) : Dev :=
  if isNudge .hub s then d
  else if pstate d = .cold || pstate d = .parked then setSrcBit (Ctl.hub).rawReg s level d
  else
    let old := srcBit (Ctl.hub).rawReg s d
    withDelivery [s] (fun d => d |> setSrcBit (Ctl.hub).rawReg s level |> followSignal .hub s old level) d

/-- The signal of a source of spoke k takes a level (R431, R440). -/
def spokeSignal (k s : Nat) (level : Bool) (d : Dev) : Dev :=
  if isNudge (.spoke k) s then d
  else
    let c := Ctl.spoke k
    let old := srcBit c.rawReg s d
    spokeSettle k (d |> setSrcBit c.rawReg s level |> followSignal c s old level)

/-- Set the hub's view of slot j of spoke k (R440). -/
def slotLevel (k j : Nat) (level : Bool) (d : Dev) : Dev := hubSignal (576 + 64 * (k - 1) + j) level d

/-- All slot levels of a spoke go to 0 at the hub (R441). -/
def clearSlots (k : Nat) (d : Dev) : Dev := eachD (List.range 64) (fun j => slotLevel k j false) d

/-! ### Source maps (R427, R428) -/

/-- The W1C bits of a register, by the register table (R9, R427). -/
def w1cMask (n : RegName) : Nat :=
  ((regRows.filter fun r => r.name == n).flatMap (·.fields)).foldl
    (fun m f => if f.acc == Acc.w1c then m + (2 ^ f.len - 1) * 2 ^ f.lo else m) 0

/-- Some W1C flag of a register is set. -/
def anyFlag (n : RegName) (r : Reg) (d : Dev) : Bool := rget r d != 0 && ((rget r d).toNat &&& w1cMask n) != 0

/-- The level of a hub source whose signal the registers or balls give (R427); none for a source that hub firmware or a
frame from a spoke drives. -/
def hubSourceLevel (s : Nat) (d : Dev) : Option Bool :=
  if 160 ≤ s ∧ s < 192 then some (getF (F.HIF_RING_STATUS.STATE (s - 160)) d == 3)
  else if s = 192 then some (anyFlag .HIF_STATUS R.HIF_STATUS d)
  else if s = 193 then some (anyFlag .PWR_LINK_STATUS R.PWR_LINK_STATUS d)
  else if s = 194 then some (anyFlag .PWR_ARM R.PWR_ARM d || getF F.PWR_STATE.PRECHARGE_FAIL d != 0)
  else if s = 195 then some (getF F.PWR_CAUSE.SAFE d != 0)
  else if s = 196 then some (anyFlag .LOG_STATUS R.LOG_STATUS d)
  else if s = 197 then some (anyFlag .HLT_STATUS R.HLT_STATUS d)
  else if s = 198 then some (anyFlag .TDM_STATUS R.TDM_STATUS d)
  else if s = 199 then some (anyFlag .HIC_STATUS R.HIC_STATUS d)
  else if s = 200 then some (anyFlag .REG_POSE_STATUS R.REG_POSE_STATUS d)
  else if s = 201 then some (anyFlag .REG_STATUS R.REG_STATUS d)
  else if s = 202 then some (anyFlag .TIM_STATUS R.TIM_STATUS d)
  else if 204 ≤ s ∧ s < 208 then some (anyFlag .CAN_STATUS (R.CAN_STATUS (s - 204)) d)
  else if s = 208 then
    some (anyFlag .CAN_SB_STATUS R.CAN_SB_STATUS d || anyFlag .TIM_IMPL_STATUS R.TIM_IMPL_STATUS d)
  else if s = 224 then some (d.pins.wake == isSet F.PWR_PARK_CFG.WAKE_POL d)
  else if s = 225 then some (armHigh d)
  else none

/-- The level of a spoke source whose signal the registers give (R428). -/
def spokeSourceLevel (k s : Nat) (d : Dev) : Option Bool :=
  if s = 32 then some (anyFlag .DRV_BOOST_STATUS (R.DRV_BOOST_STATUS k) d)
  else if s = 33 then some (anyFlag .PWM_TRIP_STATUS (R.PWM_TRIP_STATUS k) d)
  else if s = 34 then some (anyFlag .CTL_STATUS (R.CTL_STATUS k) d)
  else if s = 35 then some (anyFlag .GNB_STATUS (R.GNB_STATUS k) d)
  else if 36 ≤ s ∧ s < 39 then some (anyFlag .ADC_ENC_STATUS (R.ADC_ENC_STATUS k (s - 36)) d)
  else if 39 ≤ s ∧ s < 41 then some (anyFlag .ADC_SPI_STATUS (R.ADC_SPI_STATUS k (s - 39)) d)
  else if s = 41 then some (anyFlag .SHL_STATUS (R.SHL_STATUS k) d)
  else if 48 ≤ s ∧ s < 56 then
    some (anyFlag .DRV_CAS_STATUS (R.DRV_CAS_STATUS k (s - 48)) d || isSet (F.DRV_CAS_SCHED.OVERLOAD k (s - 48)) d)
  else if 56 ≤ s ∧ s < 68 then some (anyFlag .PWM_STATUS (R.PWM_STATUS k (s - 56)) d)
  else if 68 ≤ s ∧ s < 92 then some (anyFlag .CTL_LOOP_STATUS (R.CTL_LOOP_STATUS k (s - 68)) d)
  else if 92 ≤ s ∧ s < 96 then some (bitOf (F.PWM_TRIP_STATUS.LEVEL k) (s - 92) d)
  else if 96 ≤ s ∧ s < 160 then
    some (anyFlag .DRV_CH_STATUS (R.DRV_CH_STATUS k (s - 96)) d || anyFlag .DRV_CH_TRAVEL (R.DRV_CH_TRAVEL k (s - 96)) d)
  else none

/-- The hub sources, and those of a spoke, whose signal the registers or balls give. -/
def hubLevelSources : List Nat := (List.range 43).map (160 + ·) ++ (List.range 5).map (204 + ·) ++ [224, 225]
def spokeLevelSources : List Nat := (List.range 10).map (32 + ·) ++ (List.range 112).map (48 + ·)

/-- The controllers take over the signals that have changed (R427, R428, R431). -/
def settleSources (d : Dev) : Dev :=
  let d := eachD hubLevelSources (fun s d => match hubSourceLevel s d with
    | some v => if srcBit (Ctl.hub).rawReg s d = v then d else hubSignal s v d
    | none => d) d
  eachD d.pwr.spokeOn (fun k d => eachD spokeLevelSources (fun s d => match spokeSourceLevel k s d with
    | some v => if srcBit (Ctl.spoke k).rawReg s d = v then d else spokeSignal k s v d
    | none => d) d) d

/-- The hub controller resumes with the signals as they now are, and sees no edge of the time it was unpowered (R442). -/
def resumeController (d : Dev) : Dev :=
  let d := eachD hubLevelSources (fun s d => match hubSourceLevel s d with
    | some v => setSrcBit (Ctl.hub).rawReg s v d
    | none => d) d
  withDelivery (touchedSources .hub d) (levelsPend .hub) d

/-! ### Writes by software (R429, R430, R434, R435, R444) -/

/-- Whether an agent owns a source (R429). -/
def owns (a : Agent) (c : Ctl) (s : Nat) : Bool :=
  match a, c with
  | .host, .hub => decide (160 ≤ s)
  | .host, .spoke _ => decide (32 ≤ s)
  | .hubFw _, .hub => decide (s < 160)
  | .hubFw _, .spoke _ => false
  | .spokeFw, .spoke _ => decide (s < 32)
  | .spokeFw, .hub => false

/-- The bits of word w that an agent may change. -/
def ownedMask (a : Agent) (c : Ctl) (w : Nat) : Nat :=
  (List.range 32).foldl (fun m b => if owns a c (32 * w + b) then m + 2 ^ b else m) 0

/-- Store a register word bit by bit where the agent owns the source; a bit it does not own and would change sets
CFG_DISCARDED. -/
def writeOwned (a : Agent) (c : Ctl) (r : Reg) (w : Nat) (v : Nat) (d : Dev) : Dev :=
  let m := ownedMask a c w
  let old := (rget r d).toNat
  let d := rput r (BitVec.ofNat 32 ((old &&& (m ^^^ 0xFFFFFFFF)) ||| (v &&& m))) d
  whenD (m != 0xFFFFFFFF) (raise c.discarded) d

/-- After a change in a controller. -/
def settle (c : Ctl) (srcs : List Nat) (f : Dev → Dev) (d : Dev) : Dev :=
  match c with
  | .hub => withDelivery srcs f d
  | .spoke k => spokeSettle k (f d)

/-- A write of a pending word (R431, R444): edge-sensed bits take the value, but for bits hardware sets in the same clock;
level-sensed bits are unaffected. -/
def writePending (a : Agent) (c : Ctl) (w v hw : Nat) (d : Dev) : Dev :=
  let m := ownedMask a c w
  settle c (wordSources w) (fun d =>
    let old := (rget (c.pendReg w) d).toNat
    let edge := (wordSources w).foldl (fun e s =>
      if srcSense c s d != 0 || isNudge c s then e + 2 ^ (s % 32) else e) 0
    let take := m &&& edge
    let set := old &&& marksOf (c.pendReg w).off d
    let new := (old &&& (take ^^^ 0xFFFFFFFF)) ||| (v &&& take) ||| ((hw ||| set) &&& edge)
    d |> rput (c.pendReg w) (BitVec.ofNat 32 new) |> whenD (m != 0xFFFFFFFF) (raise c.discarded)) d

/-- A write of an EN or MASK word. -/
def writeEnable (a : Agent) (c : Ctl) (r : Reg) (w v : Nat) (d : Dev) : Dev :=
  settle c (wordSources w) (writeOwned a c r w v) d

/-- A configuration half is legal for its controller (R430): no reserved bit, a core H0 to H3. -/
def halfLegal (c : Ctl) (h : Nat) : Bool :=
  !h.testBit 15 &&
    (halfOut h || match c with
      | .hub => decide (halfTarget h < 4)
      | .spoke _ => halfTarget h == 0)

/-- One half of a configuration register is written (R429, R430): a level-sensed pending bit follows the signal at the new POL. -/
def writeHalf (a : Agent) (c : Ctl) (s h : Nat) (d : Dev) : Dev :=
  let hostCore := (a == Agent.host) && !halfOut h
  if !owns a c s || !halfLegal c h || hostCore then raise c.discarded d
  else
    let r := c.cfgReg (s / 2)
    levelPend c s (rput r (wordPut (rget r d) (16 * (s % 2)) 16 h) d)

/-- A write of configuration register m (R430, R438). -/
def writeConfig (a : Agent) (c : Ctl) (m v : Nat) (d : Dev) : Dev :=
  settle c [2 * m, 2 * m + 1]
    (fun d => d |> writeHalf a c (2 * m) (v % 65536) |> writeHalf a c (2 * m + 1) (v / 65536 % 65536)) d

/-- A write of an EOI register (R429, R434). Only core k may write HIC_CORE_EOI(k), only the spoke core SIC_EOI. -/
def writeEoi (a : Agent) (c : Ctl) (core : Nat) (nothing_ : Bool) (d : Dev) : Dev :=
  let ok := match a, c with
    | .hubFw k, .hub => k == core
    | .spokeFw, .spoke _ => true
    | _, _ => false
  if !ok then raise c.discarded d
  else
    match kget (getIrq c d).coreStacks core [] with
    | [] => raise c.underflow d
    | _ :: rest =>
      d |> updIrq c (fun i => { i with coreStacks := kput i.coreStacks core rest [] })
        |> whenD nothing_ (countF (c.spurious core)) |> noteEligible c

/-- A write of a nudge register (R429, R435): RAISE or LOWER, both or neither change nothing. -/
def writeNudge (a : Agent) (c : Ctl) (core idx : Nat) (up down : Bool) (d : Dev) : Dev :=
  let ok := match a, c with
    | .hubFw _, _ => true
    | .spokeFw, .spoke _ => true
    | _, _ => false
  let s := match c with
    | .hub => 32 * core + 16 + idx % 16
    | .spoke _ => 16 + idx % 16
  if !ok then raise c.discarded d
  else if up = down then d
  else settle c [s] (if up then raisePend c s else setSrcBit c.pendReg s false) d

/-- Firmware changes what a core does (R40, R439). -/
def coreActs (c : Ctl) (core : Nat) (act : CoreAct) (d : Dev) : Dev :=
  match act with
  | .none => d
  | .wait => wakeCore c core (setCore c core .waiting d)
  | .gate => wakeCore c core (setCore c core .gated d)
  | .power => setCore c core .running d

/-- A core that runs takes an interrupt (R433, R439), after what firmware did to it (log entry 83). -/
def takeInterrupt (c : Ctl) (core : Nat) (act : CoreAct) (d : Dev) : Dev :=
  let d := coreActs c core act d
  let lvl := takenLevel c core d
  if coreRun c core d != .running || decide (lvl ≤ runPrio c core d) then d
  else noteEligible c (updIrq c (fun i => { i with coreStacks := kput i.coreStacks core (lvl :: kget i.coreStacks core []) [] }) d)

end Sys2Proof.Machine
end

