-- ==== Sys2Proof/Machine/Drive.lean ====
section
/-! DEFINITION. Channel drive and cassette scheduling: entries and their delivery (R224 to R228), the boost-switch queue
(R239 to R245), events (R253) and faults (R236, R237, R547). The operations the commands of these chapters share. -/
namespace Sys2Proof.Machine

/-! ### Templates and owners -/

def cassetteOf (n : Nat) : Nat := n / 8
/-- The global number of a channel (00_scope, hierarchy). -/
def globalCh (k n : Nat) : Nat := (k - 1) * 64 + n
def globalCas (k c : Nat) : Nat := (k - 1) * 8 + c

def tplOf (k n : Nat) (d : Dev) : Nat := getF (F.DRV_CH_CFG.TEMPLATE k n) d
def isProp (k n : Nat) (d : Dev) : Bool := isSet (F.DRV_TPL_CTL.MODE k (tplOf k n d)) d
/-- A current value of the template as it applies to the channel: a bonded pair's is doubled (R235). -/
def pairFold (k n : Nat) (d : Dev) : Nat := if isSet (F.DRV_CH_CFG.BOND k n) d then 2 else 1
/-- FS_I of the channel, or pair, in mA (R233, R235). -/
def fullScale (k n : Nat) (d : Dev) : Nat := 10 * getF (F.DRV_TPL_PROP.FS_I k (tplOf k n d)) d * pairFold k n d
/-- The even channel of a bonded pair for its odd one, else the channel itself (R235). -/
def leadOf (k n : Nat) (d : Dev) : Nat := if isSet (F.DRV_CH_CFG.BOND_ODD k n) d then n - 1 else n
/-- The channels that act as one (R235). -/
def pairOf (k n : Nat) (d : Dev) : List Nat :=
  if isSet (F.DRV_CH_CFG.BOND_ODD k n) d then [n - 1, n]
  else if isSet (F.DRV_CH_CFG.BOND k n) d then [n, n + 1] else [n]

def peakT (k n : Nat) (d : Dev) : Nat := us (getF (F.DRV_TPL_PEAK.PEAK_T k (tplOf k n d)) d)
def boostTmax (k n : Nat) (d : Dev) : Nat := us (getF (F.DRV_TPL_PEAK.BOOST_TMAX k (tplOf k n d)) d)
def minOn (k n : Nat) (d : Dev) : Nat := us (getF (F.DRV_TPL_PULSE.MIN_ON k (tplOf k n d)) d)
def minOff (k n : Nat) (d : Dev) : Nat := us (getF (F.DRV_TPL_PULSE.MIN_OFF k (tplOf k n d)) d)
def detOn (k n : Nat) (d : Dev) : Bool := isSet (F.DRV_DET_CFG.DET_EN k (tplOf k n d)) d && !isProp k n d
def offWin (k n : Nat) (d : Dev) : Nat := 25000 * getF (F.DRV_DET_WIN.OFF_WIN k (tplOf k n d)) d
def slipLimit (k : Nat) (d : Dev) : Nat := us (getF (F.DRV_SCHED_CFG.SLIP_LIMIT k) d)

/-- T_RISE of R245 in µs. -/
def tRise (e : Nat) : Nat := (e + 8) / 16

/-! ### The pulse grid (R199, R227) -/

def gridP (freq : Nat) : Nat := 250000000 / freq
def gridOff (freq slot : Nat) : Nat := gridP freq * slot / 8
/-- The latest grid instant not after t, if there is one. -/
def gridLe (freq slot t : Nat) : Option Nat :=
  let p := gridP freq
  let o := gridOff freq slot
  if t < o then none else some (t - (t - o) % p)
/-- The first grid instant not before t. -/
def gridGe (freq slot t : Nat) : Nat :=
  let p := gridP freq
  let o := gridOff freq slot
  if t ≤ o then o else o + (t - o + p - 1) / p * p
/-- The duty in force for a window that begins at g (R225, R227). -/
def dutyAt (e : Entry) (g : Nat) : Nat :=
  e.duties.foldl (fun v c => if c.1 ≤ g then c.2 else v) e.duty
/-- W of R227. -/
def windowW (e : Entry) (g : Nat) : Nat := gridP e.freq * dutyAt e g / 65535

/-! ### FEED events (R23, R253) -/

/-- The spoke reports an event of a channel, for the opening given. A loop-owned channel sends none (R234). -/
def feedEvent (k n : Nat) (ev : FeedEvent) (at_ delay : Nat) (o : Opening) (d : Dev) : Dev :=
  if getF (F.DRV_CH_CFG.OWNER k n) d = 2 then d else
  let (slipUs, d) := toUs (o.peak - o.sched) d
  let f : FeedP := { evtPt := at_ % 2 ^ 32, delay := delay, event := ev, chan := n, late := o.late,
                     slip := o.slow, slipUs := min slipUs 0xFFFF }
  let d := match ev with
    | .opened => setF (F.DRV_CH_TIMING.LAST_ON k n) delay d
    | .closed => setF (F.DRV_CH_TIMING.LAST_OFF k n) delay d
    | _ => d
  linkSend k .spoke (.feed f) d

/-- An opening placed at PT t, for events that carry no slip. -/
def nullOpening (t : Nat) : Opening := { sched := t, peak := t }

/-- The health unit's VALVE event of a channel's outlet and the record that names it (R255, R256). `outlet` is the outlet of the
channel, found in the active table. -/
def valveFault (k n code sev outlet : Nat) (d : Dev) : Dev :=
  let d := logEvent code sev ⟨k, 10, n⟩ outlet 0 0 d
  let d : Dev := { d with health := { d.health with flags := kupd d.health.flags outlet 0 (putBit · (if code = 0x0401 then 1 else 0) true) } }
  let (d, lasting) := healthEvent 9 outlet false d
  whenD lasting (eachD (pairOf k n d) (fun m => raise (F.DRV_CH_STATUS.DISABLED k m))) d

/-- With DET_EN 0 the counts of a channel are held at 0 (R258). -/
def heldTravel (k n : Nat) (d : Dev) : Dev :=
  if isSet (F.DRV_DET_CFG.DET_EN k (tplOf k n d)) d then d
  else d |> lower (F.DRV_CH_TRAVEL.MISS_ON k n) |> lower (F.DRV_CH_TRAVEL.NO_MOTION k n)

/-- An opening ended without detected travel (R253 to R256): counts, flags and the event at time `at_`. `whole` says that PEAK_T
ended, so the opening counts under R254; with DET_EN 0 the counts are held at 0 (R258). -/
def noTravelEvent (k n : Nat) (whole : Bool) (outlet : Nat) (o : Opening) (d : Dev) : Dev :=
  let c := getChan k n d
  let nt := getF (F.DRV_SCHED_CFG.NT_COUNT k) d
  let d :=
    if whole && detOn k n d then
      let miss := satAdd 15 (getF (F.DRV_CH_TRAVEL.MISS_ON k n) d) 1
      let motion := getF (F.DRV_CH_TRAVEL.NO_MOTION k n) d
      let motion := if c.noKink then satAdd 15 motion 1 else motion
      let d := d |> setF (F.DRV_CH_TRAVEL.MISS_ON k n) miss |> setF (F.DRV_CH_TRAVEL.NO_MOTION k n) motion
      let newStuck := decide (nt ≤ motion) && !isSet (F.DRV_CH_TRAVEL.STUCK k n) d
      let d := if newStuck then
          d |> raise (F.DRV_CH_TRAVEL.STUCK k n) |> raise (F.DRV_CH_TRAVEL.STUCK_SEEN k n)
            |> valveFault k n 0x0401 5 outlet
        else d
      let newNt := decide (nt ≤ miss) && !isSet (F.DRV_CH_TRAVEL.STUCK k n) d && !isSet (F.DRV_CH_TRAVEL.NO_TRAVEL k n) d
      if newNt then
        d |> raise (F.DRV_CH_TRAVEL.NO_TRAVEL k n) |> raise (F.DRV_CH_TRAVEL.NO_TRAVEL_SEEN k n)
          |> valveFault k n 0x0402 3 outlet
      else d
    else if detOn k n d then d
    else d |> lower (F.DRV_CH_TRAVEL.MISS_ON k n) |> lower (F.DRV_CH_TRAVEL.NO_MOTION k n)
  let ev := if isSet (F.DRV_CH_TRAVEL.STUCK k n) d then FeedEvent.endedNoTravel else .opened
  d |> updChan k n (fun c => { c with opening := c.opening.map fun o => { o with reported := true } })
    |> feedEvent k n ev o.peak 0xFFFF o

/-! ### The boost switch (R239 to R244) -/

/-- A rise belongs ahead of another (R240). -/
def riseAhead (a b : Rise) : Bool := decide (a.key < b.key) || (a.key == b.key && decide (a.chan < b.chan))

def insertRise (r : Rise) (q : List Rise) : List Rise :=
  q.takeWhile (fun x => riseAhead x r) ++ r :: q.dropWhile (fun x => riseAhead x r)

/-- The rise of channel n leaves the queue (R244). -/
def leaveQueue (k n : Nat) (d : Dev) : Dev :=
  updCas k (cassetteOf n) (fun c => { c with queue := c.queue.filter fun r => r.chan != n }) d

/-- The predicted wait W_p of a rise, in ticks (R241). -/
def predictedWait (k : Nat) (r : Rise) (d : Dev) : Nat :=
  let c := getCas k (cassetteOf r.chan) d
  let w := fun n => us (tRise (getChan k n d).er)
  let busy := match c.serving with
    | none => 0
    | some (n, t) => w n - (spokePt k d - t)
  (c.queue.filter fun x => riseAhead x r).foldl (fun s x => s + w x.chan) busy

/-- The rail is too low for a boost rise, or the converter is disabled by a lasting failure (R229, R236). -/
def railLow (k : Nat) (d : Dev) : Bool :=
  decide ((getSpoke k d).boost.rail < 2 * getF (F.DRV_BOOST_CFG.MIN k) d) || isSet (F.DRV_BOOST_STATUS.LASTING k) d ||
    !isSet (F.DRV_BOOST_CFG.EN k) d

/-- A closing still watched ends without a kink when a new peak starts (R252, R253). -/
def cutClosing (k n : Nat) (d : Dev) : Dev :=
  match (getChan k n d).closing with
  | none => d
  | some cl =>
    d |> updChan k n (fun c => { c with closing := none, noKink := if cl.ended && detOn k n d then true else c.noKink })
      |> whenD cl.offEvent (feedEvent k n .closed cl.start 0xFFFF (nullOpening cl.start))

/-- An opening of the running entry begins it and takes its late mark; a later window counts its SLIP_US from its grid instant (R22, R239, R243). -/
def takeOpening (e : Entry) : Entry := { e with late := false, fromStart := false, begun := true }

/-- The next opening of the running entry counts its SLIP_US from START (R237). -/
def countFromStart (k n : Nat) (d : Dev) : Dev :=
  updChan k n (fun c => { c with running := c.running.map fun e => { e with fromStart := true } }) d

/-- An opening ends the off interval of the off-state diagnosis, for both channels of a pair (R236). -/
def newOffInterval (k n : Nat) (d : Dev) : Dev := eachD (pairOf k n d) (fun m => updChan k m (fun c => { c with offDiag := false })) d

/-- The cassette output goes to the boost rail, or back to VBAT (R216). -/
def feedRail (rail : Bool) (t : Nat) (c : Cassette) : Cassette := if c.onRail = rail then c else { c with onRail := rail, feedAt := t }

/-- The peak of an opening starts (R243): the low side closes, as a boost rise or a slow peak. -/
def startPeak (k n : Nat) (slow : Bool) (due sched : Nat) (late : Bool) (d : Dev) : Dev :=
  let t := spokePt k d
  let c := cassetteOf n
  let d := cutClosing k n d
  let d := newOffInterval k n d
  let d := updChan k n (fun ch => { ch with
    phase := .rise, lowClosed := true, closedAt := some t, diagOpen := false, waitRec := false, slopes := {}
    running := ch.running.map takeOpening
    opening := some { sched := sched, peak := t, slow := slow, late := late } }) d
  let (w, d) := toUs (t - due) d
  let d := setF (F.DRV_CAS_SCHED.MAX_SLIP k c) (max (getF (F.DRV_CAS_SCHED.MAX_SLIP k c) d) (min w 2047)) d
  if slow then
    d |> countF (F.DRV_CAS_PEAKS.SLOW_PEAKS k c) |> countF (F.DRV_CH_TRAVEL.SLOW_PEAKS k n)
  else
    d |> updCas k c (fun cs => feedRail true t { cs with serving := some (n, t) }) |> countF (F.DRV_CAS_PEAKS.BOOST_RISES k c)

/-- The END of the entry that channel n runs is reached (R227, R244). -/
def entryOver (k n : Nat) (d : Dev) : Bool :=
  match (getChan k n d).running with
  | some e => decide (e.finish ≤ spokePt k d)
  | none => false

/-- The boost switch falls free and passes to the queue, while rises of a low rail go slow (R229, R240); a rise whose entry's END is
reached leaves without starting (R244). -/
def serveQueue (k c : Nat) : Nat → Dev → Dev
  | 0, d => d
  | m + 1, d =>
    let cs := getCas k c d
    match cs.serving, cs.queue with
    | none, r :: rest =>
      let d := updCas k c (fun cs => { cs with queue := rest }) d
      if entryOver k r.chan d then serveQueue k c m d
      else if railLow k d then serveQueue k c m (startPeak k r.chan true r.key r.sched r.late d)
      else startPeak k r.chan false r.key r.sched r.late d
    | _, _ => d

/-- The rise of channel n no longer needs the boost switch. -/
def releaseSwitch (k n : Nat) (d : Dev) : Dev :=
  let c := cassetteOf n
  match (getCas k c d).serving with
  | some (m, _) =>
    if m = n then
      d |> updCas k c (fun cs => { cs with serving := none }) |> serveQueue k c 9
        |> updCas k c (fun cs => if cs.serving.isNone then feedRail false (spokePt k d) cs else cs)
    else d
  | none => d

/-- Regulation of a proportional channel starts, with its dither at phase 0 (R233). -/
def startRegulation (k n sched : Nat) (late : Bool) (d : Dev) : Dev :=
  let t := spokePt k d
  updChan k n (fun c => { c with
    phase := .regulation, regAt := t, lowClosed := true, closedAt := some t, waitRec := false, setPt := 0, setAt := t, onTime := 0
    running := c.running.map takeOpening
    opening := some { sched := sched, peak := t, late := late } }) (newOffInterval k n d)

/-- The channel conducts. -/
def conducts (c : Chan) : Bool := c.phase != .idle && c.phase != .off

/-- The spoke is out of supply: its VBAT below UV or above OV (R515). -/
def outOfSupply (k : Nat) (d : Dev) : Bool := isSet (F.SPK_SUPPLY.UV k) d || isSet (F.SPK_SUPPLY.OV k) d

/-- Every switch of the spoke is held open: after a link loss until RESUME (R26), without VIO or VCORE_S (R514), out of supply. -/
def heldOpen (k : Nat) (d : Dev) : Bool := (getLink k d).spokeOff || d.pwr.lowSpokes.contains k || outOfSupply k d

/-- Both switches of a cassette are held open by a fault, RETRY or the supply (R236, R237, R515). -/
def heldOff (k c : Nat) (d : Dev) : Bool :=
  (getCas k c d).retryEnd.isSome || isSet (F.DRV_CAS_STATUS.DISABLED k c) d || outOfSupply k d

/-- A switch of the channel, or of its pair, has not cooled (R237). -/
def isHot (k n : Nat) (d : Dev) : Bool := (pairOf k n d).any fun m => (getChan k m d).hot

/-- Whether the channel may conduct: drive enabled, not disabled, no RETRY, cassette not held off (R219, R237, R238). -/
def mayOpen (k n : Nat) (d : Dev) : Bool :=
  let c := getChan k n d
  !heldOpen k d &&
  isSet (F.DRV_STATUS.DRIVE_EN k) d && !isSet (F.DRV_CH_STATUS.DISABLED k n) d && c.retryEnd.isNone && !isHot k n d &&
    !isSet (F.DRV_CAS_STATUS.DISABLED k (cassetteOf n)) d && (getCas k (cassetteOf n) d).retryEnd.isNone

/-- An opening that the supply prevents is reported (R515); any other that cannot start gives no event. -/
def prevented (k n : Nat) (d : Dev) : Dev :=
  let t := spokePt k d
  if outOfSupply k d && isSet (F.DRV_STATUS.DRIVE_EN k) d then
    d |> countFromStart k n |> feedEvent k n .disabledByFault t 0xFFFF (nullOpening t)
  else d

/-- The rise of channel n becomes due with the key given (R239, R241): a slow peak at once, the switch at once, or the queue. -/
def riseDue (k n key sched : Nat) (late : Bool) (d : Dev) : Dev :=
  if !mayOpen k n d then prevented k n d
  else if isProp k n d then startRegulation k n sched late d
  else
    let c := cassetteOf n
    let r : Rise := { key := key, chan := n, sched := sched, late := late }
    let cs := getCas k c d
    if railLow k d || decide (slipLimit k d < predictedWait k r d) then startPeak k n true key sched late d
    else if cs.serving.isNone && cs.queue.isEmpty then startPeak k n false key sched late d
    else updCas k c (fun cs => { cs with queue := insertRise r cs.queue }) d

/-! ### Intervals and the off phase (R227, R228) -/

/-- The end of an interval on that begins at s with a width of w, stretched to MIN_ON, and whether it was stretched (R227). -/
def stretched (k n s w : Nat) (d : Dev) : Nat × Bool := (s + max w (minOn k n d), decide (w < minOn k n d))

/-- The interval on that START gives a pulsed entry: to the end of the window it falls in, else for W (R227). -/
def startInterval (k n : Nat) (e : Entry) (d : Dev) : Option (Nat × Bool) :=
  let w := windowW e e.start
  let width := match gridLe e.freq e.slot e.start with
    | some g => if e.start < g + w then g + w - e.start else w
    | none => w
  if w = 0 then none else some (e.start + max width (minOn k n d), decide (w < minOn k n d))

/-- The interval on of the last window inside a pulsed entry that began by t (R227). -/
def windowInterval (k n : Nat) (e : Entry) (t : Nat) (d : Dev) : Option (Nat × Bool) :=
  match gridLe e.freq e.slot t with
  | none => none
  | some g => if g < e.start || windowW e g = 0 then none else some (stretched k n g (windowW e g) d)

/-- The end of the interval on of an entry that runs at t0, not before its START, and whether it was stretched; none between intervals
and for DUTY 0. -/
def firstInterval (k n : Nat) (e : Entry) (t0 : Nat) (d : Dev) : Option (Nat × Bool) :=
  if e.freq = 0 || isProp k n d then some (e.finish, false)
  else
    ([startInterval k n e d, windowInterval k n e t0 d].filterMap id).foldl (fun best x =>
      if x.1 ≤ t0 then best
      else match best with
        | some y => if y.1 < x.1 then some x else some y
        | none => some x) none

/-- A boost rise that the off phase cuts, or PEAK_T, leaves its duration in LAST_RISE and gives no sample (R245). -/
def cutRise (k n : Nat) (d : Dev) : Dev :=
  let c := getChan k n d
  match c.phase, c.opening with
  | .rise, some o =>
    if o.slow then d
    else
      let (r, d) := toUs (spokePt k d - o.peak) d
      setF (F.DRV_CH_RISE.LAST_RISE k n) (min r 8191) d
  | _, _ => d

/-- An off phase that begins now uses slow decay: by its template, or because the rail is above LIMIT, which the second value says (R220,
R228); `force` opens the freewheel switches (R26, R73, R217). -/
def slowDecay (k n : Nat) (force : Bool) (d : Dev) : Bool × Bool :=
  let above := decide (2 * getF (F.DRV_BOOST_CFG.LIMIT k) d < (getSpoke k d).boost.rail) && !force
  ((isSet (F.DRV_TPL_CTL.OFF_SLOW k (tplOf k n d)) d && !force) || above, above)

/-- A channel that conducts for a loop, without an opening, enters its off phase (R228, R234). -/
def regulationOff (k n : Nat) (force : Bool) (d : Dev) : Dev :=
  let (slow, above) := slowDecay k n force d
  d |> updChan k n (fun c => { c with
        phase := .off, opening := none, onEnd := none, lowClosed := false, closing := none, running := none, loopSet := 0, lastSlow := slow })
    |> whenD above (raise (F.DRV_CH_STATUS.SLOW_OFF k n))

/-- A force-off opens the freewheel switch of an off phase too (R217). -/
def forceFast (force : Bool) (c : Chan) : Chan :=
  if force && c.phase == .off then { c with lastSlow := false, closing := c.closing.map fun x => { x with slow := false } } else c

/-- The channel enters its off phase (R220, R228). `fault` says that a fault ended the opening (R547); `force` that the
freewheel switches open too, so the decay is fast whatever the template and the rail (R26, R73, R217). -/
def beginOffWith (k n : Nat) (fault force : Bool) (outlet : Nat) (d : Dev) : Dev :=
  let c := getChan k n d
  let t := spokePt k d
  match c.opening with
  | none =>
    if conducts c then regulationOff k n force d
    else leaveQueue k n (updChan k n (fun c => forceFast force { c with onEnd := none }) d)
  | some o =>
    let (slow, above) := slowDecay k n force d
    let prop := isProp k n d
    let d := cutRise k n d
    let d :=
      if fault then feedEvent k n .disabledByFault t 0xFFFF o d
      else if o.reported then d
      else if prop then feedEvent k n .opened t 0xFFFF o d
      else noTravelEvent k n false outlet o d
    let ended := match c.running with
      | some e => decide (e.finish ≤ t)
      | none => true
    let d := updChan k n (fun c => { c with
      phase := .off, opening := none, onEnd := none, lowClosed := false, lastSlow := slow
      closing := if fault then none
        else if prop then some { start := t, slow := slow, ended := ended, offEvent := false }
        else some { start := t, slow := slow, ended := ended } }) d
    d |> whenD above (raise (F.DRV_CH_STATUS.SLOW_OFF k n)) |> releaseSwitch k n

/-- The off phase of an opening that no fault ended and no force-off. -/
def beginOff (k n : Nat) (fault : Bool) (outlet : Nat) (d : Dev) : Dev := beginOffWith k n fault false outlet d

/-- Begin the interval on of the running entry at the present PT (R226, R227); where the channel may not open, the entry runs all the same
(R237). A proportional entry with DUTY 0 asks for no opening (R234). -/
def beginEntry (k n : Nat) (e : Entry) (d : Dev) : Dev :=
  let t := spokePt k d
  let e := { e with begun := e.begun || !mayOpen k n d }
  match firstInterval k n e t d with
  | none => updChan k n (fun c => { c with running := some { e with lastG := some t, fromStart := false } }) d
  | some (stop, short) =>
    if isProp k n d && dutyAt e t = 0 then updChan k n (fun c => { c with running := some e }) d
    else if !mayOpen k n d then prevented k n (updChan k n (fun c => { c with running := some { e with lastG := some t } }) d)
    else
      d |> updChan k n (fun c => { c with running := some { e with lastG := some t }, onEnd := some stop })
        |> whenD short (raise (F.DRV_CH_STATUS.STRETCHED k n))
        |> riseDue k n t e.start e.late

/-- The running entry ends at the present PT: the off phase begins, a queued rise leaves (R227, R244). -/
def endEntryWith (k n : Nat) (force : Bool) (outlet : Nat) (d : Dev) : Dev :=
  let t := spokePt k d
  let d := updChan k n (fun c => { c with running := c.running.map fun e => { e with finish := min e.finish t, ended := true } }) d
  let d := beginOffWith k n false force outlet (leaveQueue k n d)
  updChan k n (fun c => if c.phase = .idle then { c with running := none } else c) d

def endEntry (k n outlet : Nat) (d : Dev) : Dev := endEntryWith k n false outlet d

/-- A proportional channel whose running entry stood at DUTY 0 starts its regulation once a merged duty that is not 0 is in force
(R225, R227, R234; DEDUCED, log entry 101). -/
def wakeProp (k n : Nat) (d : Dev) : Dev :=
  let c := getChan k n d
  let t := spokePt k d
  match c.running with
  | none => d
  | some e =>
    if isProp k n d && mayOpen k n d && c.phase == .idle && c.opening.isNone && !c.waitRec && !e.ended && decide (t < e.finish) &&
        dutyAt e t != 0 then
      let from_ := match (e.duties.filter fun x => decide (x.1 ≤ t)).getLast? with | some x => x.1 | none => e.start
      d |> updChan k n (fun c => { c with onEnd := some e.finish }) |> riseDue k n t from_ false
    else d

/-- The pending entry of a channel starts (R226). One whose END has come too starts nothing: no interval on starts after END (R227). -/
def startPending (k n outlet : Nat) (d : Dev) : Dev :=
  let c := getChan k n d
  match c.pending with
  | none => wakeProp k n d
  | some e =>
    if spokePt k d < e.start then d
    else
      let d := if c.running.isSome then endEntry k n outlet d else d
      let d := updChan k n (fun c => { c with pending := none, running := none }) d
      if e.finish ≤ max e.start (spokePt k d) then d
      else if (getChan k n d).phase = .off then
        updChan k n (fun c => { c with running := some { e with begun := c.retryEnd.isSome || isHot k n d }, waitRec := true }) d
      else beginEntry k n e d

/-! ### Arrival of entries (R219, R225) -/

/-- Merge a new entry into the running one (row 1 of R225). -/
def mergeEntry (e new : Entry) : Entry :=
  { e with finish := new.finish, ended := false,
           duties := (e.duties.filter fun c => decide (c.1 < new.start)) ++ [(new.start, new.duty)] }

/-- A schedule entry arrives at a spoke: discarded, merged or made pending (R21, R22, R219, R224, R225); an entry without a start of
current yet, one that waits in the queue among them, is not running and is replaced (R224, R244). `shadow` is true on a
tandem stoker, which accepts entries with its drive disabled (R489). -/
def arriveEntry (k : Nat) (p : SchedP) (shadow : Bool) (outlet : Nat) (d : Dev) : Dev :=
  let n := p.chan
  let t := spokePt k d
  let start := extendPt t p.start
  let finish := max start (extendPt t p.finish)
  let e : Entry := { start := start, finish := finish, duty := p.duty, freq := p.freq, slot := p.slot, late := decide (start < t) }
  if (!isSet (F.DRV_STATUS.DRIVE_EN k) d && !shadow) || getF (F.DRV_CH_CFG.OWNER k n) d != 1 ||
      isSet (F.DRV_CH_CFG.BOND_ODD k n) d then
    countF (F.DRV_STATUS.DISCARDED k) d
  else if isSet (F.DRV_CH_STATUS.DISABLED k n) d then d
  else
    let c := getChan k n d
    let gap := us (getF (F.DRV_CFG.MERGE_GAP k) d)
    let merges := match c.running with
      | some r => decide (t < r.finish) && decide (start ≤ r.finish + gap) && r.freq == p.freq && r.slot == p.slot && r.begun && !r.ended
      | none => false
    if merges then
      let d := updChan k n (fun c => { c with running := c.running.map (mergeEntry · e), pending := none
                                              onEnd := if p.freq = 0 || isProp k n d then c.onEnd.map (fun _ => finish) else c.onEnd }) d
      if finish ≤ t then endEntry k n outlet d else wakeProp k n d
    else
      let d := whenD ((getChan k n d).running.any (!·.begun)) (leaveQueue k n) d
      let d := updChan k n (fun c =>
        let c := { c with pending := some e }
        if c.running.any (!·.begun) then { c with running := none, onEnd := none, waitRec := false } else c) d
      if start < t then startPending k n outlet (countF (F.DRV_STATUS.LATE k) d)
      else d

/-! ### Faults (R236, R237, R238, R547) -/

/-- RETRY starts for a channel (R237). -/
def startRetry (k n : Nat) (d : Dev) : Dev :=
  let t := spokePt k d + ms (getF (F.DRV_CFG.RETRY k) d)
  updChan k n (fun c => { c with retryEnd := some t }) (countFromStart k n d)

/-- A fault ends the opening of a channel, or pair, and RETRY starts (R235, R237, R547). -/
def faultOff (k n outlet : Nat) (d : Dev) : Dev :=
  let l := leadOf k n d
  d |> leaveQueue k l |> beginOff k l true outlet |> startRetry k l

/-- A lasting fault disables a channel or pair (R238); `byCas` says that it is only because its cassette is held off. -/
def disableChan (k n : Nat) (byCas : Bool) (d : Dev) : Dev :=
  eachD (pairOf k n d) (fun m d =>
    d |> leaveQueue k m |> raise (F.DRV_CH_STATUS.DISABLED k m)
      |> updChan k m (fun c => { c with pending := none, running := none, waitRec := false
                                        byCas := byCas && (c.byCas || !isSet (F.DRV_CH_STATUS.DISABLED k m) d) })) d

/-- Count a channel fault of a class; a lasting one disables the channel. -/
def channelFault (k n cls : Nat) (d : Dev) : Dev :=
  let (d, lasting) := healthEvent cls (globalCh k n) false d
  whenD lasting (disableChan k n false) d

/-- The channels of a cassette. -/
def casChans (c : Nat) : List Nat := (List.range 8).map (8 * c + ·)

/-- A fault opens both switches of a cassette: every opening ends and RETRY runs for each channel (R236, R237). -/
def cassetteOff (k c : Nat) (outletOf : Nat → Nat) (d : Dev) : Dev :=
  let t := spokePt k d + ms (getF (F.DRV_CFG.RETRY k) d)
  let d := updCas k c (fun cs => feedRail false (spokePt k d) { cs with queue := [], serving := none, retryEnd := some t }) d
  eachD (casChans c) (fun n d => d |> beginOff k n true (outletOf n) |> startRetry k n) d

/-- Hold a cassette off for a lasting fault (R236). -/
def holdCassette (k c : Nat) (disable : Bool) (d : Dev) : Dev :=
  d |> raise (F.DRV_CAS_STATUS.DISABLED k c)
    |> whenD disable (eachD (casChans c) (fun n => disableChan k n true))

/-- The channel is in an opening, or its rise waits in the queue (R239). -/
def engaged (k n : Nat) (d : Dev) : Bool :=
  (getChan k n d).opening.isSome || (getCas k (cassetteOf n) d).queue.any fun r => r.chan == n

/-- RETRY of a channel ends (R237): a running entry starts a new opening, or waits for its next window. -/
def resumeChan (k n : Nat) (d : Dev) : Dev :=
  let d := updChan k n (fun c => { c with retryEnd := none }) d
  let c := getChan k n d
  match c.running with
  | none => d
  | some e =>
    let t := spokePt k d
    if engaged k n d || c.waitRec || isHot k n d || e.ended || e.finish ≤ t then d
    else if e.freq = 0 || isProp k n d then
      if isProp k n d && dutyAt e t = 0 then d
      else d |> updChan k n (fun c => { c with onEnd := some e.finish }) |> riseDue k n t e.start e.late
    else d

/-! ### Turning everything off (R26, R73, R75, R76, R168) -/

/-- Every running entry of a channel ends and its pending entry is discarded; the off phase begins (R74, R168, R219). -/
def stopChan (k n : Nat) (force : Bool) (outlet : Nat) (d : Dev) : Dev :=
  let d := updChan k n (fun c => { c with pending := none, waitRec := false }) d
  endEntryWith k n force outlet d

/-- Every queued rise of a spoke leaves its queue, without an event (R244). -/
def clearQueues (k : Nat) (d : Dev) : Dev := eachD (List.range 8) (fun c => updCas k c (fun cs => { cs with queue := [] })) d

/-- Every channel of a spoke goes to its off phase; the queued rises leave first. -/
def stopSpoke (k : Nat) (force : Bool) (outletOf : Nat → Nat) (d : Dev) : Dev :=
  d |> clearQueues k
    |> eachD (List.range 64) (fun n d => if (getChan k n d) = {} then d else stopChan k n force (outletOf n) d)

/-- The drive of a spoke is disabled: every low-side and freewheel switch is open, so what current still flows decays fast (R219, R487). -/
def disableDrive (k : Nat) (d : Dev) : Dev :=
  d |> eachD ((getSpoke k d).chans.map (·.1)) (fun n => updChan k n (forceFast true)) |> lower (F.DRV_STATUS.DRIVE_EN k)

/-- Mean of E_r at a new owner or template (R245): a quarter of BOOST_TMAX. -/
def resetRise (k n : Nat) (d : Dev) : Dev :=
  let q := getF (F.DRV_TPL_PEAK.BOOST_TMAX k (tplOf k n d)) d / 4
  updChan k n (fun c => { c with er := 16 * q }) d

end Sys2Proof.Machine
end

