-- ==== Sys2Proof/Machine/Path.lean ====
section
/-! DEFINITION. The switches of a cassette and its channels and the path each load current flows in (R215 to R217), computed from the
state. -/
namespace Sys2Proof.Machine

/-- The low side of a channel, or pair, is closed, never with the drive disabled (R487); in regulation until the on-time of the chopping period ends (R220, R222, R232, R235). -/
def lowSide (k n : Nat) (d : Dev) : Bool :=
  let c := getChan k (leadOf k n d) d
  let onTime := match c.closedAt with | some t => decide (spokePt k d < t + c.onTime) | none => false
  isSet (F.DRV_STATUS.DRIVE_EN k) d && conducts c && c.lowClosed && (c.phase != .regulation || onTime)

/-- The freewheel switch of a channel is closed: the low side open in dwell, hold or regulation, or an off phase in slow decay (R217); never
with the drive disabled (R487). -/
def freewheel (k n : Nat) (d : Dev) : Bool :=
  let c := getChan k (leadOf k n d) d
  isSet (F.DRV_STATUS.DRIVE_EN k) d && !lowSide k n d && (c.phase == .dwell || c.phase == .hold || c.phase == .regulation || (c.phase == .off && c.lastSlow))

/-- Both switches of a cassette are held open: by a fault, RETRY, the supply or a lost link (R26, R236, R237, R514, R515). -/
def casHeld (k c : Nat) (d : Dev) : Bool :=
  heldOpen k d || (getCas k c d).retryEnd.isSome || isSet (F.DRV_CAS_STATUS.DISABLED k c) d

/-- The boost switch of a cassette is closed: a channel is in a peak rise that it serves (R216). -/
def boostSwitch (k c : Nat) (d : Dev) : Bool := !casHeld k c d && (getCas k c d).serving.isSome

/-- A channel needs battery drive or slow decay (R215, R216, R221). -/
def needsBattery (k n : Nat) (d : Dev) : Bool :=
  let c := getChan k n d
  (c.phase == .rise && c.opening.any (·.slow)) || c.phase == .dwell || c.phase == .hold || c.phase == .regulation ||
    (c.phase == .off && c.lastSlow)

/-- The battery switch of a cassette is closed: some channel needs it and no peak rise is running (R216). -/
def batterySwitch (k c : Nat) (d : Dev) : Bool :=
  !casHeld k c d && (getCas k c d).serving.isNone && (casChans c).any fun n => needsBattery k n d

/-- The paths of R215; fast decay runs from VBAT while the battery switch is closed, else from the clamp diode. -/
inductive Path where
  | none | boost | battery | slowDecay | fastFromBattery | fastFromClamp
deriving DecidableEq, Repr

/-- The path of a channel's load current (R215). -/
def pathOf (k n : Nat) (d : Dev) : Path :=
  let c := cassetteOf n
  if lowSide k n d then (if boostSwitch k c d then .boost else if batterySwitch k c d then .battery else .none)
  else if freewheel k n d then .slowDecay
  else if (getChan k (leadOf k n d) d).phase == .off || conducts (getChan k (leadOf k n d) d) then
    (if batterySwitch k c d then .fastFromBattery else .fastFromClamp)
  else .none

end Sys2Proof.Machine
end

