-- ==== Sys2Proof/Machine/Ecc.lean ====
section
/-! DEFINITION. The ECC check of a protection crossing (R42 to R45): a buffer word that checks good or is corrected goes on
under its new protection, one beyond correction takes the failure action of its row. Log entry 99. -/
namespace Sys2Proof.Machine

/-- The record of a failed check (R45, R106, R107): the crossing-table row, the ring or 0, the SEQ or 0. -/
def crcFail (row i seq : Nat) (d : Dev) : Dev := logEvent 0x0203 4 ⟨0, 1, i⟩ row i (seq % 65536) d

/-- The block that receives a crossing, unit u of it on a die, which takes the failure action (R44, R452): spoke link, section bus, tandem
link, CAN controller, and the host interface with the ring for the other rows. -/
def crossingSrc (row u die ring : Nat) : LogSrc :=
  if row = 3 || row = 5 then ⟨die, 9, 0⟩
  else if row = 9 then ⟨0, 5, 0⟩
  else if row = 11 then ⟨0, 8, 0⟩
  else if row = 14 then ⟨0, 4, u⟩
  else ⟨0, 1, ring⟩

/-- The upset that the check of a row finds in the words of unit u. -/
def upsetAt (row u : Nat) (d : Dev) : Option Upset := d.ecc.find? fun x => x.row == row && x.unit == u

/-- The ECC check on the old side of a crossing (R42 to R44): a good word passes; a corrected one passes and is counted in class 18 of its
die; one beyond correction is discarded, and `failed` is the row's action. -/
def checkEcc (row u die : Nat) (passed failed : Dev → Dev) (d : Dev) : Dev :=
  match upsetAt row u d with
  | none => passed d
  | some x =>
    let d := { d with ecc := d.ecc.erase x }
    if x.fixable then passed (healthReport 18 die d) else failed d

/-- As `checkEcc`, for the rows whose action has a logbook record. -/
def crossEcc (row u die ring seq : Nat) (passed failed : Dev → Dev) (d : Dev) : Dev :=
  checkEcc row u die passed (fun d => failed (logEvent 0x0203 4 (crossingSrc row u die ring) row ring (seq % 65536) d)) d

end Sys2Proof.Machine
end

