-- ==== Sys2Proof/Machine/Rings.lean ====
section
/-! DEFINITION. The ring engine (03_host_rings.md): fetch, the checks of stage one, starting order, completions with the progress
block and moderation, ring errors. -/
namespace Sys2Proof.Machine

/-! ### Rings -/

def ringState (i : Nat) (d : Dev) : RingState :=
  match getF (F.HIF_RING_STATUS.STATE i) d with
  | 0 => .stopped
  | 1 => .running
  | 2 => .stopping
  | _ => .error

def setRingState (i : Nat) (s : RingState) (d : Dev) : Dev :=
  setF (F.HIF_RING_STATUS.STATE i) (match s with | .stopped => 0 | .running => 1 | .stopping => 2 | .error => 3) d

def getRing (i : Nat) (d : Dev) : Ring := kget d.host.rings i {}
def updHost (f : HostIf → HostIf) (d : Dev) : Dev := { d with host := f d.host }
def updRing (i : Nat) (f : Ring → Ring) (d : Dev) : Dev := updHost (fun h => { h with rings := kupd h.rings i {} f }) d

def ringClass (i : Nat) (d : Dev) : Nat := getF (F.HIF_RING_CFG.CLASS i) d
def ringInstance (i : Nat) (d : Dev) : Nat := getF (F.HIF_RING_CFG.INSTANCE i) d
def ringEntries (i : Nat) (d : Dev) : Nat := 2 ^ getF (F.HIF_RING_CFG.LOG2_ENTRIES i) d
def ringList : List Nat := List.range 32
def sqBase (i : Nat) (d : Dev) : Nat := (rget (R.HIF_SQ_BASE_LO i) d).toNat + 2 ^ 32 * (rget (R.HIF_SQ_BASE_HI i) d).toNat
def cqBase (i : Nat) (d : Dev) : Nat := (rget (R.HIF_CQ_BASE_LO i) d).toNat + 2 ^ 32 * (rget (R.HIF_CQ_BASE_HI i) d).toNat
def dbBase (d : Dev) : Nat := (rget R.HIF_DB_ADDR_LO d).toNat + 2 ^ 32 * (rget R.HIF_DB_ADDR_HI d).toNat
def progBase (d : Dev) : Nat := (rget R.HIF_PROG_ADDR_LO d).toNat + 2 ^ 32 * (rget R.HIF_PROG_ADDR_HI d).toNat

/-- A ring whose descriptors act: RUNNING or STOPPING. -/
def ringLive (i : Nat) (d : Dev) : Bool := ringState i d == .running || ringState i d == .stopping

/-- The class runs in restricted service (R93). -/
def classRestricted (c : Nat) : Bool := c == 10 || c == 11 || c == 12

/-- Instances of a class and the most rings of it (R93). -/
def classInstances (c : Nat) : Nat :=
  match c with
  | 3 | 4 | 8 | 9 => 4
  | _ => 1

/-! ### Errors (R134) -/

/-- Ring i enters ERROR. -/
def ringError (i cause seq : Nat) (d : Dev) : Dev :=
  if ringLive i d then
    d |> setRingState i .error
      |> setF (F.HIF_RING_STATUS.ERR_CAUSE i) cause
      |> setF (F.HIF_RING_STATUS.ERR_SEQ i) (seq % 65536)
      |> logEvent 0x0204 4 ⟨0, 1, i⟩ cause (seq % 65536) 0
  else d

/-- Put bytes into writes of at most n bytes each, at rising addresses. -/
def splitWrite (addr n : Nat) (bytes : List Byte) : List OutEvent :=
  (List.range ((bytes.length + n - 1) / n)).map fun i => .hostWrite (addr + n * i) ((bytes.drop (n * i)).take n)

/-- Write host memory, in requests of at most the payload size in force, 256 bytes at most (R86). -/
def writeHost (addr : Nat) (bytes : List Byte) (d : Dev) : Dev :=
  eachD (splitWrite addr (max 128 (min 256 d.pcie.mps)) bytes) emit d

/-- Write an entry of the progress block (R126), after its ECC check (R45). -/
def writeProgress (slot v : Nat) (d : Dev) : Dev :=
  crossEcc 18 (slot % 32) 0 (slot % 32) 0 (emit (.hostWrite (progBase d + 4 * slot) (leBytes 4 v))) (ringError (slot % 32) 5 0) d

/-- The ERR_CAUSE of a failed read of a descriptor, or of a buffer. -/
def readCause (buffer : Bool) (r : ReadResult) : Nat :=
  match r with
  | .poisoned => 3
  | _ => if buffer then 7 else 1

/-! ### Completions (R121 to R128) -/

/-- The 32 bytes of a completion (R121). -/
def completionBytes (x : InDesc) (phase : Bool) (status detail pt : Nat) (data : List Byte) : List Byte :=
  let head := leBytes 2 x.index ++ leBytes 1 status ++ leBytes 1 (if phase then 1 else 0) ++ leBytes 4 x.tag ++
    leBytes 4 data.length ++ leBytes 4 (if data = [] then 0 else crc32c data) ++ leBytes 8 pt ++ leBytes 4 detail
  head ++ leBytes 4 (crc32c head)

/-- The message of ring i is sent (R128). -/
def ringMessage (i : Nat) (d : Dev) : Dev :=
  d |> updRing i (fun r => { r with unsignalled := 0, oldest := none })
    |> msixSend (getF (F.HIF_RING_MOD.VECTOR i) d)

/-- A completion was written: moderation (R128). -/
def moderate (i : Nat) (at_once : Bool) (d : Dev) : Dev :=
  let d := updRing i (fun r => { r with
    unsignalled := r.unsignalled + 1
    oldest := if r.oldest.isSome then r.oldest else some d.pt
    modTime := getF (F.HIF_RING_MOD.TIME i) d }) d
  if !isSet (F.HIF_RING_MOD.MSIX_EN i) d then d
  else if at_once || decide (getF (F.HIF_RING_MOD.COUNT i) d ≤ (getRing i d).unsignalled) then ringMessage i d
  else d

/-- The descriptor in flight with an index. -/
def inFlight (i index : Nat) (d : Dev) : Option InDesc := (getRing i d).inflight.find? fun x => x.index == index

/-- The data of a descriptor and its completion are written (R121, R122). -/
def writeCompletion (i : Nat) (x : InDesc) (status detail : Nat) (data : List Byte) (d : Dev) : Dev :=
  let n := (getRing i d).cqTail
  let entries := ringEntries i d
  d |> updRing i (fun r => { r with inflight := r.inflight.filter fun y => y.index != x.index, cqTail := (n + 1) % 2 ^ 32 })
    |> writeHost x.addr data
    |> emit (.hostWrite (cqBase i d + 32 * (n % entries)) (completionBytes x (n / entries % 2 == 0) status detail d.pt data))

/-- The completion of a finished descriptor is written: its data, its completion, the progress entry and the message (R121, R122, R127). A
completion or data buffer whose ECC check fails is withheld, and the ring enters ERROR with cause COMPLETION_ECC (R45, R134). -/
def putCompletion (i : Nat) (x : InDesc) (status detail : Nat) (data : List Byte) (d : Dev) : Dev :=
  if ringLive i d then
    let n := (getRing i d).cqTail
    d |> crossEcc 8 i 0 i x.index (writeCompletion i x status detail data) (ringError i 5 x.index)
      |> fun d =>
        if ringLive i d then
          let d := writeProgress (32 + i) ((n + 1) % 2 ^ 32) d
          whenD (ringLive i d) (moderate i (status != stOk || x.irq)) d
        else d
  else d

/-- Finish the descriptor in flight with an index, if there is one that has not finished. -/
def complete (i index status detail : Nat) (data : List Byte) (d : Dev) : Dev :=
  match inFlight i index d with
  | none => d
  | some x => if x.stage = .done then d else putCompletion i x status detail data d

/-- A descriptor finishes in a geometry-cycle start or a prefetch walk: its completion is held to the end of it, so that those of one ring go
out in index order (R542). -/
def finishLater (i : Nat) (x : InDesc) (status detail : Nat) (data : List Byte) (d : Dev) : Dev :=
  d |> updRing i (fun r => { r with inflight := r.inflight.map fun y => if y.index = x.index then { y with stage := .done } else y })
    |> updHost (fun h => { h with finished := h.finished ++ [⟨i, x, status, detail, data⟩] })

/-- As `complete`, for one held to the end of a cycle start. -/
def completeLater (i index status detail : Nat) (data : List Byte) (d : Dev) : Dev :=
  match inFlight i index d with
  | none => d
  | some x => if x.stage = .done then d else finishLater i x status detail data d

/-- Insert a finished descriptor by index. -/
def insertDone (f : Finished) (l : List Finished) : List Finished :=
  l.takeWhile (fun g => decide (g.desc.index ≤ f.desc.index)) ++ f :: l.dropWhile (fun g => decide (g.desc.index ≤ f.desc.index))

/-- The held completions are written, ring by ring and of one ring in index order (R542); one whose ring was dropped meanwhile is not. -/
def releaseFinished (d : Dev) : Dev :=
  let fs := d.host.finished
  let d := updHost (fun h => { h with finished := [] }) d
  eachD ringList (fun i d =>
    eachD ((fs.filter fun f => f.ring == i).foldl (fun l f => insertDone f l) []) (fun f d =>
      if (inFlight i f.desc.index d).isSome then putCompletion i f.desc f.status f.detail f.data d else d) d) d

/-! ### The opcode table (R110) -/

/-- The class of an opcode; 0 is any class. -/
def opClass (op : Nat) : Option Nat :=
  match op with
  | 0x00 => some 0
  | 0x10 | 0x11 => some 1
  | 0x20 | 0x21 | 0x22 | 0x23 => some 2
  | 0x30 | 0x31 | 0x32 => some 3
  | 0x40 => some 4
  | 0x50 | 0x51 | 0x52 | 0x53 => some 5
  | 0x60 | 0x61 | 0x62 => some 6
  | 0x70 => some 7
  | 0x80 | 0x81 => some 8
  | 0x90 => some 9
  | 0xA0 | 0xA1 | 0xA2 => some 10
  | 0xB0 | 0xB1 | 0xB2 | 0xB3 => some 11
  | 0xC0 | 0xC1 => some 12
  | 0xD0 | 0xD1 | 0xD2 | 0xD3 => some 13
  | 0xE0 | 0xE1 | 0xE2 => some 14
  | _ => none

/-- What the buffer of an opcode is. -/
inductive BufKind where
  | none | input | output
deriving DecidableEq, Repr

def opBuf (op : Nat) : BufKind :=
  match op with
  | 0x10 | 0x20 | 0x23 | 0x30 | 0x53 | 0x62 | 0x80 | 0xB1 | 0xE0 => .input
  | 0x31 | 0x40 | 0x70 | 0x90 | 0xA0 | 0xC0 | 0xD3 | 0xE2 => .output
  | _ => .none

/-- Opcodes that complete when their event occurs (R110). -/
def opWaits (op : Nat) : Bool := op == 0x31 || op == 0x40 || op == 0x70 || op == 0x90 || op == 0xC0 || op == 0xD3 || op == 0xE2

/-- A value of n bytes of the parameters; offsets count from the descriptor's start, where PARAM begins at byte 24. -/
def paramAt (x : InDesc) (off n : Nat) : Nat := leAt x.param (off - 24) n

/-- Bits lo to lo + len − 1 of a parameter byte. -/
def paramBits (x : InDesc) (off lo len : Nat) : Nat := (paramAt x off 1 >>> lo) % 2 ^ len

/-- The bits of each parameter byte, from byte 24 on, that an opcode uses; the rest are reserved. -/
def paramMask (op : Nat) : List Nat :=
  match op with
  | 0x10 => List.replicate 32 0xFF ++ [0x01]
  | 0x11 => [0x07, 0, 0, 0] ++ List.replicate 24 0xFF
  | 0x20 => List.replicate 4 0xFF
  | 0x21 => [0x01]
  | 0x22 => [0xFF, 0xFF, 0xFF, 0xFF, 0x0F, 0, 0, 0] ++ List.replicate 8 0xFF
  | 0x30 => List.replicate 8 0xFF
  | 0x32 => List.replicate 8 0xFF ++ [0x07]
  | 0x52 => [0x01]
  | 0x60 => [0x07, 0x1F, 0x07, 0, 0xFF, 0xFF, 0xFF, 0xFF]
  | 0x61 => [0x07, 0x1F, 0x07]
  | 0x62 => [0x07, 0x1F, 0x03]
  | 0x80 => [0xFF, 0xFF, 0xFF, 0x7F, 0xFF, 0x0F]
  | 0x81 => [0xFF, 0xFF, 0xFF, 0x3F, 0xFF, 0xFF, 0xFF, 0x1F, 0x03]
  | 0xA0 => [0xFF, 0xFF, 0xFF, 0xFF, 0x01]
  | 0xB0 => List.replicate 4 0xFF
  | 0xB1 => List.replicate 4 0xFF
  | 0xB2 => [0x03]
  | 0xD0 => [0x01, 0x3F]
  | _ => []

/-- Some bit set that the mask leaves out. -/
def overMask : List Byte → List Nat → Bool
  | [], _ => false
  | b :: bs, [] => b != 0 || overMask bs []
  | b :: bs, m :: ms => decide (b.toNat &&& m ≠ b.toNat) || overMask bs ms

/-- The data bytes of a DLC (the received-frame record of CAN). -/
def dlcBytes (fdf : Bool) (dlc : Nat) : Nat :=
  if dlc ≤ 8 then dlc
  else if !fdf then 8
  else match dlc with
    | 9 => 12
    | 10 => 16
    | 11 => 20
    | 12 => 24
    | 13 => 32
    | 14 => 48
    | _ => 64

/-- LENGTH is one the opcode accepts, as far as the descriptor and the active table tell (R108, R112). A LOOP_COEFF that unloads has no
buffer: LENGTH 0, with ADDR and BUF_CRC 0 (log entry 156). -/
def lengthLegal (x : InDesc) (d : Dev) : Bool :=
  match x.opcode with
  | 0x10 => x.len == 0 || match d.eng.table with | some t => x.len == 16 + 16 * t.segments.length | none => false
  | 0x20 => decide (8 ≤ x.len) && decide (x.len ≤ 65536) && x.len % 8 == 0
  | 0x23 => x.len == 1024
  | 0x30 => x.len == 2080 || x.len == 4128
  | 0x31 => decide (16 ≤ x.len)
  | 0x40 => decide (2080 ≤ x.len)
  | 0x53 => decide (8 ≤ x.len) && decide (x.len ≤ 16384) && x.len % 8 == 0
  | 0x62 =>
    match paramBits x 26 0 2 with
    | 0 => decide (384 ≤ x.len) && decide (x.len ≤ 2304)
    | 3 => x.len == 0
    | _ => x.len == 1024
  | 0x80 => x.len == if paramAt x 24 4 / 2 ^ 30 % 2 = 1 then 0 else dlcBytes (paramBits x 28 4 1 == 1) (paramBits x 28 0 4)
  | 0x90 => decide (80 ≤ x.len)
  | 0xA0 => decide (32 ≤ x.len) && decide (x.len ≤ 131072) && x.len % 32 == 0
  | 0xB1 => decide (4 ≤ x.len) && decide (x.len ≤ 65536) && x.len % 4 == 0
  | 0xD3 => decide (32 ≤ x.len)
  | 0xE0 => x.len == 32
  | 0xE2 => decide (32 ≤ x.len)
  | _ => true

/-- Every parameter field lies in its opcode's range. -/
def paramLegal (x : InDesc) (d : Dev) : Bool :=
  match x.opcode with
  | 0x10 => !(x.addr == 0 && x.len != 0)
  | 0x11 =>
    let rate := signedOf 32 (paramAt x 44 4)
    paramBits x 24 0 2 != 3 && (paramBits x 24 0 2 != 2 || paramAt x 36 8 == 0) &&
      decide (-200000000 ≤ rate) && decide (rate ≤ 200000000)
  | 0x20 => paramAt x 24 4 % 8 == 0 && decide (paramAt x 24 4 + x.len ≤ 1115392)
  | 0x22 => decide (4 ≤ paramBits x 28 0 4) && decide (paramBits x 28 0 4 ≤ 9)
  | 0x30 => paramAt x 24 8 % 8 == 0
  | 0x60 => hasSpoke (paramBits x 24 0 3) d && decide (paramBits x 25 0 5 < 24)
  | 0x61 => hasSpoke (paramBits x 24 0 3) d && decide (paramBits x 25 0 5 < 24) && paramBits x 26 0 2 != 3
  | 0x62 =>
    let kind := paramBits x 26 0 2
    hasSpoke (paramBits x 24 0 3) d && decide (paramBits x 25 0 5 < if kind = 1 || kind = 2 then 3 else 24) &&
      (kind != 3 || (x.addr == 0 && x.bufCrc == 0))
  | 0x80 =>
    let w := paramAt x 24 4
    let fdf := paramBits x 28 4 1 == 1
    let rtr := w.testBit 30
    !(rtr && (fdf || x.len != 0)) && !(paramBits x 28 5 1 == 1 && !fdf) &&
      (w.testBit 29 || decide (w % 2 ^ 29 < 2048)) && !(x.len == 0 && x.addr != 0)
  | 0x81 => paramBits x 32 0 2 != 3
  | 0xB0 =>
    let n := paramAt x 24 4
    n % 256 == 0 && decide (256 ≤ n) && decide (n ≤ 819200)
  | 0xB1 => paramAt x 24 4 % 4 == 0
  | _ => true

/-- ADDR, LENGTH and BUF_CRC keep the rules of R104. -/
def bufferLegal (x : InDesc) : Bool :=
  x.addr % 8 == 0 && (x.len != 0 || x.bufCrc == 0) &&
    match opBuf x.opcode with
    | .none => x.addr == 0 && x.len == 0 && x.bufCrc == 0
    | .output => x.bufCrc == 0
    | .input => x.opcode != 0x30 || x.bufCrc == 0

/-- The first failure of stage one (R112): the status and DETAIL. `flags` and `last` are bytes 1 and 59. A TILE_PUSH refused for ADDR, BUF_CRC
or byte 59 has DETAIL 3, as for its other reserved bits (log entry 157). -/
def stageOne (i : Nat) (x : InDesc) (crcOk seqOk : Bool) (flags last : Nat) (d : Dev) : Option (Nat × Nat) :=
  if !crcOk then some (stBadCrc, 1)
  else if !seqOk then some (stBadCrc, 2)
  else
    match opClass x.opcode with
    | none => some (stBadOpcode, 0)
    | some c =>
      if 4 ≤ flags then some (stBadOpcode, 0)
      else if c != 0 && c != ringClass i d then some (stRingClass, 0)
      else if pstate d == .restricted && !classRestricted (ringClass i d) then some (stRestricted, 0)
      else if !lengthLegal x d then some (stBadLength, if x.opcode = 0x30 then 1 else 0)
      else if !bufferLegal x || !paramLegal x d || last != 0 || overMask x.param (paramMask x.opcode) then
        some (stBadLength, if x.opcode = 0x30 then 3 else 0)
      else none

/-! ### Fetch (R97 to R103) -/

/-- Reads that wait go out while fewer than 32 are outstanding (R86). -/
def issueReads (d : Dev) : Dev :=
  let go := d.host.readWait.take (32 - d.host.reads.length)
  let d := updHost (fun h => { h with reads := h.reads ++ go, readWait := h.readWait.drop go.length }) d
  eachD go (fun r => emit (.hostRead r.addr r.len)) d

/-- Read host memory, in requests of at most Max_Read_Request_Size and 512 bytes (R86). -/
def readHost (q : HostReq) (addr len : Nat) (d : Dev) : Dev :=
  let size := max 128 (min 512 d.pcie.mrrs)
  let rs := (List.range ((len + size - 1) / size)).map fun n => ({ owner := q, addr := addr + size * n, len := min size (len - size * n) } : HostRead)
  issueReads (updHost (fun h => { h with readWait := h.readWait ++ rs }) d)

/-- A read of one request has ended: a place is free. -/
def readEnded (q : HostReq) (d : Dev) : Dev :=
  match d.host.reads.find? fun r => r.owner == q with
  | some r => issueReads (updHost (fun h => { h with reads := h.reads.erase r }) d)
  | none => d

/-- Every read of a buffer has ended: the places are free, and those still waiting have gone out as they became so. -/
def readsEnded (q : HostReq) (d : Dev) : Dev :=
  let left := d.host.readWait.filter fun r => r.owner == q
  let d := updHost (fun h => { h with reads := h.reads.filter (fun r => r.owner != q), readWait := h.readWait.filter (fun r => r.owner != q) }) d
  issueReads (eachD left (fun r => emit (.hostRead r.addr r.len)) d)

/-- The reads of a ring that was dropped are forgotten. -/
def forgetReads (i : Nat) (d : Dev) : Dev :=
  let mine := fun (r : HostRead) => match r.owner with
    | .descriptor j => j == i
    | .buffer j _ => j == i
    | _ => false
  updHost (fun h => { h with reads := h.reads.filter (!mine ·), readWait := h.readWait.filter (!mine ·) }) d

/-- Descriptors a ring may fetch in a poll: up to 8, up to its tail, fewer than 64 without completion (R101). -/
def fetchable (i : Nat) (d : Dev) : Nat :=
  let r := getRing i d
  let ahead := (r.tail + 2 ^ 32 - r.head % 2 ^ 32) % 2 ^ 32
  let asked := r.issued - r.head
  let open_ := (r.issued % 2 ^ 32 + 2 ^ 32 - r.cqTail % 2 ^ 32) % 2 ^ 32
  min 8 (min (ahead - asked) (64 - open_))

/-- Ring i asks for its next descriptor. -/
def fetchOne (i : Nat) (d : Dev) : Dev :=
  let n := (getRing i d).issued
  d |> updRing i (fun r => { r with issued := n + 1 })
    |> readHost (.descriptor i) (sqBase i d + 64 * (n % ringEntries i d)) 64

/-- One round of fetches over the rings of one priority: each ring with something left asks for one descriptor. -/
def fetchRound (left : List (Nat × Nat)) (d : Dev) : Dev := eachD left (fun e => whenD (decide (0 < e.2)) (fetchOne e.1)) d

/-- Rounds of fetches for the rings of one priority (R101). -/
def fetchRounds : Nat → List (Nat × Nat) → Dev → Dev
  | 0, _, d => d
  | n + 1, left, d => fetchRounds n (left.map fun e => (e.1, e.2 - 1)) (fetchRound left d)

/-- The fetches of one poll (R101): priorities in order, round-robin within one. -/
def fetchPoll (d : Dev) : Dev :=
  eachD [0, 1, 2, 3] (fun p d =>
    let rs := ringList.filter fun i => ringState i d == .running && getF (F.HIF_RING_CFG.PRIO i) d == p
    fetchRounds 8 (rs.map fun i => (i, fetchable i d)) d) d

/-- Ring i takes a TAIL (R97, R102). -/
def takeTail (i tail : Nat) (d : Dev) : Dev :=
  if ringState i d != .running then d
  else if ringEntries i d < (tail + 2 ^ 32 - (getRing i d).head % 2 ^ 32) % 2 ^ 32 then ringError i 4 0 d
  else updRing i (fun r => { r with tail := tail }) d

/-- A poll ends. -/
def pollEnd (failed : Bool) (d : Dev) : Dev :=
  let d := updHost (fun h => { h with polling := false, readingTails := false, lateStart := [], failedPolls := if failed then h.failedPolls + 1 else 0 }) d
  if failed then
    let d := raise F.HIF_STATUS.DB_READ_ERR d
    if 3 ≤ d.host.failedPolls then
      updHost (fun h => { h with failedPolls := 0 }) (eachD ringList (fun i d => if ringState i d == .running then ringError i 6 0 d else d) d)
    else d
  else d

/-- A ring is RUNNING. -/
def anyRunning (d : Dev) : Bool := ringList.any fun i => ringState i d == .running

/-- The device's PCIe side acts: the link is up, not in PCIe Loopback (R533), the function in D0 (R90) and the hub on
(R84). -/
def hostReachable (d : Dev) : Bool := d.pcie.linkUp && !d.pcie.loopback && !d.pcie.d3hot && d.pwr.park == .awake

/-- A poll starts (R97, R98): due, none in progress, a ring RUNNING. -/
def doorbellPoll (d : Dev) : Dev :=
  let h := d.host
  if anyRunning d && hostReachable d && !h.polling && decide (h.nextPoll ≤ d.pt) then
    let period := 25 * getF F.HIF_CFG.DB_PERIOD d
    d |> updHost (fun h => { h with polling := true, readingTails := false, nextPoll := d.pt + period })
      |> readHost .doorbell (dbBase d + 128) 4
  else d

/-- A doorbell read returns (R97, R100). In D3hot the poll under way ends with it (R90). A ring started since the tails read was issued
takes its TAIL from the next one (R132). -/
def doorbellRead (r : ReadResult) (d : Dev) : Dev :=
  let d := readEnded .doorbell d
  if !d.host.polling then d
  else if d.pcie.d3hot then pollEnd false d
  else
    match r with
    | .ok bs =>
      if d.host.readingTails then
        let late := d.host.lateStart
        let d := eachD (ringList.filter fun i => !late.contains i) (fun i => takeTail i (leAt bs (4 * i) 4)) d
        let d := updHost (fun h => { h with startedSince := !late.isEmpty, lastChange := h.changeSeen }) d
        pollEnd false (fetchPoll d)
      else if leAt bs 2 2 != getF F.HIF_EPOCH.EPOCH d then
        d |> raise F.HIF_STATUS.EPOCH_MISMATCH |> countF F.HIF_STATUS.MISMATCH_COUNT |> pollEnd false
      else if leAt bs 0 2 != d.host.lastChange || d.host.startedSince then
        d |> updHost (fun h => { h with readingTails := true, changeSeen := leAt bs 0 2 })
          |> readHost .doorbell (dbBase d) 128
      else pollEnd false (fetchPoll d)
    | _ => pollEnd true d

/-! ### Arrival and start (R106 to R112) -/

/-- The descriptor that 64 bytes hold (R104), at an index of a ring. -/
def parseDesc (index order : Nat) (bs : List Byte) : InDesc :=
  { index := index, opcode := leAt bs 0 1, irq := leAt bs 1 1 % 2 == 1, fence := leAt bs 1 1 / 2 % 2 == 1, tag := leAt bs 4 4
    addr := leAt bs 8 8, len := leAt bs 16 4, bufCrc := leAt bs 20 4, param := (bs.drop 24).take 35, order := order }

/-- Change the descriptor in flight with an index. -/
def updDesc (i index : Nat) (f : InDesc → InDesc) (d : Dev) : Dev :=
  updRing i (fun r => { r with inflight := r.inflight.map fun x => if x.index = index then f x else x }) d

/-- A descriptor has started and waits for its effect or its event. -/
def holdDesc (i : Nat) (x : InDesc) (d : Dev) : Dev := updDesc i x.index (fun x => { x with stage := .waiting }) d

/-- The next descriptor of ring i arrives (R101, R106, R108, R112). -/
def descArrival (i : Nat) (r : ReadResult) (d : Dev) : Dev :=
  let d := readEnded (.descriptor i) d
  let g := getRing i d
  if !ringLive i d || g.issued ≤ g.head then d
  else
    match r with
    | .ok bs =>
      let x := parseDesc g.head d.host.fetchCount bs
      let d := updRing i (fun r => { r with head := g.head + 1, inflight := r.inflight ++ [x] }) d
      let d := updHost (fun h => { h with fetchCount := h.fetchCount + 1 }) d
      let d := writeProgress i ((g.head + 1) % 2 ^ 32) d
      let crcOk := leAt bs 60 4 == crc32c (bs.take 60)
      let seqOk := leAt bs 2 2 == g.head % 65536
      match stageOne i x crcOk seqOk (leAt bs 1 1) (leAt bs 59 1) d with
      | some (status, detail) =>
        d |> whenD (status == stBadCrc) (fun d => raise (F.HIF_RING_STATUS.BAD_CRC_SEEN i) (crcFail 1 i x.index d))
          |> complete i x.index status detail []
      | none =>
        if ringState i d == .stopping && (opWaits x.opcode || x.opcode == 0x80) then complete i x.index stAborted 0 [] d
        else if opBuf x.opcode == .input && x.len != 0 && ringLive i d then
          d |> updDesc i x.index (fun x => { x with stage := .reading }) |> readHost (.buffer i x.index) x.addr x.len
        else d
    | r => ringError i (readCause false r) g.head d

/-- The buffer of a descriptor arrives (R107, R112). The check of a tile is its own header's (R177). -/
def bufferRead (i index : Nat) (r : ReadResult) (d : Dev) : Dev :=
  let d := readsEnded (.buffer i index) d
  match inFlight i index d with
  | none => d
  | some x =>
    if x.stage != .reading || !ringLive i d then d
    else
      match r with
      | .ok bs =>
        if bs.length != x.len then d
        else if x.opcode == 0x30 then
          if leAt bs 28 4 == crc32c (bs.take 28 ++ bs.drop 32) then updDesc i index (fun x => { x with stage := .ready, buf := bs }) d
          else d |> crcFail 2 i index |> complete i index stBadCrc 3 []
        else if crc32c bs == x.bufCrc then updDesc i index (fun x => { x with stage := .ready, buf := bs }) d
        else d |> crcFail 1 i index |> complete i index stBadCrc 3 []
      | r => ringError i (readCause true r) index d

/-- The descriptor of ring i that may start now (R109, FENCE; TABLE_COMMIT holds back what follows it, R148). In a STOPPING ring too: R133
ends the waiting ones and the CAN_SENDs; one of another opcode that was fetched and had not started still runs (log entry 118). -/
def nextDesc (i : Nat) (d : Dev) : Option InDesc :=
  let fl := (getRing i d).inflight
  match fl.find? fun x => x.stage != .waiting with
  | none => none
  | some x =>
    let first := match fl with | y :: _ => y.index == x.index | [] => false
    let held := fl.any fun y => y.opcode == 0x21 && y.stage == .waiting
    if x.stage == .ready && (first || !(x.fence || x.opcode == 0x21)) && !held && ringLive i d then some x else none

/-- Start the next descriptor of ring i if its opcode is the one given. -/
def startDesc (i op : Nat) (f : InDesc → Dev → Dev) (d : Dev) : Dev :=
  match nextDesc i d with
  | some x => if x.opcode = op then f x d else d
  | none => d

/-- As `startDesc`, for a descriptor that only waits from then on. -/
def waitDesc (i op : Nat) (d : Dev) : Dev := startDesc i op (fun x => holdDesc i x) d

/-! ### Waiting buffers (R113, R546) -/

/-- The waiting descriptor of an opcode fetched first among the RUNNING rings of a class and instance (any instance: none). -/
def waitingBuffer (cls op : Nat) (inst : Option Nat) (d : Dev) : Option (Nat × InDesc) :=
  let mine := ringList.filter fun i => ringState i d == .running && ringClass i d == cls &&
    (inst.isNone || inst == some (ringInstance i d))
  let all := mine.flatMap fun i => ((getRing i d).inflight.filter fun x => x.opcode == op && x.stage == .waiting && x.aux == 0).map fun x => (i, x)
  all.foldl (fun best e => match best with
    | none => some e
    | some b => if e.2.order < b.2.order then some e else some b) none

/-- NO_BUF on the RUNNING rings of a class and instance. -/
def noBuf (cls : Nat) (inst : Option Nat) (d : Dev) : Dev :=
  eachD ringList (fun i d =>
    if ringState i d == .running && ringClass i d == cls && (inst.isNone || inst == some (ringInstance i d)) then
      raise (F.HIF_RING_STATUS.NO_BUF i) d
    else d) d

/-- MODERATION_TIMER (R128). -/
def moderationTimer (i : Nat) (d : Dev) : Dev :=
  let r := getRing i d
  match r.oldest with
  | some t =>
    if r.modTime != 0 && decide (t + us r.modTime ≤ d.pt) && isSet (F.HIF_RING_MOD.MSIX_EN i) d then ringMessage i d else d
  | none => d

/-! ### START and the end of a ring (R131 to R136) -/

/-- START is refused (R131). -/
def startRefused (i : Nat) (d : Dev) : Bool :=
  let c := ringClass i d
  let n := getF (F.HIF_RING_CFG.LOG2_ENTRIES i) d
  let live := ringList.filter fun j => j != i && ringState j d != .stopped
  let same := live.filter fun j => ringClass j d == c
  ringState i d != .stopped || c == 0 || c == 15 || decide (n < 4) || decide (16 < n) ||
    decide (classInstances c ≤ ringInstance i d) || decide (classInstances c ≤ same.length) ||
    same.any (fun j => ringInstance j d == ringInstance i d) || getF F.HIF_EPOCH.EPOCH d == 0 ||
    dbBase d == 0 || progBase d == 0 || (!classRestricted c && !isSet F.PWR_STATE.ABI_ACCEPTED d)

/-- What START and RESET leave of a ring: the completions not yet signalled, whose message still falls due (R128). -/
def keepModeration (r : Ring) : Ring := { unsignalled := r.unsignalled, oldest := r.oldest, modTime := r.modTime }

/-- START (R132). -/
def ringStart (i : Nat) (d : Dev) : Dev :=
  if startRefused i d then raise (F.HIF_RING_STATUS.START_REFUSED i) d
  else
    let first := !anyRunning d
    d |> updRing i keepModeration
      |> setRingState i .running
      |> writeProgress i 0 |> writeProgress (32 + i) 0
      |> updHost (fun h => { h with
          startedSince := true, nextPoll := if first then max h.nextPoll d.pt else h.nextPoll
          lateStart := if h.polling && h.readingTails then i :: h.lateStart else h.lateStart })

/-- A stopping ring with no descriptor left becomes STOPPED (R133). -/
def ringStopped (i : Nat) (d : Dev) : Dev :=
  let r := getRing i d
  if ringState i d == .stopping && r.inflight.isEmpty && r.issued == r.head then setRingState i .stopped d else d

/-- Nothing in the hub keeps hold of a descriptor of ring i: what waits for a cycle start is withdrawn, frames not yet on the bus leave
their FIFO, and what runs on completes no descriptor. -/
def forgetRing (i : Nat) (d : Dev) : Dev :=
  let drop := fun (x : Option (Nat × Nat)) => match x with
    | some w => if w.1 = i then none else x
    | none => none
  let gone := fun (w : Nat × Nat) => if w.1 = i then (32, 0) else w
  let frame : TxEntry → TxEntry := fun e => match e.from_ with
    | .send j _ => if j = i then { e with from_ := .discarded } else e
    | _ => e
  let queue : CanCtl → CanCtl := fun x =>
    let f := x.fifo.map frame
    let rest := fun (q : List TxEntry) => q.filter fun e => e.from_ != .discarded
    { x with fifo := if x.onBus == OnBus.fifo then f.take 1 ++ rest (f.drop 1) else rest f }
  let d : Dev := { d with
    pwr := { d.pwr with armAccepted := d.pwr.armAccepted.filter (·.1 != i), disarmWait := d.pwr.disarmWait.filter (·.1 != i) }
    host := { d.host with flashCommit := d.host.flashCommit.map fun c => ((gone (c.1, c.2.1)).1, c.2) }
    can := d.can.map fun c => (c.1, queue c.2)
    sox := { d.sox with newRole := d.sox.newRole.map fun r => (r.1, drop r.2)
                        probe := d.sox.probe.map fun p => { p with desc := drop p.desc } }
    tdm := { d.tdm with attach := d.tdm.attach.map fun a => { a with desc := gone a.desc }
                        yielding := d.tdm.yielding.map fun y => (y.1, drop y.2), yieldNext := drop d.tdm.yieldNext
                        detachAt := d.tdm.detachAt.map fun y => (y.1, drop y.2) } }
  { d with eng := { d.eng with
    waiting := d.eng.waiting.filter (·.1 != i)
    commit := match d.eng.commit with
      | some c => if c.2.2.1 = i then none else some c
      | none => none
    writing := d.eng.writing.map fun w => if w.ring = i then { w with ring := 32 } else w
    tiles := d.eng.tiles.map fun t => { t with dropFor := t.dropFor.filter (·.1 != i) } } }

/-- Ring i loses its fetched descriptors and is STOPPED (R135, R136). -/
def ringDrop (i : Nat) (d : Dev) : Dev := d |> forgetRing i |> forgetReads i |> updRing i keepModeration |> setRingState i .stopped

/-- As `ringDrop`, with the error cleared. -/
def ringClear (i : Nat) (d : Dev) : Dev :=
  d |> ringDrop i |> setF (F.HIF_RING_STATUS.ERR_CAUSE i) 0 |> setF (F.HIF_RING_STATUS.ERR_SEQ i) 0

/-- Every ring is dropped in the way given with what the ring engine holds of it, and the poll in progress with the reads (R85, R136). -/
def dropRings (drop : Nat → Dev → Dev) (d : Dev) : Dev :=
  let d := eachD ringList (fun i d => if ringState i d == .stopped then d else drop i d) d
  updHost (fun h => { h with rings := [], reads := [], readWait := [], polling := false, readingTails := false, startedSince := false, lateStart := [], failedPolls := 0 }) d

/-- ATOMIC_ACTIVE follows HIF_CFG, the Requester Enable bit and a failure since (R89). -/
def settleAtomics (d : Dev) : Dev :=
  flag F.HIF_STATUS.ATOMIC_ACTIVE (isSet F.HIF_CFG.ATOMIC_EN d && d.pcie.atomicReq && !d.eng.casWithdrawn) d

/-- Compare-and-swap may be issued. -/
def atomicsOpen (d : Dev) : Bool := isSet F.HIF_STATUS.ATOMIC_ACTIVE d && d.pcie.atomicReq

/-- Compare-and-swap fails: withdrawn, and no ring is in error (R89). -/
def atomicFail (d : Dev) : Dev :=
  d |> raise F.HIF_STATUS.ATOMIC_FAIL |> lower F.HIF_STATUS.ATOMIC_ACTIVE |> logEvent 0x0205 4 ⟨0, 1, 0⟩ 0 0 0
    |> fun d => { d with eng := { d.eng with casWithdrawn := true } }

end Sys2Proof.Machine
end

