-- ==== Sys2Proof/Machine/Can.lean ====
section
/-! DEFINITION. The CAN controllers (11_can_controllers.md): operating state, filters, reception, transmission, errors,
section-state summaries. What the Soxaek engine does with the frames it consumes is in SectionBus.lean. -/
namespace Sys2Proof.Machine

def getCan (c : Nat) (d : Dev) : CanCtl := kget d.can c {}
def updCan (c : Nat) (f : CanCtl → CanCtl) (d : Dev) : Dev := { d with can := kupd d.can c {} f }
def updSox (f : Sox → Sox) (d : Dev) : Dev := { d with sox := f d.sox }

/-! ### Operating state (R365, R368, R369, R387) -/

/-- Error-passive (ISO 11898-1). -/
def canPassive (x : CanCtl) : Bool := decide (127 < x.tec) || decide (127 < x.rec_)

/-- CAN_STATUS.STATE: 0 error-active, 1 error-passive, 2 bus-off, 3 not taking part. -/
def canState (c : Nat) (d : Dev) : Nat :=
  let x := getCan c d
  if !x.joined then 3 else if x.busOff then 2 else if canPassive x then 1 else 0

/-- Listen-only operation (R369). -/
def canListen (c : Nat) (d : Dev) : Bool := isSet (F.CAN_CFG.LISTEN c) d || pstate d == .restricted

/-- TEC as CAN_ERR and completions show it. -/
def canTec (x : CanCtl) : Nat := if x.busOff then 255 else min 255 x.tec

/-- The nominal and the data bit time in clocks of 12.5 ns (R364). -/
def nomClocks (c : Nat) (d : Dev) : Nat :=
  getF (F.CAN_NOMBIT.NPRE c) d * (1 + getF (F.CAN_NOMBIT.NSEGA c) d + getF (F.CAN_NOMBIT.NSEGB c) d)
def dataClocks (c : Nat) (d : Dev) : Nat :=
  getF (F.CAN_DATABIT.DPRE c) d * (1 + getF (F.CAN_DATABIT.DSEGA c) d + getF (F.CAN_DATABIT.DSEGB c) d)

/-- When a bit is sampled, in clocks from its start (R364, R366): at the sample point, and with TRIPLE a nominal bit also one and two quanta
before it. -/
def samplePoints (c : Nat) (data : Bool) (d : Dev) : List Nat :=
  if data then [getF (F.CAN_DATABIT.DPRE c) d * (1 + getF (F.CAN_DATABIT.DSEGA c) d)]
  else
    let q := getF (F.CAN_NOMBIT.NPRE c) d
    let n := 1 + getF (F.CAN_NOMBIT.NSEGA c) d
    if isSet (F.CAN_CFG.TRIPLE c) d then [q * (n - 2), q * (n - 1), q * n] else [q * n]

/-- The value of a bit from its samples: the majority (R366). -/
def bitValue (samples : List Bool) : Bool := decide (samples.length < 2 * (samples.filter id).length)

/-- When a bit sent in the data phase is checked, in clocks from its start (R367), `delay` clocks measured from CAN_TX to CAN_RX. -/
def checkPoint (c delay : Nat) (d : Dev) : List Nat :=
  if isSet (F.CAN_DATABIT.DCOMP c) d then [delay + getF (F.CAN_DATABIT.DCOMP_OFS c) d] else samplePoints c true d

/-- The timing limits of R365 hold. -/
def timingLegal (c : Nat) (d : Dev) : Bool :=
  let nb := nomClocks c d
  let db := dataClocks c d
  decide (80 ≤ nb) && decide (nb ≤ 8000) &&
    (!isSet (F.CAN_CFG.FD_EN c) d || (decide (10 ≤ db) && decide (db ≤ 100) && decide (db ≤ nb))) &&
    decide (getF (F.CAN_NOMBIT.NJW c) d ≤ getF (F.CAN_NOMBIT.NSEGB c) d) &&
    decide (getF (F.CAN_DATABIT.DJW c) d ≤ getF (F.CAN_DATABIT.DSEGB c) d) &&
    (!isSet (F.CAN_CFG.TRIPLE c) d || (decide (320 ≤ nb) && decide (3 ≤ getF (F.CAN_NOMBIT.NSEGA c) d)))

/-- HALT is written from 1 to 0 (R365). -/
def haltClear (c : Nat) (d : Dev) : Dev :=
  if !isSet (F.CAN_CFG.HALT c) d then d
  else if timingLegal c d then lower (F.CAN_CFG.HALT c) d
  else raise (F.CAN_STATUS.TIMING_BAD c) d

/-- A loop-back runs on a controller (R528), at depth 0 inside it: its frames do not reach the bus, nor the bus it. -/
def canLooped (c : Nat) (d : Dev) : Bool := match d.lb with | some r => r.target == 2 && r.inst == c | none => false
def canCut (c : Nat) (d : Dev) : Bool := match d.lb with | some r => r.target == 2 && r.inst == c && r.depth == 0 | none => false

/-- A controller held out of the bus takes no further part once its own frame has ended (R368); a frame of another node that has begun is
still received. -/
def haltSettle (c : Nat) (d : Dev) : Dev :=
  if isSet (F.CAN_CFG.HALT c) d && (getCan c d).onBus == .none then
    updCan c (fun x => { x with joined := false, excWait := false, haltAt := if x.joined && !x.busOff && !x.excWait then some d.pt else x.haltAt }) d
  else d

/-- HALT is written to 1. -/
def haltSet (c : Nat) (d : Dev) : Dev := haltSettle c (raise (F.CAN_CFG.HALT c) d)

/-- EN is written from 0 to 1 (R368). -/
def canEnable (c : Nat) (d : Dev) : Dev :=
  if isSet (F.CAN_CFG.EN c) d then d
  else d |> raise (F.CAN_CFG.EN c) |> updCan c (fun x => { x with tec := 0, rec_ := 0, busOff := false, recover := false })

/-- HCAN has power: not while the device is parked, nor before it runs (R46, R372). -/
def hcanPower (d : Dev) : Bool := pstate d != .parked && pstate d != .cold

/-- 11 consecutive recessive bits (R368, R370). -/
def busIntegration (c : Nat) (d : Dev) : Dev :=
  if hcanPower d && isSet (F.CAN_CFG.EN c) d && !isSet (F.CAN_CFG.HALT c) d then
    updCan c (fun x => { x with joined := true, excWait := false, haltAt := none }) d
  else d

/-- CAN_CFG as it stood when the frame that started at PT `stamp` began: a write takes effect from the next frame (R368). -/
def cfgAt (c stamp : Nat) (d : Dev) : Word :=
  match (getCan c d).cfgLog.find? fun e => decide (stamp < e.1) with
  | some e => e.2
  | none => rget (R.CAN_CFG c) d

/-- The controller sees the bus. -/
def canSees (c : Nat) (d : Dev) : Bool :=
  let x := getCan c d
  isSet (F.CAN_CFG.EN c) d && x.joined && !x.busOff && !x.excWait

/-- The controller receives the frame that started at PT `stamp` (R368): it sees the bus, or it was halted within that frame. -/
def canHears (c stamp : Nat) (d : Dev) : Bool :=
  canSees c d || (isSet (F.CAN_CFG.EN c) d && match (getCan c d).haltAt with | some t => decide (stamp < t) | none => false)

/-- A received frame has ended: the frames that follow begin after every write so far, and a halted controller hears no further one. -/
def frameOver (c : Nat) (d : Dev) : Dev := updCan c (fun x => { x with haltAt := none, cfgLog := [] }) d

/-! ### Completions of CAN_SEND (R384) -/

/-- DETAIL of a CAN_SEND. -/
def sendDetail (c : Nat) (e : TxEntry) (d : Dev) : Nat := min 15 e.attempts + 16 * e.lastErr + 256 * canTec (getCan c d)

/-- A frame leaves its queue with a status. -/
def endEntryTx (c : Nat) (e : TxEntry) (status : Nat) (d : Dev) : Dev :=
  match e.from_ with
  | .send ring index => complete ring index status (sendDetail c e d) [] d
  | .discarded => d
  | .summary _ => if status = stRetryLimit then raise (F.CAN_STATUS.SUM_FAIL c) d else d
  | .soxaek _ => d

/-- EN is written from 1 to 0 (R372). -/
def canDisable (c : Nat) (d : Dev) : Dev :=
  if !isSet (F.CAN_CFG.EN c) d then d
  else
    let fifo := (getCan c d).fifo
    let d := lower (F.CAN_CFG.EN c) d
    let d := updCan c (fun x => { x with joined := false, excWait := false, fifo := [], summary := none, nextSum := none,
                                         onBus := .none, rx := [], haltAt := none, cfgLog := [],
                                         bufs := (x.bufs.map fun b => (b.1, { b.2 with nd := false, rec_ := [] })).filter (fun b => b.2 != {}) }) d
    eachD fifo (fun e => endEntryTx c e stAborted) d

/-! ### Filters (R374 to R376) -/

/-- An element of a list matches an identifier. -/
def filterMatch (kind a b id : Nat) : Bool :=
  match kind with
  | 1 => decide (a ≤ id) && decide (id ≤ b)
  | 2 => id == a || id == b
  | 3 => (id ^^^ a) &&& b == 0
  | _ => false

/-- KIND, ROUTE, BUF, ID_A and ID_B of element j for standard or extended frames. -/
def filterElem (c : Nat) (ide : Bool) (j : Nat) (d : Dev) : Nat × Nat × Nat × Nat × Nat :=
  if ide then
    let w := fun (i : Nat) => (rget (R.CAN_EXT_FILT c j i) d).toNat
    (w 2 % 4, w 2 / 4 % 8, w 2 / 32 % 32, w 0 % 2 ^ 29, w 1 % 2 ^ 29)
  else
    let w := (rget (R.CAN_STD_FILT c j) d).toNat
    (w % 4, w / 4 % 8, w / 32 % 32, w / 1024 % 2048, w / 2 ^ 21)

/-- The first element from the list that matches: its index, ROUTE and BUF. -/
def firstMatch (c : Nat) (f : CanFrame) (d : Dev) : List Nat → Option (Nat × Nat × Nat)
  | [] => none
  | j :: js =>
    let (kind, route, buf, a, b) := filterElem c f.ide j d
    if decide (route < 3) && filterMatch kind a b f.id then some (j, route, buf) else firstMatch c f d js

/-- The element that decides about a frame (R375). -/
def filterFrame (c : Nat) (f : CanFrame) (d : Dev) : Option (Nat × Nat × Nat) :=
  firstMatch c f d (List.range (if f.ide then getF (F.CAN_FILT.EXT_COUNT c) d else getF (F.CAN_FILT.STD_COUNT c) d))

/-- A write to word i of extended element j (R376): words 0 and 1 are held until word 2 is written. -/
def extFilterWrite (c j i : Nat) (w : Word) (d : Dev) : Dev :=
  if i < 2 then updCan c (fun x => { x with held := kins x.held (2 * j + i) (w &&& 0x1FFFFFFF) }) d
  else
    let take := fun (i : Nat) (d : Dev) =>
      match (getCan c d).held.find? fun e => e.1 == 2 * j + i with
      | some e => rput (R.CAN_EXT_FILT c j i) e.2 d
      | none => d
    d |> take 0 |> take 1 |> rput (R.CAN_EXT_FILT c j 2) (w &&& 0x3FF)
      |> updCan c (fun x => { x with held := kdel (kdel x.held (2 * j)) (2 * j + 1) })

/-! ### Reception (R377 to R381) -/

/-- The word that holds an identifier with its marks (R378). -/
def idWord (f : CanFrame) (top : Bool) : Nat :=
  f.id % 2 ^ 29 + (if f.ide then 2 ^ 29 else 0) + (if f.rtr then 2 ^ 30 else 0) + (if top then 2 ^ 31 else 0)

/-- The received-frame record (R378). -/
def frameRecord (f : CanFrame) (stamp filter : Nat) (toBuf : Bool) (lost : Nat) : List Byte :=
  leBytes 8 stamp ++ leBytes 4 (idWord f f.esi) ++
    leBytes 1 (f.dlc % 16 + (if f.fdf then 16 else 0) + (if f.brs then 32 else 0)) ++
    leBytes 1 filter ++ leBytes 1 (if toBuf then 1 else 0) ++ leBytes 1 (min 255 lost) ++ f.data

/-- Frames of the receive FIFO complete fetched buffers, oldest first (R379). -/
def drainRx (c : Nat) : Nat → Dev → Dev
  | 0, d => d
  | n + 1, d =>
    match (getCan c d).rx with
    | [] => d
    | r :: rest =>
      match waitingBuffer 9 0x90 (some c) d with
      | some (i, x) => drainRx c n (putCompletion i x stOk 0 r (updCan c (fun y => { y with rx := rest }) d))
      | none => noBuf 9 (some c) d

/-- A frame goes to the receive FIFO (R379, R380). -/
def rxStore (c : Nat) (f : CanFrame) (stamp filter : Nat) (d : Dev) : Dev :=
  let full := decide (64 ≤ (getCan c d).rx.length)
  let lose := fun (d : Dev) => d |> raise (F.CAN_STATUS.RX_LOST c) |> countF (F.CAN_COUNT.RX_LOST c)
    |> updCan c (fun x => { x with lost := x.lost + 1 })
  if full && !(cfgAt c stamp d).getLsbD 5 then lose d
  else
    let d := if full then lose (updCan c (fun x => { x with rx := x.rx.drop 1 }) d) else d
    let r := frameRecord f stamp filter false (getCan c d).lost
    drainRx c 65 (updCan c (fun x => { x with rx := x.rx ++ [r], lost := 0 }) d)

/-- The CTRL word of a mirror slot (R381). -/
def slotCtrl (b : RxBuf) (writing : Bool) : List Byte :=
  leBytes 4 ((if b.nd then 1 else 0) + (if writing then 2 else 0) + 65536 * (b.count % 65536))

/-- A frame goes to dedicated buffer b (R381), which the host mirror shows but in restricted service. -/
def bufStore (c b : Nat) (f : CanFrame) (stamp filter : Nat) (d : Dev) : Dev :=
  let old := kget (getCan c d).bufs b {}
  let r := frameRecord f stamp filter true 0
  let new : RxBuf := { nd := !old.nd, count := old.count + 1, rec_ := r }
  let padded := r ++ List.replicate (80 - r.length) 0
  let base := (rget (R.CAN_RXB_LO c) d).toNat / 256 * 256 + 2 ^ 32 * (rget (R.CAN_RXB_HI c) d).toNat
  let d := updCan c (fun x => { x with bufs := kput x.bufs b new {} }) d
  if isSet (F.CAN_RXB_LO.EN c) d && base != 0 && pstate d != .restricted then
    crossEcc 8 (32 + c) 0 0 0 (fun d =>
      d |> emit (.hostWrite (base + 128 * b) (slotCtrl old true))
        |> emit (.hostWrite (base + 128 * b + 4) (leBytes 4 (crc32c padded)))
        |> emit (.hostWrite (base + 128 * b + 16) padded)
        |> emit (.hostWrite (base + 128 * b) (slotCtrl new false))) id d
  else d

/-- A valid frame is filtered and stored (R375, R379), in restricted service too (R369). -/
def filterStore (c : Nat) (f : CanFrame) (stamp : Nat) (d : Dev) : Dev :=
  if f.rtr && (cfgAt c stamp d).getLsbD 8 then d
  else
    match filterFrame c f d with
    | none =>
      if (cfgAt c stamp d).getLsbD (if f.ide then 7 else 6) then d else rxStore c f stamp 0xFF d
    | some (j, 0, _) => rxStore c f stamp j d
    | some (j, 1, b) => bufStore c b f stamp j d
    | some _ => d

/-- A frame arrived whole: the receive counter, ALONE (R387, R389). After a count above 127, ISO 11898-1 leaves a value from
119 to 127. -/
def receiveOk (c : Nat) (d : Dev) : Dev :=
  let r := (getCan c d).rec_
  let (r, d) :=
    if r = 0 then (0, d)
    else if r ≤ 127 then (r - 1, d)
    else
      let (v, d) := fresh d
      (119 + v % 9, d)
  updCan c (fun x => { x with rec_ := r, alone := false }) d

/-! ### Transmission (R384 to R386, R399) -/

/-- The key K of a frame. -/
def canKey (id : Nat) (ide : Bool) : Nat :=
  if ide then id / 2 ^ 18 % 2048 * 2 ^ 19 + 2 ^ 18 + id % 2 ^ 18 else id % 2048 * 2 ^ 19

def entryKey (e : TxEntry) : Nat := canKey e.frame.id e.frame.ide

/-- The frame of a CAN_SEND. -/
def sendFrameOf (x : InDesc) : CanFrame :=
  let w := paramAt x 24 4
  { id := w % 2 ^ 29, ide := w.testBit 29, rtr := w.testBit 30, fdf := paramBits x 28 4 1 == 1, brs := paramBits x 28 5 1 == 1
    dlc := paramBits x 28 0 4, data := x.buf }

/-- The strap address (R400). -/
def soxAddr (d : Dev) : Nat := d.chip.strapAddr % 64

/-- CAN_SEND starts (R369, R370, R384, R399). -/
def canSend (i : Nat) (d : Dev) : Dev :=
  startDesc i 0x80 (fun x d =>
    let c := ringInstance i d
    let f := sendFrameOf x
    let soxaek := c == 1 && f.ide && decide (f.id / 2 ^ 20 % 64 < 16) && f.id / 256 % 64 == soxAddr d
    if (f.fdf && !isSet (F.CAN_CFG.FD_EN c) d) || soxaek then complete i x.index stBadLength 0 [] d
    else if isSet (F.CAN_CFG.LISTEN c) d then complete i x.index stBusy 0 [] d
    else if 32 ≤ (getCan c d).fifo.length then d
    else
      let own := paramBits x 28 7 1 == 1
      let e : TxEntry := { from_ := .send i x.index, frame := f, single := paramBits x 28 6 1 == 1, ownRetry := own
                           retry := if own then paramBits x 29 0 4 else getF (F.CAN_CFG.RETRY c) d }
      d |> holdDesc i x |> updCan c (fun y => { y with fifo := y.fifo ++ [e] })) d

/-- A CAN_ABORT selects a frame (R386). -/
def abortSelects (x : InDesc) (f : CanFrame) : Bool :=
  let w := paramAt x 24 4
  let mask := paramAt x 28 4 % 2 ^ 29
  match paramBits x 32 0 2 with
  | 0 => true
  | 1 => f.ide == w.testBit 29 && (f.id &&& mask) == (w % 2 ^ 29 &&& mask)
  | _ => decide (canKey (w % 2 ^ 29) (w.testBit 29) < canKey f.id f.ide)

/-- Withdraw the frames of a FIFO that a choice selects: those off the bus complete ABORTED, one on the bus is marked. The second
result is the number withdrawn. -/
def withdraw (c : Nat) (sel : TxEntry → Bool) (d : Dev) : Dev × Nat :=
  let x := getCan c d
  let busy := x.onBus == .fifo
  let head := if busy then x.fifo.take 1 else []
  let rest := if busy then x.fifo.drop 1 else x.fifo
  let gone := rest.filter sel
  let head := head.map fun e => if sel e then { e with abort := true } else e
  let d := updCan c (fun x => { x with fifo := head ++ rest.filter fun e => !sel e }) d
  (eachD gone (fun e => endEntryTx c e stAborted) d, gone.length)

/-- CAN_ABORT (R386). -/
def canAbort (i : Nat) (d : Dev) : Dev :=
  startDesc i 0x81 (fun x d =>
    let (d, n) := withdraw (ringInstance i d) (fun e => abortSelects x e.frame) d
    complete i x.index stOk n [] d) d

/-- The entry on the bus. -/
def busEntry (c : Nat) (d : Dev) : Option TxEntry :=
  let x := getCan c d
  match x.onBus with
  | .none => none
  | .fifo => x.fifo.head?
  | .summary => x.summary
  | .soxaek => x.sox.head?

/-- Change the entry on the bus, or drop it. -/
def setBusEntry (c : Nat) (e : Option TxEntry) (d : Dev) : Dev :=
  updCan c (fun x =>
    match x.onBus with
    | .none => x
    | .fifo => { x with fifo := (match e with | some e => [e] | none => []) ++ x.fifo.drop 1 }
    | .summary => match e with
      | some e => { x with summary := some e }
      | none => { x with summary := x.nextSum, nextSum := none }
    | .soxaek => { x with sox := (match e with | some e => [e] | none => []) ++ x.sox.drop 1 }) d

/-- Insert by K, behind entries of the same key. -/
def insertSox (e : TxEntry) (q : List TxEntry) : List TxEntry :=
  q.takeWhile (fun x => decide (entryKey x ≤ entryKey e)) ++ e :: q.dropWhile (fun x => decide (entryKey x ≤ entryKey e))

/-- The Soxaek queue holds 128 frames; others wait in order (R399). The frame on the bus stays at the head. -/
def fillSox (x : CanCtl) : CanCtl :=
  match x.soxWait with
  | [] => x
  | e :: rest =>
    if x.sox.length < 128 then
      if x.onBus == .soxaek then { x with sox := x.sox.take 1 ++ insertSox e (x.sox.drop 1), soxWait := rest }
      else { x with sox := insertSox e x.sox, soxWait := rest }
    else x

/-- A Soxaek frame that left the bus unsent takes its place by K again, ahead of later frames of its key (R399). -/
def reorderSox (q : List TxEntry) : List TxEntry :=
  match q with
  | [] => []
  | e :: rest => rest.takeWhile (fun x => decide (entryKey x < entryKey e)) ++ e :: rest.dropWhile (fun x => decide (entryKey x < entryKey e))

/-- The entry on the bus is done with; the bus is free. -/
def leaveBus (c : Nat) (d : Dev) : Dev := haltSettle c (updCan c (fun x => fillSox { x with onBus := .none, sox := reorderSox x.sox }) d)

/-- The end of a frame on the bus: dropped with a status. -/
def dropBusEntry (c : Nat) (e : TxEntry) (status : Nat) (d : Dev) : Dev :=
  d |> setBusEntry c none |> leaveBus c |> endEntryTx c e status

/-- The message RAM's word of the frame just offered fails its ECC check (row 14 of R45): a CAN_SEND completes BAD_CRC with DETAIL 3, a
summary or Soxaek frame is dropped. -/
def dropUnread (c : Nat) (d : Dev) : Dev :=
  match busEntry c d with
  | none => d
  | some e =>
    let d := d |> setBusEntry c none |> leaveBus c
    match e.from_ with
    | .send ring index => complete ring index stBadCrc 3 [] d
    | _ => d

/-- A frame on its way to the bus takes CAN_CFG.RETRY as it now stands, unless its limit is its own (R368, R383). -/
def latchRetry (c : Nat) (d : Dev) : Dev :=
  match busEntry c d with
  | some e => if e.ownRetry then d else setBusEntry c (some { e with retry := getF (F.CAN_CFG.RETRY c) d }) d
  | none => d

/-- The bus is idle: the highest-ranked candidate is offered (R384, R399), once its ECC check has passed (R42). -/
def arbitration (c : Nat) (d : Dev) : Dev :=
  let x := getCan c d
  if !canSees c d || canListen c d || isSet (F.CAN_CFG.HALT c) d || x.onBus != .none then d
  else
    let rank := fun (best : Option (TxEntry × OnBus)) (q : Option TxEntry) (w : OnBus) =>
      match best, q with
      | b, none => b
      | none, some e => some (e, w)
      | some (b, v), some e => if entryKey e < entryKey b then some (e, w) else some (b, v)
    let best := rank (rank (rank none x.fifo.head? .fifo) x.summary .summary) x.sox.head? .soxaek
    match best with
    | none => d
    | some (e, w) =>
      let (ring, seq) := match e.from_ with
        | .send ring index => (ring, index)
        | _ => (0, 0)
      crossEcc 14 c 0 ring seq (latchRetry c) (dropUnread c) (updCan c (fun x => { x with onBus := w }) d)

/-- The transmitter delay measured in the data phase of a frame the controller sends (R367). -/
def noteDelay (c : Nat) (f : CanFrame) (delay : Nat) (d : Dev) : Dev :=
  whenD (isSet (F.CAN_DATABIT.DCOMP c) d && f.fdf && f.brs) (setF (F.CAN_LOOP_DELAY.DELAY c) (min 127 delay)) d

/-- A frame was sent (R384, R387, R389, R392): `stamp` is its start-of-frame stamp, `delay` the transmitter delay measured. -/
def frameSent (c stamp delay : Nat) (d : Dev) : Dev :=
  match busEntry c d with
  | none => d
  | some e =>
    let e := { e with attempts := e.attempts + 1 }
    let d := updCan c (fun x => { x with tec := x.tec - 1, alone := false, ackRun := 0, prevBit := none }) d
    let d := noteDelay c e.frame delay d
    let d := dropBusEntry c e stOk d
    match e.from_ with
    | .summary v => setF (F.CAN_SUM_LAST.V c) v d
    | .soxaek 0 => updSox (fun s => { s with cadStamp := some ((e.frame.data.getD 8 0).toNat, stamp) }) d
    | .soxaek 4 => updSox (fun s => { s with probe := s.probe.map fun p => { p with acked := p.acked + 1 } }) d
    | _ => d

/-- A frame that was not sent leaves the bus and competes again; in restricted service nothing is sent any more, and a CAN_SEND whose frame
was on the bus at entry then has the result RESTRICTED (R69, R94, log entry 121). -/
def competeAgain (c : Nat) (e : TxEntry) (d : Dev) : Dev :=
  if pstate d = .restricted then dropBusEntry c e stRestricted d else leaveBus c d

/-- Arbitration was lost (R385, R386). -/
def lostArbitration (c : Nat) (d : Dev) : Dev :=
  match busEntry c d with
  | none => d
  | some e => if e.abort then dropBusEntry c e stAborted d else competeAgain c e d

/-- Entry to bus-off (R387). -/
def enterBusOff (c : Nat) (d : Dev) : Dev :=
  d |> updCan c (fun x => { x with busOff := true, recover := false })
    |> raise (F.CAN_STATUS.BUS_OFF_SEEN c)
    |> countF (F.CAN_COUNT.BUS_OFFS c)
    |> logEvent 0x0701 4 ⟨0, 4, c⟩ (getF (F.CAN_ERR.ERR c) d) (getF (F.CAN_ERR.DATA_ERR c) d) 0
    |> healthReport 14 c

/-- The counters took new values: PASSIVE_SEEN and bus-off (R387). -/
def countsMoved (c : Nat) (before : CanCtl) (d : Dev) : Dev :=
  let x := getCan c d
  let d := whenD (!canPassive before && canPassive x) (raise (F.CAN_STATUS.PASSIVE_SEEN c)) d
  if 255 < x.tec && !x.busOff then enterBusOff c d else d

/-- The ERR or DATA_ERR field takes an error. -/
def noteError (c err : Nat) (data : Bool) (d : Dev) : Dev := setF (if data then F.CAN_ERR.DATA_ERR c else F.CAN_ERR.ERR c) err d

/-- A transmission attempt fails with an error (R385 to R390). `eights`: how often ISO 11898-1 adds 8 to TEC, 0 where it leaves TEC unchanged: an
error-passive transmitter without dominant bit in its flag after an ACK error, or a recessive stuff bit lost in arbitration. `delay`: the transmitter delay, where
the attempt got as far as measuring it (R367). -/
def attemptFailed (c err : Nat) (data : Bool) (field : CanField) (eights : Nat) (delay : Option Nat) (d : Dev) : Dev :=
  match busEntry c d with
  | none => d
  | some e =>
    let before := getCan c d
    let exempt := err == 4 || (err == 1 && canPassive before)
    let e := { e with attempts := e.attempts + 1, lastErr := err % 8 }
    let bitErr := (err == 5 || err == 6) && field != .other
    let mine := (e.frame.id, e.frame.ide)
    let collides := bitErr && before.prevBit == some mine
    let run := if err = 1 then before.ackRun + 1 else 0
    let d := match delay with | some n => noteDelay c e.frame n d | none => d
    let d := noteError c (err % 8) data d
    let d := setBusEntry c (some e) d
    let d := updCan c (fun x => { x with
      tec := x.tec + 8 * (if exempt then eights else max 1 eights)
      prevBit := if bitErr then some mine else none
      ackRun := run }) d
    let d := countsMoved c before d
    let d := whenD (decide (16 ≤ run) && !before.alone)
      (fun d => d |> updCan c (fun x => { x with alone := true }) |> raise (F.CAN_STATUS.ALONE_SEEN c)) d
    let d := whenD collides (fun d =>
      d |> whenD (!isSet (F.CAN_STATUS.ID_COLLISION c) d)
            (fun d => d |> setF (F.CAN_COLL_ID.ID c) e.frame.id |> flag (F.CAN_COLL_ID.IDE c) e.frame.ide)
        |> raise (F.CAN_STATUS.ID_COLLISION c)
        |> logEvent 0x0702 4 ⟨0, 4, c⟩ (e.frame.id + if e.frame.ide then 2 ^ 29 else 0) 0 0) d
    let d := whenD (e.from_ == .soxaek 4 && (err == 5 || err == 6) && field == .dataCrc)
      (updSox fun s => { s with probe := s.probe.map fun p => { p with dup := true } }) d
    if e.single then dropBusEntry c e (if err = 1 then stNoAck else stRetryLimit) d
    else if e.retry != 0 && decide (e.retry < e.attempts) then dropBusEntry c e stRetryLimit d
    else if e.abort then dropBusEntry c e stAborted d
    else competeAgain c e d

/-- The controller receives the frame on the bus: it sees the bus, or it finishes a frame that ran when HALT came (R368). -/
def canReceives (c : Nat) (d : Dev) : Bool :=
  (canSees c d || (isSet (F.CAN_CFG.EN c) d && (getCan c d).haltAt.isSome)) && (getCan c d).onBus == .none

/-- An error in a frame the controller is receiving, or in an overload flag (R387): the counters rise as ISO 11898-1 gives. -/
def receiveError (c err : Nat) (data : Bool) (steps : IsoSteps) (d : Dev) : Dev :=
  if !canReceives c d then d
  else
    let before := getCan c d
    d |> noteError c (err % 8) data
      |> updCan c (fun x => { x with rec_ := x.rec_ + (if steps.one then 1 else 0) + 8 * steps.recEights, tec := x.tec + 8 * steps.tecEights })
      |> countsMoved c before |> frameOver c

/-- A protocol exception (R370). -/
def protocolException (c : Nat) (d : Dev) : Dev :=
  if !canReceives c d || isSet (F.CAN_CFG.FD_EN c) d then d
  else d |> frameOver c |> updCan c (fun x => { x with excWait := x.joined }) |> countF (F.CAN_COUNT.EXCEPTIONS c) |> raise (F.CAN_STATUS.EXC_SEEN c)

/-- RECOVER (R388). -/
def canRecover (c : Nat) (d : Dev) : Dev := if (getCan c d).busOff then updCan c (fun x => { x with recover := true }) d else d

/-- 128 occurrences of 11 recessive bits (R388); a lasting state of the CAN class acts as BO_AUTO 0 (R475). -/
def busOffRecovery (c : Nat) (d : Dev) : Dev :=
  let x := getCan c d
  if x.busOff && ((isSet (F.CAN_CFG.BO_AUTO c) d && !(getInst 14 c d).lasting) || x.recover) then
    updCan c (fun x => { x with busOff := false, recover := false, tec := 0, rec_ := 0 }) d
  else d

/-! ### Section-state summaries (R391, R392) -/

/-- The code of a section group. -/
def sectionCode (g : Nat) (mixed : Bool) (d : Dev) : Nat :=
  match d.eng.table with
  | none => 3
  | some t =>
    let os := (List.range t.outlets.length).filter fun o => (t.outlets.getD o {}).group == g
    if 255 < g || os.isEmpty then 3
    else if os.any fun o => (kget d.eng.outlets o {}).reason == 2 then 2
    else
      let open_ := os.filter fun o => (kget d.eng.outlets o {}).open_
      if open_.length = os.length || (!open_.isEmpty && mixed) then 1 else 0

/-- V of controller c. -/
def summaryV (c : Nat) (d : Dev) : Nat :=
  (List.range 16).foldl (fun v i =>
    v + 4 ^ i * sectionCode (getF (F.CAN_SUM_CFG.G_FIRST c) d + i) (isSet (F.CAN_SUM_CFG.MIXED_ON c) d) d) 0

/-- Queue a summary. -/
def queueSummary (c : Nat) (d : Dev) : Dev :=
  let v := summaryV c d
  let f : CanFrame := { id := getF (F.CAN_SUM_ID.ID c) d, ide := isSet (F.CAN_SUM_ID.IDE c) d, dlc := 8
                        data := leBytes 4 (rget (R.CAN_SUM_TPL c) d).toNat ++ leBytes 4 v }
  let e : TxEntry := { from_ := .summary v, frame := f, retry := getF (F.CAN_CFG.RETRY c) d }
  updCan c (fun x => { x with
    summary := if x.onBus == .summary then x.summary else some e
    nextSum := if x.onBus == .summary then some e else none
    lastV := some v, sumAt := some d.pt }) d

/-- Summaries may be sent by controller c. -/
def sumOn (c : Nat) (d : Dev) : Bool := isSet (F.CAN_SUM_CFG.EN c) d && isSet (F.CAN_CFG.EN c) d

/-- Every PERIOD ms a summary is queued at the cycle start that reaches the time, whatever ON_CHANGE queues between (R392). -/
def summaryPeriod (c : Nat) (d : Dev) : Dev :=
  let p := ms (getF (F.CAN_SUM_CFG.PERIOD c) d)
  let due := (getCan c d).sumDue.getD d.pt
  if sumOn c d && p != 0 && decide (due ≤ d.pt) && d.eng.cycleAt == some d.pt then
    queueSummary c (updCan c (fun x => { x with sumDue := some (if due + p ≤ d.pt then d.pt + p else due + p) }) d)
  else d

/-- A cycle start with a changed V (R392). -/
def summaryChange (c : Nat) (d : Dev) : Dev :=
  let x := getCan c d
  let quiet := match x.sumAt with | none => true | some t => decide (t + ms 10 ≤ d.pt)
  if sumOn c d && isSet (F.CAN_SUM_CFG.ON_CHANGE c) d && quiet && x.lastV != some (summaryV c d) then queueSummary c d else d

end Sys2Proof.Machine
end

