-- ==== Sys2Proof/Machine/Geometry.lean ====
section
/-! DEFINITION. The arithmetic of the pose model: sine and cosine, extrapolation (R159 to R162), points and cells (R138 to
R141, R163). Angles are integers in 2⁻⁶⁴ turn; sines are scaled by 2⁶⁰; positions by 2¹⁶ field units. -/
namespace Sys2Proof.Machine

/-- 2π scaled by 2⁶⁰. -/
def twoPi : Int := 7244019458077122842

/-- Terms of the Taylor series of sine and cosine by Horner's rule on x² scaled by 2⁶⁰: 1 − x²/(m(m+1)) (1 − …). -/
def taylor (x2 : Int) : Nat → Nat → Int
  | 0, _ => 2 ^ 60
  | n + 1, m => 2 ^ 60 - x2 * taylor x2 n (m + 2) / 2 ^ 60 / (m * (m + 1))

/-- sin x for x in [0, π/2], scaled. -/
def sinQ (x : Int) : Int := x * taylor (x * x / 2 ^ 60) 13 2 / 2 ^ 60
/-- cos x for x in [0, π/2], scaled. -/
def cosQ (x : Int) : Int := taylor (x * x / 2 ^ 60) 13 1

/-- Sine of an angle in 2⁻⁶⁴ turn, scaled by 2⁶⁰. -/
def sinA (a : Int) : Int :=
  let a := a % 2 ^ 64
  let r := a % 2 ^ 62
  let x := r * twoPi / 2 ^ 64
  match (a / 2 ^ 62).toNat with
  | 0 => sinQ x
  | 1 => cosQ x
  | 2 => -sinQ x
  | _ => -cosQ x

/-- Cosine of an angle in 2⁻⁶⁴ turn, scaled by 2⁶⁰. -/
def cosA (a : Int) : Int := sinA (a + 2 ^ 62)

/-- A position moved forward: E and N in 2⁻¹⁶ field units, heading in 2⁻⁶⁴ turn, yaw rate, and the speed at the end in field units per second
times the ticks of one second, which holds it exactly. -/
structure Ext where
  e : Int
  n : Int
  psi : Int
  v : Int
  yaw : Int
deriving DecidableEq, Repr

/-- Ticks in one second. -/
def tickHz : Int := 250000000

/-- One leg of constant a and ω over t ticks (R159, R160). -/
def leg (x : Ext) (a : Int) (t : Int) : Ext :=
  let dpsi := x.yaw * 2 ^ 32 * t / tickHz
  let psi := x.psi + dpsi
  let s0 := sinA x.psi
  let c0 := cosA x.psi
  let s1 := sinA psi
  let c1 := cosA psi
  let v1 := x.v + a * t
  -- |ω| t ≥ 2⁻⁶ rad
  if (twoPi * dpsi.natAbs / 2 ^ 64) ≥ 2 ^ 54 then
    let y := x.yaw
    let q1 := fun (v diff : Int) => v * diff * 2 ^ 48 / (tickHz * twoPi * y)
    let q2 := fun (diff : Int) => a * diff * 2 ^ 60 * 2 ^ 80 / (twoPi * twoPi * y * y)
    let q3 := fun (c : Int) => a * t * c * 2 ^ 48 / (tickHz * twoPi * y)
    { e := x.e + q1 x.v (c0 - c1) + q2 (s1 - s0) - q3 c1
      n := x.n + q1 x.v (s1 - s0) + q2 (c1 - c0) + q3 s1
      psi := psi, v := v1, yaw := x.yaw }
  else
    let f := tickHz
    let s := 2 ^ 16 * (2 * x.v * t + a * t * t) / (2 * f * f)
    let q := 2 ^ 16 * (3 * x.v * t * t + 2 * a * t * t * t) / (6 * f * f * f)
    let r := 2 ^ 16 * (4 * x.v * t * t * t + 3 * a * t * t * t * t) / (24 * f * f * f * f)
    let w := fun (z : Int) => z * x.yaw * twoPi / (2 ^ 92)
    let ww := fun (z : Int) => w (w z)
    { e := x.e + (s * s0 + w q * c0 - ww r * s0) / 2 ^ 60
      n := x.n + (s * c0 - w q * s0 - ww r * c0) / 2 ^ 60
      psi := psi, v := v1, yaw := x.yaw }

/-- The speed bound of R161, in the unit of `Ext.v`. -/
def vMax : Int := 266667 * tickHz

/-- Extrapolation of R161 over t ticks: the speed limited, the interval split where it passes a bound. -/
def extrapolate (x : Ext) (a : Int) (t : Int) : Ext :=
  let past := decide (vMax < x.v) || decide (x.v < -vMax)
  let away := (decide (0 < x.v) && decide (0 < a)) || (decide (x.v < 0) && decide (a < 0))
  let a := if past && away then 0 else a
  let x := { x with v := clampI (-vMax) vMax x.v }
  if a = 0 then { leg x 0 t with v := x.v }
  else
    let b := if 0 < a then (if x.v < 0 then 0 else vMax) else (if 0 < x.v then 0 else -vMax)
    let passes := if 0 < a then decide (b < x.v + a * t) else decide (x.v + a * t < b)
    if passes then
      let tc := (b - x.v) / a
      let m := { leg x a tc with v := b }
      let m := if b = 0 then { m with yaw := 0 } else m
      { leg m 0 (t - tc) with v := b }
    else leg x a t

/-- The deflected x of a point (R163): the polynomial in u rounded to the nearest field unit, halves away from zero. -/
def deflect (py : Int) (span : Nat) (x y : Int) (c : List Int) : Int :=
  let n : Int := min (y - py).natAbs span
  let s : Int := span
  let num := c.getD 0 0 * n * s ^ 3 + c.getD 1 0 * n ^ 2 * s ^ 2 + c.getD 2 0 * n ^ 3 * s + c.getD 3 0 * n ^ 4
  let den := s ^ 4
  let mag : Int := ((2 * num.natAbs + den.natAbs) / (2 * den.natAbs) : Nat)
  x + (if num < 0 then -mag else mag)

/-- A boom-frame point placed in the field frame, in whole field units (R139). -/
def place (x : Ext) (px py : Int) : Int × Int :=
  let s := sinA x.psi
  let c := cosA x.psi
  ((x.e + (px * s + py * c) / 2 ^ 44) / 2 ^ 16, (x.n + (px * c - py * s) / 2 ^ 44) / 2 ^ 16)

/-- The position lies in the frame (R141). -/
def inFrame (p : Int × Int) : Bool :=
  decide (-(2 ^ 31) ≤ p.1) && decide (p.1 < 2 ^ 31) && decide (-(2 ^ 31) ≤ p.2) && decide (p.2 < 2 ^ 31)

/-- The tile and the payload index of a position (R140, R171). -/
def cellOf (k : Nat) (p : Int × Int) : (Int × Int) × Nat :=
  let side : Int := 2 ^ (k + 4)
  let ce := p.1 / side
  let cn := p.2 / side
  ((ce / 64, cn / 64), (64 * (cn % 64) + ce % 64).toNat)

end Sys2Proof.Machine
end

