-- ==== Sys2Proof/Machine/LoopBlock.lean ====
section
/-! DEFINITION. The loop block (R305, R306): its fields, the number of coefficient entries and what it names. -/
namespace Sys2Proof.Machine

/-- The two's-complement value of n bytes at an offset. -/
def leSigned (bs : List Byte) (off n : Nat) : Int := signedOf (8 * n) (leAt bs off n)

/-- A coefficient entry: mantissa, then the signed shift (R305). -/
def coeffAt (bs : List Byte) (off : Nat) : Coeff := { m := leSigned bs off 4, s := leSigned bs (off + 4) 1 }

/-- A source entry of 24 bytes (R305). -/
def srcAt (bs : List Byte) (off : Nat) : SrcCfg :=
  { kind := leAt bs off 1 % 16, index := leAt bs (off + 1) 1, validLo := leAt bs (off + 2) 2 % 4096
    validHi := leAt bs (off + 4) 2 % 4096, off := leSigned bs (off + 8) 4
    gain := { m := leSigned bs (off + 12) 4, s := leSigned bs (off + 16) 1 } }

/-- An output entry (R305). -/
def outAt (bs : List Byte) (off : Nat) : OutCfg :=
  { kind := leAt bs off 1 % 4, enc := leAt bs off 1 / 4 % 4, rot := leAt bs off 1 / 16 % 8, index := leAt bs (off + 1) 1
    uMin := leSigned bs (off + 4) 4, uMax := leSigned bs (off + 8) 4, safeVal := leSigned bs (off + 12) 4
    manPreset := leSigned bs (off + 16) 4 }

/-- N_c of R306 for a law and dimensions. -/
def coeffCount (law n p q r : Nat) : Nat :=
  match law with
  | 0 => n * n + n * p + 2 * n * q + p * n + p * q + 2 * p * r
  | 2 => n * n + n * p + 2 * n * q
  | _ => 0

/-- The block that the bytes spell (R305). -/
def parseBlock (bs : List Byte) : LoopBlock :=
  let law := leAt bs 0 1 % 4
  let n := leAt bs 1 1 % 16
  let p := leAt bs 1 1 / 16 % 8
  let q := leAt bs 2 1 % 8
  let r := leAt bs 2 1 / 8 % 8
  let trig := bit (leAt bs 0 1) 2
  { law := law, trigCmp := trig, pub := bit (leAt bs 0 1) 3, ffEn := bit (leAt bs 0 1) 4, ffEnc := leAt bs 0 1 / 32 % 4
    n := n, p := p, q := q, r := r, pair := leAt bs 3 1 % 16, cmp := leAt bs 3 1 / 16 % 4
    period := if trig then leAt bs 4 1 else leAt bs 4 4
    tblCpr := leAt bs 8 4, action := leAt bs 12 1 % 4, pmEn := bit (leAt bs 12 1) 2, fzEn := bit (leAt bs 12 1) 3
    lossN := leAt bs 13 1, pmN := leAt bs 14 2, pmBand := leSigned bs 16 4, fzWin := leAt bs 20 2
    fzAct := leSigned bs 24 4, safeRate := leAt bs 28 4, bandHi := leSigned bs 32 4, bandLo := leSigned bs 36 4
    pmA := coeffAt bs 40, pmB := coeffAt bs 48, pmC := leSigned bs 56 4
    meas := (List.range q).map fun i => srcAt bs (64 + 24 * i)
    sets := (List.range r).map fun i =>
      { src := srcAt bs (160 + 32 * i), rate := leAt bs (184 + 32 * i) 4, accel := leAt bs (188 + 32 * i) 4 }
    outs := (List.range p).map fun j => outAt bs (288 + 24 * j)
    coeffs := (List.range (coeffCount law n p q r)).map fun i => coeffAt bs (384 + 8 * i) }

/-- The dimensions lie within the ranges of the law (load check 2). -/
def dimsLegal (b : LoopBlock) : Bool :=
  decide (1 ≤ b.q) && decide (b.q ≤ 4) &&
    match b.law with
    | 0 => decide (b.n ≤ 8) && decide (1 ≤ b.p) && decide (b.p ≤ 4) && decide (1 ≤ b.r) && decide (b.r ≤ b.q)
    | 1 => b.n == 0 && b.p == 1 && b.r == 1
    | 2 => decide (1 ≤ b.n) && decide (b.n ≤ 8) && b.p == 1 && b.r == 1
    | _ => false

/-- Bytes [off, off + n) are 0. -/
def zeroAt (bs : List Byte) (off n : Nat) : Bool := leAt bs off n == 0

/-- A source entry has its reserved bits 0 and a legal shift. -/
def srcClean (bs : List Byte) (off : Nat) : Bool :=
  decide (leAt bs off 1 < 16) && decide (leAt bs (off + 2) 2 < 4096) && decide (leAt bs (off + 4) 2 < 4096) &&
    zeroAt bs (off + 6) 2 && zeroAt bs (off + 17) 7

/-- A shift lies from −31 to +15 (R269). -/
def shiftLegal (c : Coeff) : Bool := decide (-31 ≤ c.s) && decide (c.s ≤ 15)

/-- Load check 6: shifts, TBL_CPR and reserved bits. -/
def blockClean (bs : List Byte) (b : LoopBlock) : Bool :=
  let entry := fun off => zeroAt bs (off + 5) 3
  let shifts := (b.pmA :: b.pmB :: (b.meas.map (·.gain) ++ b.sets.map (·.src.gain) ++ b.coeffs)).all shiftLegal
  let cpr := !b.ffEn || (decide (256 ≤ b.tblCpr) && decide (b.tblCpr < 2 ^ 31) && decide (b.ffEnc < 3))
  shifts && cpr && decide (leAt bs 0 1 < 128) && decide (leAt bs 1 1 < 128) && decide (leAt bs 2 1 < 64) &&
    decide (leAt bs 3 1 < 64) && (!b.trigCmp || zeroAt bs 5 3) && decide (leAt bs 12 1 < 16) && decide (b.action < 3) &&
    zeroAt bs 22 2 && zeroAt bs 60 4 && entry 40 && entry 48 &&
    (List.range b.q).all (fun i => srcClean bs (64 + 24 * i)) &&
    (List.range b.r).all (fun i => srcClean bs (160 + 32 * i)) &&
    (List.range b.p).all (fun j => decide (leAt bs (288 + 24 * j) 1 < 128) && zeroAt bs (290 + 24 * j) 2 &&
      zeroAt bs (308 + 24 * j) 4) &&
    (List.range b.coeffs.length).all (fun i => entry (384 + 8 * i))

/-- The pairs a block names as destinations (R285). -/
def blockPairs (b : LoopBlock) : List Nat :=
  b.outs.flatMap fun o => match o.kind with
    | 1 => [o.index]
    | 2 => [o.index, o.index + 1, o.index + 2]
    | _ => []

/-- The channels a block names as destinations. -/
def blockChans (b : LoopBlock) : List Nat := b.outs.filterMap fun o => if o.kind = 3 then some o.index else none

/-- Multiply-accumulates of a sample (R289). -/
def sampleMacs (b : LoopBlock) : Nat :=
  let nc := b.coeffs.length
  (match b.law with
    | 0 => nc + b.q + b.r + 12
    | 2 => nc + b.n + b.q + b.r + 12
    | _ => b.q + b.r + 12) + (if b.ffEn then 2 else 0)

/-- Ticks a sample occupies the lanes (R289 and the example of R267). -/
def laneTicks (b : LoopBlock) : Nat := (sampleMacs b + 7) / 8 + 16

/-- A matrix of a block: entry (i, j) of the matrix that starts after `skip` entries with `cols` columns. -/
def coeffIJ (b : LoopBlock) (skip cols i j : Nat) : Coeff := b.coeffs.getD (skip + cols * i + j) {}

/-- Where each matrix of R306 starts: A, B, C, L, K, D, F, KI. -/
def offA (_ : LoopBlock) : Nat := 0
def offB (b : LoopBlock) : Nat := b.n * b.n
def offC (b : LoopBlock) : Nat := offB b + b.n * b.p
def offL (b : LoopBlock) : Nat := offC b + b.q * b.n
def offK (b : LoopBlock) : Nat := offL b + b.n * b.q
def offD (b : LoopBlock) : Nat := offK b + b.p * b.n
def offF (b : LoopBlock) : Nat := offD b + b.p * b.q
def offKI (b : LoopBlock) : Nat := offF b + b.p * b.r

/-! ### Arithmetic (R269, R270) -/

/-- Saturation to a 32-bit signal. -/
def sat32 (x : Int) : Int := clampI (-(2 ^ 31)) (2 ^ 31 - 1) x

/-- Signal × coefficient: the exact product shifted right by 31 − s toward −∞. -/
def mulC (x : Int) (c : Coeff) : Int := x * c.m / 2 ^ (31 - c.s).toNat

/-- Row i of a matrix times a vector. -/
def dotC (b : LoopBlock) (skip cols i : Nat) (v : List Int) : Int :=
  (List.range cols).foldl (fun a j => a + mulC (v.getD j 0) (coeffIJ b skip cols i j)) 0

/-- Observer of R277: x̂ from x̂, u and the innovations. -/
def observer (b : LoopBlock) (xh u innov : List Int) : List Int :=
  (List.range b.n).map fun i =>
    sat32 (dotC b (offA b) b.n i xh + dotC b (offB b) b.p i u + dotC b (offL b) b.q i innov)

/-- y − C x̂ of R277, 0 for an invalid measurement (R280). -/
def innovation (b : LoopBlock) (xh y : List Int) (valid : List Bool) : List Int :=
  (List.range b.q).map fun i =>
    if valid.getD i false then sat32 (y.getD i 0 - dotC b (offC b) b.n i xh) else 0

end Sys2Proof.Machine
end

