-- ==== Sys2Proof/Machine/Inputs.lean ====
section
/-! DEFINITION. The inputs of a control engine: analogue conversions (R266, R316), pulse inputs (R273), encoders (R274), SPI
ports (R275) and streams (R276). -/
namespace Sys2Proof.Machine

/-! ### Conversions -/

/-- The ADC of an analogue input (R266). -/
def adcOf (ain : Nat) : Nat := ain / 8
def adcQueue (k a : Nat) (d : Dev) : List Conv := if a = 0 then (getCtl k d).adc0 else (getCtl k d).adc1
def setAdc (k a : Nat) (q : List Conv) (d : Dev) : Dev :=
  updCtl k (fun c => if a = 0 then { c with adc0 := q } else { c with adc1 := q }) d

/-- The head conversion of a queue runs. -/
def startHead (pt : Nat) : List Conv → List Conv
  | [] => []
  | c :: rest => { c with start := c.start.orElse (fun _ => some pt) } :: rest

/-- A conversion joins the queue of its ADC, behind those that wait. -/
def queueConv (k ain : Nat) (owner : Option (Nat × Nat)) (d : Dev) : Dev :=
  setAdc k (adcOf ain) (startHead (spokePt k d) (adcQueue k (adcOf ain) d ++ [{ ain := ain, owner := owner }])) d

/-! ### Pulse inputs (R273) -/

/-- The frequency a pulse input reports at PT t, in mHz. -/
def pulseFreq (k p t : Nat) (d : Dev) : Nat :=
  let es := (kget (getCtl k d).pulses p {}).edges
  match es with
  | [] => 0
  | [_] => 0
  | e0 :: e1 :: _ =>
    if ms (getF (F.ADC_PULSE_CFG.TIMEOUT k p) d) ≤ t - e0 then 0
    else
      let avg := ms (getF (F.ADC_PULSE_CFG.AVG k p) d)
      let inside := es.filter fun e => decide (t ≤ e + avg)
      let last := inside.getLast?.getD e0
      if avg = 0 || inside.length < 2 then (if e0 = e1 then 0 else 250000000000 / (e0 - e1))
      else if e0 = last then 0
      else (inside.length - 1) * 250000000000 / (e0 - last)

/-- A pulse of a width passes a glitch filter (R273). -/
def passesFilter (filter width : Nat) : Bool := filter == 0 || decide (2 ^ (filter + 2) ≤ width)

/-- An active edge of a pulse input: edges the averaging time no longer reaches are forgotten, but for two. -/
def pulseEdge (k p width : Nat) (d : Dev) : Dev :=
  if !bitOf (F.ADC_EN.PULSE k) p d || !passesFilter (getF (F.ADC_PULSE_CFG.FILTER k p) d) width then d
  else
    let t := spokePt k d
    updCtl k (fun c => { c with pulses := kupd c.pulses p {} fun x =>
      let es := t :: x.edges
      { edges := es.take 2 ++ (es.drop 2).filter fun e => decide (t ≤ e + ms 255) } }) d

/-! ### Encoders (R274) -/

def getEnc (k e : Nat) (d : Dev) : Enc := kget (getCtl k d).encs e {}
def updEnc (k e : Nat) (f : Enc → Enc) (d : Dev) : Dev :=
  updCtl k (fun c => { c with encs := kupd c.encs e {} f }) d
def isHall (k e : Nat) (d : Dev) : Bool := isSet (F.ADC_ENC_CFG.MODE k e) d

/-- The position in the forward sequence 1, 3, 2, 6, 4, 5 of a Hall code (R274, R284). -/
def hallPos (h : Nat) : Option Nat :=
  match h with
  | 1 => some 0 | 3 => some 1 | 2 => some 2 | 6 => some 3 | 4 => some 4 | 5 => some 5 | _ => none

/-- The count of an encoder at PT t, modulo 2³²: in Hall mode, interpolated inside the state. -/
def encPos (k e t : Nat) (d : Dev) : Nat :=
  let base := (rget (R.ADC_ENC_POS k e) d).toNat
  let x := getEnc k e d
  if !isHall k e d || x.prevDur = 0 then base
  else
    let part := min 63 (64 * (t - x.begun) / x.prevDur)
    if x.back != isSet (F.ADC_ENC_CFG.DIR k e) d then (base + 2 ^ 32 - part) % 2 ^ 32 else (base + part) % 2 ^ 32

/-- The speed of an encoder at PT t, in 1/16 count per second. Where fewer than two edges lie in the last 1 ms, the last two give it, as R273
says of a pulse input (DEDUCED, log entry 133). -/
def encSpeed (k e t : Nat) (d : Dev) : Int × Dev :=
  match (getEnc k e d).edges with
  | [] => (0, d)
  | (t1, c1) :: rest =>
    if ms (getF (F.ADC_ENC_CFG.TIMEOUT k e) d) ≤ t - t1 then (0, d)
    else
      let inside := rest.filter fun x => decide (t ≤ x.1 + ms 1)
      match inside.getLast?.orElse (fun _ => rest.head?) with
      | none => (0, d)
      | some (t0, c0) => if t1 = t0 then (0, d) else divFree (16 * 250000000 * (c1 - c0)) (t1 - t0) d

/-- An encoder error (R274). -/
def encError (k e lines : Nat) (d : Dev) : Dev :=
  let t := spokePt k d
  d |> updEnc k e (fun x => { x with lines := lines, seen := true, lastErr := some t, begun := t, prevDur := 0 })
    |> raise (F.ADC_ENC_STATUS.ERR k e) |> countF (F.ADC_ENC_STATUS.ERRORS k e)

/-- The count of an encoder changes by n before DIR, moving back or forward, and the edge is noted for the speed. -/
def encCount (k e : Nat) (n : Int) (back : Bool) (d : Dev) : Dev :=
  let t := spokePt k d
  let n := if isSet (F.ADC_ENC_CFG.DIR k e) d then -n else n
  let pos := toBits 32 ((rget (R.ADC_ENC_POS k e) d).toNat + n)
  d |> rput (R.ADC_ENC_POS k e) (BitVec.ofNat 32 pos)
    |> updEnc k e (fun x =>
      let c := (x.edges.head?.map (·.2)).getD 0 + n
      { x with back := back
               edges := (t, c) :: (x.edges.take 1 ++ (x.edges.drop 1).filter fun y => decide (t ≤ y.1 + ms 1)) })

/-- The place of the lines A and B in the quadrature cycle 00, 01, 11, 10 (A in bit 0). -/
def quadPos (ab : Nat) : Nat := match ab % 4 with | 0 => 0 | 1 => 1 | 3 => 2 | _ => 3

/-- An encoder line changes: the lines are now `lines` (A in bit 0 and B in bit 1, or 4W + 2V + U), after a pulse of `width`
ticks that the filter judges. Which phase order counts up in quadrature mode the specification leaves open
(Config.quadForward, log entry 1). While the input is not enabled its lines are followed and nothing is counted. -/
def encEdge (k e lines width : Nat) (d : Dev) : Dev :=
  let x := getEnc k e d
  let t := spokePt k d
  if 2 < e || !passesFilter (getF (F.ADC_ENC_CFG.FILTER k e) d) width then d
  else if !bitOf (F.ADC_EN.ENC k) e d then
    updEnc k e (fun x => { x with lines := lines % 8, seen := true, begun := t, prevDur := 0 }) d
  else if isHall k e d then
    match hallPos (lines % 8), hallPos x.lines with
    | none, _ => encError k e (lines % 8) d
    | some _, none => updEnc k e (fun x => { x with lines := lines % 8, seen := true, begun := t, prevDur := 0 }) d
    | some new, some old =>
      if new = old then d
      else if (old + 1) % 6 = new || (new + 1) % 6 = old then
        -- an edge lies at a boundary of the count: turning round meets the boundary that was passed last
        let back := (old + 1) % 6 != new
        d |> encCount k e (if back != x.back then 0 else if back then -64 else 64) back
          |> updEnc k e (fun x => { x with lines := lines % 8, prevDur := t - x.begun, begun := t })
      else encError k e (lines % 8) d
  else
    let new := quadPos lines
    let old := quadPos x.lines
    let fwd : Int := if Config.quadForward then 1 else -1
    let d2 := updEnc k e (fun x => { x with lines := lines % 8, seen := true }) d
    if new = old then d2
    else if (old + 1) % 4 = new then encCount k e fwd false d2
    else if (new + 1) % 4 = old then encCount k e (-fwd) true d2
    else encError k e (lines % 8) d2

/-- An encoder is in error at PT t, looking back `span` ticks (R271, R284, R288). -/
def encBad (k e t span : Nat) (d : Dev) : Bool :=
  let x := getEnc k e d
  (match x.lastErr with
    | some u => decide (t ≤ u + span)
    | none => false) || (isHall k e d && x.seen && (hallPos x.lines).isNone)

/-! ### SPI ports (R275) -/

def getSpi (k p : Nat) (d : Dev) : Spi := kget (getCtl k d).spis p {}
def updSpi (k p : Nat) (f : Spi → Spi) (d : Dev) : Dev :=
  updCtl k (fun c => { c with spis := kupd c.spis p {} f }) d
def spiPeriod (k p : Nat) (d : Dev) : Nat := us (getF (F.ADC_SPI_CFG.POLL k p) d)

/-- CRC-8 of R275: polynomial 0x1D, initial value 0xFF, most significant bit first. -/
def crc8 (bs : List Byte) : Nat :=
  bs.foldl (fun c b => (List.range 8).foldl (fun c _ => crcStep 8 0x1D c) (c ^^^ b.toNat)) 0xFF

/-- The bytes a port sends. -/
def spiTx (k p : Nat) (d : Dev) : List Byte :=
  ((List.range 4).flatMap fun i => leBytes 4 (rget (R.ADC_SPI_TX k p i) d).toNat).take (getF (F.ADC_SPI_CFG.LEN k p) d)

/-- The polling period of a port elapses: its frame is sent. -/
def spiPoll (k p : Nat) (d : Dev) : Dev :=
  let t := spokePt k d
  let due := match (getSpi k p d).lastPoll with
    | some u => decide (u + spiPeriod k p d ≤ t)
    | none => true
  if !bitOf (F.ADC_EN.SPI k) p d || !due then d
  else d |> updSpi k p (fun x => { x with lastPoll := some t, busy := true }) |> emit (.spiFrame k p (spiTx k p d))

/-- A port's frame completes with the bytes received. -/
def spiDone (k p : Nat) (bytes : List Byte) (d : Dev) : Dev :=
  let len := getF (F.ADC_SPI_CFG.LEN k p) d
  if !(getSpi k p d).busy || bytes.length ≠ len then d
  else
    let d := updSpi k p (fun x => { x with busy := false }) d
    let ok := !isSet (F.ADC_SPI_CFG.CRC_EN k p) d || crc8 (bytes.take (len - 1)) == leAt bytes (len - 1) 1
    if !ok then d |> raise (F.ADC_SPI_STATUS.CRC_ERR k p) |> countF (F.ADC_SPI_STATUS.ERRORS k p)
    else
      let map := getF (F.ADC_SPI_MAP.OFF k p) d
      let word := fun w =>
        let o := map / 16 ^ w % 16
        signedOf 16 (256 * leAt bytes o 1 + leAt bytes (o + 1) 1) * 2 ^ 16
      let t := spokePt k d
      updSpi k p (fun x => { x with validAt := some t, words := (List.range 4).map word }) d

/-- The source of a port is valid (R271, ADC_SPI_STATUS.VALID). -/
def spiValid (k p t : Nat) (d : Dev) : Bool :=
  match (getSpi k p d).validAt with
  | some u => decide (t ≤ u + 3 * spiPeriod k p d)
  | none => false

/-! ### ADC_EN -/

/-- The sources the loaded loops of a spoke use. -/
def usedSources (k : Nat) (d : Dev) : List SrcCfg :=
  (getCtl k d).loops.flatMap fun e => match e.2.block with
    | some b => b.meas ++ b.sets.map (·.src)
    | none => []

/-- The ADC_EN bit a source needs. -/
def enableBit (s : SrcCfg) : Option Nat :=
  match s.kind with
  | 1 => some s.index
  | 2 => some (16 + s.index)
  | 3 | 4 => some (24 + s.index)
  | 5 => some (27 + s.index / 4)
  | _ => none

/-- A write of ADC_EN: an enable a loaded loop needs stays set. -/
def writeAdcEn (k : Nat) (v : Word) (d : Dev) : Dev :=
  let r := R.ADC_EN k
  let keep := (usedSources k d).filterMap enableBit
  let n := keep.foldl (fun n b => if (rget r d).toNat.testBit b then putBit n b true else n) (v.toNat % 2 ^ 29)
  rput r (BitVec.ofNat 32 n) d

end Sys2Proof.Machine
end

