-- ==== Sys2Proof/Machine/Pwm.lean ====
section
/-! DEFINITION. PWM pairs (R307 to R330): period grid, windows, dead time, output states, trips and latches. Instants inside
a tick are counted in fine units of 125 ps, 32 to a tick. -/
namespace Sys2Proof.Machine

/-! ### Grid and limits -/

/-- Ticks of one count (R307). -/
def countTicks (k p : Nat) (d : Dev) : Nat := 2 ^ getF (F.PWM_CFG.PRESC k p) d
/-- Counts of one period (R307). -/
def periodCounts (k p : Nat) (d : Dev) : Nat :=
  getF (F.PWM_PER.PER k p) d * (if isSet (F.PWM_CFG.MODE k p) d then 2 else 1)
/-- T_tk (R307). -/
def periodTicks (k p : Nat) (d : Dev) : Nat := periodCounts k p d * countTicks k p d
/-- T in fine units. -/
def periodFine (k p : Nat) (d : Dev) : Nat := 32 * periodTicks k p d

/-- D_eff of R319 for given words of PWM_DT and PWM_ADT. -/
def deadMax (adaptive : Bool) (dt adt : Word) : Nat := if adaptive then wordField adt 16 14 else wordField dt 0 14
/-- R319 for a word of PWM_ADT. -/
def adtLegal (adt : Word) : Bool :=
  decide (wordField adt 0 14 ≤ wordField adt 16 14) && decide (wordField adt 16 14 ≤ 16000)
/-- R320. -/
def periodLegal (tk dEff minPulse : Nat) : Bool := decide (2 * (dEff + minPulse) ≤ 32 * tk)

/-- The dead time in force of a pair (R319), from the words taken at the period start. -/
def pairDead (k p : Nat) (d : Dev) : Nat :=
  let x := getPair k p d
  deadMax (isSet (F.PWM_CFG.DT_MODE k p) d) x.dtReg x.adtReg
def pairMinPulse (k p : Nat) (d : Dev) : Nat := wordField (getPair k p d).pulseReg 0 14

/-! ### Windows (R311, R312, R321) -/

/-- W of R311 for a requested output. -/
def requestW (k p : Nat) (u : Int) (d : Dev) : Nat :=
  let v := u.toNat
  if getF (F.PWM_CFG.PRESC k p) d = 0 then v * 32 * periodTicks k p d / 2 ^ 31
  else 32 * countTicks k p d * (v * periodCounts k p d / 2 ^ 31)

/-- The window the pair issues for W (R321), and the flag of the row: 1 NARROW_H, 2 NARROW_L. -/
def issuedW (t dEff minPulse : Nat) (stretch : Bool) (w : Nat) : Nat × Nat :=
  if w = 0 then (0, 0)
  else if w < dEff + minPulse then (if stretch then dEff + minPulse else 0, 1)
  else if w = t then (t, 0)
  else if t - w < dEff + minPulse then (if stretch then t - (dEff + minPulse) else t, 2)
  else (w, 0)

/-- The edges of R's window from the period start (R312): rise and fall in fine units. -/
def windowEdges (centre : Bool) (t w : Nat) : Nat × Nat :=
  if centre then (t / 2 - (w + 1) / 2, t / 2 + w / 2) else (0, w)

/-- The window in force of a pair, and its flag. -/
def pairWindow (k p : Nat) (d : Dev) : Nat × Nat :=
  let t := periodFine k p d
  let w := match (getPair k p d).active with
    | .duty u => min t (requestW k p u d)
    | _ => 0
  issuedW t (pairDead k p d) (pairMinPulse k p d) (isSet (F.PWM_CFG.NARROW k p) d) w

/-! ### Output states (R323, R324) -/

/-- SPWM is powered while any pair of the spoke is enabled. -/
def spwmOn (k : Nat) (d : Dev) : Bool := (List.range 12).any fun p => isSet (F.PWM_CFG.EN k p) d

/-- The row of the output-state table in force (R323). -/
def pairRow (k p : Nat) (d : Dev) : Nat :=
  let x := getPair k p d
  if !armHigh d then 1
  else if isSet (F.PWM_STATUS.LATCHED k p) d then 2
  else if x.suppress then 3
  else if (getLink k d).spokeOff || !isSet (F.DRV_STATUS.DRIVE_EN k) d || !isSet (F.PWM_CFG.EN k p) d ||
      x.claim.isNone || !x.started || x.active = .idle then 4
  else if x.active = .float then 5
  else 6

/-- PWM_STATUS.STATE: the row, 0 while SPWM is unpowered. -/
def pairState (k p : Nat) (d : Dev) : Nat := if spwmOn k d then pairRow k p d else 0

/-- The two switches of a pair (R323): on or off. In row 6 they are where the waveform has put them. -/
def pairOut (k p : Nat) (d : Dev) : Bool × Bool :=
  let x := getPair k p d
  match pairRow k p d with
  | 4 => (isSet (F.PWM_CFG.IDLE_H k p) d, isSet (F.PWM_CFG.IDLE_L k p) d)
  | 6 => (x.high, x.low)
  | _ => (false, false)

/-- The ball levels of a pair (R324): the polarity applied; pulled down while the spoke lacks VIO or VCORE_S (R514). -/
def pairBalls (k p : Nat) (d : Dev) : Bool × Bool :=
  let o := pairOut k p d
  if d.pwr.lowSpokes.contains k then (false, false)
  else (o.1 != isSet (F.PWM_CFG.POL_H k p) d, o.2 != isSet (F.PWM_CFG.POL_L k p) d)

/-- A pair whose row is not 6 leaves its waveform: its switches take the row's levels and its dead time is void. -/
def settlePair (k p : Nat) (d : Dev) : Dev :=
  if pairRow k p d = 6 then d
  else
    let o := pairOut k p d
    updPair k p (fun x => { x with
      following := false, dt := none, high := o.1, low := o.2, refreshing := false, refreshDue := false
      highSince := if o.1 then x.highSince.orElse (fun _ => some (spokePt k d)) else none }) d

/-- Settle every pair of a spoke after something that can change rows. -/
def settlePairs (k : Nat) (d : Dev) : Dev :=
  eachD (List.range 12) (fun p d => if getPair k p d = {} then d else settlePair k p d) d

/-! ### Edges and dead time (R317, R318, R326) -/

/-- Turn one switch of a pair on or off. -/
def setSwitch (high on : Bool) (pt : Nat) (x : Pair) : Pair :=
  if high then
    { x with high := on, highSince := if on then x.highSince.orElse (fun _ => some pt) else none
             refreshDue := x.refreshDue && on }
  else { x with low := on, lowOn := x.lowOn || on }

/-- An edge of R at fine instant f: the switch that R no longer wants goes off and the dead time of the other begins. A pair
that does not follow its waveform only notes R. A low output that has had its turn in this period stays off (R314). -/
def refEdge (k p : Nat) (toHigh : Bool) (f : Nat) (d : Dev) : Dev :=
  let x := getPair k p d
  let pt := spokePt k d
  if x.refHigh = toHigh then d
  else if !x.following then updPair k p (fun x => { x with refHigh := toHigh }) d
  else
    let fixed := !isSet (F.PWM_CFG.DT_MODE k p) d
    let on := if fixed then some (f + pairDead k p d) else none
    updPair k p (fun x =>
      { setSwitch (!toHigh) false pt x with
        refHigh := toHigh, dt := if x.noLow && !toHigh then none else some { high := toHigh, off := f, on := on } }) d

/-- The switch R wants, where it is off and no dead time leads to it, turns on after the dead time (R317, R318). -/
def wantSwitch (k p : Nat) (f : Nat) (d : Dev) : Dev :=
  let x := getPair k p d
  if !x.following || x.dt.isSome || (if x.refHigh then x.high else x.low) then d
  else
    let on := if isSet (F.PWM_CFG.DT_MODE k p) d then none else some (f + pairDead k p d)
    updPair k p (fun x => { x with dt := some { high := x.refHigh, off := f, on := on } }) d

/-- Begin to follow the waveform at an update point (R324): a switch R wants and that is off turns on after the dead time. -/
def beginFollow (k p : Nat) (f : Nat) (d : Dev) : Dev :=
  let x := getPair k p d
  if x.following || x.hold || pairRow k p d ≠ 6 then d
  else
    d |> updPair k p (fun x => { setSwitch (!x.refHigh) false (spokePt k d) x with following := true, dt := none }) |> wantSwitch k p f

/-- A refresh has been made (R322): one that the window's end overtakes goes over into the low pulse that follows, and counts. -/
def refreshDone (k p : Nat) (d : Dev) : Dev := d |> updPair k p (fun x => { x with refreshing := false }) |> countF (F.PWM_COUNT.REFRESHES k p)

/-- The window ends while a refresh runs (R322): the low output is on, or goes on after the dead time. -/
def refreshOver (k p : Nat) (f : Nat) (d : Dev) : Dev := d |> refEdge k p false f |> refreshDone k p

/-- The switch a dead time leads to turns on (R317, R318, R322). -/
def deadEnd (k p : Nat) (t : Nat) (d : Dev) : Dev :=
  let x := getPair k p d
  match x.dt with
  | none => d
  | some z =>
    let pt := spokePt k d
    let d := updPair k p (fun x => { setSwitch z.high true pt x with dt := none }) d
    if !x.refreshing then d
    else if z.high then refreshDone k p d
    else
      updPair k p (fun x => { x with riseAt := some (t + wordField x.pulseReg 16 14) }) d

/-! ### Trips (R325 to R329) -/

/-- A selected trip input of a pair is active. -/
def tripActive (k p : Nat) (d : Dev) : Bool :=
  getF (F.PWM_CFG.TRIP_SEL k p) d &&& getF (F.PWM_TRIP_STATUS.LEVEL k) d != 0

/-- The pair latches (R328): the record, the health unit's PWM trip class and its CLASS_LASTING record (R473). -/
def latchPair (k p : Nat) (d : Dev) : Dev :=
  let i := 12 * (k - 1) + p
  let ev := (getInst 6 i d).events
  d |> raise (F.PWM_STATUS.LATCHED k p) |> raise (F.PWM_STATUS.LATCH_SEEN k p)
    |> logEvent 0x0502 5 ⟨k, 13, p⟩ (getF (F.PWM_COUNT.TRIPS k p) d) 0 0
    |> logEvent 0x0901 5 ⟨0, 7, 6⟩ 6 i ev |> raise F.HLT_STATUS.LASTING_SEEN

/-- A period of a pair starts in this tick and has not been taken (R36, R308). -/
def startDue (k p : Nat) (d : Dev) : Option Nat :=
  let t := periodTicks k p d
  let x := getPair k p d
  match gridReached t (getF (F.PWM_PHASE.PHASE k p) d % max 1 t) (spokePt k d) with
  | none => none
  | some pt => if x.started && decide (pt ≤ x.perStart) then none else some pt

/-- The first active tick of a trip period (R327), the time before the counter starts being one (log entry 66). One that falls on the tick of a period start belongs to the new period (R325), which
counts it. -/
def countTrip (k p : Nat) (d : Dev) : Dev :=
  let x := getPair k p d
  if (startDue k p d).isSome || x.tripPer || !isSet (F.PWM_CFG.EN k p) d || isSet (F.PWM_STATUS.LATCHED k p) d then d
  else
    let d := d |> updPair k p (fun x => { x with tripPer := true, cleanRun := 0 })
      |> countF (F.PWM_COUNT.TRIPS k p) |> raise (F.PWM_STATUS.TRIPPED k p)
      |> countF (F.PWM_STATUS.TRIP_CNT k p)
      |> updInst 6 (12 * (k - 1) + p) (fun i => { i with events := satAdd 0xFFFF i.events 1 })
    if getF (F.PWM_TRIP_LIM.TRIP_N k p) d ≤ getF (F.PWM_STATUS.TRIP_CNT k p) d then latchPair k p d else d

/-- A trip acts on one pair: both outputs off until a clean period start, and the trip period counts. -/
def tripPair (k p : Nat) (d : Dev) : Dev :=
  d |> updPair k p (fun x => { x with suppress := true }) |> countTrip k p |> settlePair k p

/-- Trip input i of a spoke takes a level after its filter (R325). -/
def tripLevel (k i : Nat) (level : Bool) (d : Dev) : Dev :=
  let was := bitOf (F.PWM_TRIP_STATUS.LEVEL k) i d
  let d := bitF (F.PWM_TRIP_STATUS.LEVEL k) i level d
  if level && !was then
    eachD (List.range 12) (fun p d => if bitOf (F.PWM_CFG.TRIP_SEL k p) i d then tripPair k p d else d)
      (bitF (F.PWM_TRIP_STATUS.SEEN k) i true d)
  else d

/-- FILT of a trip input in ticks, 0 for the unfiltered path (R325). -/
def tripFilter (k i : Nat) (d : Dev) : Nat := (rget (R.PWM_TRIP_CFG k) d).toNat / 256 ^ i % 128

/-- The ball of trip input i becomes active or inactive (R325): with FILT above 0 it acts once it has been active for FILT ticks. -/
def tripInput (k i : Nat) (level : Bool) (d : Dev) : Dev :=
  if !level then tripLevel k i false (updCtl k (fun c => { c with tripIn := kdel c.tripIn i }) d)
  else if tripFilter k i d = 0 then tripLevel k i true d
  else if kget (getCtl k d).tripIn i 0 != 0 || bitOf (F.PWM_TRIP_STATUS.LEVEL k) i d then d
  else updCtl k (fun c => { c with tripIn := kput c.tripIn i (spokePt k d + 1) 0 }) d

/-- The trip inputs of a spoke whose filter has judged them active long enough. -/
def settleTrips (k : Nat) (d : Dev) : Dev :=
  let due := (getCtl k d).tripIn.filter fun e => decide (e.2 + tripFilter k e.1 d ≤ spokePt k d + 1)
  eachD due (fun e d => d |> updCtl k (fun c => { c with tripIn := kdel c.tripIn e.1 }) |> tripLevel k e.1 true) d

/-- A write of CLEAR (R329): the pair follows its waveform from the next period start. -/
def clearPair (k p : Nat) (d : Dev) : Dev :=
  if !isSet (F.PWM_STATUS.LATCHED k p) d then d
  else if tripActive k p d then raise (F.PWM_STATUS.CLEAR_REFUSED k p) d
  else
    d |> lower (F.PWM_STATUS.TRIP_CNT k p) |> lower (F.PWM_STATUS.LATCHED k p)
      |> updPair k p (fun x => { x with cleanRun := 0, hold := true })
      |> clearInst 6 (12 * (k - 1) + p) |> settlePair k p

/-! ### Periods (R308, R313, R314, R322) -/

/-- The words a pair takes at a period start. -/
def takeWords (k p : Nat) (d : Dev) : Dev :=
  updPair k p (fun x => { x with
    cmps := (List.range 4).map fun i => rget (R.PWM_CMP k p i) d
    dtReg := rget (R.PWM_DT k p) d, adtReg := rget (R.PWM_ADT k p) d
    senseReg := rget (R.PWM_SENSE k p) d, pulseReg := rget (R.PWM_PULSE k p) d }) d

/-- The clean run of the period that ended (R327). -/
def cleanPeriod (k p : Nat) (d : Dev) : Dev :=
  let x := getPair k p d
  if !x.started || x.tripPer || isSet (F.PWM_STATUS.LATCHED k p) d then d
  else
    let run := x.cleanRun + 1
    if run < getF (F.PWM_TRIP_LIM.TRIP_M k p) d then updPair k p (fun x => { x with cleanRun := run }) d
    else
      d |> updPair k p (fun x => { x with cleanRun := 0 })
        |> setF (F.PWM_STATUS.TRIP_CNT k p) (getF (F.PWM_STATUS.TRIP_CNT k p) d - 1)

/-- The flag of the extremes row that applies while the waveform is in force (R321). -/
def narrowFlags (k p row : Nat) (d : Dev) : Dev :=
  d |> whenD (pairRow k p d == 6 && row == 1) (raise (F.PWM_STATUS.NARROW_H k p))
    |> whenD (pairRow k p d == 6 && row == 2) (raise (F.PWM_STATUS.NARROW_L k p))

/-- A period of a pair starts, at the first tick at which PT reaches a grid instant (R36, R308). With EN 0 it ends the suppression by a trip
alone (R325). -/
def periodStart (k p : Nat) (d : Dev) : Dev :=
  let t := periodTicks k p d
  let x := getPair k p d
  match startDue k p d with
  | none => d
  | some pt =>
  if !isSet (F.PWM_CFG.EN k p) d then
    (if x.suppress && !tripActive k p d then settlePair k p (updPair k p (fun x => { x with suppress := false }) d) else d)
  else
    let due := x.refreshDue || (match x.highSince with
      | some h => decide (0 < getF (F.PWM_REFRESH.REFRESH_INT k p) d) &&
          decide (h + us (getF (F.PWM_REFRESH.REFRESH_INT k p) d) ≤ pt)
      | none => false)
    let d := d |> cleanPeriod k p |> takeWords k p
      |> updPair k p (fun x => { x with started := true, perStart := pt, tripPer := false, active := x.shadow
                                        suppress := false, hold := false, lowOn := false, noLow := false })
    let d := if tripActive k p d then tripPair k p d else d
    let win := pairWindow k p d
    let e := windowEdges (isSet (F.PWM_CFG.MODE k p) d) (32 * t) win.1
    let base := 32 * pt
    let d := narrowFlags k p win.2 d
    let atStart := decide (0 < win.1) && e.1 == 0
    let fall := if win.1 = 0 || win.1 = 32 * t then none else some (base + e.2)
    -- a refresh that outlasts the period goes on inside a window that goes on
    if x.refreshing && pairRow k p d = 6 && atStart then updPair k p (fun x => { x with fallAt := fall }) d
    else
      let d := whenD (x.refreshing && pairRow k p d == 6) (refreshOver k p base) d
      let refresh := due && atStart && x.following && pairRow k p d == 6
      let d := if (getPair k p d).following then refEdge k p (atStart && !refresh) base d
        else beginFollow k p base (updPair k p (fun x => { x with refHigh := atStart }) d)
      updPair k p (fun x => { x with
        refreshing := refresh, refreshDue := false
        riseAt := if atStart || win.1 = 0 then none else some (base + e.1), fallAt := fall }) d |> wantSwitch k p base |> settlePair k p

/-- The edges of the new window that have passed at the update point `now`, of a pair that follows its waveform (R314): a fall that has passed
occurs now; with a rise that has passed while its window goes on the low output goes off now, not to turn on twice in the period, and the
high output goes on after the dead time only where its place still lies ahead; a high output that waits in a dead time whose length is known
takes its new place (log entry 134). -/
def passedEdges (k p now rise fall : Nat) (some_ : Bool) (d : Dev) : Dev :=
  let x := getPair k p d
  let dead := pairDead k p d
  if x.refreshing then d
  else if x.refHigh then
    if !some_ || fall ≤ now then refEdge k p false now d
    else match x.dt with
      | some z => (match z.on with
        | some f => if z.high && decide (now < f) then updPair k p (fun x => { x with dt := some { z with on := some (max rise z.off + (f - z.off)) } }) d else d
        | none => d)
      | none => d
  else if some_ && decide (rise ≤ now) && decide (now < fall) then
    let d := d |> updPair k p (fun x => { x with noLow := x.lowOn }) |> refEdge k p true now
    if rise + dead ≤ now then updPair k p (fun x => { x with dt := none }) d else d
  else d

/-- The mid-period update point of a pair with UPD 1 (R313, R314). -/
def midUpdate (k p : Nat) (d : Dev) : Dev :=
  let pt := spokePt k d
  let t := periodTicks k p d
  let x := getPair k p d
  if !isSet (F.PWM_CFG.EN k p) d || !isSet (F.PWM_CFG.UPD k p) d || !x.started || pt < x.perStart + t / 2 || x.perStart + t / 2 + 1 < pt then d
  else
    let now := 32 * x.perStart + 16 * t
    let d := updPair k p (fun x => { x with active := x.shadow }) d
    let win := pairWindow k p d
    let e := windowEdges (isSet (F.PWM_CFG.MODE k p) d) (32 * t) win.1
    let base := 32 * x.perStart
    let rise := base + e.1
    let fall := base + e.2
    let inside := decide (0 < win.1) && decide (rise ≤ now) && decide (now < fall)
    let gone := decide (win.1 = 0) || decide (fall ≤ now)
    let d := d |> narrowFlags k p win.2 |> whenD (x.refreshing && gone) (refreshOver k p now)
    let d := if (getPair k p d).following then passedEdges k p now rise fall (0 < win.1) d
      else beginFollow k p now (updPair k p (fun x => { x with refHigh := inside }) d)
    updPair k p (fun y => { y with
      riseAt := if x.refreshing && !gone then y.riseAt else if win.1 = 0 || rise ≤ now then none else some rise
      fallAt := if win.1 = 0 || win.1 = 32 * t || fall ≤ now then none else some fall }) d |> settlePair k p

/-- The next edge of the reference waveform is reached (R312). -/
def edgeReached (k p : Nat) (d : Dev) : Dev :=
  let pt := spokePt k d
  let x := getPair k p d
  let due := fun (t : Option Nat) => match t with
    | some f => decide (f / 32 ≤ pt)
    | none => false
  let overtaken := x.refreshing && due x.fallAt
  let riseFirst := match x.riseAt, x.fallAt with
    | some r, some f => decide (r < f)
    | some _, none => true
    | none, _ => false
  if overtaken then refreshOver k p (x.fallAt.getD 0) (updPair k p (fun x => { x with riseAt := none, fallAt := none }) d)
  else if riseFirst && due x.riseAt then
    refEdge k p true (x.riseAt.getD 0) (updPair k p (fun x => { x with riseAt := none }) d)
  else if due x.fallAt && !riseFirst then
    refEdge k p false (x.fallAt.getD 0) (updPair k p (fun x => { x with fallAt := none }) d)
  else d

/-! ### Writes (R309, R319, R320, R322, R324) -/

/-- A write of PWM_CFG by software (R309, R320, R324). -/
def writePwmCfg (k p : Nat) (v : Word) (d : Dev) : Dev :=
  let r := R.PWM_CFG k p
  let new := BitVec.ofNat 32 (v.toNat % 65536)
  let locked := raise (F.PWM_STATUS.CFG_LOCKED k p)
  if isSet (F.PWM_CFG.EN k p) d then
    if v.toNat % 2 = 1 then d
    else if (getPair k p d).claim.isSome then locked d
    else
      -- EN 0: the counter stops
      d |> lower (F.PWM_CFG.EN k p)
        |> updPair k p (fun x => { x with started := false, tripPer := false, riseAt := none, fallAt := none })
        |> settlePair k p
  else if (v.toNat / 1024) % 4 = 3 then d
  else
    let d2 := rput r new d
    let adaptive := isSet (F.PWM_CFG.DT_MODE k p) d2
    let dEff := deadMax adaptive (rget (R.PWM_DT k p) d) (rget (R.PWM_ADT k p) d)
    if periodLegal (periodTicks k p d2) dEff (getF (F.PWM_PULSE.MIN_PULSE k p) d) then
      d2 |> settlePair k p |> whenD (isSet (F.PWM_CFG.EN k p) d2 && tripActive k p d2) (tripPair k p)
    else locked d

/-- A write of PWM_PER (R309, R320): 0 and 1 leave the field unchanged. -/
def writePwmPer (k p : Nat) (v : Word) (d : Dev) : Dev :=
  let per := v.toNat % 65536
  if isSet (F.PWM_CFG.EN k p) d then raise (F.PWM_STATUS.CFG_LOCKED k p) d
  else if per < 2 then d
  else
    let d2 := setF (F.PWM_PER.PER k p) per d
    let dEff := deadMax (isSet (F.PWM_CFG.DT_MODE k p) d) (rget (R.PWM_DT k p) d) (rget (R.PWM_ADT k p) d)
    if periodLegal (periodTicks k p d2) dEff (getF (F.PWM_PULSE.MIN_PULSE k p) d) then d2
    else raise (F.PWM_STATUS.CFG_LOCKED k p) d

/-- A write of PWM_PHASE (R309). -/
def writePwmPhase (k p : Nat) (v : Word) (d : Dev) : Dev :=
  if isSet (F.PWM_CFG.EN k p) d then raise (F.PWM_STATUS.CFG_LOCKED k p) d
  else setF (F.PWM_PHASE.PHASE k p) v.toNat d

/-- A write of PWM_DT, PWM_ADT, PWM_SENSE or PWM_PULSE that would leave the given words (R319, R320, R322): one that breaks a
limit leaves the register unchanged, and one that breaks R320 sets CFG_LOCKED. -/
def writePwmTimes (k p : Nat) (dt adt sense pulse : Word) (d : Dev) : Dev :=
  let legal := decide (wordField dt 0 14 ≤ 16000) && adtLegal adt && decide (wordField sense 0 10 ≤ 1000) &&
    decide (wordField pulse 0 14 ≤ wordField pulse 16 14) && decide (wordField pulse 16 14 ≤ 16000)
  let dEff := deadMax (isSet (F.PWM_CFG.DT_MODE k p) d) dt adt
  if !legal then d
  else if !periodLegal (periodTicks k p d) dEff (wordField pulse 0 14) then raise (F.PWM_STATUS.CFG_LOCKED k p) d
  else d |> rput (R.PWM_DT k p) dt |> rput (R.PWM_ADT k p) adt |> rput (R.PWM_SENSE k p) sense
    |> rput (R.PWM_PULSE k p) pulse

end Sys2Proof.Machine
end

