-- ==== Sys2Proof/Machine/Loops.lean ====
section
/-! DEFINITION. The control loops of a spoke (R264 to R304): claims, loads, samples, laws, shaping, supervision, modes. -/
namespace Sys2Proof.Machine

def loopMode (k l : Nat) (d : Dev) : Nat := getF (F.CTL_LOOP_STATUS.MODE k l) d
def setMode (k l m : Nat) (d : Dev) : Dev := setF (F.CTL_LOOP_STATUS.MODE k l) m d
def loopBlock (k l : Nat) (d : Dev) : Option LoopBlock := (getLoop k l d).block
/-- The loop is sampled (R264). -/
def isSampled (k l : Nat) (d : Dev) : Bool := (loopBlock k l d).isSome && loopMode k l d != 0
/-- The instance of the control-loop class (R474). -/
def loopInst (k l : Nat) : Nat := 24 * (k - 1) + l
/-- The class is lasting for this loop, so it stays FAULTED (R475). -/
def loopHeld (k l : Nat) (d : Dev) : Bool := (getInst 8 (loopInst k l) d).lasting
/-- Some destination of a block is not NONE. -/
def drives (b : LoopBlock) : Bool := b.outs.any fun o => o.kind != 0

/-- The answer to a LOOP command travels to the hub (R294). -/
def answerLoop (k ring index status detail : Nat) (d : Dev) : Dev :=
  linkSend k .spoke (.data (.loopDone ring index status detail)) d

/-! ### Destinations (R283 to R286) -/

/-- End the regulation of a loop-owned channel. -/
def endRegulation (k n : Nat) (d : Dev) : Dev := if (getChan k n d).phase = .regulation then regulationOff k n false d else d

/-- Ask a claimed pair for something: the shadow takes it, and an idle request acts at once. -/
def askPair (k p : Nat) (r : PairReq) (d : Dev) : Dev :=
  updPair k p (fun x => { x with shadow := r, active := if r = .idle then .idle else x.active }) d |> settlePair k p

/-- What sector σ asks of the three pairs of a COMM output (R284): the switching pair, the pair held low, the floating one. -/
def sectorPairs (s : Nat) : Nat × Nat × Nat :=
  match s % 6 with
  | 0 => (0, 1, 2) | 1 => (0, 2, 1) | 2 => (1, 2, 0) | 3 => (1, 0, 2) | 4 => (2, 0, 1) | _ => (2, 1, 0)

/-- The sector of a COMM output for a Hall position (R284). -/
def commSector (pos rot : Nat) (u : Int) : Nat := if u < 0 then (pos + rot + 3) % 6 else (pos + rot) % 6

/-- An output reaches its destination, or not while the spoke's drive is disabled (R285). -/
def driveOutput (k l : Nat) (o : OutCfg) (u : Int) (d : Dev) : Dev :=
  let on := isSet (F.DRV_STATUS.DRIVE_EN k) d && !(getLink k d).spokeOff
  match o.kind with
  | 1 => askPair k o.index (if on then .duty u else .idle) d
  | 2 =>
    let x := getLoop k l d
    let span := match x.lastTrig with
      | some t => spokePt k d - t
      | none => 0
    let pos := hallPos (getEnc k o.enc d).lines
    let bad := encBad k o.enc (spokePt k d) span d
    let ask := fun (i : Nat) (r : PairReq) => askPair k (o.index + i) (if on then r else .idle)
    match pos with
    | some s =>
      if bad then d |> ask 0 .float |> ask 1 .float |> ask 2 .float
      else
        let q := sectorPairs (commSector s o.rot u)
        d |> ask q.1 (.duty (if u < 0 then -u else u)) |> ask q.2.1 (.duty 0) |> ask q.2.2 .float
    | none => d |> ask 0 .float |> ask 1 .float |> ask 2 .float
  | 3 =>
    let n := o.index
    if on && mayOpen k n d && (getChan k n d).phase ≠ .off then
      let fs := getF (F.DRV_TPL_PROP.FS_I k (tplOf k n d)) d
      let d := if (getChan k n d).phase = .regulation then d
        else startRegulation k n (spokePt k d) false d |> updChan k n (fun c => { c with opening := none })
      let (v, d) := divFree (10 * fs * u.toNat) (2 ^ 31) d
      updChan k n (fun c => { c with loopSet := v.toNat }) d
    else if on then d
    else endRegulation k n d
  | _ => d

/-- Write every output of a loop to its destination. -/
def driveOutputs (k l : Nat) (d : Dev) : Dev :=
  match loopBlock k l d with
  | none => d
  | some b => eachD (List.range b.p) (fun j d => driveOutput k l (b.outs.getD j {}) ((getLoop k l d).u.getD j 0) d) d

/-- Release the destinations of a loop (R294): pairs idle, channel regulation ended. -/
def releaseOutputs (k : Nat) (b : LoopBlock) (d : Dev) : Dev :=
  eachD (blockChans b) (endRegulation k) (eachD (blockPairs b) (fun p => askPair k p .idle) d)

/-- Claim a pair or a channel for a loop (R285). -/
def claimPair (k l p : Nat) (d : Dev) : Dev := updPair k p (fun x => { x with claim := some l }) d
def claimChan (k n : Nat) (d : Dev) : Dev := resetRise k n (setF (F.DRV_CH_CFG.OWNER k n) 2 d)
/-- Give up a pair or a channel (R296): released, then owned by none. -/
def freePair (k p : Nat) (d : Dev) : Dev := d |> askPair k p .idle |> updPair k p (fun x => { x with claim := none }) |> settlePair k p
def freeChan (k n : Nat) (d : Dev) : Dev := d |> endRegulation k n |> setF (F.DRV_CH_CFG.OWNER k n) 0 |> resetRise k n

/-- Give up every destination of a block. -/
def dropClaims (k : Nat) (b : LoopBlock) (d : Dev) : Dev := d |> eachD (blockPairs b) (freePair k) |> eachD (blockChans b) (freeChan k)

/-- The claims of a loop pass from one block to the next: what both name stays claimed and driven (R285, R296). -/
def moveClaims (k l : Nat) (old new : LoopBlock) (d : Dev) : Dev :=
  d |> eachD ((blockPairs old).filter fun p => !(blockPairs new).contains p) (freePair k)
    |> eachD ((blockChans old).filter fun n => !(blockChans new).contains n) (freeChan k)
    |> eachD ((blockPairs new).filter fun p => !(blockPairs old).contains p) (claimPair k l)
    |> eachD ((blockChans new).filter fun n => !(blockChans old).contains n) (claimChan k)

/-- A destination of a loop cannot act (R286). -/
def destDown (k l : Nat) (d : Dev) : Bool :=
  match loopBlock k l d with
  | none => false
  | some b =>
    (blockPairs b).any (fun p => isSet (F.PWM_STATUS.LATCHED k p) d) ||
    (blockChans b).any (fun n =>
      isSet (F.DRV_CH_STATUS.DISABLED k n) d || (getChan k n d).retryEnd.isSome || (getChan k n d).hot || heldOff k (cassetteOf n) d) ||
    (drives b && loopMode k l d == 2 && !isSet (F.DRV_STATUS.DRIVE_EN k) d)

/-! ### Loading (R295, R296) -/

/-- A source exists and its input is enabled (load check 4). -/
def sourceLegal (k : Nat) (isSet_ : Bool) (s : SrcCfg) (d : Dev) : Bool :=
  let en := fun b => (rget (R.ADC_EN k) d).toNat.testBit b
  match s.kind with
  | 0 => isSet_ && s.index == 0
  | 1 => decide (s.index < 16) && en s.index
  | 2 => decide (s.index < 8) && en (16 + s.index)
  | 3 | 4 => decide (s.index < 3) && en (24 + s.index)
  | 5 => decide (s.index < 8) && en (27 + s.index / 4)
  | 6 => isSet_ && decide (s.index < 8)
  | 7 => decide (s.index < 96)
  | _ => false

/-- Load check 5 for one output of loop l (R285, R310). -/
def destLegal (k l : Nat) (o : OutCfg) (d : Dev) : Bool :=
  let pairOk := fun p => decide (p < 12) && isSet (F.PWM_CFG.EN k p) d &&
    (match (getPair k p d).claim with
      | none => true
      | some m => m == l)
  let mine := fun n => match loopBlock k l d with
    | some b => (blockChans b).contains n
    | none => false
  decide (o.uMin < o.uMax) && decide (o.uMin ≤ o.safeVal) && decide (o.safeVal ≤ o.uMax) &&
    decide (o.uMin ≤ o.manPreset) && decide (o.manPreset ≤ o.uMax) &&
    match o.kind with
    | 0 => o.index == 0
    | 1 => pairOk o.index
    | 2 => decide (o.index < 10) && decide (o.enc < 3) && decide (o.rot < 6) && pairOk o.index && pairOk (o.index + 1) &&
        pairOk (o.index + 2)
    | _ => decide (o.index < 64) && (getF (F.DRV_CH_CFG.OWNER k o.index) d == 0 || mine o.index) && isProp k o.index d

/-- The first load check a block fails, 0 if it passes (R296). -/
def loadCheck (k l : Nat) (bs : List Byte) (d : Dev) : Nat :=
  let b := parseBlock bs
  if bs.length < 384 then 1
  else if b.law = 3 then 2
  else if bs.length ≠ 384 + 8 * b.coeffs.length then 1
  else if !dimsLegal b then 2
  else if !(if b.trigCmp then decide (b.pair < 12) && decide (1 ≤ b.period)
      else decide (5000 ≤ b.period) && decide (b.period ≤ 2500000)) then 3
  else if !(b.meas.all (fun s => sourceLegal k false s d) && b.sets.all (fun s => sourceLegal k true s.src d)) then 4
  else if !(b.outs.all (fun o => destLegal k l o d)) then 5
  else if !blockClean bs b then 6
  else 0

/-- Loops loaded on a spoke (CTL_STATUS.LOADED). -/
def countLoaded (k : Nat) (d : Dev) : Dev :=
  setF (F.CTL_STATUS.LOADED k) ((getCtl k d).loops.filter fun e => e.2.block.isSome).length d

/-- Replace the block of a loop (R296): observer, integral states and shapers reset, the mode kept. -/
def installBlock (k l : Nat) (b : LoopBlock) (d : Dev) : Dev :=
  let old := (loopBlock k l d).getD { p := 0, q := 0, r := 0 }
  let zeros := fun n => List.replicate n (0 : Int)
  let keep := fun (n : Nat) (xs : List Int) => (List.range n).map fun i => xs.getD i 0
  d |> updLoop k l (fun x => { x with
        block := some b, xh := zeros b.n, z := zeros b.p, u := keep b.p x.u, man := keep b.p x.man, targets := keep b.r x.targets
        goals := keep b.r x.targets, shapers := (List.range b.r).map (fun i => { ws := x.targets.getD i 0 }), y := zeros b.q
        hitHi := [], hitLo := [], latched := none, ready := false, result := none, raws := [], setRaws := [], pmRun := 0
        fzStart := none, lossRun := [], firstAuto := false, ramp := x.ramp.filter (· < b.p) })
    |> moveClaims k l old b |> setF (F.CTL_LOOP_STATUS.LAW k l) b.law |> raise (F.CTL_LOOP_STATUS.LOADED k l)
    |> countLoaded k

/-- Unload a loop (R296). -/
def unloadLoop (k l : Nat) (d : Dev) : Dev :=
  let d := match loopBlock k l d with
    | some old => dropClaims k old d
    | none => d
  d |> updLoop k l (fun _ => {}) |> rput (R.CTL_LOOP_STATUS k l) 0 |> countLoaded k

/-! ### Modes (R294, R298, R299, R303) -/

/-- A loop enters DISABLED: states reset, outputs released. -/
def disableLoop (k l : Nat) (b : LoopBlock) (d : Dev) : Dev :=
  d |> setMode k l 0 |> releaseOutputs k b |> lower (F.CTL_LOOP_STATUS.LIMITED k l) |> lower (F.CTL_LOOP_STATUS.SAT k l)
    |> updLoop k l (fun x => { x with
        xh := List.replicate b.n 0, z := List.replicate b.p 0, latched := none, ready := false, result := none
        prevTrig := none, lastTrig := none, trigAt := none, gap := none, outAt := none, matches_ := 0, lossRun := [], pmRun := 0
        fzStart := none, ramp := [] })

/-- A mode command applies (R298), with some measurement invalid or not. DETAIL is the previous mode whatever the status. -/
def applyMode (k l m : Nat) (track : Bool) (ring index : Nat) (invalid : Bool) (d : Dev) : Dev :=
  let prev := loopMode k l d
  match loopBlock k l d with
  | none => answerLoop k ring index stBadLength prev d
  | some b =>
    let held := loopHeld k l d
    let ok := answerLoop k ring index stOk prev
    if held then answerLoop k ring index stBusy prev d
    else match m with
      | 0 => disableLoop k l b d |> setF (F.CTL_LOOP_STATUS.CAUSE k l) 0 |> ok
      | 1 =>
        d |> setMode k l 1 |> setF (F.CTL_LOOP_STATUS.CAUSE k l) 0
          |> updLoop k l (fun x => { x with man := x.u, ramp := [], since := if prev = 0 then spokePt k d else x.since })
          |> ok
      | 2 =>
        if drives b && !isArmed d then answerLoop k ring index stNotArmed prev d
        else if invalid then answerLoop k ring index stBusy prev d
        else if prev = 2 then ok d
        else
          d |> setMode k l 2 |> setF (F.CTL_LOOP_STATUS.CAUSE k l) 0
            |> updLoop k l (fun x => { x with
                firstAuto := prev != 0, fromOff := prev == 0, track := track, since := if prev = 0 then spokePt k d else x.since
                pmRun := 0, fzStart := none, ramp := [] })
            |> ok
      | _ => answerLoop k ring index stBadLength prev d

/-- The mode commands that wait are overruled by an earlier event of the sample (R300). -/
def overrule (k l : Nat) (d : Dev) : Dev :=
  let ws := (getLoop k l d).cmds
  let d := updLoop k l (fun x => { x with cmds := x.cmds.filter fun w => match w with | .mode .. => false | _ => true }) d
  eachD ws (fun w d => match w with
    | .mode _ _ ring index => answerLoop k ring index stBusy (loopMode k l d) d
    | _ => d) d

/-- A loop enters FAULTED with a cause and an action (R302, R304). -/
def enterFaulted (k l cause act : Nat) (d : Dev) : Dev :=
  d |> setMode k l 3 |> setF (F.CTL_LOOP_STATUS.CAUSE k l) cause |> raise (F.CTL_STATUS.FAULT k)
    |> updLoop k l (fun x => { x with faultAct := act, firstAuto := false, fromOff := false, ramp := [] }) |> overrule k l

/-- Count an event of the control-loop class; a lasting one holds the loop FAULTED (R475). -/
def countLoopEvent (k l : Nat) (d : Dev) : Dev :=
  let (d, lasting) := healthEvent 8 (loopInst k l) false d
  if lasting && loopMode k l d != 3 && isSampled k l d then
    enterFaulted k l 0 (((loopBlock k l d).map (·.action)).getD 0) d
  else d

/-- A fault of the supervision table (R302). -/
def loopFault (k l cause : Nat) (y0 : Int) (d : Dev) : Dev :=
  let d := if loopMode k l d = 3 then d
    else enterFaulted k l cause (((loopBlock k l d).map (·.action)).getD 0) d
  d |> raise (F.CTL_LOOP_STATUS.FAULT_SEEN k l) |> logEvent 0x0501 5 ⟨k, 14, l⟩ cause (toBits 32 y0) 0
    |> countLoopEvent k l

/-- Link loss and the safe state (R304): every sampled loop of a spoke applies the SAFE action. -/
def loopsSafe (k cause : Nat) (d : Dev) : Dev :=
  eachD (List.range 24) (fun l d => if isSampled k l d then enterFaulted k l cause 0 d else d) d

/-- Disarm (R74, R304): each loaded loop with a destination, in whatever mode, goes to MANUAL and toward its safe values; one that its class
holds FAULTED moves there in that mode (R475; log entry 135). -/
def loopsDisarm (k : Nat) (d : Dev) : Dev :=
  eachD (List.range 24) (fun l d =>
    match loopBlock k l d with
    | none => d
    | some b =>
      if drives b && loopHeld k l d then
        d |> updLoop k l (fun x => { x with man := b.outs.map (·.safeVal), faultAct := 0, firstAuto := false }) |> overrule k l
      else if drives b then
        let prev := loopMode k l d
        d |> setMode k l 1 |> overrule k l
          |> updLoop k l (fun x => { x with
              man := b.outs.map (·.safeVal), ramp := List.range b.p, firstAuto := false, since := if prev = 0 then spokePt k d else x.since })
      else d) d

/-! ### Loop commands (R294 to R298) -/

/-- A conversion code lies within VALID_LO and VALID_HI (R271). -/
def codeOk (s : SrcCfg) (code : Nat) : Bool :=
  (s.validLo == 0 && s.validHi == 0) || (decide (s.validLo ≤ code) && decide (code ≤ s.validHi))

/-- A block is checked and replaces the loop's (R295, R296). -/
def loadBlock (k l : Nat) (bytes : List Byte) (ring index : Nat) (d : Dev) : Dev :=
  if loopMode k l d = 2 then answerLoop k ring index stBusy 0 d
  else
    let chk := loadCheck k l bytes d
    if chk ≠ 0 then answerLoop k ring index stBadLength chk d else d |> installBlock k l (parseBlock bytes) |> answerLoop k ring index stOk 0

/-- An unload (R296). -/
def unloadAsked (k l ring index : Nat) (d : Dev) : Dev :=
  if loopMode k l d ≠ 0 then answerLoop k ring index stBusy 0 d
  else if (loopBlock k l d).isNone then answerLoop k ring index stBadLength 0 d
  else d |> unloadLoop k l |> answerLoop k ring index stOk 0

/-- A source is valid at PT t, looking back `span` ticks for encoder errors (R271);
an analogue input is judged by its latest conversion. -/
def sourceOk (k : Nat) (s : SrcCfg) (t span : Nat) (d : Dev) : Bool :=
  match s.kind with
  | 1 => codeOk s (getF (F.ADC_AIN_VAL.CODE k s.index) d)
  | 3 | 4 => !encBad k s.index t span d
  | 5 => spiValid k (s.index / 4) t d
  | 6 =>
    let x := kget (getCtl k d).streams s.index {}
    decide (x.pt ≠ 0) && decide (t ≤ x.pt + ms 10)
  | 7 => isSampled k (s.index / 4) d && loopMode k (s.index / 4) d != 3
  | _ => true

/-- The sample period of a block, as its timer or its compare's pair has it. -/
def blockTicks (k : Nat) (b : LoopBlock) (d : Dev) : Nat := if b.trigCmp then b.period * periodTicks k b.pair d else b.period

/-- A loop command arrives at its spoke; a load or an unload keeps its place behind the commands that wait (R296, R300). -/
def loopCommand (k l ring index : Nat) (c : LoopCmd) (d : Dev) : Dev :=
  let say := fun st det => answerLoop k ring index st det
  let waits := isSampled k l d && decide ((getLoop k l d).cmds ≠ [])
  match c with
  | .table cog bytes =>
    let busy := (List.range 24).any fun m => loopMode k m d == 2 && (match loopBlock k m d with
      | some b => b.ffEn && b.ffEnc == l
      | none => false)
    if busy then say stBusy 0 d
    else if bytes.length ≠ 1024 || 2 < l then say stBadLength 0 d
    else
      let t := (List.range 256).map fun i => leSigned bytes (4 * i) 4
      d |> updCtl k (fun c => if cog then { c with cog := kput c.cog l t [] } else { c with fric := kput c.fric l t [] })
        |> say stOk 0
  | .block bytes =>
    if (getLoop k l d).latched.isSome || waits then updLoop k l (fun x => { x with cmds := x.cmds ++ [.block bytes ring index] }) d
    else loadBlock k l bytes ring index d
  | .unload => if waits then updLoop k l (fun x => { x with cmds := x.cmds ++ [.unload ring index] }) d else unloadAsked k l ring index d
  | .setpoint sel v =>
    match loopBlock k l d with
    | none => say stBadLength 0 d
    | some b =>
      let sampled := isSampled k l d
      if sel < 4 then
        if b.r ≤ sel || (b.sets.getD sel {}).src.kind ≠ 0 then say stBadLength 0 d
        else
          let d := if sampled then updLoop k l (fun x => { x with cmds := x.cmds ++ [.target sel v] }) d
            else updLoop k l (fun x => { x with targets := x.targets.set sel v }) d
          say stOk 0 d
      else if b.p ≤ sel - 4 then say stBadLength 0 d
      else
        let j := sel - 4
        let o := b.outs.getD j {}
        let v := clampI o.uMin o.uMax v
        let d := if sampled then updLoop k l (fun x => { x with cmds := x.cmds ++ [.man j v] }) d
          else updLoop k l (fun x => { x with man := x.man.set j v }) d
        say stOk 0 d
  | .mode m track =>
    if isSampled k l d then updLoop k l (fun x => { x with cmds := x.cmds ++ [.mode m track ring index] }) d
    else
      let bad := match loopBlock k l d with
        | some b => b.meas.any fun s => !sourceOk k s (spokePt k d) (blockTicks k b d) d
        | none => false
      applyMode k l m track ring index bad d

/-! ### Triggers (R265 to R268) -/

/-- The raw value of a source at PT t, and whether it is valid (R271); an analogue value is still to be converted. `span` is
the time since the last sample. -/
def rawOf (k : Nat) (s : SrcCfg) (host : Int) (t span : Nat) (d : Dev) : RawVal × Dev :=
  let val := fun (x : Int) => (⟨some x, sourceOk k s t span d⟩ : RawVal)
  match s.kind with
  | 0 => (⟨some host, true⟩, d)
  | 1 => (⟨none, true⟩, d)
  | 2 => (val (min 1000000000 (pulseFreq k s.index t d) : Nat), d)
  | 3 => (val (signedOf 32 (encPos k s.index t d)), d)
  | 4 =>
    let (v, d2) := encSpeed k s.index t d
    (val v, d2)
  | 5 => (val ((getSpi k (s.index / 4) d).words.getD (s.index % 4) 0), d)
  | 6 => (val (kget (getCtl k d).streams s.index {}).value, d)
  | _ => (val ((getLoop k (s.index / 4) d).u.getD (s.index % 4) 0), d)

/-- The matches, as PTs, that a compare word gives in the period that starts at s (R315). -/
def matchPts (centre : Bool) (per ct s : Nat) (w : Word) : List Nat :=
  let v := wordField w 0 16
  let dir := wordField w 16 2
  let up := s + v * ct
  if !centre then (if v < per then [up] else [])
  else if v = 0 || v = per then [up]
  else if per < v then []
  else (if dir = 0 || dir = 2 then [up] else []) ++ (if dir = 1 || dir = 2 then [s + (2 * per - v) * ct] else [])

/-- The match of compare i of pair p that falls into this tick, the first with PT not below it, if it has not acted (R36, R315). The period
that starts in this tick takes its compare words anew (R313). -/
def matchNow (k p i : Nat) (d : Dev) : Option Nat :=
  let x := getPair k p d
  let t := spokePt k d
  let tk := periodTicks k p d
  let pts := matchPts (isSet (F.PWM_CFG.MODE k p) d) (getF (F.PWM_PER.PER k p) d) (countTicks k p d)
  let next := match gridReached tk (getF (F.PWM_PHASE.PHASE k p) d % max 1 tk) t with
    | some s => if x.started && s ≤ x.perStart then [] else pts s (rget (R.PWM_CMP k p i) d)
    | none => []
  let old := if x.started then pts x.perStart (x.cmps.getD i 0) else []
  if !isSet (F.PWM_CFG.EN k p) d then none
  else (old ++ next).find? fun m => decide (m ≤ t) && decide (t ≤ m + 1) && decide (kget x.matched i 0 ≤ m)

/-- Compare i of pair p matches now (R315). -/
def matchesNow (k p i : Nat) (d : Dev) : Bool := (matchNow k p i d).isSome

/-- The PT of the n-th match, n from 1, after PT t of compare i of pair p, as its words now stand; none where it never matches (R315). -/
def nthMatch (k p i t n : Nat) (d : Dev) : Option Nat :=
  let x := getPair k p d
  let tk := periodTicks k p d
  let pts := matchPts (isSet (F.PWM_CFG.MODE k p) d) (getF (F.PWM_PER.PER k p) d) (countTicks k p d)
  let start := if x.started then x.perStart else t
  let left := (pts start (if x.started then x.cmps.getD i 0 else rget (R.PWM_CMP k p i) d)).filter fun m => decide (t < m)
  match left[n - 1]? with
  | some m => some m
  | none =>
    let m := n - 1 - left.length
    let c := (pts start (rget (R.PWM_CMP k p i) d)).length
    if c = 0 then none else (pts (start + (m / c + 1) * tk) (rget (R.PWM_CMP k p i) d))[m % c]?

/-- The next trigger of a loop (R290): the timer's grid, or the match of its compare that completes its DIV matches, at first a period of
the loop on. -/
def nextTrigger (k : Nat) (x : Loop) (d : Dev) : Nat :=
  match x.block, x.trigAt with
  | some b, some t =>
    if !b.trigCmp then (t / max 1 b.period + 1) * b.period
    else (nthMatch k b.pair b.cmp (spokePt k d) (b.period - x.matches_) d).getD (t + b.period * periodTicks k b.pair d)
  | _, _ => 0

/-- The lanes take the next sample (R290). -/
def laneServe (k : Nat) (d : Dev) : Dev :=
  let c := getCtl k d
  match c.lane with
  | some _ => d
  | none =>
    let ready := c.loops.filter fun e => e.2.ready
    let best := ready.foldl (fun (b : Option (Nat × Loop)) e => match b with
      | none => some e
      | some q => if nextTrigger k e.2 d < nextTrigger k q.2 d then some e else some q) none
    match best with
    | none => d
    | some e =>
      let t := spokePt k d
      d |> updCtl k (fun c => { c with lane := some (e.1, t) }) |> updLoop k e.1 (fun x => { x with ready := false })

/-- A latched value that is not yet converted. -/
def waitsConv (r : RawVal) : Bool := r.x.isNone

/-- Latch sample k of a loop at PT t (R266). The sample period before it is that since the last sample, for the first sample the block's
(R271). -/
def latchSample (k l : Nat) (b : LoopBlock) (t : Nat) (d : Dev) : Dev :=
  let x := getLoop k l d
  let span := match x.lastTrig with
    | some u => t - u
    | none => blockTicks k b d
  let step := fun (acc : List RawVal × Dev) (e : SrcCfg × Int) =>
    let (v, d) := rawOf k e.1 e.2 t span acc.2
    (acc.1 ++ [v], d)
  let (raws, d) := (b.meas.map fun s => (s, (0 : Int))).foldl step ([], d)
  let (sets, d) := ((List.range b.r).map fun i => ((b.sets.getD i {}).src, x.targets.getD i 0)).foldl step ([], d)
  let (spd, d) := if b.ffEn then encSpeed k b.ffEnc t d else (0, d)
  let ff := (encPos k b.ffEnc t d, spd, encBad k b.ffEnc t span d)
  let done := !(raws.any waitsConv) && !(sets.any waitsConv)
  let d := updLoop k l (fun x => { x with
    prevTrig := x.lastTrig, lastTrig := some t, latched := some t, raws := raws, setRaws := sets, ff := ff
    ready := done, result := none }) d
  let d := eachD (List.range b.q) (fun i d =>
    if (b.meas.getD i {}).kind = 1 then queueConv k (b.meas.getD i {}).index (some (l, i)) d else d) d
  eachD (List.range b.r) (fun i d =>
    if (b.sets.getD i {}).src.kind = 1 then queueConv k (b.sets.getD i {}).src.index (some (l, 4 + i)) d else d) d

/-- A trigger of loop l falls into this tick and has not acted (R265). -/
def triggerDue (k l : Nat) (d : Dev) : Bool :=
  let x := getLoop k l d
  match x.block with
  | none => false
  | some b =>
    loopMode k l d != 0 &&
      if b.trigCmp then matchesNow k b.pair b.cmp d && decide (b.period ≤ x.matches_ + 1)
      else match gridReached b.period 0 (spokePt k d) with
        | some g => x.trigAt.all fun u => decide (u < g)
        | none => false

/-- The outputs computed from the last sample are written (R267). -/
def writeOutputs (k l : Nat) (d : Dev) : Dev :=
  match (getLoop k l d).result with
  | none => d
  | some u =>
    d |> updLoop k l (fun x => { x with u := u, result := none, latched := none, outAt := some (spokePt k d) })
      |> setF (F.CTL_LOOP_U.U0 k l) (toBits 32 (u.getD 0 0)) |> driveOutputs k l

/-- Every loop whose trigger falls into this tick writes its outputs, before any latches a sample and before a pair takes its shadow
(R266, R267, R313). -/
def writeDue (k : Nat) (d : Dev) : Dev := eachD (List.range 24) (fun l d => if triggerDue k l d then writeOutputs k l d else d) d

/-- The loads and unloads at the head of the waiting commands take effect, between two samples (R296). -/
def applyBlocks (k l : Nat) : Nat → Dev → Dev
  | 0, d => d
  | n + 1, d =>
    match (getLoop k l d).cmds with
    | .block bytes ring index :: rest =>
      d |> updLoop k l (fun x => { x with cmds := rest }) |> loadBlock k l bytes ring index |> applyBlocks k l n
    | .unload ring index :: rest =>
      d |> updLoop k l (fun x => { x with cmds := rest }) |> unloadAsked k l ring index
        |> updLoop k l (fun x => { x with cmds := rest }) |> applyBlocks k l n
    | _ => d

/-- The interval between compare-triggered samples is judged (R265). -/
def judgeInterval (k l t : Nat) (b : LoopBlock) (x : Loop) (d : Dev) : Dev :=
  match x.lastTrig with
  | some u => whenD (b.trigCmp && (decide (t - u < us 20) || decide (ms 10 < t - u))) (raise (F.CTL_LOOP_STATUS.RATE_RANGE k l)) d
  | none => d

/-- A trigger of loop l (R265 to R268), the due outputs written: the next sample is latched; while the last is not computed, the trigger passes and
is counted. -/
def loopTrigger (k l : Nat) (d : Dev) : Dev :=
  let t := spokePt k d
  let x := getLoop k l d
  match x.block with
  | none => d
  | some b =>
    if loopMode k l d = 0 || x.trigAt = some t then d
    else
      let d := d |> updLoop k l (fun x => { x with trigAt := some t, gap := x.trigAt.map (t - ·) }) |> writeOutputs k l
      if (getLoop k l d).latched.isSome then
        d |> countF (F.CTL_LOOP_STATUS.OVERRUNS k l) |> raise (F.CTL_LOOP_STATUS.OVERRUN k l)
          |> raise (F.CTL_STATUS.OVERRUN k) |> countLoopEvent k l
      else
        let d := d |> judgeInterval k l t b x |> applyBlocks k l x.cmds.length
        match loopBlock k l d with
        | some b => latchSample k l b t d
        | none => d

/-- A conversion result for a loop (R266, R271): validity is judged on the code. -/
def convResult (k l i code : Nat) (d : Dev) : Dev :=
  let d := updLoop k l (fun x =>
    match x.block with
    | none => x
    | some b =>
      let s := if i < 4 then b.meas.getD i {} else (b.sets.getD (i - 4) {}).src
      let r : RawVal := ⟨some (code * 2 ^ 19 : Nat), codeOk s code⟩
      let x := if i < 4 then { x with raws := x.raws.set i r } else { x with setRaws := x.setRaws.set (i - 4) r }
      { x with ready := x.latched.isSome && x.result.isNone && !(x.raws.any waitsConv) && !(x.setRaws.any waitsConv) }) d
  laneServe k d

/-- A conversion of input `ain` finishes with a code (R266): the one that runs on its ADC, or the periodic conversion of an
enabled input while the ADC has none waiting. -/
def convDone (k ain code : Nat) (d : Dev) : Dev :=
  let a := adcOf ain
  let t := spokePt k d
  let store := setF (F.ADC_AIN_VAL.CODE k ain) code
  match adcQueue k a d with
  | [] => if bitOf (F.ADC_EN.AIN k) ain d then store d else d
  | c :: rest =>
    match c.start with
    | none => d
    | some s =>
      if c.ain ≠ ain || t < s + 125 then d
      else
        let d := d |> store |> setAdc k a (startHead t rest)
        match c.owner with
        | some (l, i) => convResult k l i code d
        | none => d

/-! ### One sample (R267 to R304) -/

/-- Condition a latched value (R272); an invalid one keeps the last. -/
def condition (s : SrcCfg) (r : RawVal) (last : Int) : Int :=
  match r.ok, r.x with
  | true, some x => sat32 (mulC (sat32 (x - s.off)) s.gain)
  | _, _ => last

/-- Ticks of the sample period. -/
def sampleTicks (k : Nat) (b : LoopBlock) (x : Loop) (d : Dev) : Nat :=
  if !b.trigCmp then b.period
  else match x.prevTrig, x.lastTrig with
    | some u, some t => t - u
    | _, _ => b.period * periodTicks k b.pair d

/-- One sample of a shaper in AUTO (R292). -/
def shape (sp : SetCfg) (target : Int) (ticks : Nat) (x : Shaper) (d : Dev) : Shaper × Dev :=
  let diff := target - x.ws
  if sp.rate = 0 then ({ ws := target, rho := 0 }, d)
  else
    let rmax : Int := (sp.rate * 2 ^ 31 : Nat)
    let root := isqrt (2 * sp.accel * diff.natAbs * 2 ^ 47)
    let exact := root * root == 2 * sp.accel * diff.natAbs * 2 ^ 47
    let (bitv, d) := if sp.accel = 0 || exact then (0, d) else fresh d
    let vstop : Int := if sp.accel = 0 then rmax else ((root + bitv % 2 : Nat) : Int)
    let m := if rmax ≤ vstop then rmax else vstop
    let want := if diff < 0 then -m else m
    let (da, d) := divFree ((sp.accel * 2 ^ 31 * ticks : Nat) : Int) 250000000 d
    let rho := if sp.accel = 0 then want
      else if x.rho < want then (if x.rho + da < want then x.rho + da else want)
      else (if want < x.rho - da then x.rho - da else want)
    let (step, d) := divFree (rho * ticks) (2 ^ 16 * 250000000) d
    if diff = 0 || (diff.natAbs ≤ step.natAbs && decide (0 < step) == decide (0 < diff)) then ({ ws := target, rho := 0 }, d)
    else ({ ws := sat32 (x.ws + step), rho := rho }, d)

/-- Every shaper of a loop, in order. -/
def shapeAll (b : LoopBlock) (targets : List Int) (ticks : Nat) : Nat → List Shaper → Dev → List Shaper × Dev
  | _, [], d => ([], d)
  | i, x :: xs, d =>
    let (y, d) := shape (b.sets.getD i {}) (targets.getD i 0) ticks x d
    let (ys, d) := shapeAll b targets ticks (i + 1) xs d
    (y :: ys, d)

/-- The feed-forward of R288. -/
def feedForward (k : Nat) (b : LoopBlock) (ff : Nat × Int × Bool) (d : Dev) : Int :=
  if !b.ffEn || ff.2.2 || b.tblCpr = 0 then 0
  else
    let i := ff.1 % b.tblCpr * 256 / b.tblCpr
    let at_ := fun (t : KMap (List Int)) => (kget t b.ffEnc []).getD i 0
    at_ (getCtl k d).cog + (if 0 < ff.2.1 then 1 else if ff.2.1 < 0 then -1 else 0) * at_ (getCtl k d).fric

/-- A value moved toward a target by at most a step. -/
def toward (x target step : Int) : Int :=
  if x < target then (if x + step < target then x + step else target)
  else (if target < x - step then x - step else target)

/-- The step of SAFE_RATE in one sample (R302, R305): none for the immediate step. -/
def safeStep (b : LoopBlock) (ticks : Nat) (d : Dev) : Option Int × Dev :=
  if b.safeRate = 0xFFFFFFFF then (none, d)
  else
    let rate := if b.safeRate = 0 then 65536 else b.safeRate
    let (s, d) := divFree ((rate * 2 ^ 15 * ticks : Nat) : Int) 250000000 d
    (some s, d)

/-- Move an output toward its safe value. -/
def safeMove (step : Option Int) (u target : Int) : Int :=
  match step with
  | none => target
  | some s => toward u target s

/-- The plausibility check of one sample (R301). -/
def checkPlausible (b : LoopBlock) (auto : Bool) (y0 : Int) (ok : Bool) (x : Loop) : Bool × Loop :=
  let band := if b.pmBand = 0 then 214748365 else b.pmBand
  let run := if auto && b.pmEn && ok && decide (band < (y0 - x.yhat).natAbs) then x.pmRun + 1 else 0
  let hit := auto && b.pmEn && decide ((if b.pmN = 0 then 20 else b.pmN) ≤ run)
  (hit, { x with pmRun := if hit then 0 else run })

/-- The frozen-feedback check of one sample (R301). -/
def checkFrozen (b : LoopBlock) (auto : Bool) (t : Nat) (raw0 u0 lsb : Int) (x : Loop) : Bool × Loop :=
  let act := if b.fzAct = 0 then 214748365 else b.fzAct
  let win := ms (if b.fzWin = 0 then 500 else b.fzWin)
  let still := x.fzStart.isSome && decide ((raw0 - x.fzRaw).natAbs ≤ lsb) && decide (act ≤ u0.natAbs)
  if !(auto && b.fzEn) then (false, { x with fzStart := none })
  else if !still then (false, { x with fzStart := if act ≤ u0.natAbs then some t else none, fzRaw := raw0 })
  else
    let hit := x.fzStart.any fun s => decide (s + win ≤ t)
    (hit, { x with fzStart := if hit then none else x.fzStart })

/-- The loss-of-feedback check of one sample, a run for each measurement (R301). -/
def checkLoss (b : LoopBlock) (runs_ : Bool) (valid : List Bool) (x : Loop) : Bool × Loop :=
  let n := if b.lossN = 0 then 3 else b.lossN
  let run := (List.range valid.length).map fun i => if runs_ && !valid.getD i true then x.lossRun.getD i 0 + 1 else 0
  let hit := run.any fun r => decide (n ≤ r)
  (hit, { x with lossRun := if hit then [] else run })

/-- The checks of the supervision table (R301): the causes of the faults of this sample, in the table's order. -/
def superviseLoop (b : LoopBlock) (mode : Nat) (t : Nat) (y0 raw0 u0 : Int) (lsb : Int) (valid : List Bool) (x : Loop) : List Nat × Loop :=
  let auto := mode == 2
  let (pm, x) := checkPlausible b auto y0 (valid.getD 0 false) x
  let (fz, x) := checkFrozen b auto t raw0 u0 lsb x
  let (loss, x) := checkLoss b (mode == 1 || mode == 2) valid x
  ((if pm then [1] else []) ++ (if fz then [2] else []) ++ (if loss then [3] else []), x)

/-- One LSB of the raw value of a source (R301). -/
def rawLsb (s : SrcCfg) : Int := match s.kind with | 1 => 2 ^ 19 | 5 => 2 ^ 16 | _ => 1

/-- The commands that wait apply, those up to a load or an unload, which comes between two samples (R296 to R298, R300). -/
def applyWaiting (k l : Nat) (invalid : Bool) (d : Dev) : Dev :=
  let isBlock := fun (w : LoopWait) => match w with | .block .. | .unload .. => true | _ => false
  let ws := (getLoop k l d).cmds.takeWhile (fun w => !isBlock w)
  let d := updLoop k l (fun x => { x with cmds := x.cmds.dropWhile (fun w => !isBlock w) }) d
  eachD ws (fun w d => match w with
    | .target i v => updLoop k l (fun x => { x with targets := x.targets.set i v }) d
    | .man j v => updLoop k l (fun x => { x with man := x.man.set j v, ramp := x.ramp.filter (· != j) }) d
    | .mode m track ring index => applyMode k l m track ring index invalid d
    | .block .. | .unload .. => d) d

/-- All the commands that wait apply, in order, to a loop that is not sampled any more (R296, R300). -/
def applyRest (k l : Nat) (invalid : Bool) : Nat → Dev → Dev
  | 0, d => d
  | n + 1, d =>
    if (getLoop k l d).cmds = [] || loopMode k l d != 0 then d
    else d |> applyBlocks k l (getLoop k l d).cmds.length |> applyWaiting k l invalid |> applyRest k l invalid n

/-- The next outputs of a loop with their integral states and whether PRESET_SAT holds: first AUTO sample of R299, laws of R277
to R279, integral increments dropped under R282. -/
def lawOutputs (b : LoopBlock) (x : Loop) (xh y ws : List Int) (ff : Int) (down : Bool) : List Int × List Int × Bool :=
  let e := (List.range b.r).map fun i => sat32 (ws.getD i 0 - y.getD i 0)
  let o := fun j => b.outs.getD j {}
  match b.law with
  | 0 =>
    let pre := fun j => -(dotC b (offK b) b.n j xh) - dotC b (offD b) b.q j y + dotC b (offF b) b.r j ws +
      (if j = 0 then ff else 0)
    let js := List.range b.p
    if x.firstAuto then
      let want := js.map fun j => x.u.getD j 0 - pre j
      let z := want.map sat32
      (js.map (fun j => sat32 (pre j + z.getD j 0)), z, want != z)
    else
      let z := js.map fun j =>
        let inc := dotC b (offKI b) b.r j e
        let drop := down || (decide (0 < inc) && x.hitHi.getD j false) || (decide (inc < 0) && x.hitLo.getD j false)
        if drop then x.z.getD j 0 else sat32 (x.z.getD j 0 + inc)
      (js.map (fun j => sat32 (pre j + z.getD j 0)), z, false)
  | _ =>
    let u := x.u.getD 0 0
    let err := if b.law = 1 then e.getD 0 0 else sat32 (ws.getD 0 0 - dotC b (offC b) b.n 0 xh)
    let v :=
      if x.firstAuto then
        (if (u - (o 0).uMin).natAbs ≤ (u - (o 0).uMax).natAbs then (o 0).uMin else (o 0).uMax)
      else if b.bandHi < err then (o 0).uMax
      else if err < -b.bandLo then (o 0).uMin
      else u
    ([v], x.z, false)

/-- A state tap of the active table names the loop (R287). -/
def isTapped (k l : Nat) (d : Dev) : Bool :=
  match d.eng.table with
  | none => false
  | some t => t.segments.any fun s => s.taps.any fun p => p.spoke == k && p.loop == l

/-- The lanes finish a sample of loop l: supervision, commands, set-points, observer, law, limits (R267, R277 to R304). The outputs
are held until the next trigger. -/
def computeSample (k l : Nat) (d : Dev) : Dev :=
  let x := getLoop k l d
  match x.block, x.latched with
  | some b, some t =>
    let ticks := sampleTicks k b x d
    -- measurements
    let valid := x.raws.map (·.ok)
    let y := (List.range b.q).map fun i => condition (b.meas.getD i {}) (x.raws.getD i ⟨none, false⟩) (x.y.getD i 0)
    let inv := (List.range b.q).foldl (fun m i => if valid.getD i false then m else m + 2 ^ i) 0
    let d := d |> setF (F.CTL_LOOP_STATUS.INVALID k l) inv |> setF (F.CTL_LOOP_Y.Y0 k l) (toBits 32 (y.getD 0 0))
    let raw0 := ((x.raws.getD 0 ⟨none, false⟩).x).getD 0
    -- the plausibility model follows y0 while it is invalid
    let x := { x with y := y, yhat := if valid.getD 0 false && !x.fromOff then x.yhat else y.getD 0 0 }
    let (causes, x) := superviseLoop b (loopMode k l d) t (y.getD 0 0) raw0 (x.u.getD 0 0) (rawLsb (b.meas.getD 0 {})) valid x
    let d := updLoop k l (fun _ => x) d
    let d := eachD causes (fun cause => loopFault k l cause (y.getD 0 0)) d
    let before := loopMode k l d
    let d := applyWaiting k l (inv != 0) d
    if loopMode k l d = 0 then
      d |> updLoop k l (fun x => { x with latched := none, result := none }) |> applyRest k l (inv != 0) (getLoop k l d).cmds.length
    else
      let mode := loopMode k l d
      let x := getLoop k l d
      let x := if mode == 2 && before != 2 then { x with yhat := y.getD 0 0 } else x
      -- set-points
      let stale := (List.range b.r).any fun i => !(x.setRaws.getD i ⟨none, false⟩).ok
      let target := fun i =>
        let s := (b.sets.getD i {}).src
        let r := x.setRaws.getD i ⟨none, false⟩
        let host : RawVal := ⟨some (x.targets.getD i 0), true⟩
        condition s (if s.kind = 0 then host else r) (x.goals.getD i 0)
      let goals := (List.range b.r).map target
      let (shapers, d) :=
        if mode = 2 && !x.firstAuto && !x.fromOff then shapeAll b goals ticks 0 x.shapers d
        else ((List.range b.r).map fun i =>
          { ws := if mode = 2 && x.firstAuto && x.track then y.getD i 0 else goals.getD i 0, rho := 0 }, d)
      let ws := shapers.map (·.ws)
      let limited := (List.range b.r).any fun i => ws.getD i 0 != goals.getD i 0
      -- observer
      let xh := observer b x.xh x.u (innovation b x.xh y valid)
      let ff := feedForward k b x.ff d
      let down := destDown k l d
      let (step, d) := safeStep b ticks d
      let (v, z, presetSat) :=
        if mode = 2 then lawOutputs b x xh y ws ff down
        else
          let v := (List.range b.p).map fun j =>
            let o := b.outs.getD j {}
            let u := x.u.getD j 0
            if mode = 1 then (if x.ramp.contains j then safeMove step u (x.man.getD j 0) else x.man.getD j 0)
            else match x.faultAct with
              | 1 => u
              | 2 => o.manPreset
              | _ => safeMove step u o.safeVal
          (v, x.z, false)
      let u := (List.range b.p).map fun j => clampI (b.outs.getD j {}).uMin (b.outs.getD j {}).uMax (v.getD j 0)
      let hi := (List.range b.p).map fun j => decide ((b.outs.getD j {}).uMax < v.getD j 0)
      let lo := (List.range b.p).map fun j => decide (v.getD j 0 < (b.outs.getD j {}).uMin)
      let yhat := sat32 (mulC x.yhat b.pmA + mulC (x.u.getD 0 0) b.pmB + b.pmC)
      let d := updLoop k l (fun _ => { x with
        xh := xh, z := z, goals := goals, shapers := shapers, hitHi := hi, hitLo := lo, result := some u, firstAuto := false
        fromOff := false, yhat := yhat }) d
      let d := d |> setF (F.CTL_LOOP_W.W0 k l) (toBits 32 (ws.getD 0 0)) |> flag (F.CTL_LOOP_STATUS.SAT k l) (u != v)
        |> flag (F.CTL_LOOP_STATUS.LIMITED k l) limited |> flag (F.CTL_LOOP_STATUS.SP_STALE k l) stale
        |> whenD presetSat (raise (F.CTL_LOOP_STATUS.PRESET_SAT k l))
      if b.pub || isTapped k l d then linkSend k .spoke (.data (.sample l t xh u)) d else d
  | _, _ => d

/-- The highest lane occupancy over any 10 ms of the second that ends at `stop`, in ticks of 10 ms (CTL_STATUS.UTIL). -/
def busiest (log : List (Nat × Nat)) (stop : Nat) : Nat :=
  let from_ := stop - sec 1
  let past := fun (a : Nat) =>
    let a := max from_ (min a (stop - ms 10))
    log.foldl (fun s e => s + (min (e.1 + e.2) (a + ms 10) - max e.1 a)) 0
  log.foldl (fun m e => max m (max (past e.1) (past (e.1 + e.2 - ms 10)))) 0

/-- UTIL is updated each second. -/
def utilRefresh (k : Nat) (d : Dev) : Dev :=
  let c := getCtl k d
  let now := spokePt k d / sec 1
  if now ≤ c.utilAt then d
  else
    let (pct, d) := divFree (busiest c.laneLog (now * sec 1) * 100 : Nat) (ms 10) d
    d |> setF (F.CTL_STATUS.UTIL k) (min 100 pct.toNat)
      |> updCtl k (fun c => { c with utilAt := now, laneLog := c.laneLog.filter fun e => decide (now * sec 1 ≤ e.1 + e.2) })

/-- The lanes finish the sample they serve, if it is loop l's and its time is up (R289, R290). -/
def sampleDone (k l : Nat) (d : Dev) : Dev :=
  match (getCtl k d).lane, loopBlock k l d with
  | some (m, start), some b =>
    let t := spokePt k d
    if m ≠ l || t < start + laneTicks b then d
    else
      d |> updCtl k (fun c => { c with lane := none, laneLog := (start, laneTicks b) :: c.laneLog })
        |> computeSample k l |> utilRefresh k |> laneServe k
  | _, _ => d

/-- A compare matches (R265, R315, R316): it triggers the loops that use it, each at its DIV-th match, and starts a conversion. -/
def compareMatch (k p i : Nat) (d : Dev) : Dev :=
  match matchNow k p i d with
  | none => d
  | some m =>
    let x := getPair k p d
    let w := if x.started && decide (m < x.perStart + periodTicks k p d) then x.cmps.getD i 0 else rget (R.PWM_CMP k p i) d
    let d := d |> writeDue k |> updPair k p (fun x => { x with matched := kput x.matched i (m + 1) 0 })
    let d := if w.toNat.testBit 18 then queueConv k (wordField w 20 4) none d else d
    eachD (List.range 24) (fun l d =>
      match loopBlock k l d with
      | none => d
      | some b =>
        if !b.trigCmp || b.pair ≠ p || b.cmp ≠ i || loopMode k l d = 0 then d
        else
          let n := (getLoop k l d).matches_ + 1
          if n < b.period then updLoop k l (fun x => { x with matches_ := n }) d
          else d |> updLoop k l (fun x => { x with matches_ := 0 }) |> loopTrigger k l) d |> laneServe k

/-- No compare trigger for 10 ms (R265). -/
def triggerTimeout (k l : Nat) (d : Dev) : Dev :=
  let x := getLoop k l d
  match x.block with
  | some b =>
    if b.trigCmp && loopMode k l d != 0 && decide (x.trigAt.getD x.since + ms 10 ≤ spokePt k d) then
      raise (F.CTL_LOOP_STATUS.RATE_RANGE k l) d
    else d
  | none => d

end Sys2Proof.Machine
end

