-- ==== Sys2Proof/Machine/TdmBase.lean ====
section
/-! DEFINITION. Implement time (R406) and what the tandem link shares with other blocks: sending a frame (R490, R491), queueing an event
(R504), the end of an attachment (R493, R503). -/
namespace Sys2Proof.Machine

/-- A PT in implement time, IT = PT + O, as 64 bits (R406). -/
def implOf (pt : Nat) (d : Dev) : Nat := toBits 64 ((pt : Int) + d.sox.o)

/-- An implement time turned into the device's own PT. -/
def ownPt (it : Nat) (d : Dev) : Nat := toBits 64 ((it : Int) - d.sox.o)

/-- Implement time now. -/
def implNow (d : Dev) : Nat := implOf d.pt d

def updTdm (f : Tandem → Tandem) (d : Dev) : Dev := { d with tdm := f d.tdm }

/-- TDM_STATUS.STATE: 0 DETACHED, 1 ATTACHING, 2 CAPTAIN, 3 STOKER, 4 TAKING_OVER. -/
def tdmState (d : Dev) : Nat := getF F.TDM_STATUS.STATE d
def isCaptain (d : Dev) : Bool := tdmState d == 2
/-- The package is a stoker, in a takeover or not. -/
def isStoker (d : Dev) : Bool := tdmState d == 3 || tdmState d == 4
/-- The package is attached. -/
def isAttached (d : Dev) : Bool := isCaptain d || isStoker d

/-- TYPE of a tandem frame (R491). -/
def tdmType (f : TdmFrame) : Nat :=
  match f with
  | .heartbeat .. => 1
  | .digest .. => 2
  | .feed .. => 3
  | .loopstate .. => 4
  | .wbdone .. => 5
  | .yield_ .. => 6
  | .attach .. => 7
  | .xfer .. => 8
  | .xferAck .. => 9
  | .detach .. => 10

/-- u_j and z_j of an output, 4 bytes each (R269, R491). -/
def outBytes (o : Int × Int) : List Byte := leBytes 4 (toBits 32 o.1) ++ leBytes 4 (toBits 32 o.2)

/-- The payload of a tandem frame (R491). ATTACH and the snapshot data of XFER have no layout in the manual: their bytes are free. -/
def tdmPayload (f : TdmFrame) (d : Dev) : List Byte × Dev :=
  match f with
  | .heartbeat slot flags n last => (leBytes 8 slot ++ leBytes 1 flags ++ leBytes 2 n ++ leBytes 2 last, d)
  | .digest start v => (leBytes 8 start ++ leBytes 4 v, d)
  | .feed es => (es.flatMap fun e => leBytes 2 e.outlet ++ leBytes 8 e.impl ++ leBytes 8 (feedBits e.feed / 2 ^ 32), d)
  | .loopstate ls => (ls.flatMap fun l => leBytes 1 l.spoke ++ leBytes 1 l.loop ++ l.outs.flatMap outBytes, d)
  | .wbdone e n c => (leBytes 4 (toBits 32 e) ++ leBytes 4 (toBits 32 n) ++ leBytes 8 c, d)
  | .yield_ start cause => (leBytes 8 start ++ leBytes 1 cause, d)
  | .xferAck b => (leBytes 2 b, d)
  | .detach start => (leBytes 8 start, d)
  | .attach _ =>
    let (n, d) := fresh d
    freeBytes (n % 241) d
  | .xfer b _ _ =>
    let (n, d) := fresh d
    let (bs, d) := freeBytes (n % 239) d
    (leBytes 2 b ++ bs, d)

/-- The bytes of a tandem frame (R490): TYPE, LEN, SEQ, the payload, and the CRC-32C over all of them. -/
def tdmBytes (typ seq : Nat) (payload : List Byte) : List Byte :=
  let body := leBytes 1 typ ++ leBytes 1 payload.length ++ leBytes 2 seq ++ payload
  body ++ leBytes 4 (crc32c body)

/-- Put a frame on the tandem link (R490). -/
def tdmPut (f : TdmFrame) (d : Dev) : Dev :=
  let seq := d.tdm.seq
  let (p, d) := tdmPayload f d
  d |> updTdm (fun t => { t with seq := (t.seq + 1) % 65536 }) |> emit (.tandem seq f (tdmBytes (tdmType f) seq p))

/-- Send a frame on the tandem link; one whose words fail their ECC check is not sent (row 11 of R45; log entry 128). -/
def tdmSend (f : TdmFrame) (d : Dev) : Dev := crossEcc 11 0 0 0 0 (tdmPut f) id d

/-- Waiting tandem events complete fetched TDM_BUFFERs, oldest first (R504). -/
def tdmDrain : Nat → Dev → Dev
  | 0, d => d
  | n + 1, d =>
    match d.tdm.events with
    | [] => d
    | r :: rest =>
      match waitingBuffer 13 0xD3 none d with
      | some (i, x) => tdmDrain n (putCompletion i x stOk 0 r (updTdm (fun t => { t with events := rest }) d))
      | none => noBuf 13 none d

/-- A tandem event (R504): up to 16 wait, further ones are dropped and counted as R423 gives. -/
def tdmEvent (code p0 p1 : Nat) (d : Dev) : Dev :=
  let r := leBytes 8 d.pt ++ leBytes 1 code ++ [0, 0, 0] ++ leBytes 4 p0 ++ leBytes 4 p1 ++ List.replicate 12 0
  if 16 ≤ d.tdm.events.length then countF F.CAN_SB_COUNT.MISSED d
  else tdmDrain 17 (updTdm (fun t => { t with events := t.events ++ [r] }) d)

/-- SYNC is lost (R494 to R496): cleared and queued once. -/
def syncLost (why : Nat) (d : Dev) : Dev :=
  if isSet F.TDM_STATUS.SYNC d then d |> lower F.TDM_STATUS.SYNC |> tdmEvent 7 why 0 else d

/-- The package is attached no more (R493, R503): record and event, and everything of the attachment forgotten but what R499 looks
back on. -/
def detachNow (d : Dev) : Dev :=
  if tdmState d = 0 then d
  else
    let was := isAttached d
    let keep := d.tdm
    d |> setF F.TDM_STATUS.STATE 0 |> lower F.TDM_STATUS.SYNC |> lower F.TDM_STATUS.PARTNER_SYNC |> lower F.TDM_STATUS.HB_FAULT
      |> setF F.TDM_PARTNER.ADDR 0
      |> updTdm (fun _ => { seq := keep.seq, lastFrame := keep.lastFrame, downAt := keep.downAt, events := keep.events
                            attachedAt := if was then some d.pt else keep.attachedAt })
      |> whenD was (fun d => d |> logEvent 0x0905 2 ⟨0, 8, 0⟩ 0 0 0 |> tdmEvent 2 0 0)

end Sys2Proof.Machine
end

