-- ==== Sys2Proof/Machine/Engine.lean ====
section
/-! DEFINITION. The registration engine (04_implement_and_pose.md, 05_registration_decisions.md, 07 from R245): poses, tiles,
estimators, decisions, marking and reports. The order of a geometry-cycle start is in Cycle.lean. -/
namespace Sys2Proof.Machine

def updEng (f : Engine → Engine) (d : Dev) : Dev := { d with eng := f d.eng }
def getOut (o : Nat) (d : Dev) : OutletSt := kget d.eng.outlets o {}
def updOut (o : Nat) (f : OutletSt → OutletSt) (d : Dev) : Dev :=
  updEng (fun e => { e with outlets := kupd e.outlets o {} f }) d
def outlets (d : Dev) : List Outlet := match d.eng.table with | some t => t.outlets | none => []
def outletRec (o : Nat) (d : Dev) : Outlet := (outlets d).getD o {}

/-- The key of an outlet's channel: KIND, FOLLOWER and CHAN as one number. -/
def outletKey (o : Outlet) : Nat := if o.kind = 0 then o.chan else 512 * (o.follower + 1) + o.chan
/-- The outlet of the active table that drives a channel, by key. -/
def findOutlet (key : Nat) (d : Dev) : Option Nat :=
  match kget d.eng.chanOutlet key 0 with
  | 0 => none
  | n + 1 => some n
/-- The outlet a record names for channel n of spoke k. Without an active table's outlet the manual gives no number: free. -/
def outletOf (k n : Nat) (d : Dev) : Nat :=
  match findOutlet (globalCh k n) d with
  | some o => o
  | none => Config.freeNat (2 ^ 64 + globalCh k n)

/-- The spoke and local channel of a global channel. -/
def spokeOf (chan : Nat) : Nat := chan / 64 + 1
def localOf (chan : Nat) : Nat := chan % 64

/-! ### Registers of the engine in ticks -/

def cyclePeriod (d : Dev) : Nat := us (getF F.REG_CYCLE.PERIOD d)
def leadOfKind (kind : Nat) (d : Dev) : Nat := us (if kind = 0 then getF F.REG_TIMING.LEAD d else getF F.REG_TIMING.FLEAD d)
def keepEff (d : Dev) : Nat := us (max (getF F.REG_TIMING2.KEEP d) (4 * getF F.REG_CYCLE.PERIOD d))
def poseTimeout (d : Dev) : Nat := ms (match d.eng.table with | some t => t.poseTimeout | none => 300)
def tapTimeout (d : Dev) : Nat := ms (match d.eng.table with | some t => t.tapTimeout | none => 20)

/-! ### Poses (R154 to R158) -/

/-- The engine accepts a pose with the coefficients of its record, if it has one (R156). The result is DETAIL. -/
def poseAccept (p : Pose) (rec_ : Option (List (List Int))) (d : Dev) : Nat × Dev :=
  let old := match d.eng.newestTag with | some t => decide (p.tag ≤ t) | none => false
  let detail := (if old then 1 else 0) + (if 266667 < p.speed.natAbs then 2 else 0) +
    (if poseTimeout d < d.pt - p.tag then 4 else 0)
  if old then (detail, countF F.REG_POSE_STATUS.SKIPPED d)
  else
    let d := setF F.REG_POSE_TAG.TAG (p.tag % 2 ^ 32) (updEng (fun e => { e with pose := some p, newestTag := some p.tag }) d)
    match rec_ with
    | none => (detail, d)
    | some c => (detail, updEng (fun e => { e with coeffs := c, recordTag := some p.tag, zeroed := false }) d)

/-- The pose of 32 bytes of PT_TAG and kinematics and a NO_APPLY mark. -/
def poseOf (bs : List Byte) (noApply : Bool) : Pose :=
  { tag := leAt bs 0 8, east := signedOf 32 (leAt bs 8 4), north := signedOf 32 (leAt bs 12 4), heading := leAt bs 16 4
    speed := signedOf 32 (leAt bs 20 4), yaw := signedOf 32 (leAt bs 24 4), accel := signedOf 32 (leAt bs 28 4), noApply := noApply }

/-- Four coefficients from 16 bytes. -/
def coeffs4 (bs : List Byte) : List Int := (List.range 4).map fun j => signedOf 32 (leAt bs (4 * j) 4)

/-- A pose record breaks R155 for the active table. -/
def recordBad (bs : List Byte) (d : Dev) : Bool :=
  match d.eng.table with
  | none => true
  | some t => leAt bs 0 1 != t.segments.length || ((bs.drop 1).take 15).any (· != 0)

/-- The coefficients of a pose record, by segment. -/
def recordCoeffs (bs : List Byte) : List (List Int) :=
  (List.range (leAt bs 0 1)).map fun s => coeffs4 ((bs.drop (16 + 16 * s)).take 16)

/-! ### Extrapolation and boom shape (R158 to R167) -/

/-- The speed a pose extrapolates to after some ticks (R161), in the unit of `Ext.v`. -/
def speedAt (p : Pose) (t : Int) : Int := (extrapolate { e := 0, n := 0, psi := 0, v := p.speed * tickHz, yaw := p.yaw } p.accel t).v

/-- The pose in use moved forward by τ ticks. The result may lie off the exact one by what R162 allows: free. -/
def extFor (p : Pose) (tau : Nat) (d : Dev) : Ext × Dev :=
  let x := extrapolate { e := p.east * 2 ^ 16, n := p.north * 2 ^ 16, psi := (p.heading : Int) * 2 ^ 32, v := p.speed * tickHz, yaw := p.yaw } p.accel tau
  let (a, d) := fresh d
  let (b, d) := fresh d
  let (c, d) := fresh d
  let off := fun (v bound : Nat) => (((v + bound) % (2 * bound + 1) : Nat) : Int) - (bound : Nat)
  ({ x with e := x.e + off a (2 * 2 ^ 16), n := x.n + off b (2 * 2 ^ 16), psi := x.psi + off c (2 ^ 44) }, d)

/-- The key of an observer state of a loop. -/
def tapKey (spoke loop state : Nat) : Nat := (spoke * 24 + loop) * 8 + state

/-- The newest sample of a tap whose PT is not later than C (R164). -/
def tapSample (p : Tap) (c : Nat) (d : Dev) : Option TapSample :=
  (kget d.eng.taps (tapKey p.spoke p.loop p.state) []).find? fun x => decide (x.pt ≤ c)

/-- A sample joins those of its state, newest first; of those not later than now only the newest can still be wanted. -/
def addSample (x : TapSample) (now : Nat) (xs : List TapSample) : List TapSample :=
  let all := xs.takeWhile (fun y => decide (x.pt < y.pt)) ++ x :: xs.dropWhile (fun y => decide (x.pt ≤ y.pt))
  all.filter (fun y => decide (now < y.pt)) ++ (all.filter fun y => decide (y.pt ≤ now)).take 1

/-- A tap is stale at C (R165). -/
def tapStale (p : Tap) (c : Nat) (d : Dev) : Bool :=
  let mode := loopMode p.spoke p.loop d
  let noObs := match loopBlock p.spoke p.loop d with | some b => b.n == 0 | none => true
  let old := match tapSample p c d with
    | some x => decide (x.pt + tapTimeout d < c)
    | none => true
  old || mode == 0 || mode == 3 || noObs || isIsolated p.spoke d || !(getLink p.spoke d).up

/-- The tap value T (R164). -/
def tapValue (p : Tap) (c : Nat) (d : Dev) : Int :=
  let num := ((tapSample p c d).map (·.value)).getD 0 * p.gain
  let t := if p.shift ≤ 31 then num / 2 ^ (31 - p.shift).toNat else num * 2 ^ (p.shift - 31).toNat
  clampI (-(2 ^ 31)) (2 ^ 31 - 1) t

/-- The host coefficients are taken as 0 at C (R167). -/
def coeffsZero (c : Nat) (d : Dev) : Bool :=
  d.eng.zeroed || match d.eng.recordTag with | none => true | some t => decide (t + poseTimeout d < c)

/-- The effective coefficients of segment i at C (R166). -/
def effCoeffs (i : Nat) (s : Segment) (c : Nat) (d : Dev) : List Int :=
  let zero := coeffsZero c d
  (List.range 4).map fun j =>
    let h := if zero then 0 else (d.eng.coeffs.getD i []).getD j 0
    match s.taps[j]? with
    | none => h
    | some p =>
      if p.spoke = 0 || tapStale p c d then h
      else if p.repl then tapValue p c d else h + tapValue p c d

/-- The points of an outlet in the boom frame, deflected (R163). -/
def shapedPoints (o : Outlet) (c : Nat) (d : Dev) : List (Int × Int) :=
  let s := (match d.eng.table with | some t => t.segments | none => []).getD o.segment {}
  if s.dir = 0 then o.points
  else
    let k := effCoeffs o.segment s c d
    o.points.map fun p => (deflect s.py s.span p.1 p.2 k, p.2)

/-- REG_TAP_STALE and BOOM_STALE at C (R165, R167). -/
def staleSegs (c : Nat) (d : Dev) : Nat :=
  let segs := match d.eng.table with | some t => t.segments | none => []
  (List.range segs.length).foldl (fun m i =>
    let s := segs.getD i {}
    if s.dir != 0 && s.taps.any (fun p => p.spoke != 0 && tapStale p c d) then m + 2 ^ i else m) 0

/-! ### Tiles (R171 to R186) -/

/-- The tile has a kind and a place. -/
def tileIs (kind : Nat) (e n : Int) (t : Tile) : Bool := t.kind == kind && t.e == e && t.n == n
/-- Two tiles are the same tile of the same field: a tile of an earlier field, which waits for its write-back, is another (R143, R185). -/
def sameTile (t u : Tile) : Bool := tileIs t.kind t.e t.n u && t.k == u.k && t.fid == u.fid
/-- The tile is of the field in force (R142, R143). -/
def inField (d : Dev) (t : Tile) : Bool := t.k == d.eng.k && t.fid == d.eng.fieldId
/-- The tile of the field in force at a place. -/
def findTile (kind : Nat) (e n : Int) (d : Dev) : Option Tile := d.eng.tiles.find? fun t => tileIs kind e n t && inField d t
def updTile (u : Tile) (f : Tile → Tile) (d : Dev) : Dev :=
  updEng (fun g => { g with tiles := g.tiles.map fun t => if sameTile u t then f t else t }) d
def dropTile (u : Tile) (d : Dev) : Dev := updEng (fun g => { g with tiles := g.tiles.filter fun t => !sameTile u t }) d
/-- Blocks of a tile. -/
def tileBlocks (t : Tile) : Nat := if t.kind = 0 then 1 else 2
def usedBlocks (ts : List Tile) : Nat := ts.foldl (fun n t => n + tileBlocks t) 0
def isDirty (t : Tile) : Bool := t.incr != []
/-- The block is pinned (R186). -/
def isPinned (d : Dev) (t : Tile) : Bool := isDirty t || t.markOnly || (t.cycleRef != 0 && decide (d.eng.prevCycle ≤ t.cycleRef))

/-- Tiles that may be evicted, least recently referenced first. -/
def evictable (d : Dev) : List Tile :=
  (d.eng.tiles.filter fun t => !isPinned d t).foldl (fun q t =>
    q.takeWhile (fun x => decide (x.lastRef ≤ t.lastRef)) ++ t :: q.dropWhile (fun x => decide (x.lastRef ≤ t.lastRef))) []

/-- Evict from the list until `need` blocks are free. -/
def evictFor (need : Nat) : List Tile → Dev → Dev
  | [], d => d
  | t :: ts, d => if usedBlocks d.eng.tiles + need ≤ 4096 then d else evictFor need ts (dropTile t d)

/-- Make room for a tile; the result says whether there is room (R180, R186). -/
def makeRoom (need : Nat) (d : Dev) : Bool × Dev :=
  let gain := (evictable d).foldl (fun n t => n + tileBlocks t) 0
  if usedBlocks d.eng.tiles + need ≤ 4096 + gain then (true, evictFor need (evictable d) d) else (false, d)

/-- What names a coverage tile among those whose marks were lost: its field, K and place (R142, R202). -/
def lostKey (t : Tile) : Nat × Nat × Int × Int := (t.fid, t.k, t.e, t.n)

/-- Marks of a tile are lost: the flag, and the count once until the tile has a block again (R185, R187, R202). -/
def marksLost (t : Tile) (d : Dev) : Dev :=
  let d := raise F.REG_STATUS.MARK_LOST d
  if d.eng.lostSeen.contains (lostKey t) then d
  else countF F.REG_TILE_STATS.LOST (updEng (fun g => { g with lostSeen := lostKey t :: g.lostSeen }) d)

/-- A nibble of a coverage payload (R171). -/
def nibble (payload : List Byte) (p : Nat) : Nat := ((payload.getD (p / 2) 0).toNat >>> (4 * (p % 2))) % 16

/-- The cells of a payload (R171): entries for the cells that are not 0. -/
def payloadCells (kind : Nat) (payload : List Byte) : KMap Nat :=
  if kind = 0 then
    ((List.range 4096).map fun p => (p, nibble payload p)).filter fun e => e.2 != 0
  else ((List.range 4096).zip (payload.map (·.toNat))).filter fun e => e.2 != 0

/-- COUNT plus increments, saturating at 3; EXCL and FOREIGN kept (R173, R179). -/
def addCount (cell n : Nat) : Nat := cell / 4 * 4 + min 3 (cell % 4 + n)

/-- A push of the tile that is being merged: the words not yet merged go out as pushed (R179, R206). -/
def refreshMerge (t : Tile) (d : Dev) : Dev :=
  let joined := fun (w : WriteBack) =>
    let merged := fun (c : Nat × Nat) => w.merged.contains (c.1 / 16)
    (t.cells.filter (!merged ·)).foldl (fun m c => kput m c.1 c.2 0) (w.cells.filter merged)
  let mine := fun (w : WriteBack) => w.kind == t.kind && w.e == t.e && w.n == t.n && w.k == t.k && w.fid == t.fid
  updEng (fun g => { g with writing := g.writing.map fun w => if mine w then { w with cells := joined w } else w }) d

/-- Install a pushed tile (R178 to R180, R202): the status and DETAIL. -/
def installTile (buf : List Byte) (home : Nat) (d : Dev) : (Nat × Nat) × Dev :=
  let kind := leAt buf 8 1 / 16
  let k := leAt buf 8 1 % 16
  let e := signedOf 32 (leAt buf 0 4)
  let n := signedOf 32 (leAt buf 4 4)
  let fid := leAt buf 12 4
  if k != d.eng.k || fid != d.eng.fieldId then ((stBadLength, 2), d)
  else
    let old := findTile kind e n d
    let cells := payloadCells kind (buf.drop 32)
    let base : Tile := { kind := kind, e := e, n := n, k := k, fid := fid, gen := leAt buf 16 4, home := home, cells := cells,
                         lastRef := d.pt }
    match old with
    | some t =>
      let joined := t.incr.foldl (fun m x => kput m x.1 (addCount (kget m x.1 0) x.2) 0) cells
      let new := { base with cells := joined, incr := t.incr, marks := t.marks, fresh := t.fresh, lastRef := t.lastRef, cycleRef := t.cycleRef,
                             oldest := t.oldest, since := t.since, lastMark := t.lastMark, wbDue := t.wbDue, dropBy := t.dropBy, dropFor := t.dropFor }
      ((stOk, if t.incr = [] then 4 else 5), d |> updTile t (fun _ => new) |> refreshMerge base)
    | none =>
      let (room, d) := makeRoom (tileBlocks base) d
      if room then ((stOk, 0), updEng (fun g => { g with tiles := g.tiles ++ [base], lostSeen := g.lostSeen.filter (kind != 0 || · != lostKey base) }) d)
      else
        let lru := (d.eng.tiles.filter isDirty).foldl (fun b t => match b with
          | none => some t
          | some (x : Tile) => if t.lastRef < x.lastRef then some t else some x) none
        let d := match lru with
          | some t => updTile t (fun t => { t with wbDue := true }) d
          | none => d
        ((stBusy, 0), d)

/-- The checks of a tile buffer after its CRC (R177). -/
def pushCheck (x : InDesc) (d : Dev) : Nat :=
  let buf := x.buf
  let kind := leAt buf 8 1 / 16
  if (kind = 0 && x.len != 2080) || (kind = 1 && x.len != 4128) then 1
  else if leAt buf 8 1 % 16 != d.eng.k || leAt buf 12 4 != d.eng.fieldId then 2
  else if 1 < kind || leAt buf 9 1 != 0 || (kind = 0 && leAt buf 10 2 != 0xFFFF) || (kind = 1 && leAt buf 10 2 != 0) ||
      leAt buf 20 2 / 4096 != 0 || ((buf.drop 22).take 6).any (· != 0) then 3
  else 0

/-- A tile waits to be dropped for a TILE_INVALIDATE. -/
def dropWaits (desc : Nat × Nat) (d : Dev) : Bool := d.eng.tiles.any fun t => t.dropFor.contains desc

/-- A tile is dropped; every TILE_INVALIDATE it was the last of completes (R185). -/
def dropDone (t : Tile) (d : Dev) : Dev :=
  eachD t.dropFor (fun w d => whenD (!dropWaits w d) (complete w.1 w.2 stOk 0 []) d) (dropTile t d)

/-- A TILE_INVALIDATE completes in a cycle start once its last tile is gone (R185, R542). -/
def invalidateDone (desc : Nat × Nat) (d : Dev) : Dev := whenD (!dropWaits desc d) (completeLater desc.1 desc.2 stOk 0 []) d

/-- As `dropDone`, in a cycle start. -/
def dropLater (t : Tile) (d : Dev) : Dev := eachD t.dropFor invalidateDone (dropTile t d)

/-- A selected tile of an invalidation is dropped or queued for write-back (R185). -/
def invalidateTile (discard : Bool) (desc : Option (Nat × Nat)) (t : Tile) (d : Dev) : Dev :=
  if !isDirty t then dropLater t d
  else if discard then marksLost t (dropLater t d)
  else updTile t (fun t => { t with
    wbDue := true, dropBy := some (t.dropBy.getD (d.pt + ms 100)), dropFor := t.dropFor ++ desc.toList }) d

/-- TILE_INVALIDATE takes effect, or FIELD_SET's drop of the cache (R143, R185). -/
def invalidate (all : Bool) (kind : Nat) (e n : Int) (discard : Bool) (desc : Option (Nat × Nat)) (d : Dev) : Dev :=
  let sel := d.eng.tiles.filter fun t => all || (tileIs kind e n t && inField d t)
  let d := eachD sel (invalidateTile discard desc) d
  match desc with
  | some x => invalidateDone x d
  | none => d

/-- The tile at a place whose drop is due, an earlier field's first. -/
def lateTile (e n : Int) (d : Dev) : Option Tile :=
  d.eng.tiles.find? fun t => tileIs 0 e n t && (match t.dropBy with | some b => decide (b ≤ d.pt) | none => false)

/-- A queued tile is not written in time (R185). -/
def invalidateTimeout (e n : Int) (d : Dev) : Dev :=
  match lateTile e n d with
  | none => d
  | some t =>
    d |> marksLost t |> logEvent 0x0305 4 ⟨0, 2, 0⟩ (toBits 32 e) (toBits 32 n) 0 |> dropDone t

/-! ### Tile requests (R181 to R184) -/

/-- The cached copy of a tile: a mark-only block is none, its tile has not arrived (R193, R202). -/
def cachedTile (kind : Nat) (e n : Int) (d : Dev) : Option Tile := (findTile kind e n d).filter fun t => !t.markOnly

/-- Blocks requested and not cached, within the RETRY period. -/
def askedBlocks (d : Dev) : Nat :=
  let retry := ms (10 * getF F.REG_PREFETCH.RETRY d)
  d.eng.requested.foldl (fun m r =>
    if d.pt < r.2 + retry && (cachedTile r.1.1 r.1.2.1 r.1.2.2 d).isNone then m + (if r.1.1 = 0 then 1 else 2) else m) 0

/-- The last request of a tile. -/
def lastAsked (kind : Nat) (e n : Int) (d : Dev) : Option Nat := (d.eng.requested.find? fun r => r.1 == (kind, e, n)).map (·.2)

/-- A tile is left out: SHORT counts it once in a cycle (R184, log entry 124). -/
def leaveOut (key : Nat × Int × Int) (d : Dev) : Dev :=
  if d.eng.shortTiles.contains key then d
  else d |> raise F.REG_STATUS.SHORT |> countF F.REG_TILE_STATS.SHORT |> updEng (fun g => { g with shortTiles := key :: g.shortTiles })

/-- Request a tile unless it is cached or was requested within a time (R182 to R184). Once one is left out in a cycle, requesting has
stopped for it. -/
def requestTile (kind : Nat) (e n : Int) (need within : Nat) (d : Dev) : Dev :=
  let recent := match lastAsked kind e n d with | some t => decide (d.pt < t + within) | none => false
  if (cachedTile kind e n d).isSome || recent then d
  else
    let pinned := usedBlocks (d.eng.tiles.filter (isPinned d))
    if !d.eng.shortTiles.isEmpty || decide (4096 - pinned < usedBlocks d.eng.tiles + askedBlocks d + (if kind = 0 then 1 else 2)) then
      leaveOut (kind, e, n) d
    else
      match waitingBuffer 3 0x31 none d with
      | none => noBuf 3 none d
      | some (i, x) =>
        let bytes := leBytes 4 (toBits 32 e) ++ leBytes 4 (toBits 32 n) ++ leBytes 1 kind ++ [0] ++ leBytes 2 (min need 65535) ++ leBytes 4 0
        let d := updEng (fun g => { g with requested := ((kind, e, n), d.pt) :: g.requested.filter fun r => r.1 != (kind, e, n) }) d
        finishLater i x stOk 0 bytes d

/-! ### Delay estimators and slip (R248, R259, R260) -/

def estValue (e : Estim) : Nat := (e.e + 8) / 16
def dOn (o : Nat) (d : Dev) : Nat := estValue (getOut o d).on
def dOff (o : Nat) (d : Dev) : Nat := estValue (getOut o d).off

/-- A DELAY sample m (R259, R260). A reseed empties the count of rejected samples (log entry 158). -/
def estSample (off : Bool) (o m : Nat) (d : Dev) : Dev :=
  let st := getOut o d
  let x := if off then st.off else st.on
  let put := fun (e : Estim) => updOut o (fun s => if off then { s with off := e } else { s with on := e })
  let v := estValue x
  let gap := if m < v then v - m else m - v
  if gap * 100 ≤ getF F.REG_EST_CFG.GATE d * v then put { e := x.e + m - x.e / 16, reject := [] } d
  else
    let rs := x.reject ++ [m]
    if rs.length < getF F.REG_EST_CFG.RESEED_N d then put { x with reject := rs } d
    else
      let mean := rs.foldl (· + ·) 0 / rs.length
      d |> put { e := 16 * mean, reject := [] }
        |> updOut o (fun s => { s with reseeds := satAdd 255 s.reseeds 1 })
        |> (fun d => { d with health := { d.health with reseeds := kupd d.health.reseeds o 0 (satAdd 65535 · 1) } })
        |> logEvent 0x0307 3 ⟨0, 2, 0⟩ v mean (o + if off then 2 ^ 31 else 0)

/-- SLIP_LIMIT of an outlet's spoke, in µs. Nothing tells the planner that of a follower: free. -/
def outletSlipLimit (r : Outlet) (d : Dev) : Nat :=
  if r.kind = 0 then getF (F.DRV_SCHED_CFG.SLIP_LIMIT (spokeOf r.chan)) d else Config.freeNat (2 ^ 65 + outletKey r)

/-- The slip allowance S of an outlet, at most SLIP_LIMIT as it is now (R248). -/
def slipOf (o : Nat) (d : Dev) : Nat := min (getOut o d).s (outletSlipLimit (outletRec o d) d)

/-- A slip sample of an opening that began an entry (R248). Where the new S lies half-way between two µs, a free bit decides. -/
def slipSample (o : Nat) (f : HeldFeed) (d : Dev) : Dev :=
  let lim := outletSlipLimit (outletRec o d) d
  let m := if !f.slip then f.slipUs else if f.delay = 0xFFFF then lim else f.slipUs + (f.delay - dOn o d)
  let m := min m lim
  let w := 2 ^ (getF F.REG_EST_CFG.SLIP_W d + 1)
  let num : Int := slipOf o d * w + ((m : Int) - slipOf o d)
  let q := num / w
  let r := num % w
  let (v, d) := fresh d
  let s := if r * 2 < w then q else if (w : Int) < r * 2 then q + 1 else q + (v % 2 : Nat)
  updOut o (fun x => { x with s := s.toNat }) d

/-! ### Applying intervals (R200) -/

/-- Change the newest interval that began at or before a PT. -/
def updIvAt (at_ : Nat) (f : AppIv → AppIv) (st : OutletSt) : OutletSt :=
  let late := (st.ivs.reverse.takeWhile fun v => decide (at_ < v.start)).reverse
  match (st.ivs.take (st.ivs.length - late.length)).getLast? with
  | some v => { st with ivs := (st.ivs.take (st.ivs.length - late.length)).dropLast ++ f v :: late }
  | none => st

/-- An OPENED starts an interval, but within one in progress of the same entry. -/
def openIv (at_ : Nat) (st : OutletSt) : OutletSt :=
  match st.ivs.getLast? with
  | some v => if v.stop.isNone && (v.entryEnd.isNone || decide (at_ < st.runStart)) then st else { st with ivs := st.ivs ++ [{ start := at_ }] }
  | none => { st with ivs := [{ start := at_ }] }

/-- Change the newest interval. -/
def updIv (f : AppIv → AppIv) (st : OutletSt) : OutletSt :=
  match st.ivs.getLast? with
  | some v => { st with ivs := st.ivs.dropLast ++ [f v] }
  | none => st

/-- Take one event of an outlet (R200, R248, R259). -/
def takeFeed (f : HeldFeed) (d : Dev) : Dev :=
  let o := f.outlet
  let r := outletRec o d
  if f.lost then
    updOut o (fun s => { updIv (fun v => { v with stop := if v.stop.isNone then some f.at_ else v.stop }) s with lost := true, valveOpen := false }) d
  else match f.event with
  | .opened =>
    let at_ := if f.delay = 0xFFFF then f.at_ + us (dOn o d) else f.at_
    let d := updOut o (fun s => openIv at_ { s with slip := f.slip, valveOpen := true, lost := false }) d
    let d := if (getOut o d).wantSlip then
        whenD (!f.late) (slipSample o f) (updOut o (fun s => { s with wantSlip := false }) d)
      else d
    if f.delay != 0xFFFF && !f.slip then estSample false o f.delay d else d
  | .closed =>
    let at_ := if f.delay = 0xFFFF then f.at_ + us (dOff o d) else f.at_
    let d := updOut o (fun s =>
      let s := { s with valveOpen := false }
      if r.pwmEn then updIvAt at_ (fun v => { v with lastClosed := some at_, stop := v.stop.map (max · at_) }) s
      else updIv (fun v => { v with stop := if v.stop.isNone then some at_ else v.stop }) s) d
    if f.delay != 0xFFFF && f.fast then estSample true o f.delay d else d
  | .endedNoTravel => updOut o (fun s => { s with slip := f.slip }) d
  | .disabledByFault =>
    updOut o (fun s =>
      if s.valveOpen then updIv (fun v => { v with stop := if v.stop.isNone then some f.at_ else v.stop }) { s with valveOpen := false }
      else s) d

/-- At cycle start C: the intervals of a pulsed outlet whose entry is over end (R200), the newest not before the CLOSED of its last pulse;
intervals long past are dropped. -/
def settleIvs (o c : Nat) (d : Dev) : Dev :=
  let r := outletRec o d
  let off := us (dOff o d)
  updOut o (fun s =>
    let over_ := fun (v : AppIv) =>
      let e := v.entryEnd.getD s.runEnd + off
      let waits := s.valveOpen && s.ivs.getLast? == some v
      if r.pwmEn && v.stop.isNone && !waits && decide (e ≤ c) then { v with stop := some (max (v.lastClosed.getD 0) e) } else v
    { s with ivs := (s.ivs.map over_).filter fun v => match v.stop with | some t => decide (c < t + sec 10) | none => true }) d

/-- The outlet applies at PT t. -/
def appliesAt (t : Int) (st : OutletSt) : Bool :=
  st.ivs.any fun v => decide ((v.start : Int) ≤ t) && match v.stop with | some e => decide (t < (e : Int)) | none => true

/-! ### Points at a horizon (R190, R193, R197) -/

/-- What the engine reads at a point. -/
structure PointRead where
  covered  : Bool
  excluded : Bool
  missCov  : Bool
  missRate : Bool
  rate     : Nat
deriving DecidableEq, Repr

/-- Read the cells under a point (R141, R173, R175, R176, R193). -/
def readPoint (cell : Option ((Int × Int) × Nat)) (d : Dev) : PointRead :=
  match cell with
  | none => ⟨false, true, false, false, 0⟩
  | some (tile, p) =>
    let cov := cachedTile 0 tile.1 tile.2 d
    let uniform := isSet F.REG_RATE_CFG.UNIFORM d
    let pres := if uniform then none else findTile 1 tile.1 tile.2 d
    let known := uniform || pres.isSome
    let code := if uniform then getF F.REG_RATE_CFG.UNIFORM_CODE d else match pres with | some t => kget t.cells p 0 | none => 0
    let rate := kget d.eng.rates code 0
    let cellv := match cov with | some t => kget t.cells p 0 | none => 0
    ⟨decide (cellv % 4 ≠ 0) || cellv.testBit 3, cellv.testBit 2 || (known && rate == 0), cov.isNone, !known, rate⟩

/-- The cell of each point of an outlet from a place (R139 to R141). -/
def cellsAt (x : Ext) (pts : List (Int × Int)) (d : Dev) : List (Option ((Int × Int) × Nat)) :=
  pts.map fun p =>
    let q := place x p.1 p.2
    if inFrame q then some (cellOf d.eng.k q) else none

/-- Some point of a list lies in a tile. -/
def cellsIn (cells : List (Option ((Int × Int) × Nat))) (t : Tile) : Bool :=
  cells.any fun x => match x with
    | some (q, _) => q == (t.e, t.n)
    | none => false

/-- Note that a horizon referenced the tiles under points (R186, R204). -/
def noteRefs (cells : List (Option ((Int × Int) × Nat))) (c : Nat) (d : Dev) : Dev :=
  let note := fun (t : Tile) => if cellsIn cells t then { t with lastRef := d.pt, cycleRef := c } else t
  updEng (fun g => { g with tiles := g.tiles.map note }) d

/-- A horizon limited under R189, as τ in ticks, and whether it was limited. -/
def limitHorizon (h c tag : Nat) : Nat × Bool :=
  let hi := min (c + sec 8) (tag + ms 8300)
  let g := max tag (min h hi)
  (g - tag, g != h)

/-! ### Marking (R200 to R203) -/

/-- Mark a cell (R201, R202). For a mark-only block an unpinned tile is evicted if no block is free, as for a push (log entry 152). -/
def markCell (tile : Int × Int) (p : Nat) (lost : Bool) (d : Dev) : Dev :=
  let new : Tile := { kind := 0, e := tile.1, n := tile.2, k := d.eng.k, fid := d.eng.fieldId, markOnly := true, lastRef := d.pt }
  let mark := fun (t : Tile) =>
    if t.fresh.contains p then { t with lastMark := d.pt }
    else { t with
      cells := kput t.cells p (addCount (kget t.cells p 0) 1) 0
      incr := kput t.incr p (min 3 (kget t.incr p 0 + 1)) 0
      marks := if isStoker d then (d.eng.cycleStart, p) :: t.marks else t.marks
      fresh := p :: t.fresh, lastMark := d.pt, oldest := if t.oldest.isSome then t.oldest else some d.pt
      since := if t.since.isSome then t.since else some d.pt }
  if lost then marksLost new d
  else
    match findTile 0 tile.1 tile.2 d with
    | some t => updTile t mark d
    | none =>
      let (room, d) := makeRoom 1 d
      if room then updEng (fun g => { g with tiles := g.tiles ++ [mark new], lostSeen := g.lostSeen.filter (· != lostKey new) }) d
      else marksLost new d

/-- Fresh bits of a block clear (R201); a mark-only block without increments is freed (R186). -/
def markHoldExpiry (e n : Int) (d : Dev) : Dev :=
  match findTile 0 e n d with
  | none => d
  | some t =>
    if t.fresh.isEmpty || d.pt < t.lastMark + ms (500 * getF F.REG_CFG.MARK_HOLD d) then d
    else if t.markOnly && t.incr == [] then dropTile t d
    else updTile t (fun t => { t with fresh := [] }) d

/-! ### Write-back (R204 to R207) -/

/-- Change every coverage tile at a place, of whatever field. -/
def updTiles (e n : Int) (f : Tile → Tile) (d : Dev) : Dev :=
  updEng (fun g => { g with tiles := g.tiles.map fun t => if tileIs 0 e n t then f t else t }) d

/-- WB_IDLE and WB_MAX_AGE: the write-back of a tile falls due. A mark-only block waits for MAX_AGE (R202). -/
def wbIdle (e n : Int) (d : Dev) : Dev :=
  updTiles e n (fun t => if isDirty t && !t.markOnly && t.lastRef + ms (getF F.REG_WB.IDLE d) ≤ d.pt then { t with wbDue := true } else t) d
def wbMaxAge (e n : Int) (d : Dev) : Dev :=
  updTiles e n (fun t => match t.oldest with
    | some o => if isDirty t && o + ms (10 * getF F.REG_WB.MAX_AGE d) ≤ d.pt then { t with wbDue := true } else t
    | none => t) d

/-- The 2,048 payload bytes of nibbles by cell. -/
def coverPayload (cells : KMap Nat) : List Byte :=
  (List.range 2048).map fun b => BitVec.ofNat 8 (kget cells (2 * b) 0 + 16 * kget cells (2 * b + 1) 0)

/-- A tile as it is written (R172, R205, R206). -/
def tileBytes (t : Tile) (layer : Nat) (cells : KMap Nat) (d : Dev) : List Byte :=
  let head := leBytes 4 (toBits 32 t.e) ++ leBytes 4 (toBits 32 t.n) ++ leBytes 1 t.k ++ [0] ++ leBytes 2 layer ++ leBytes 4 t.fid ++
    leBytes 4 t.gen ++ leBytes 2 (getF F.REG_CFG.APPLICATOR_ID d) ++ List.replicate 6 0
  let body := coverPayload cells
  head ++ leBytes 4 (crc32c (head ++ body)) ++ body

/-- Increments less those of a snapshot. -/
def lessSnap (incr snap : KMap Nat) : KMap Nat := snap.foldl (fun m x => kput m x.1 (kget m x.1 0 - x.2) 0) incr

/-- A write-back is done with the buffer: the snapshot's increments are cleared, a captain tells its stoker (R489, R491), a queued
tile goes (R185, R204); increments it made after the snapshot go with it and count as lost (log entry 151). -/
def writeDone (u : Tile) (snap : KMap Nat) (cycle : Nat) (d : Dev) : Dev :=
  let d := updTile u (fun t =>
    let left := lessSnap t.incr snap
    { t with incr := left, wbDue := false, marks := [], oldest := if left = [] then none else t.since.or t.oldest }) d
  let d := whenD (isCaptain d) (tdmSend (.wbdone u.e u.n (implOf cycle d))) d
  match d.eng.tiles.find? (sameTile u) with
  | none => d
  | some t =>
    if t.dropBy.isSome then if t.incr = [] then dropDone t d else marksLost t (dropDone t d)
    else if t.markOnly && t.incr == [] && t.fresh.isEmpty then dropTile t d
    else d

/-- The cells of one 64-bit word: 16 of them. -/
def wordCells (w : Nat) : List Nat := (List.range 16).map (16 * w + ·)
def wordOf (cells : KMap Nat) (w : Nat) : Nat := (wordCells w).foldl (fun v p => v + kget cells p 0 * 16 ^ (p % 16)) 0
def hasWord (snap : KMap Nat) (w : Nat) : Bool := (wordCells w).any fun p => kget snap p 0 != 0

/-- The next word from w on that has increments. -/
def nextWord (snap : KMap Nat) (w : Nat) : Option Nat := ((List.range 256).filter fun v => decide (w ≤ v) && hasWord snap v).head?

/-- A payload word with the increments of a snapshot added (add_counts of R206). -/
def addWord (expect : Nat) (snap : KMap Nat) (w : Nat) : Nat :=
  (wordCells w).foldl (fun v p => v + addCount (expect / 16 ^ (p % 16) % 16) (kget snap p 0) * 16 ^ (p % 16)) 0

/-- Issue the compare-and-swap of the word in progress. -/
def issueCas (t : Tile) (w : WriteBack) (d : Dev) : Dev :=
  d |> updEng (fun g => { g with writing := some w })
    |> emit (.cas (t.home + 8 * w.word) w.expect (addWord w.expect w.snap w.word))

/-- The tile a write-back names, and the tile it works on while it is cached. -/
def tileKey (w : WriteBack) : Tile := { kind := w.kind, e := w.e, n := w.n, k := w.k, fid := w.fid }
def tileOf (w : WriteBack) (d : Dev) : Option Tile := d.eng.tiles.find? (sameTile (tileKey w))

/-- A tile goes out to host memory as the data of a WB_BUFFER (R204, R205). One whose ECC check fails is not written and leaves the cache
(row 7 of R45); its completion has DETAIL 3, a tile's check (R125). What follows a write happens once its completion is written. -/
def putTile (i : Nat) (x : InDesc) (detail : Nat) (bytes : List Byte) (t : Tile) (done : Dev → Dev) (d : Dev) : Dev :=
  crossEcc 7 0 0 i x.index
    (fun d =>
      let n := (getRing i d).cqTail
      let d := putCompletion i x stOk detail bytes d
      whenD ((getRing i d).cqTail != n) done d)
    (fun d => d |> putCompletion i x stBadCrc 3 [] |> marksLost t |> dropDone t) d

/-- The WB_BUFFER of a merge whose tile has gone waits again, or ends with its ring's STOP (R133; log entry 125). -/
def releaseBuffer (w : WriteBack) (d : Dev) : Dev :=
  if ringState w.ring d == .running then updDesc w.ring w.index (fun y => { y with aux := 0 }) d else complete w.ring w.index stAborted 0 [] d

/-- The merge has gone through its words, or cannot go on: the tile is written (R206, R207). -/
def writeMerged (w : WriteBack) (fallback : Bool) (d : Dev) : Dev :=
  let d := updEng (fun g => { g with writing := none }) d
  match inFlight w.ring w.index d, tileOf w d with
  | some x, some t =>
    let left := w.snap.filter fun x => !(w.merged.contains (x.1 / 16))
    if !fallback && w.kept.isEmpty then putTile w.ring x 1 (tileBytes t 0xFFFF w.cells d) t (writeDone t left w.cycle) d
    else putTile w.ring x 2 (tileBytes t (getF F.REG_CFG.APPLICATOR_ID d) left d) t (writeDone t left w.cycle) d
  | some _, none => releaseBuffer w d
  | none, _ => d

/-- Compare-and-swap is withdrawn (R89, R207). -/
def casFallback (d : Dev) : Dev :=
  match d.eng.writing with
  | none => d
  | some w => d |> raise F.REG_STATUS.CAS_FALLBACK |> logEvent 0x0306 3 ⟨0, 2, 0⟩ 0 0 0 |> writeMerged w true

/-- A word is tried while compare-and-swap is in use; once it is withdrawn the tile is written (R89, R207). -/
def tryCas (t : Tile) (w : WriteBack) (d : Dev) : Dev :=
  if atomicsOpen d then issueCas t w d else casFallback (updEng (fun g => { g with writing := some w }) d)

/-- Go on with the word from `from_` on, or finish; n bounds the words. A word whose ECC check fails keeps its increments (row 19 of R45). -/
def mergeWords : Nat → WriteBack → Nat → Dev → Dev
  | 0, w, _, d => writeMerged w false d
  | n + 1, w, from_, d =>
    match nextWord w.snap from_, tileOf w d, inFlight w.ring w.index d with
    | some v, some t, some _ =>
      crossEcc 19 0 0 w.ring w.index (tryCas t { w with word := v, tries := 0, expect := wordOf t.cells v })
        (mergeWords n { w with kept := v :: w.kept } (v + 1)) d
    | _, _, _ => writeMerged w false d

/-- Go on with the word from `from_` on, or finish. -/
def mergeFrom (w : WriteBack) (from_ : Nat) (d : Dev) : Dev := mergeWords 257 w from_ d

/-- The tile at a place whose write-back is due, an earlier field's first; at parked entry every tile with unwritten marks is (R187, R204). -/
def dueTile (e n : Int) (d : Dev) : Option Tile :=
  d.eng.tiles.find? fun t => tileIs 0 e n t && (t.wbDue || d.pwr.park == .entering) && isDirty t

/-- A tile is written in own-layer form into a fetched WB_BUFFER (R204, R205, R546); a stoker writes none (R489). -/
def writeOwn (t : Tile) (d : Dev) : Dev :=
  if isStoker d then d
  else
    match waitingBuffer 4 0x40 none d with
    | none => noBuf 4 none d
    | some (i, x) => putTile i x 0 (tileBytes t (getF F.REG_CFG.APPLICATOR_ID d) t.incr d) t (writeDone t t.incr d.eng.cycleStart) d

/-- A due tile is written into a fetched WB_BUFFER, merged first where compare-and-swap is in use (R204 to R206, R546). -/
def writeTile (t : Tile) (d : Dev) : Dev :=
  if d.eng.writing.isSome || isStoker d then d
  else if isSet F.REG_CFG.MERGE d && atomicsOpen d && t.home != 0 then
    match waitingBuffer 4 0x40 none d with
    | none => noBuf 4 none d
    | some (i, x) =>
      let w : WriteBack := { kind := 0, e := t.e, n := t.n, k := t.k, fid := t.fid, ring := i, index := x.index, snap := t.incr, cells := t.cells
                             word := 0, tries := 0, expect := 0, kept := [], merged := [], cycle := d.eng.cycleStart }
      d |> updTile t (fun t => { t with since := none }) |> updDesc i x.index (fun y => { y with aux := 1 }) |> mergeFrom w 0
  else writeOwn t d

/-- TILE_WRITE_BACK. -/
def tileWriteBack (e n : Int) (d : Dev) : Dev :=
  match dueTile e n d with
  | none => d
  | some t => writeTile t d

/-- The merge in progress is given up; its request stays outstanding (R89). -/
def giveUpMerge (g : Engine) : Engine := { g with writing := none, casStale := g.casStale + if g.writing.isSome then 1 else 0 }

/-- A compare-and-swap completes (R89, R206). Those of merges given up were issued first and complete first; one that fails withdraws
compare-and-swap all the same. -/
def casCompletion (r : ReadResult) (d : Dev) : Dev :=
  if d.eng.casStale != 0 then
    let d := updEng (fun g => { g with casStale := g.casStale - 1 }) d
    match r with
    | .ok _ => d
    | _ => atomicFail d
  else
  match d.eng.writing with
  | none => d
  | some w =>
    match r with
    | .ok bs =>
      let got := leAt bs 0 8
      if got = w.expect then
        let want := addWord w.expect w.snap w.word
        let d := updTile (tileKey w) (fun t => { t with
          cells := (wordCells w.word).foldl (fun m p => kput m p (addCount (want / 16 ^ (p % 16) % 16) (kget t.incr p 0 - kget w.snap p 0)) 0) t.cells
          incr := (wordCells w.word).foldl (fun m p => kput m p (kget m p 0 - kget w.snap p 0) 0) t.incr }) d
        let cells := (wordCells w.word).foldl (fun m p => kput m p (want / 16 ^ (p % 16) % 16) 0) w.cells
        mergeFrom { w with merged := w.word :: w.merged, cells := cells } (w.word + 1) d
      else if w.tries = 7 then mergeFrom { w with kept := w.word :: w.kept } (w.word + 1) d
      else
        match tileOf w d with
        | some t => tryCas t { w with tries := w.tries + 1, expect := got } d
        | none => writeMerged w true d
    | _ => casFallback (atomicFail d)

/-! ### Schedule entries (R192, R196) -/

/-- The follower of an outlet is listed and in force (R153, R421). -/
def followerIn (r : Outlet) (d : Dev) : Bool :=
  (List.range d.sox.role.followers.length).any fun i =>
    d.sox.role.followers.getD i 0 == r.follower && bitOf F.CAN_SB_PRESENT.IN_FORCE i d

/-- The hub sends an entry of an outlet with a duty code: to the spoke, or to the planner's EDGE frames for KIND 1. None is sent for an
outlet whose follower is not in force (R153). -/
def sendEntry (o start finish_ code : Nat) (act : EdgeAct) (d : Dev) : Dev :=
  let r := outletRec o d
  if r.kind = 1 && !followerIn r d then d
  else
  let d := updOut o (fun s => { s with
    runStart := start, runEnd := finish_, sent := code
    ivs := if act = .on then s.ivs.map fun v => if v.stop.isNone && v.entryEnd.isNone then { v with entryEnd := some s.runEnd } else v else s.ivs }) d
  if r.kind = 0 then
    let k := spokeOf r.chan
    if (getLink k d).up && !isIsolated k d then
      linkSend k .hub (.sched { start := start % 2 ^ 32, finish := finish_ % 2 ^ 32, chan := localOf r.chan,
                                duty := code, freq := if r.pwmEn then r.freq else 0, slot := r.slot }) d
    else d
  else updEng (fun g => { g with edges := g.edges ++ [(o, act)] }) d

/-- End the entry of an outlet at a PT. -/
def endOutlet (o at_ : Nat) (d : Dev) : Dev :=
  let st := getOut o d
  if st.entryOn || decide (at_ < st.runEnd) then
    updOut o (fun s => { s with entryOn := false })
      (if at_ < st.runEnd then sendEntry o at_ at_ st.sent .offNow d else d)
  else d

/-- End every entry at C (R168, R196, R500). -/
def endAllEntries (c : Nat) (d : Dev) : Dev := eachD (List.range (outlets d).length) (fun o => endOutlet o c) d

end Sys2Proof.Machine
end

