-- ==== Sys2Proof/Machine/Table.lean ====
section
/-! DEFINITION. The implement table: its layout in the staging area, the commit checks and activation (R142 to R153, R218). -/
namespace Sys2Proof.Machine

/-- The size of the staging area (R144, R146). -/
def stagingSize : Nat := 1115392

/-- Bytes of the staging area from an address on; none beyond its end. -/
def stageBytes (m : List Host.Cell) (a n : Nat) : List Byte := memReadBytes m a (min n (stagingSize - a))

/-- A number of n bytes at an address of the staging area. -/
def stageVal (m : List Host.Cell) (a n : Nat) : Nat := leVal (stageBytes m a n)

/-- The bytes of a range are all 0. -/
def stageZero (m : List Host.Cell) (a n : Nat) : Bool := (stageBytes m a n).all (· == 0)

def tblOutlets (m : List Host.Cell) : Nat := stageVal m 8 2
def tblSegs (m : List Host.Cell) : Nat := stageVal m 10 1
def tblPoints (m : List Host.Cell) : Nat := stageVal m 12 4

/-- Tap j of the segment record at an address. -/
def parseTap (m : List Host.Cell) (a j : Nat) : Tap :=
  let w := stageVal m (a + 16 + 8 * j) 2
  { spoke := w % 8, loop := w / 8 % 32, state := w / 256 % 8, repl := w.testBit 11
    shift := signedOf 8 (stageVal m (a + 18 + 8 * j) 1), gain := signedOf 32 (stageVal m (a + 20 + 8 * j) 4) }

/-- Segment record s. -/
def parseSegment (m : List Host.Cell) (s : Nat) : Segment :=
  let a := 256 + 64 * s
  { px := signedOf 32 (stageVal m a 4), py := signedOf 32 (stageVal m (a + 4) 4), span := stageVal m (a + 8) 4
    dir := stageVal m (a + 12) 1 % 4, taps := (List.range 4).map (parseTap m a) }

/-- POINT_FIRST and NPOINTS of outlet record o. -/
def footprint (m : List Host.Cell) (o : Nat) : Nat × Nat := (stageVal m (1280 + 32 * o + 4) 4, stageVal m (1280 + 32 * o + 8) 1)

/-- Outlet record o without its points. -/
def parseOutlet (m : List Host.Cell) (o : Nat) : Outlet :=
  let a := 1280 + 32 * o
  let b := fun i => stageVal m (a + i) 1
  let dmin := b 24
  let dmax := b 25
  let def_ := dmin == 0 && dmax == 0
  { kind := b 0, follower := b 1 % 64, chan := stageVal m (a + 2) 2, profile := b 9 % 16, segment := b 9 / 16
    onSeed := stageVal m (a + 10) 2, offSeed := stageVal m (a + 12) 2, fluid := stageVal m (a + 14) 2, flow := stageVal m (a + 16) 4
    group := b 20, slot := b 21 % 8, pwmEn := (b 21).testBit 3, freq := b 22, parallel := (b 23).testBit 0
    disabled := (b 23).testBit 1, dutyMin := if def_ then 10 else dmin, dutyMax := if def_ then 100 else dmax }

/-- Point record p. -/
def parsePoint (m : List Host.Cell) (p : Nat) : Int × Int :=
  (signedOf 32 (stageVal m (66816 + 8 * p) 4), signedOf 32 (stageVal m (66816 + 8 * p + 4) 4))

/-- The table that the staging area holds. -/
def parseTable (m : List Host.Cell) : Table :=
  let dflt := fun (v z : Nat) => if v = 0 then z else v
  { id := stageVal m 4 4, poseTimeout := dflt (stageVal m 16 2) 300, tapTimeout := dflt (stageVal m 18 2) 20
    creep := dflt (stageVal m 20 4) 2222, segments := (List.range (tblSegs m)).map (parseSegment m)
    outlets := (List.range (tblOutlets m)).map fun o =>
      let f := footprint m o
      { parseOutlet m o with points := (List.range f.2).map fun i => parsePoint m (f.1 + i) } }

/-! ### Commit checks (R148) -/

/-- Check 1. -/
def checkCrc (m : List Host.Cell) : Bool :=
  stageVal m 0 4 == 0x594E5431 &&
    stageVal m 60 4 == crc32c (stageBytes m 0 60 ++ stageBytes m 256 (64 * tblSegs m) ++ stageBytes m 1280 (32 * tblOutlets m) ++
      stageBytes m 66816 (8 * tblPoints m))

/-- Check 2. -/
def checkCounts (m : List Host.Cell) : Bool :=
  decide (1 ≤ tblOutlets m) && decide (tblOutlets m ≤ 2048) && decide (1 ≤ tblSegs m) && decide (tblSegs m ≤ 16) &&
    decide (1 ≤ tblPoints m) && decide (tblPoints m ≤ 131072)

/-- Check 3. -/
def checkHeader (m : List Host.Cell) : Bool :=
  let p := stageVal m 16 2
  let t := stageVal m 18 2
  (p == 0 || (decide (20 ≤ p) && decide (p ≤ 2000))) && decide (t ≤ 1000) && decide (stageVal m 20 4 ≤ 213333) &&
    stageVal m 11 1 == 0 && stageZero m 24 36 && stageZero m 64 192

/-- Check 4 for segment s. -/
def checkSegment (m : List Host.Cell) (s : Nat) (d : Dev) : Bool :=
  let a := 256 + 64 * s
  let g := parseSegment m s
  let dir := stageVal m (a + 12) 4
  decide (1 ≤ g.span) && decide (g.span ≤ 1048576) && decide (dir < 3) && stageZero m (a + 48) 16 &&
    (List.range 4).all fun j =>
      let p := parseTap m a j
      decide (stageVal m (a + 16 + 8 * j) 2 < 4096) && stageVal m (a + 19 + 8 * j) 1 == 0 &&
        (p.spoke == 0 || dir == 0 || (hasSpoke p.spoke d && decide (p.loop < 24) && decide (-31 ≤ p.shift) && decide (p.shift ≤ 15)))

/-- Followers named by the first outlets, without repeats. -/
def followersOf (m : List Host.Cell) (n : Nat) : List Nat :=
  uniq (((List.range n).map (parseOutlet m)).filterMap fun o => if o.kind = 1 then some o.follower else none)

/-- Check 5 for outlet o. A KIND 0 outlet whose FOLLOWER is not 0 fails it too (log entry 123). -/
def checkTarget (m : List Host.Cell) (o : Nat) (d : Dev) : Bool :=
  let r := parseOutlet m o
  match r.kind with
  | 0 => r.follower == 0 && decide (r.chan < 64 * nSpokes d)
  | 1 => decide (r.follower ≤ 62) && r.follower != d.chip.strapAddr && decide (r.chan ≤ 447) && decide ((followersOf m (o + 1)).length ≤ 15)
  | _ => false

/-- The channels of one device an outlet drives, as keys. -/
def drivenKeys (r : Outlet) : List Nat := if r.parallel then [outletKey r, outletKey r + 1] else [outletKey r]

/-- Check 6 for outlet o. -/
def checkDriven (m : List Host.Cell) (o : Nat) : Bool :=
  let r := parseOutlet m o
  !(r.parallel && r.chan % 2 == 1) &&
    !((List.range o).any fun i => (drivenKeys (parseOutlet m i)).any fun x => (drivenKeys r).contains x)

/-- Check 7 for outlet o. NPOINTS outside 1 to 64 fails it too (log entry 123). -/
def checkFootprint (m : List Host.Cell) (o : Nat) : Bool :=
  let f := footprint m o
  decide (1 ≤ f.2) && decide (f.2 ≤ 64) && decide (f.1 + f.2 ≤ tblPoints m) &&
    !((List.range o).any fun i =>
      let g := footprint m i
      decide (f.1 < g.1 + g.2) && decide (g.1 < f.1 + f.2))

/-- Check 8 for outlet o. -/
def checkSeeds (m : List Host.Cell) (o : Nat) : Bool :=
  let r := parseOutlet m o
  decide (r.fluid ≤ 8000) && decide (r.onSeed + 1000 * r.fluid ≤ 8000000) && decide (r.offSeed + 1000 * r.fluid ≤ 8000000)

/-- Check 9 for outlet o. -/
def checkOutlet (m : List Host.Cell) (o : Nat) : Bool :=
  let a := 1280 + 32 * o
  let r := parseOutlet m o
  let dmin := stageVal m (a + 24) 1
  let dmax := stageVal m (a + 25) 1
  decide (r.segment < tblSegs m) && (if r.pwmEn then decide (1 ≤ r.freq) && decide (r.freq ≤ 127) else r.freq == 0) &&
    ((dmin == 0 && dmax == 0) || (decide (1 ≤ dmax) && decide (dmax ≤ 100) && decide (dmin ≤ dmax))) &&
    decide (stageVal m (a + 1) 1 < 64) && decide (stageVal m (a + 21) 1 < 16) && decide (stageVal m (a + 23) 1 < 4) && stageZero m (a + 26) 6

/-- The first index of a range that a check refuses. -/
def firstBad (n : Nat) (ok : Nat → Bool) : Option Nat := (List.range n).find? fun i => !ok i

/-- The commit checks in order: code and index of the first failure, code 0 if all pass. -/
def commitCheck (m : List Host.Cell) (d : Dev) : Nat × Nat :=
  let n := tblOutlets m
  let past := fun (code : Nat) (count : Nat) (ok : Nat → Bool) (rest : Nat × Nat) =>
    match firstBad count ok with
    | some i => (code, i)
    | none => rest
  if !checkCrc m then (1, 0)
  else if !checkCounts m then (2, 0)
  else if !checkHeader m then (3, 0)
  else
    past 4 (tblSegs m) (fun s => checkSegment m s d) <| past 5 n (fun o => checkTarget m o d) <| past 6 n (checkDriven m) <|
      past 7 n (checkFootprint m) <| past 8 n (checkSeeds m) <| past 9 n (checkOutlet m) (0, 0)

/-! ### TABLE_LOAD and TABLE_COMMIT -/

/-- TABLE_LOAD (R146): it alone writes the staging area. -/
def tableLoad (i : Nat) (s : State) : State :=
  match nextDesc i s.dev with
  | some x =>
    if x.opcode = 0x20 then
      { s with
        mem := { s.mem with staging := memWriteBytes s.mem.staging (paramAt x 24 4) x.buf }
        dev := complete i x.index stOk 0 [] (raise F.REG_TABLE_STATUS.STAGED_DIRTY s.dev) }
    else s
  | none => s

/-- A commit ends without a new table. -/
def commitEnds (ring index status detail : Nat) (d : Dev) : Dev :=
  d |> updEng (fun g => { g with commit := none }) |> complete ring index status detail []

/-- TABLE_COMMIT starts its checks (R148, R151). -/
def tableCommit (i : Nat) (d : Dev) : Dev :=
  startDesc i 0x21 (fun x d =>
    if isArmed d then complete i x.index stBusy 0 [] d
    else d |> holdDesc i x |> updEng (fun g => { g with commit := some ({}, paramBits x 24 0 1 == 1, i, x.index, false) })) d

/-- The checks end (R148, R149, R151). -/
def tableChecked (m : List Host.Cell) (d : Dev) : Dev :=
  match d.eng.commit with
  | some (_, keep, ring, index, false) =>
    if (inFlight ring index d).isNone then updEng (fun g => { g with commit := none }) d
    else if isArmed d then commitEnds ring index stBusy 0 d
    else
      let (code, at_) := commitCheck m d
      if code = 0 then updEng (fun g => { g with commit := some (parseTable m, keep, ring, index, true) }) d
      else d |> setF F.REG_TABLE_STATUS.LAST_CODE code |> commitEnds ring index stBadLength (code + 65536 * at_)
  | _ => d

/-! ### Activation (R149, R150, R152, R200, R218) -/

/-- A channel takes its outlet as owner, with its template (R218, R245). -/
def takeOwner (k n profile : Nat) (d : Dev) : Dev :=
  let fresh_ := getF (F.DRV_CH_CFG.OWNER k n) d != 1 || getF (F.DRV_CH_CFG.TEMPLATE k n) d != profile
  d |> setF (F.DRV_CH_CFG.OWNER k n) 1 |> setF (F.DRV_CH_CFG.TEMPLATE k n) profile
    |> updChan k n (fun c => { c with releasing := false }) |> whenD fresh_ (resetRise k n) |> heldTravel k n

/-- The channels of a KIND 0 outlet: one, or a pair. -/
def outletChans (r : Outlet) : List Nat := if r.parallel then [localOf r.chan, localOf r.chan + 1] else [localOf r.chan]

/-- CONFLICT is judged anew at each activation, for the channels that the table before and the new one name (log entry 160). -/
def dropConflict (r : Outlet) (d : Dev) : Dev :=
  if r.kind != 0 || !hasSpoke (spokeOf r.chan) d then d
  else eachD (outletChans r) (fun m => lower (F.DRV_CH_CFG.CONFLICT (spokeOf r.chan) m)) d

/-- Set the owner of an outlet's channel, or pair (R218). A loop keeps a channel it owns, and a pair that lacks one is not bonded (log
entry 129). -/
def ownChannel (r : Outlet) (d : Dev) : Dev :=
  let k := spokeOf r.chan
  let n := localOf r.chan
  let loops := fun (m : Nat) => getF (F.DRV_CH_CFG.OWNER k m) d == 2
  if r.kind != 0 || !hasSpoke k d then d
  else
    let taken := (outletChans r).filter loops
    let d := d |> dropConflict r |> eachD taken (fun m => raise (F.DRV_CH_CFG.CONFLICT k m))
    let bond := r.parallel && taken.isEmpty
    let even := fun (d : Dev) =>
      d |> takeOwner k n r.profile |> flag (F.DRV_CH_CFG.BOND k n) bond |> lower (F.DRV_CH_CFG.BOND_ODD k n)
    let odd := fun (d : Dev) => d |> takeOwner k (n + 1) r.profile |> flag (F.DRV_CH_CFG.BOND_ODD k (n + 1)) bond
    d |> whenD (!taken.contains n) even |> whenD (r.parallel && !taken.contains (n + 1)) odd

/-- A released channel that has recovered, as a pair where it is bonded, is owned by none (R218, R235); its template is 0 (R258). -/
def settleOwner (k n : Nat) (d : Dev) : Dev :=
  if (getChan k n d).releasing && (getChan k (leadOf k n d) d).phase == .idle then
    d |> updChan k n (fun c => { c with releasing := false }) |> rput (R.DRV_CH_CFG k n) 0 |> resetRise k n |> heldTravel k n
  else d

/-- As `settleOwner`, for a channel and the odd one bonded to it, which acts with it. -/
def settlePairOwner (k n : Nat) (d : Dev) : Dev :=
  let odd := isSet (F.DRV_CH_CFG.BOND_ODD k (n + 1)) d
  d |> whenD odd (settleOwner k (n + 1)) |> settleOwner k n

/-- A channel that the new table does not name is released (R218). -/
def releaseChannel (r : Outlet) (d : Dev) : Dev :=
  let k := spokeOf r.chan
  let n := localOf r.chan
  let one := fun (n : Nat) (d : Dev) =>
    if getF (F.DRV_CH_CFG.OWNER k n) d = 1 then
      d |> stopChan k n false (outletOf k n d) |> updChan k n (fun c => { c with releasing := true }) |> settleOwner k n
    else d
  if r.kind = 0 && hasSpoke k d then d |> one n |> whenD r.parallel (one (n + 1)) else d

/-- What outlet o of the new table keeps of the old one: estimates where KEEP_LEARNED holds them, the applying intervals of its
channel. -/
def carryOutlet (old : Table) (oldSt : KMap OutletSt) (keep : Bool) (r : Outlet) : OutletSt :=
  let fresh_ : OutletSt := { on := { e := 16 * r.onSeed }, off := { e := 16 * r.offSeed } }
  match (List.range old.outlets.length).find? fun i => outletKey (old.outlets.getD i {}) == outletKey r with
  | none => fresh_
  | some i =>
    let p := kget oldSt i {}
    let base := { fresh_ with ivs := p.ivs, valveOpen := p.valveOpen, runEnd := p.runEnd, slip := p.slip }
    if keep && (old.outlets.getD i {}).profile == r.profile then { base with on := p.on, off := p.off, s := p.s } else base

/-- A commit in progress ends BUSY: the device is ARMED (R151). -/
def endCommit (d : Dev) : Dev :=
  match d.eng.commit with
  | some (_, _, ring, index, _) => commitEnds ring index stBusy 0 d
  | none => d

/-- The checked table becomes active at cycle start C. -/
def activateTable (d : Dev) : Dev :=
  match d.eng.commit with
  | some (t, keep, ring, index, true) =>
    if (inFlight ring index d).isNone then updEng (fun g => { g with commit := none }) d
    else if isArmed d then commitEnds ring index stBusy 0 d
    else
      let old := d.eng.table.getD {}
      let named := t.outlets.flatMap drivenKeys
      let gone := old.outlets.filter fun r => !named.contains (outletKey r)
      let half := old.outlets.filter fun r => r.parallel && named.contains (outletKey r) && !named.contains (outletKey r + 1)
      let d := eachD old.outlets dropConflict d
      let d := eachD gone releaseChannel d
      let d := eachD half (fun r => releaseChannel { r with chan := r.chan + 1, parallel := false }) d
      let away := (gone.filter fun r => r.kind = 1).map fun r => (r.follower, r.chan)
      let zero := d.eng.table.isSome && old.segments.length != t.segments.length
      let keys := (List.range t.outlets.length).flatMap fun o => (drivenKeys (t.outlets.getD o {})).map fun key => (key, o + 1)
      let sts := (List.range t.outlets.length).map fun o => (o, carryOutlet old d.eng.outlets keep (t.outlets.getD o {}))
      let d := updEng (fun g => { g with
        table := some t, commit := none, zeroed := g.zeroed || zero
        chanOutlet := keys.foldl (fun m e => kput m e.1 e.2 0) []
        outlets := sts.foldl (fun m e => kput m e.1 e.2 {}) [] }) d
      let d := eachD t.outlets ownChannel d
      d |> updSox (fun s => { s with setupSent := [], releases := s.releases ++ away })
        |> updHealth (fun h => { h with trend := [] })
        |> raise F.REG_TABLE_STATUS.ACTIVE
        |> lower F.REG_TABLE_STATUS.STAGED_DIRTY
        |> setF F.REG_TABLE_STATUS.LAST_CODE 0
        |> setF F.REG_TABLE_STATUS.OUTLETS t.outlets.length
        |> setF F.REG_TABLE_ID.TABLE_ID t.id
        |> logEvent 0x0302 2 ⟨0, 2, 0⟩ t.id t.outlets.length 0
        |> complete ring index stOk 0 []
  | _ => d

end Sys2Proof.Machine
end

