-- ==== Sys2Proof/Machine/Decide.lean ====
section
/-! DEFINITION. What the engine decides in a geometry cycle (R168, R169, R188 to R203), prefetch (R181) and the decision
report (R212). -/
namespace Sys2Proof.Machine

/-! ### The pose at a cycle start (R165 to R169) -/

/-- The live conditions at C: STALE, CREEP, REVERSE, OVER_SPEED, INVALID, BOOM_STALE, TAP_STALE, as bits 0 to 6. While no pose is in use bits 1
to 4 stay, as nothing shows them cleared (log entry 126). -/
def poseLive (c : Nat) (d : Dev) : Nat :=
  let b := fun (x : Bool) (i : Nat) => if x then 2 ^ i else 0
  let bendable := match d.eng.table with | some t => t.segments.any (fun s => s.dir != 0) | none => false
  let boom := b (bendable && coeffsZero c d) 5 + b (staleSegs c d != 0) 6
  match d.eng.pose with
  | none => 1 + ((rget R.REG_POSE_STATUS d).toNat &&& 0x1E) + boom
  | some p =>
    let age := c - p.tag
    let v := speedAt p age
    let creep := (match d.eng.table with | some t => t.creep | none => 2222) * tickHz.toNat
    let slow := if isSet F.REG_POSE_STATUS.CREEP d then decide (v.natAbs * 4 < creep * 5) else decide (v.natAbs < creep)
    b (decide (poseTimeout d < age)) 0 + b slow 1 + b (decide (v < 0)) 2 +
      b (decide (vMax < ((p.speed * tickHz + p.accel * age).natAbs : Int))) 3 + b p.noApply 4 + boom

/-- Some hold-off condition of R168 among live bits. -/
def holdsOff (live : Nat) : Bool := live % 32 != 0

/-- Set the live bits, SEEN, the records and counts of entries (R168, R169), age and tag. Where STALE begins while no pose is in use the
record gives the age that REG_POSE_AGE shows, 0xFFFFFFFF (log entry 150). -/
def notePose (c : Nat) (d : Dev) : Dev :=
  let live := poseLive c d
  let old := (rget R.REG_POSE_STATUS d).toNat % 128
  let new := live - (live &&& old)
  let (age, d) := match d.eng.pose with
    | none => (0xFFFFFFFF, d)
    | some p => let (a, d) := toUs (c - p.tag) d; (min a 0xFFFFFFFF, d)
  let d := rput R.REG_POSE_STATUS (wordPut (rget R.REG_POSE_STATUS d) 0 7 live) d
  let d := eachD (List.range 7) (fun i => whenD (new.testBit i) (bitF F.REG_POSE_STATUS.SEEN i true)) d
  let d := setF F.REG_TAP_STALE.SEG (staleSegs c d) d
  let d := setF F.REG_POSE_AGE.AGE age d
  let d := setF F.REG_POSE_TAG.TAG (match d.eng.pose with | some p => p.tag % 2 ^ 32 | none => 0) d
  let d := whenD (new.testBit 0) (logEvent 0x0303 4 ⟨0, 2, 0⟩ age 0 0) d
  eachD [1, 2, 3, 4] (fun i => whenD (new.testBit i) (healthReport 13 0)) d

/-! ### Duty (R197, R198) -/

/-- The ground speed of a footprint centroid in 2⁻³² field units per second, and its forward part. -/
def centroidSpeed (x : Ext) (pts : List (Int × Int)) : Int × Nat :=
  let n : Int := pts.length
  let sx := pts.foldl (fun s p => s + p.1) 0
  let sy := pts.foldl (fun s p => s + p.2) 0
  let w := fun (s : Int) => x.yaw * s * twoPi / (n * 2 ^ 60)
  let vf := x.v * 2 ^ 32 / tickHz - w sy
  let vl := w sx
  (vf, isqrt (vf * vf + vl * vl).toNat)

/-- D of R197, exactly, as a fraction. -/
def doseOf (r : Outlet) (rates : List Nat) (vo : Nat) (d : Dev) : Nat × Nat :=
  let num := rates.foldl (· + ·) 0 * vo
  let den := rates.length * 2 ^ 32 * getF F.REG_RATE_CFG.V_REF d * r.flow
  if r.flow = 0 || r.dutyMax * den < num * 100 then (r.dutyMax, 100)
  else if num * 100 < r.dutyMin * den then (r.dutyMin, 100)
  else (num, den)

/-- The duty code of R197 with CLIP_LOW and CLIP_HIGH, from the rates of the points that count. The code is the nearest integer
within ±1: the rest is free. -/
def dutyOf (r : Outlet) (rates : List Nat) (vo : Nat) (d : Dev) : (Nat × Bool × Bool) × Dev :=
  let num := 65535 * rates.foldl (· + ·) 0 * vo
  let den := rates.length * 2 ^ 32 * getF F.REG_RATE_CFG.V_REF d * r.flow
  let lo := 65535 * r.dutyMin
  let hi := 65535 * r.dutyMax
  let low := decide (num * 100 < lo * den) && r.flow != 0
  let high := decide (hi * den < num * 100) || r.flow == 0
  let code := if low then (2 * lo + 100) / 200 else if high then (2 * hi + 100) / 200 else (2 * num + den) / (2 * den)
  let (v, d) := fresh d
  ((min 65535 (code + (v + 1) % 3 - 1), low, high), d)

/-- The outlet's channel is on a proportional template (R145, R198). The hub cannot read the
templates of a follower's spokes: free for each (log entry 122). -/
def propOutlet (r : Outlet) (d : Dev) : Bool :=
  if r.kind = 0 then isProp (spokeOf r.chan) (localOf r.chan) d
  else Config.freeNat (2 ^ 66 + 16 * (8 * r.follower + spokeOf r.chan) + r.profile) % 2 == 1

/-- The code an entry carries for an outlet (R195, R198): 0xFFFF for an outlet neither pulse-width modulated nor on a proportional
template, forced or not (DEDUCED, log entry 101). -/
def sentCode (r : Outlet) (st : OutletSt) (d : Dev) : Nat :=
  if r.pwmEn || propOutlet r d then
    if st.forceMode = 2 && st.forceDuty != 0 then st.forceDuty else st.duty.getD 0
  else 0xFFFF

/-! ### Misses (R193, R194) -/

/-- An episode passes the grace (R194). -/
def missExpire (o : Nat) (d : Dev) : Dev :=
  d |> updOut o (fun s => { s with expired := true })
    |> raise F.REG_STATUS.MISS_EXPIRED
    |> countF F.REG_TILE_STATS.EXPIRED
    |> logEvent 0x0304 3 ⟨0, 2, 0⟩ o 0 0

/-- MISS_GRACE_EXPIRY of an outlet. -/
def missGraceExpiry (o : Nat) (d : Dev) : Dev :=
  let st := getOut o d
  match st.missAt with
  | some t => if !st.expired && t + ms (getF F.REG_THRESH.MISS_GRACE d) ≤ d.pt then missExpire o d else d
  | none => d

/-- The first or a further cycle with a miss, or the first without (R194). -/
def noteMiss (o c : Nat) (miss : Bool) (d : Dev) : Dev :=
  let st := getOut o d
  if !miss then updOut o (fun s => { s with miss := false, missAt := none, expired := false }) d
  else
    let d := updOut o (fun s => { s with miss := true, missAt := if s.missAt.isSome then s.missAt else some c }) d
    if st.missAt.isNone then d |> raise F.REG_STATUS.MISS |> countF F.REG_TILE_STATS.MISS |> healthReport 11 0 else d

/-! ### One outlet (R188 to R198) -/

/-- The channel of an outlet is disabled by a fault, or its pair partner, or its spoke is isolated, or a loop keeps it (R191 row 2,
R218, R478). -/
def outletFault (r : Outlet) (d : Dev) : Bool :=
  let k := spokeOf r.chan
  let n := localOf r.chan
  r.kind = 0 && (isIsolated k d || isSet (F.DRV_CH_STATUS.DISABLED k n) d || (r.parallel && isSet (F.DRV_CH_STATUS.DISABLED k (n + 1)) d) ||
    isSet (F.DRV_CH_CFG.CONFLICT k n) d || (r.parallel && isSet (F.DRV_CH_CFG.CONFLICT k (n + 1)) d))

/-- PLAN_ON and the reason (R191). -/
def planOf (r : Outlet) (st : OutletSt) (held pivot inGrace past : Bool) (d : Dev) : Bool × Nat :=
  if !isArmed d && !d.eng.proof then (false, 1)
  else if outletFault r d then (false, 2)
  else if r.disabled then (false, 3)
  else if r.kind = 1 && !followerIn r d then (false, 4)
  else if held then (false, 5)
  else if st.forceMode = 1 then (false, 6)
  else if st.forceMode = 2 then (true, 7)
  else if pivot then (false, 8)
  else if inGrace then (st.planOn, 9)
  else if past then (st.coverOn, 10)
  else (st.coverOn, 0)

/-- The schedule of an outlet follows its plan (R168, R192, R196): while a hold-off condition holds, every entry ends at C. A captain that yields
sends none (R500). -/
def scheduleOutlet (o c : Nat) (held : Bool) (d : Dev) : Dev :=
  let r := outletRec o d
  let st := getOut o d
  let l := c + leadOfKind r.kind d
  let keep := keepEff d
  let code := sentCode r st d
  if d.eng.proof || d.tdm.yielding.isSome then d
  else if st.planOn then
    if !st.entryOn then
      d |> updOut o (fun s => { s with entryOn := true, wantSlip := true }) |> sendEntry o l (l + keep) code .on
    else if code != st.sent then sendEntry o l (l + keep) code .duty d
    else if 2 * (st.runEnd - l) < keep then sendEntry o l (l + keep) code .renew d
    else d
  else if held then endOutlet o c d
  else if st.entryOn then
    d |> updOut o (fun s => { s with entryOn := false }) |> sendEntry o l l code .off
  else d

/-- The code of an outlet's DUTY_MIN. -/
def minCode (r : Outlet) : Nat := (131070 * r.dutyMin + 100) / 200

/-- The duty of the cycle before is kept, or is DUTY_MIN if there is none (R197). -/
def keepDuty (r : Outlet) (s : OutletSt) : OutletSt :=
  if s.duty.isSome then s else { s with duty := some (minCode r), dose := (r.dutyMin, 100) }

/-- The outlet is decided without a pose: no point can be placed, so the coverage rule keeps its state and the duty stays, or is
DUTY_MIN where there was none (R197). -/
def decideBlind (o c : Nat) (d : Dev) : Dev :=
  let r := outletRec o d
  let d := noteMiss o c false d
  let d := updOut o (keepDuty r) d
  let (plan, reason) := planOf r (getOut o d) true false false false d
  scheduleOutlet o c true (updOut o (fun s => { s with planOn := plan, reason := reason }) d)

/-- Half the PWM period of an outlet (R188). An odd period has no middle tick: a free bit decides (log entry 2). -/
def halfPeriod (r : Outlet) (d : Dev) : Nat × Dev :=
  let (h, d) := divFree (if r.pwmEn then gridP r.freq else 0 : Nat) 2 d
  (h.toNat, d)

/-- RATE_ADV in ticks. -/
def rateAdv (d : Dev) : Int := signedOf 16 (getF F.REG_TIMING2.RATE_ADV d) * 250

/-- A list without repeats, first occurrences kept. -/
def dedup {α : Type} [BEq α] (xs : List α) : List α := xs.foldl (fun acc x => if acc.contains x then acc else acc ++ [x]) []

/-- The outlet is decided from the pose in use (R188 to R198). -/
def decideOutlet (o c : Nat) (p : Pose) (held : Bool) (d : Dev) : Dev :=
  let r := outletRec o d
  let st := getOut o d
  let pts := shapedPoints r c d
  let lead := leadOfKind r.kind d
  let fluid := ms r.fluid
  let (half, d) := halfPeriod r d
  let hOn := limitHorizon (c + lead + us (slipOf o d) + us (dOn o d) + fluid) c p.tag
  let hOff := limitHorizon (c + lead + us (dOff o d) + fluid) c p.tag
  let hRate := limitHorizon (((c + lead + us (dOn o d) + fluid + half : Nat) : Int) + rateAdv d).toNat c p.tag
  let hApp := limitHorizon c c p.tag
  let d := whenD (hOn.2 || hOff.2 || hRate.2 || hApp.2) (raise F.REG_STATUS.HORIZON_CLIP) d
  let (xOn, d) := extFor p hOn.1 d
  let (xOff, d) := extFor p hOff.1 d
  let (xRate, d) := extFor p hRate.1 d
  let (xApp, d) := extFor p hApp.1 d
  let cOn := cellsAt xOn pts d
  let cOff := cellsAt xOff pts d
  let cRate := cellsAt xRate pts d
  let d := noteRefs (cOn ++ cOff ++ cRate ++ cellsAt xApp pts d) c d
  let rOn := cOn.map (readPoint · d)
  let rOff := cOff.map (readPoint · d)
  let rRate := cRate.map (readPoint · d)
  let all := (cOn ++ cOff ++ cRate).zip (rOn ++ rOff ++ rRate)
  let miss := all.any fun x => x.2.missCov || x.2.missRate
  let missing := fun (f : PointRead → Bool) => dedup ((all.filter fun x => f x.2).filterMap fun x => x.1.map (·.1))
  let d := eachD (missing (·.missCov)) (fun t => requestTile 0 t.1 t.2 0 (ms 10)) d
  let d := eachD (missing (·.missRate)) (fun t => requestTile 1 t.1 t.2 0 (ms 10)) d
  let d := noteMiss o c miss d
  let since := (getOut o d).missAt.getD c
  let inGrace := miss && decide (c - since < ms (getF F.REG_THRESH.MISS_GRACE d))
  let past := miss && !inGrace
  let d := whenD (past && !(getOut o d).expired) (missExpire o) d
  let count := fun (rs : List PointRead) => (rs.filter fun x => x.covered || x.excluded || (past && x.missCov)).length
  let n := pts.length
  let cover :=
    if inGrace then st.coverOn
    else if st.coverOn then !decide (getF F.REG_THRESH.OFF_THR d * n ≤ 100 * count rOff)
    else decide (100 * count rOn < getF F.REG_THRESH.ON_THR d * n)
  let (vf, vo) := centroidSpeed xRate pts
  let rates := (rRate.filter fun x => !x.excluded && !x.missCov && !x.missRate).map (·.rate)
  let d := updOut o (fun s => { s with coverOn := cover }) d
  let d :=
    if inGrace || (rates.isEmpty && r.flow != 0) then updOut o (keepDuty r) d
    else
      let ((code, low, high), d) := dutyOf r rates vo d
      updOut o (fun s => { s with duty := some code, dose := doseOf r rates vo d, clipLow := low, clipHigh := high }) d
  let (plan, reason) := planOf r (getOut o d) held (decide (vf ≤ 0)) inGrace past d
  scheduleOutlet o c held (updOut o (fun s => { s with planOn := plan, reason := reason }) d)

/-- Every outlet is decided, in order. -/
def decideAll (c : Nat) (d : Dev) : Dev :=
  let held := holdsOff (poseLive c d)
  eachD (List.range (outlets d).length) (fun o d => match d.eng.pose with
    | none => decideBlind o c d
    | some p => decideOutlet o c p held d) d

/-! ### Marking at a cycle start (R200, R203, R420) -/

/-- Mark the ground of every applying outlet at C. -/
def markAll (c : Nat) (d : Dev) : Dev :=
  eachD (List.range (outlets d).length) (fun o d =>
    let r := outletRec o d
    let d := settleIvs o c d
    let st := getOut o d
    let on := appliesAt ((c : Int) - ms r.fluid) st
    let d := updOut o (fun s => { s with open_ := on }) d
    if !(on || st.lost) || d.eng.proof || (isStoker d && !isSet F.TDM_STATUS.LINK_UP d) then d
    else
      match d.eng.pose with
      | none => raise F.REG_STATUS.MARK_LOST d
      | some p =>
        let h := limitHorizon c c p.tag
        let (x, d) := extFor p h.1 d
        eachD (cellsAt x (shapedPoints r c d) d) (fun cell d => match cell with
          | some (t, q) => markCell t q st.lost d
          | none => d) d) d

/-! ### Prefetch (R181, R182) -/

/-- Add a tile with its need to a list, keeping the earlier need. -/
def addNeed (t : Int × Int) (need : Nat) (l : List ((Int × Int) × Nat)) : List ((Int × Int) × Nat) :=
  match l.find? fun x => x.1 == t with
  | some x => if need < x.2 then l.map fun y => if y.1 = t then (t, need) else y else l
  | none => l ++ [(t, need)]

/-- The tile of a point and its neighbours within MARGIN cells. -/
def tilesNear (k margin : Nat) (q : Int × Int) : List (Int × Int) :=
  let (t, p) := cellOf k q
  let i := p % 64
  let j := p / 64
  let es := [t.1] ++ (if i < margin then [t.1 - 1] else []) ++ (if 64 ≤ i + margin then [t.1 + 1] else [])
  let ns := [t.2] ++ (if j < margin then [t.2 - 1] else []) ++ (if 64 ≤ j + margin then [t.2 + 1] else [])
  (es.map fun e => (e, t.2)) ++ (ns.map fun n => (t.1, n))

/-- The ground speed of a point of the boom some ticks after the pose, in 2⁻³² field units per second. -/
def pointSpeed (p : Pose) (q : Int × Int) (t : Nat) : Nat :=
  (centroidSpeed (extrapolate { e := 0, n := 0, psi := 0, v := p.speed * tickHz, yaw := p.yaw } p.accel t) [q]).2

/-- The mean speed of a point over u ticks from t, by Simpson's rule. -/
def meanSpeed (p : Pose) (q : Int × Int) (t u : Nat) : Nat :=
  (pointSpeed p q t + 4 * pointSpeed p q (t + u / 2) + pointSpeed p q (t + u)) / 6

/-- The ticks, from t, in which a point goes half a tile side along its path, as far as the mean speed tells; at most `most`. -/
def stepTicks (p : Pose) (q : Int × Int) (half t most : Nat) : Nat :=
  let by_ := fun (v : Nat) => if v = 0 then most else min most (max 1 (half * 2 ^ 32 * tickHz.toNat / v))
  (List.range 4).foldl (fun u _ => by_ (meanSpeed p q t u)) (by_ (pointSpeed p q t))

/-- The PTs from h on, up to `last`, at which a point has gone half a tile side further, and `last` itself; n bounds them (R181). -/
def stepsOf (p : Pose) (q : Int × Int) (half last : Nat) : Nat → Nat → List Nat
  | 0, _ => [last]
  | n + 1, h =>
    let u := stepTicks p q half (h - p.tag) (last - h)
    if last ≤ h + u then [last] else (h + u) :: stepsOf p q half last n (h + u)

/-- The steps of a point from C to the prefetch horizon; its speed is greatest at one end of the way. -/
def pathSteps (p : Pose) (q : Int × Int) (half c last : Nat) : List Nat :=
  let top := max (pointSpeed p q (c - p.tag)) (pointSpeed p q (last - p.tag))
  stepsOf p q half last (2 * (top * (last - c) / (half * 2 ^ 32 * tickHz.toNat)) + 2) c

/-- The tiles an outlet's first and last point meet on the way from C to the prefetch horizon. A tile is needed when the outlet itself is at
the place where it meets it (log entry 154). -/
def walkOutlet (o c last : Nat) (p : Pose) (d : Dev) (acc : List ((Int × Int) × Nat)) : List ((Int × Int) × Nat) × Dev :=
  let r := outletRec o d
  let pts := shapedPoints r c d
  let ends := pts.take 1 ++ pts.drop (pts.length - 1)
  let lead := leadOfKind r.kind d
  let (half, d) := halfPeriod r d
  let own := [c, c + lead + us (slipOf o d) + us (dOn o d) + ms r.fluid, c + lead + us (dOff o d) + ms r.fluid,
    (((c + lead + us (dOn o d) + ms r.fluid + half : Nat) : Int) + rateAdv d).toNat]
  let margin := getF F.REG_PREFETCH.MARGIN d
  ends.foldl (fun a q =>
    (own ++ pathSteps p q (2 ^ (d.eng.k + 9)) c last).foldl (fun a h =>
      let (x, d) := extFor p (h - p.tag) a.2
      let z := place x q.1 q.2
      (if inFrame z then (tilesNear d.eng.k margin z).foldl (fun l t => addNeed t ((h - c) / 250000) l) a.1 else a.1, d)) a) (acc, d)

/-- Insert by need, earlier first. -/
def insertNeed (x : (Int × Int) × Nat) (l : List ((Int × Int) × Nat)) : List ((Int × Int) × Nat) :=
  l.takeWhile (fun y => decide (y.2 ≤ x.2)) ++ x :: l.dropWhile (fun y => decide (y.2 ≤ x.2))

/-- PREFETCH_WALK: due at the cycle start that has just been taken. -/
def prefetchWalk (d : Dev) : Dev :=
  let c := d.eng.cycleStart
  if d.eng.cycleAt != some d.pt || c < d.eng.nextWalk then d
  else
    match d.eng.pose with
    | none => d
    | some p =>
      let d := updEng (fun g => { g with nextWalk := c + ms (getF F.REG_PREFETCH.PERIOD d) }) d
      let v := (speedAt p ((c : Int) - p.tag)).natAbs
      let side := 2 ^ (d.eng.k + 10)
      let reach := if v = 0 then sec 10 else min (sec 10) (max (sec 2) (getF F.REG_PREFETCH.DIST d * side * (tickHz * tickHz).toNat / v))
      let (need, d) := (List.range (outlets d).length).foldl (fun a o => walkOutlet o c (c + reach) p a.2 a.1) ([], d)
      let order := need.foldl (fun l x => insertNeed x l) []
      let retry := ms (10 * getF F.REG_PREFETCH.RETRY d)
      releaseFinished (eachD order (fun x d =>
        let d := requestTile 0 x.1.1 x.1.2 x.2 retry d
        if isSet F.REG_RATE_CFG.UNIFORM d then d else requestTile 1 x.1.1 x.1.2 x.2 retry d) d)

/-! ### The decision report (R212) -/

/-- A forced duty is in force (R195). -/
def dutyForced (st : OutletSt) : Bool := st.forceMode == 2 && st.forceDuty != 0
/-- DUTY of the report (R195, R212). -/
def dutyShown (st : OutletSt) : Nat := if dutyForced st then st.forceDuty else st.duty.getD 0

/-- The four bytes of an outlet. -/
def reportWord (o : Nat) (d : Dev) : Nat :=
  let st := getOut o d
  let b := fun (x : Bool) (i : Nat) => if x then 2 ^ i else 0
  let forced := dutyForced st
  b st.planOn 0 + b st.open_ 1 + b st.coverOn 2 + b (st.clipLow && !forced) 3 + b (st.clipHigh && !forced) 4 + b st.miss 5 + b st.slip 6 + 256 * st.reason + 65536 * dutyShown st

/-- The two bits of a section group. -/
def groupCode (g : Nat) (d : Dev) : Nat :=
  let os := (List.range (outlets d).length).filter fun o => (outletRec o d).group == g
  if os.isEmpty then 3
  else if os.all fun o => (getOut o d).open_ then 1
  else if os.any fun o => (getOut o d).open_ then 2 else 0

/-- Bytes 32 to 8,287 of the report. -/
def reportBody (d : Dev) : List Byte :=
  let n := (outlets d).length
  ((List.range 2048).flatMap fun o => leBytes 4 (if o < n then reportWord o d else 0)) ++
    ((List.range 64).map fun i => BitVec.ofNat 8 (groupCode (4 * i) d + 4 * groupCode (4 * i + 1) d + 16 * groupCode (4 * i + 2) d +
      64 * groupCode (4 * i + 3) d))

def reportBase (d : Dev) : Nat :=
  (rget R.REG_REPORT_ADDR_LO d).toNat / 256 * 256 + 2 ^ 32 * (rget R.REG_REPORT_ADDR_HI d).toNat

/-- DECISION_REPORT: the report that is due; withheld where its ECC check fails (row 8 of R45). One withheld counts in SEQ all the same
(log entry 155). -/
def decisionReport (d : Dev) : Dev :=
  let base := reportBase d
  if !d.eng.reportDue || !isSet F.REG_REPORT_CFG.EN d || base = 0 then d
  else
    let seq := (d.eng.reportSeq + 1) % 2 ^ 32
    let body := reportBody d
    let mid := leBytes 4 0 ++ leBytes 8 d.eng.cycleStart ++
      leBytes 1 ((rget R.REG_POSE_STATUS d).toNat % 128 + if d.eng.proof then 128 else 0) ++ leBytes 3 0 ++ leBytes 4 (crc32c body) ++ leBytes 8 0
    d |> updEng (fun g => { g with reportDue := false, reportSeq := seq })
      |> crossEcc 8 36 0 0 0 (fun d =>
        d |> emit (.hostWrite base (leBytes 4 seq)) |> emit (.hostWrite (base + 4) (mid ++ body)) |> emit (.hostWrite (base + 8288) (leBytes 4 seq))) id

end Sys2Proof.Machine
end

