-- ==== Sys2Proof/Machine/SoxBase.lean ====
section
/-! DEFINITION. What every part of the Soxaek engine uses: frames with their COUNTER and CRC (R394 to R396), the transmit queue
(R399), events (R423, R424), the address probe (R404). -/
namespace Sys2Proof.Machine

/-- The priority of a class (R395). -/
def classPrio (cls : Nat) : Nat := match cls with | 0 => 0 | 1 => 1 | 3 => 3 | _ => 2
/-- Data bytes of a class (R395). -/
def classLen (cls : Nat) : Nat := match cls with | 1 | 2 | 3 => 64 | _ => 16

/-- The identifier of a frame (R394). -/
def soxId (cls dest src spec : Nat) : Nat :=
  classPrio cls * 2 ^ 26 + cls * 2 ^ 20 + dest * 2 ^ 14 + src * 2 ^ 8 + spec

def soxClass (id : Nat) : Nat := id / 2 ^ 20 % 64
def soxDest (id : Nat) : Nat := id / 2 ^ 14 % 64
def soxSrc (id : Nat) : Nat := id / 2 ^ 8 % 64
def soxSpec (id : Nat) : Nat := id % 256

/-- The data bytes of a frame: the payload filled up with 0, COUNTER and the CRC over identifier and payload (R396). -/
def soxData (id len counter : Nat) (payload : List Byte) : List Byte :=
  let body := (payload ++ List.replicate len 0).take (len - 3) ++ leBytes 1 (counter % 16)
  body ++ leBytes 2 (crc16 (leBytes 4 id ++ body))

/-- The CAN frame of a class (R394, R395). -/
def soxFrame (cls dest spec counter : Nat) (payload : List Byte) (d : Dev) : CanFrame :=
  let id := soxId cls dest (soxAddr d) spec
  { id := id, ide := true, fdf := true, brs := true, dlc := if classLen cls = 64 then 15 else 10
    data := soxData id (classLen cls) counter payload }

/-- The COUNTER of the next frame of a class (R398). Where it starts is not stated: free. -/
def nextCounter (cls : Nat) (d : Dev) : Nat × Dev :=
  let put := fun (n : Nat) (d : Dev) => updSox (fun s => { s with txCount := kins s.txCount cls (n % 16) }) d
  match d.sox.txCount.find? fun e => e.1 == cls with
  | some e => (e.2, put (e.2 + 1) d)
  | none =>
    let (v, d) := fresh d
    (v % 16, put (v + 1) d)

/-- The engine queues a frame (R396, R399); in restricted service it sends none (R411). A frame whose words fail their ECC check is not
queued (row 9 of R45). -/
def soxQueue (cls dest spec : Nat) (single : Bool) (payload : List Byte) (d : Dev) : Dev :=
  if pstate d = .restricted then d
  else
    crossEcc 9 0 0 0 0 (fun d =>
      let (n, d) := nextCounter cls d
      let e : TxEntry := { from_ := .soxaek cls, frame := soxFrame cls dest spec n payload d, single := single }
      updCan 1 (fun x => fillSox { x with soxWait := x.soxWait ++ [e] }) d) id d

/-! ### Events (R423, R424) -/

/-- Waiting section-bus events complete fetched SB_BUFFERs, oldest first. -/
def soxDrain : Nat → Dev → Dev
  | 0, d => d
  | n + 1, d =>
    match d.sox.events with
    | [] => d
    | r :: rest =>
      match waitingBuffer 14 0xE2 none d with
      | some (i, x) => soxDrain n (putCompletion i x stOk 0 r (updSox (fun s => { s with events := rest }) d))
      | none => noBuf 14 none d

/-- A section-bus event: up to 16 wait, further ones are dropped and counted in MISSED. -/
def soxEvent (code addr : Nat) (p0 p1 : Int) (d : Dev) : Dev :=
  let r := leBytes 8 d.pt ++ leBytes 1 code ++ leBytes 1 (addr % 64) ++ [0, 0] ++ leBytes 4 (toBits 32 p0) ++
    leBytes 8 (toBits 64 p1) ++ List.replicate 8 0
  if 16 ≤ d.sox.events.length then countF F.CAN_SB_COUNT.MISSED d
  else soxDrain 17 (updSox (fun s => { s with events := s.events ++ [r] }) d)

/-! ### The address probe (R404) -/

/-- Queue the next PROBE frame of the probe. -/
def probeSend (d : Dev) : Dev :=
  match d.sox.probe with
  | none => d
  | some p =>
    d |> soxQueue 4 (soxAddr d) 0 true p.nonce
      |> updSox (fun s => { s with probe := some { p with sent := p.sent + 1, lastAt := d.pt } })

/-- A probe starts with a nonce the specification leaves open. -/
def probeStart (role : Option RoleRec) (desc : Option (Nat × Nat)) (d : Dev) : Dev :=
  let (nonce, d) := freeBytes 8 d
  probeSend (updSox (fun s => { s with probe := some { nonce := nonce, role := role, desc := desc } }) d)

end Sys2Proof.Machine
end

