-- ==== Sys2Proof/Machine/Edges.lean ====
section
/-! DEFINITION. EDGE frames of a planner (R414 to R417): entries, groups that stay in one frame, and the frames of a cycle start. -/
namespace Sys2Proof.Machine

/-- An EDGE entry. -/
structure EdgeEntry where
  chan   : Nat
  action : Nat
  offset : Nat
  duty   : Nat
deriving DecidableEq, Repr

/-- The 48 bits of an entry. -/
def edgeBytes (x : EdgeEntry) : List Byte := leBytes 6 (x.chan % 512 + 512 * x.action + 4096 * (x.offset % 2 ^ 20) + 2 ^ 32 * (x.duty % 65536))

/-- Queue an EDGE frame of cycle start C. -/
def edgeFrame (follower c : Nat) (es : List EdgeEntry) (d : Dev) : Dev :=
  let flags := es.length + if isArmed d && !d.eng.proof then 16 else 0
  d |> soxQueue 1 follower 0 false (leBytes 4 (implOf c d) ++ leBytes 1 flags ++ [0] ++ es.flatMap edgeBytes)
    |> updSox (fun s => { s with edgeSent := kins s.edgeSent follower d.pt })

/-- Put groups that must not be split into frames of up to nine entries (R416). -/
def packGroups : List (List EdgeEntry) → List EdgeEntry → List (List EdgeEntry)
  | [], cur => if cur.isEmpty then [] else [cur]
  | g :: gs, cur => if 9 < cur.length + g.length then cur :: packGroups gs g else packGroups gs (cur ++ g)

/-- The group of a planner's action (R416), offsets in µs from C. -/
def edgeGroup (o : Nat) (act : EdgeAct) (d : Dev) : List EdgeEntry :=
  let r := outletRec o d
  let l := getF F.REG_TIMING.FLEAD d
  let keep := keepEff d / 250
  let e := fun (action offset duty : Nat) => ({ chan := r.chan, action := action, offset := offset, duty := duty } : EdgeEntry)
  match act with
  | .on => [e 1 l (getOut o d).sent, e 2 (l + keep) 0]
  | .renew => []
  | .duty => [e 3 l (getOut o d).sent]
  | .off => [e 2 l 0]
  | .offNow => [e 2 0 0]

/-- SETUP of an outlet, or its release. -/
def setupEntry (r : Outlet) : EdgeEntry :=
  { chan := r.chan, action := 4, offset := r.profile, duty := (if r.pwmEn then r.freq else 0) + 128 * r.slot + if r.parallel then 1024 else 0 }

/-- The EDGE frames of a cycle start for one follower (R416, R417). -/
def edgeFlushOne (c f : Nat) (d : Dev) : Dev :=
  let idx := (List.range (outlets d).length).filter fun o => (outletRec o d).kind == 1 && (outletRec o d).follower == f
  let gone := (d.sox.releases.filter fun x => x.1 == f).map fun x => [({ chan := x.2, action := 4, offset := 0, duty := 2048 } : EdgeEntry)]
  let sets := if d.sox.setupSent.contains f || d.eng.table.isNone then [] else idx.map fun o => [setupEntry (outletRec o d)]
  let mine := idx.flatMap fun o => d.eng.edges.filter fun x => x.1 == o
  let renews := mine.any fun x => x.2 == .renew || x.2 == .duty
  let last := if renews then [[({ chan := 511, action := 2, offset := getF F.REG_TIMING.FLEAD d + keepEff d / 250, duty := 0 } : EdgeEntry)]] else []
  let groups := gone ++ sets ++ ((mine.map fun x => edgeGroup x.1 x.2 d).filter fun g => !g.isEmpty) ++ last
  let d := updSox (fun s => { s with
    releases := s.releases.filter fun x => x.1 != f
    setupSent := if d.eng.table.isSome && !s.setupSent.contains f then f :: s.setupSent else s.setupSent }) d
  eachD (packGroups groups []) (fun es => edgeFrame f c es) d

/-- The EDGE frames of cycle start C (R416, R417); none in proof mode (R196). -/
def edgeFlush (c : Nat) (d : Dev) : Dev :=
  let d := if d.eng.proof then d else eachD d.sox.role.followers (edgeFlushOne c) d
  updEng (fun g => { g with edges := [] }) d

end Sys2Proof.Machine
end

