-- ==== Sys2Proof/Machine/Time.lean ====
section
/-! DEFINITION. The time unit: field time, corrections, holdover, the time pulse (R352 to R361) and the single-tick adjustments
of PT (R31 to R36). Field time is counted in 10⁻¹² ns, so that R352 and R356 hold exactly. -/
namespace Sys2Proof.Machine

/-- One nanosecond and one second in units of field time. -/
def ftNs : Int := 10 ^ 12
def ftSec : Int := 10 ^ 21

def ftValid (d : Dev) : Bool := isSet F.TIM_STATUS.VALID d
/-- Field time in whole ns: a 64-bit count. -/
def fieldNs (d : Dev) : Nat := toBits 64 (d.time.ft / ftNs)
/-- y in 10⁻¹² (R352). -/
def rateY (d : Dev) : Int := signedOf 32 (getF F.TIM_RATE.RATE d)
/-- The whole second of a field time. -/
def wholeSec (ft : Int) : Int := ft / ftSec
/-- OFFSET of TIM_PPS_OFFSET in units of field time. -/
def ppsOffset (d : Dev) : Int := signedOf 32 (getF F.TIM_PPS_OFFSET.OFFSET d) * ftNs

/-- Field time over n ticks (R352). -/
def ftTicks (y n : Int) : Int := n * (4 * ftNs - 4 * y)

/-- TPULSE may pulse (R361). -/
def pulseOpen (d : Dev) : Bool :=
  isSet F.TIM_CFG.PPS_EN d && ftValid d && pstate d != .restricted && pstate d != .parked && pstate d != .cold && !d.time.uncOver

/-- TPULSE is inactive while it may not pulse (R361). -/
def holdPulse (d : Dev) : Dev :=
  if pulseOpen d then d else { updTime (fun t => { t with pulseRise := none }) d with pins := { d.pins with timePulse := false } }

/-- Set TIM_UNC (saturating) and UNC_OVER at a crossing of UNC_LIMIT, which also ends a pulse (R361). -/
def setUnc (n : Nat) (d : Dev) : Dev :=
  let n := min n 0xFFFFFFFF
  let lim := getF F.TIM_UNC_LIMIT.UNC_LIMIT d
  let past := decide (lim ≠ 0) && decide (lim < n)
  d |> setF F.TIM_UNC.UNC n |> whenD (past && !d.time.uncOver && ftValid d) (raise F.TIM_STATUS.UNC_OVER)
    |> updTime (fun t => { t with uncOver := past }) |> holdPulse

/-- The magnitude of a part of field time in ns. -/
def ftMagnitude (x : Int) (d : Dev) : Nat × Dev :=
  let (v, d) := divFree x.natAbs (10 ^ 12) d
  (v.toNat, d)

/-- Clear slew and step. -/
def dropSlew (d : Dev) : Dev :=
  d |> updTime (fun t => { t with slew := 0, step := none, outst := 0 })
    |> lower F.TIM_STATUS.SLEWING |> lower F.TIM_STATUS.STEP_PENDING

/-- Enter holdover (R358), adding `more` ns to TIM_UNC first (R359) and the magnitude that remains of a slew or step (log entry 3). -/
def enterHoldover (more : Nat) (d : Dev) : Dev :=
  if isSet F.TIM_STATUS.HOLDOVER d then
    (if ftValid d then setUnc (getF F.TIM_UNC.UNC d + more) d else d)
  else
    let (a, d) := ftMagnitude d.time.slew d
    let (b, d) := ftMagnitude (d.time.step.getD 0) d
    let unc := getF F.TIM_UNC.UNC d + a + b + more
    let d := d |> dropSlew |> raise F.TIM_STATUS.HOLDOVER |> raise F.TIM_STATUS.HOLD_ENTERED
      |> updTime (fun t => { t with holdTicks := 0 })
    let d := if ftValid d then setUnc unc d else d
    logEvent 0x0603 3 ⟨0, 3, 0⟩ (getF F.TIM_UNC.UNC d) 0 0 d

/-- The field time the pulse, boundary and aligned epochs have passed after a jump (R355, R357). -/
def passTo (reset : Bool) (d : Dev) : Dev :=
  let b := wholeSec d.time.ft
  let p := wholeSec (d.time.ft - ppsOffset d)
  updTime (fun t => { t with
    lastBound := if reset then b else max t.lastBound b
    lastPulse := if reset then p else if t.unstep = 0 then max t.lastPulse p else t.lastPulse
    unstep := if reset then 0 else t.unstep, pulseWait := !reset && t.pulseWait
    lastEpochFt := if reset then t.ft else max t.lastEpochFt t.ft
    hold := t.ft - 4 * ftNs * d.pt }) d

/-- What the last second leaves of a history kept by PT. -/
def lastSecond (d : Dev) (xs : List (Nat × Int)) : List (Nat × Int) := xs.filter fun x => decide (d.pt ≤ x.1 + sec 1)

/-- The ticks between two values of PT of the last second: PT's own difference without its adjustments (R35, R352). -/
def ticksFrom (a b : Nat) (d : Dev) : Int :=
  (b : Int) - a - ((d.time.ptSteps.filter fun x => decide (a < x.1) && decide (x.1 ≤ b)).map (·.2)).sum

/-- How far field time ran from PT `a` till PT `b`, y being what it was at each tick (R352): changes of y newest first, each with the value
before it. -/
def ftCarried (a : Nat) (d : Dev) : Nat → Int → List (Nat × Int) → Int
  | b, y, [] => ftTicks y (ticksFrom a b d)
  | b, y, (t, before) :: rest =>
    if t ≤ a then ftTicks y (ticksFrom a b d) else ftTicks y (ticksFrom t b d) + ftCarried a d t before rest

/-- A SET (R355): VALUE carried forward by the ticks since AT_PT; a slew of the field time it replaces is not carried (log entry 162). -/
def timeSet (atPt : Nat) (value : Nat) (unc : Nat) (d : Dev) : Dev :=
  let ft := (value : Int) * ftNs + ftCarried atPt d d.pt (rateY d) d.time.rates
  let d := d |> dropSlew |> updTime (fun t => { t with ft := ft, lastCorr := d.pt })
    |> raise F.TIM_STATUS.VALID |> lower F.TIM_STATUS.HOLDOVER |> setUnc unc |> passTo true
  logEvent 0x0601 2 ⟨0, 3, 0⟩ (fieldNs d) (fieldNs d / 2 ^ 32) (getF F.TIM_UNC.UNC d) d

/-- A CORRECT of `ps` picoseconds (R356). -/
def timeCorrect (ps : Int) (unc : Nat) (d : Dev) : Dev :=
  let v := ps * (10 ^ 9)
  let d :=
    if ps.natAbs < 1000000 then
      d |> updTime (fun t => { t with slew := v }) |> flag F.TIM_STATUS.SLEWING (v != 0)
    else
      d |> updTime (fun t => { t with slew := 0, step := some v }) |> lower F.TIM_STATUS.SLEWING
        |> raise F.TIM_STATUS.STEP_PENDING
  let (a, d) := ftMagnitude d.time.slew d
  let (b, d) := ftMagnitude (d.time.step.getD 0) d
  d |> updTime (fun t => { t with outst := a + b, lastCorr := d.pt }) |> lower F.TIM_STATUS.HOLDOVER |> setUnc (unc + a + b)

/-- TIME_CORR (R354): the status and DETAIL of its completion. A CORRECT older than the last step gives its RATE and no more (log entry 137). -/
def timeCorr (kind : Nat) (rateValid : Bool) (atPt : Nat) (value : Int) (rate : Int) (unc : Nat) (d : Dev) : (Nat × Nat) × Dev :=
  let rateBad := decide (200000000 < rate.natAbs)
  if kind = 3 || rateBad || (kind = 0 && decide (value < 0)) || d.pt < atPt || atPt + sec 1 < d.pt then
    ((stBadLength, 0), d)
  else if kind = 1 && !ftValid d then ((stBusy, 0), d)
  else
    let d := whenD rateValid (fun d => d |> updTime (fun t => { t with rates := (d.pt, rateY d) :: lastSecond d t.rates })
      |> setF F.TIM_RATE.RATE (toBits 32 rate)) d
    match kind with
    | 0 => ((stOk, 0), timeSet atPt value.toNat unc d)
    | 1 =>
      let old := match d.time.lastStepPt with
        | some p => decide (atPt < p)
        | none => false
      if old then ((stOk, 3), d)
      else ((stOk, if value.natAbs < 1000000 then 1 else 2), timeCorrect value unc d)
    | _ => ((stOk, 0), enterHoldover 0 d)

/-- A slew has added all of its value (R356). -/
def slewDone (d : Dev) : Dev :=
  if !isSet F.TIM_STATUS.SLEWING d || d.time.slew ≠ 0 then d
  else
    let (b, d) := ftMagnitude (d.time.step.getD 0) d
    let less := d.time.outst - b
    d |> lower F.TIM_STATUS.SLEWING |> setUnc (getF F.TIM_UNC.UNC d - less) |> updTime (fun t => { t with outst := b })

/-- What a tick adds to field time (R352, R356). -/
def slewPart (d : Dev) : Int :=
  let m : Int := getF F.TIM_HOLD.SLEW d * 4000
  clampI (-m) m d.time.slew
def tickAdvance (d : Dev) : Int := ftTicks (rateY d) 1 + slewPart d

/-- A pending step is applied (R357): a pulse of the boundary that OFFSET puts later is still issued from the unstepped field time. -/
def applyStep (d : Dev) : Dev :=
  match d.time.step with
  | none => d
  | some v =>
    let (ns, d) := divFree v (10 ^ 12) d
    let (a, d) := ftMagnitude d.time.slew d
    let less := d.time.outst - a
    let d := d |> updTime (fun t => { t with ft := t.ft + v, step := none, outst := a, lastStepPt := some d.pt })
      |> whenD (d.time.lastPulse < d.time.lastBound && 0 < ppsOffset d) (updTime fun t => { t with unstep := t.unstep + v })
      |> lower F.TIM_STATUS.STEP_PENDING |> passTo false
      |> countF F.TIM_STATUS.STEPS |> raise F.TIM_STATUS.STEPPED
      |> setUnc (getF F.TIM_UNC.UNC d - less)
    logEvent 0x0602 3 ⟨0, 3, 0⟩ (toBits 32 (clampI (-(2 ^ 31)) (2 ^ 31 - 1) ns)) (toBits 32 (wholeSec d.time.ft)) 0 d

/-- Field time as the next pulse sees it: the step of a boundary whose pulse is still to come is not in it (R357). -/
def pulseFt (d : Dev) : Int := d.time.ft - d.time.unstep - ppsOffset d

/-- The pulse rises, placed by the fine delay in 1/32 tick behind the tick before (R360); later ones count from the stepped field time. -/
def pulseUp (past : Int) (d : Dev) : Dev :=
  let tap := (32 * (tickAdvance d - past) / tickAdvance d).toNat
  { updTime (fun t => { t with pulseRise := some d.pt, pulseTap := tap }) d with pins := { d.pins with timePulse := true } }

/-- The pulse p is done with: later ones count from the stepped field time (R357). -/
def pulsePassed (p : Int) (d : Dev) : Dev :=
  d |> updTime (fun t => { t with lastPulse := if t.unstep = 0 then p else max p (wholeSec (t.ft - ppsOffset d)), unstep := 0, pulseWait := false })

/-- The pulse due now: it rises in the tick that reaches its instant, or after the pulse before it has ended; one whose instant passed
while TPULSE was held is not made up for (R360, R361). -/
def pulseDue (d : Dev) : Dev :=
  let p := wholeSec (pulseFt d)
  let past := pulseFt d - p * ftSec
  if p ≤ d.time.lastPulse then d
  else if d.time.pulseRise.isSome then updTime (fun t => { t with pulseWait := true }) d
  else if pulseOpen d && (d.time.pulseWait || decide (past < tickAdvance d)) then
    pulsePassed p (pulseUp (if d.time.pulseWait then 0 else past) d)
  else pulsePassed p d

/-- The instant of a time pulse or of a pulse boundary is reached (R357, R360): the pulse rises from the unstepped field time,
then a pending step is applied, in the first tick that reaches the whole second. -/
def timePulse (d : Dev) : Dev :=
  if !ftValid d then d
  else
    let b := wholeSec d.time.ft
    let now := decide (d.time.lastBound < b) && decide (d.time.ft - b * ftSec < tickAdvance d)
    let d := pulseDue d
    d |> updTime (fun t => { t with lastBound := max t.lastBound b }) |> whenD now applyStep

/-- The pulse ends WIDTH ms after its rise (R360). -/
def pulseEnd (d : Dev) : Dev :=
  match d.time.pulseRise with
  | some t =>
    if t + ms (getF F.TIM_CFG.WIDTH d) ≤ d.pt then
      { updTime (fun t => { t with pulseRise := none }) d with pins := { d.pins with timePulse := false } }
    else d
  | none => d

/-- AUTO_HOLD seconds without a CORRECT (R358). -/
def autoHold (d : Dev) : Dev :=
  let n := getF F.TIM_CFG.AUTO_HOLD d
  if n ≠ 0 && ftValid d && d.time.lastCorr + sec n ≤ d.pt && !isSet F.TIM_STATUS.HOLDOVER d then enterHoldover 0 d else d

/-! ### Adjustments of PT (R33, R35) -/

/-- The hub loads PT into a spoke, which then agrees with the hub's within one tick (R32): which of the three offsets it has is open. -/
def alignPt (k : Nat) (d : Dev) : Dev :=
  let (v, d) := fresh d
  updLink k (fun l => { l with ptOff := (v % 3 : Nat) - (1 : Int), adjs := [], holds := 0, adjLeft := 0, syncSent := none, echoed := none }) d

/-- The hub may make another adjustment: one that takes effect 40 µs after the last one did (R35). -/
def mayAdjust (d : Dev) : Bool :=
  match d.time.adjAt with
  | none => true
  | some t => decide (t + us 32 ≤ d.pt)

/-- The effective PT of an adjustment made now: at least 4 µs ahead, and 40 µs after the last one (R35); how much more than 4 µs is not
stated. -/
def adjEffect (d : Dev) : Nat × Dev :=
  let (v, d) := fresh d
  let soon := d.pt + us 4 + v % (us 4 + 1)
  (match d.time.adjAt with
    | none => soon
    | some t => max soon (t + us 40), d)

/-- The hub makes an adjustment of every die. -/
def adjustAll (plus : Bool) (d : Dev) : Dev :=
  let (eff, d) := adjEffect d
  let d := updTime (fun t => { t with adjAt := some eff, adjs := t.adjs ++ [(eff, plus)] }) d
  eachD (spokeList d) (fun k d => if (getLink k d).up then linkSend k .hub (.ptadj eff plus) d else d) d

/-- The hub makes an adjustment of one spoke (R33). -/
def adjustSpoke (k : Nat) (d : Dev) : Dev :=
  let plus := decide (0 < (getLink k d).adjLeft)
  let (eff, d) := adjEffect d
  d |> updTime (fun t => { t with adjAt := some eff })
    |> updLink k (fun l => { l with adjLeft := l.adjLeft + (if plus then -1 else 1) })
    |> linkSend k .hub (.ptadj eff plus)

/-- Operating time counts PT in units of 0.1 s, in every state but COLD and PARKED (R464). -/
def operate (n : Nat) (d : Dev) : Dev :=
  if pstate d = .cold || pstate d = .parked then d
  else
    let t := d.pwr.opTicks + n
    { d with pwr := { d.pwr with opTicks := t % 25000000, opTime := (d.pwr.opTime + t / 25000000) % 2 ^ 36 } }

/-- Adjustments whose effective PT the reference tick has reached are applied, by the hub and by every spoke on this same tick (R35, R36): a
deletion advances PT by one more, an insertion holds the next tick. Field time is not touched, which is its compensation (R352). -/
def applyAdjs (d : Dev) : Dev :=
  let isDue := fun (a : Nat × Bool) => decide (a.1 ≤ d.pt)
  let due := d.time.adjs.filter isDue
  let up := (due.filter (·.2)).length
  let down := (due.filter (!·.2)).length
  let d1 := eachD (spokeList d) (fun k => updLink k (fun l =>
    let mine := l.adjs.filter isDue
    { l with adjs := l.adjs.filter (!isDue ·), ptOff := l.ptOff + (mine.filter (·.2)).length - up
             holds := l.holds + (mine.filter (!·.2)).length })) d
  let d1 := whenD (0 < up) (updTime fun t => { t with ptSteps := (d.pt + up, (up : Int)) :: lastSecond d t.ptSteps }) d1
  operate up { updTime (fun t => { t with adjs := t.adjs.filter (!isDue ·), holds := t.holds + down }) d1 with pt := (d.pt + up) % 2 ^ 64 }

end Sys2Proof.Machine
end

