-- ==== Sys2Proof/Machine/Gnss.lean ====
section
/-! DEFINITION. The GNSS basebands (R331 to R351): channels, acquisition, notches, the jamming indicator and the records of a
measurement epoch. -/
namespace Sys2Proof.Machine

def gnssOn (k : Nat) (d : Dev) : Bool := isSet (F.GNB_CFG.EN k) d
def chState (k c : Nat) (d : Dev) : Nat := getF (F.GNB_CH.STATE k c) d
def getGch (k c : Nat) (d : Dev) : GnssCh := kget (getGnss k d).chans c {}
def updGch (k c : Nat) (f : GnssCh → GnssCh) (d : Dev) : Dev :=
  updGnss k (fun g => { g with chans := kupd g.chans c {} f }) d
def gnssChans : List Nat := List.range 24

/-- Channels in TRACK (GNB_STATUS.TRACKING). -/
def countTracking (k : Nat) (d : Dev) : Dev :=
  setF (F.GNB_STATUS.TRACKING k) (gnssChans.filter fun c => chState k c d == 2).length d

/-- A channel returns to IDLE (R337). -/
def chIdle (k c : Nat) (d : Dev) : Dev :=
  d |> rput (R.GNB_CH k c) 0 |> updGch k c (fun _ => {}) |> countTracking k

/-- PRNs of a system (R336). -/
def prnLegal (sys prn : Nat) : Bool := decide (1 ≤ prn) && decide (prn ≤ (if sys = 0 then 32 else 36)) && decide (sys < 2)

/-- A PRN is enabled for search (R336). -/
def prnEnabled (k sys prn : Nat) (d : Dev) : Bool :=
  prnLegal sys prn &&
    (if sys = 0 then bitOf (F.GNB_SV_GPS.EN k) (prn - 1) d
    else if prn ≤ 32 then bitOf (F.GNB_SV_GAL_LO.EN k) (prn - 1) d
    else bitOf (F.GNB_SV_GAL_HI.EN k) (prn - 33) d)

/-- The channel that holds a PRN. -/
def chOf (k sys prn : Nat) (d : Dev) : Option Nat :=
  gnssChans.find? fun c => chState k c d != 0 && getF (F.GNB_CH.PRN k c) d == prn && getF (F.GNB_CH.SYSTEM k c) d == sys

/-- A hint is in force: a lost PRN is searched first for 5 s (R339). -/
def hintLive (h : Hint) (k : Nat) (d : Dev) : Bool :=
  match h.upTo with
  | none => true
  | some t => decide (spokePt k d ≤ t)

/-- A hint in force covers a PRN and Doppler: the search within ±500 Hz of it, which comes before the next PRN of the walk, detects it (R339). -/
def hintCovers (k sys prn : Nat) (doppler : Int) (d : Dev) : Bool :=
  (getGnss k d).hints.any fun h => h.sys == sys && h.prn == prn && decide ((doppler - h.doppler).natAbs ≤ 500000) && hintLive h k d

/-- The Doppler lies within the search of a PRN (R338, R339): ±ACQ_DOPP × 100 Hz about zero, or ±500 Hz about a hint. In mHz. -/
def inSearch (k sys prn : Nat) (doppler : Int) (d : Dev) : Bool :=
  decide (doppler.natAbs ≤ 100000 * getF (F.GNB_TRACK.ACQ_DOPP k) d) || hintCovers k sys prn doppler d

/-- The PRNs in the order of the walk (R338). -/
def walkList : List (Nat × Nat) := (List.range 32).map (fun n => (0, n + 1)) ++ (List.range 36).map (fun n => (1, n + 1))

/-- The PRNs the acquisition engine searches, in order (R338, R339): those this spoke lost, those other spokes track, then the walk
from where it stands, around; always without those not enabled or held. -/
def searchOrder (k : Nat) (d : Dev) : List (Nat × Nat) :=
  let g := getGnss k d
  let live := g.hints.filter fun h => hintLive h k d
  let first := (live.filter (·.upTo.isSome) ++ live.filter (·.upTo.isNone)).map fun h => (h.sys, h.prn)
  (first ++ walkList.drop g.walk ++ walkList.take g.walk).filter fun p => prnEnabled k p.1 p.2 d && (chOf k p.1 p.2 d).isNone

/-- The acquisition engine detects a PRN (R338, R339): it has then come to that PRN in its order, the searches before it having detected
nothing, which take no stated least time (log entry 141). The lowest IDLE channel goes to PULL_IN; the walk goes on after that PRN unless
the search about a hint detected it. -/
def acquire (k sys prn : Nat) (doppler : Int) (d : Dev) : Dev :=
  if !gnssOn k d || isSet (F.GNB_STATUS.SCLK_BAD k) d || !(searchOrder k d).contains (sys, prn) || !inSearch k sys prn doppler d then d
  else
    match gnssChans.find? fun c => chState k c d == 0 with
    | none => d
    | some c =>
      let hinted := hintCovers k sys prn doppler d
      d |> setF (F.GNB_CH.PRN k c) prn |> setF (F.GNB_CH.SYSTEM k c) sys |> setF (F.GNB_CH.STATE k c) 1
        |> updGch k c (fun _ => { since := spokePt k d })
        |> updGnss k (fun g => { g with
          hints := g.hints.filter fun h => !(h.sys == sys && h.prn == prn)
          walk := if hinted then g.walk else (32 * sys + prn) % 68 })

/-- A channel locks and its Doppler is passed to the other enabled spokes (R337, R339). -/
def lockAchieved (k c : Nat) (doppler : Int) (d : Dev) : Dev :=
  if chState k c d ≠ 1 || (getGch k c d).since + sec 1 < spokePt k d then d
  else
    let t := spokePt k d
    let sys := getF (F.GNB_CH.SYSTEM k c) d
    let prn := getF (F.GNB_CH.PRN k c) d
    let d := d |> setF (F.GNB_CH.STATE k c) 2 |> updGch k c (fun _ => { since := t, slip := true, slipAt := t })
      |> countTracking k
    eachD (spokeList d) (fun j d =>
      if j = k || !gnssOn j d || (chOf j sys prn d).isSome then d
      else updGnss j (fun g => { g with hints := g.hints ++ [⟨sys, prn, doppler, none⟩] }) d) d

/-- A channel has not locked within 1 s (R337). -/
def pullInTimeout (k c : Nat) (d : Dev) : Dev :=
  if chState k c d = 1 && (getGch k c d).since + sec 1 ≤ spokePt k d then chIdle k c d else d

/-- A channel loses lock (R339, R340), its C/N0 having been at most `cn0` (0.1 dB-Hz) for `low` ticks or a lock indicator failing for
`fail` ticks: its PRN is searched first for 5 s. -/
def lossOfLock (k c : Nat) (doppler : Int) (cn0 low fail : Nat) (d : Dev) : Dev :=
  let weak := decide (cn0 < 10 * getF (F.GNB_TRACK.DROP k) d) && decide (sec 1 ≤ low)
  if chState k c d ≠ 2 || !(weak || decide (ms 200 ≤ fail)) then d
  else
    let h : Hint := ⟨getF (F.GNB_CH.SYSTEM k c) d, getF (F.GNB_CH.PRN k c) d, doppler, some (spokePt k d + sec 5)⟩
    d |> updGnss k (fun g => { g with hints := h :: g.hints }) |> chIdle k c

/-- The replicas a channel of a system correlates against, in 1/64 chip from prompt (R341). -/
def replicas (k sys : Nat) (d : Dev) : List Int :=
  let el : Int := if sys = 1 then getF (F.GNB_TAPS.GAL_EL k) d else getF (F.GNB_TAPS.GPS_EL k) d
  let ve : Int := if sys = 1 then getF (F.GNB_TAPS.GAL_VE k) d else getF (F.GNB_TAPS.GPS_VE k) d
  [-ve, -el, 0, el, ve]

/-- A very-early or very-late tap has carried `tap` and prompt `prompt`, in one unit of power, for `lasting` ticks (R342, R351): Galileo only. -/
def sidePeak (k c : Nat) (late : Bool) (tap prompt lasting : Nat) (d : Dev) : Dev :=
  if chState k c d ≠ 2 || getF (F.GNB_CH.SYSTEM k c) d ≠ 1 || tap ≤ prompt || lasting < ms 100 then d
  else updGch k c (fun x => { x with
    slip := true, slipAt := spokePt k d, shift := x.shift + (if late then 32768 else -32768) }) d

/-- The sample clock is measured (R334): the deviation in 0.01 ppm, none without an edge. -/
def sclkCheck (k : Nat) (ppm : Option Int) (d : Dev) : Dev :=
  if !gnssOn k d then d
  else
    let v := match ppm with
      | some x => clampI (-32768) 32767 x
      | none => -32768
    let bad := match ppm with
      | some x => decide (100 < x.natAbs)
      | none => true
    d |> setF (F.GNB_SCLK.PPM k) (toBits 16 v)
      |> whenD bad (raise (F.GNB_STATUS.SCLK_SEEN k))
      |> flag (F.GNB_STATUS.SCLK_BAD k) bad

/-- The AGC loop moves the level toward AGC_TARGET (R335): `large` of `total` components had magnitude 4 or more. By how much it
moves is not stated. -/
def agcUpdate (k large total : Nat) (d : Dev) : Dev :=
  if !gnssOn k d || total = 0 then d
  else
    let agc := getF (F.GNB_STATUS.AGC k) d
    let have_ := large * 256
    let want := getF (F.GNB_JAM.AGC_TARGET k) d * total
    if have_ = want then d
    else
      let (v, d) := fresh d
      -- too many large components call for less gain
      let down := decide (want < have_) != isSet (F.GNB_CFG.AGC_POL k) d
      setF (F.GNB_STATUS.AGC k) (if down then agc - v % (agc + 1) else agc + v % (1024 - agc)) d

def notchMode (k i : Nat) (d : Dev) : Nat := getF (F.GNB_NOTCH_CFG.MODE k i) d

/-- The bin of the spectrum estimate a frequency in kHz lies in: bins are 23.4375 kHz wide (R343). -/
def binOf (f : Int) : Int := (f * 256 + 3000) / 6000

/-- Notch j holds a bin: an adaptive notch that is locked, or a fixed one (R343). -/
def holdsBin (k j : Nat) (d : Dev) : Bool := (getGnss k d).locks.contains j || notchMode k j d == 2

/-- An adaptive notch locks onto a bin at f kHz, `db` above the median (R343). -/
def notchLock (k i : Nat) (f : Int) (db : Nat) (d : Dev) : Dev :=
  let centre := fun j => signedOf 16 (getF (F.GNB_NOTCH.LIVE_F k j) d)
  if !gnssOn k d || notchMode k i d ≠ 1 || (getGnss k d).locks.contains i || db ≤ getF (F.GNB_NOTCH_CFG.TH k) d ||
      (List.range 3).any (fun j => j != i && holdsBin k j d && binOf (centre j) == binOf f) then d
  else d |> updGnss k (fun g => { g with locks := i :: g.locks }) |> setF (F.GNB_NOTCH.LIVE_F k i) (toBits 16 f)

/-- An adaptive notch whose bin has been at most `db` above the median for `lasting` ticks releases it (R343). -/
def notchRelease (k i : Nat) (db : Int) (lasting : Nat) (d : Dev) : Dev :=
  if notchMode k i d = 1 && decide (db < (getF (F.GNB_NOTCH_CFG.TH k) d : Int) - 3) && decide (ms 100 ≤ lasting) then
    d |> updGnss k (fun g => { g with locks := g.locks.filter (· != i) }) |> lower (F.GNB_NOTCH.LIVE_F k i)
  else d

/-- A notch takes a new mode or centre: off and unlocked read 0, fixed sits at FIXED_F (R343). -/
def notchMoved (k i : Nat) (d : Dev) : Dev :=
  d |> updGnss k (fun g => { g with locks := g.locks.filter (· != i) })
    |> setF (F.GNB_NOTCH.LIVE_F k i) (if notchMode k i d = 2 && gnssOn k d then getF (F.GNB_NOTCH.FIXED_F k i) d else 0)

/-- The jamming indicator is computed (R344, R345); e is in dB. -/
def jiEvaluation (k : Nat) (e : Int) (d : Dev) : Dev :=
  if !gnssOn k d then d
  else
    let nom : Int := getF (F.GNB_JAM.AGC_NOM k) d
    let agc : Int := getF (F.GNB_STATUS.AGC k) d
    let step : Int := getF (F.GNB_JAM.AGC_STEP k) d
    let gap := if isSet (F.GNB_CFG.AGC_POL k) d then agc - nom else nom - agc
    let ji := min 15 ((max 0 (gap / step)).toNat + (max 0 (e / 2)).toNat)
    let hi := decide (getF (F.GNB_JAM.JI_TH k) d ≤ ji)
    let g := getGnss k d
    let n := getF (F.GNB_JAM.JI_N k) d
    let hiRun := if hi then g.hiRun + 1 else 0
    let loRun := if hi then 0 else g.loRun + 1
    let d := d |> setF (F.GNB_STATUS.JI k) ji |> updGnss k (fun g => { g with hiRun := min hiRun 15, loRun := min loRun 15 })
    if n ≤ hiRun && !isSet (F.GNB_STATUS.JAM k) d then
      d |> raise (F.GNB_STATUS.JAM k) |> raise (F.GNB_STATUS.JAM_SEEN k) |> logEvent 0x0604 4 ⟨k, 15, 0⟩ ji agc.toNat 0
    else if n ≤ loRun then lower (F.GNB_STATUS.JAM k) d
    else d

/-- The antenna port of a spoke is switched (R331, R337, R40): the domain starts from nothing. -/
def portSwitched (k : Nat) (d : Dev) : Dev :=
  d |> updGnss k (fun _ => {}) |> eachD gnssChans (fun c => rput (R.GNB_CH k c) 0)
    |> rput (R.GNB_SCLK k) 0
    |> rput (R.GNB_STATUS k) (BitVec.ofNat 32 ((rget (R.GNB_STATUS k) d).toNat &&& 0x00500000))
    |> eachD (List.range 3) (notchMoved k)

/-- A write of the PRN enables: a channel that tracks a PRN now disabled goes to IDLE. -/
def prnsWritten (k : Nat) (d : Dev) : Dev :=
  eachD gnssChans (fun c d =>
    if chState k c d ≠ 0 && !prnEnabled k (getF (F.GNB_CH.SYSTEM k c) d) (getF (F.GNB_CH.PRN k c) d) d then chIdle k c d
    else d) d

/-! ### Epochs (R346 to R351) -/

/-- The epoch instant that is due now, if one is: its PT, and the field time of an aligned one. -/
def epochDue (d : Dev) : Option (Nat × Int) :=
  let n := getF F.GNB_EPOCH.EPOCH_MS d
  if !isSet F.GNB_EPOCH.ALIGN d then
    match gridReached (ms n) 0 d.pt with
    | some x => if (match d.time.lastEpoch with | some y => decide (x ≤ y) | none => false) then none else some (x, d.time.ft)
    | none => none
  else if ftValid d then
    let e : Int := (n : Int) * (10 ^ 18)
    let m := d.time.ft / e * e
    if d.time.lastEpochFt < m then some (d.pt, m) else none
  else none

/-- The PT of the next epoch (R346): the next multiple of the interval, or with ALIGN the tick at which field time reaches its next multiple. -/
def epochNext (d : Dev) : Option Nat :=
  let n := getF F.GNB_EPOCH.EPOCH_MS d
  if n = 0 || pstate d = .cold || pstate d = .parked then none
  else if !isSet F.GNB_EPOCH.ALIGN d then some ((d.pt / ms n + 1) * ms n)
  else if ftValid d then
    let e : Int := (n : Int) * (10 ^ 18)
    let left := (max (d.time.ft / e) (d.time.lastEpochFt / e) + 1) * e - d.time.ft
    some (d.pt + ((left + tickAdvance d - 1) / tickAdvance d).toNat)
  else none

/-- The antenna port of spoke k is enabled; of a spoke without power, as its set-up says (R349, R478). -/
def portEnabled (k : Nat) (d : Dev) : Bool :=
  gnssOn k d || (!d.pwr.spokeOn.contains k && (kget d.pwr.shadow (R.GNB_CFG k).off (R.GNB_CFG k).reset).getLsbD 0)

/-- Spoke k latches the epoch of PT t: its link is up, it runs, and the hub's word of that PT has reached it (R347). -/
def latches (k t : Nat) (d : Dev) : Bool := (getLink k d).up && !(getLink k d).spokeOff && (getGnss k d).epochAt == some t

/-- The 64 bytes of a channel record (R349, R351). -/
def channelRecord (k c : Nat) (m : ChanMeas) (d : Dev) : List Byte :=
  let x := getGch k c d
  let st := chState k c d
  let sys := getF (F.GNB_CH.SYSTEM k c) d
  let slip := st == 2 && (x.slip || m.carrierSlip.isSome)
  let modulus : Int := if sys = 1 then 4092 * 65536 else 1023 * 65536
  let code := (((m.codePhase : Int) + x.shift) % modulus).toNat
  let sync := if sys = 1 then st == 2 else m.bitSync
  let since := spokePt k d - x.slipAt
  let age := min 0xFFFF ((match m.carrierSlip with | some n => min n since | none => since) / 2500000)
  leBytes 1 (if st = 0 then 0 else getF (F.GNB_CH.PRN k c) d + 64 * sys)
    ++ leBytes 1 (st + (if slip then 4 else 0) + (if sync then 8 else 0)) ++ leBytes 2 age
    ++ leBytes 4 code ++ leBytes 4 m.codePeriods ++ leBytes 8 (toBits 64 m.carrier) ++ leBytes 4 (toBits 32 m.doppler)
    ++ leBytes 2 m.cn0 ++ leBytes 2 m.symCount ++ leBytes 4 m.symStart ++ leBytes 32 m.symbols

/-- The spoke section of spoke k at an epoch (R349). Of a spoke that did not latch, the hub knows nothing but that. -/
def spokeSection (k t : Nat) (m : SpokeMeas) (d : Dev) : List Byte × Dev :=
  if !latches k t d then
    let (free, d) := freeBytes 15 d
    (leBytes 1 (k + 8) ++ free ++ List.replicate (16 + 24 * 64) 0, d)
  else
    let b := fun (f : Fld) (n : Nat) => if isSet f d then n else 0
    let head := leBytes 1 (k + b (F.GNB_STATUS.SCLK_BAD k) 16 + b (F.GNB_STATUS.JAM k) 32) ++ leBytes 1 (getF (F.GNB_STATUS.JI k) d)
      ++ leBytes 2 (getF (F.GNB_STATUS.AGC k) d)
      ++ (List.range 3).flatMap (fun i => leBytes 2 (getF (F.GNB_NOTCH.LIVE_F k i) d))
      ++ (List.range 3).flatMap (fun i => leBytes 1 (if holdsBin k i d then m.notchDb.getD i 0 else 0))
      ++ leBytes 1 (getF (F.GNB_STATUS.TRACKING k) d) ++ leBytes 2 (getF (F.GNB_SCLK.PPM k) d) ++ List.replicate 16 0
    let recs := gnssChans.flatMap fun c => channelRecord k c (m.chans.getD c {}) d
    let d := eachD gnssChans (fun c d =>
      let x := m.chans.getD c {}
      let d := if chState k c d = 0 then d else setF (F.GNB_CH.CN0 k c) x.cn0 d
      updGch k c (fun g => if chState k c d = 2 then { g with slip := false, slipAt := match x.carrierSlip with
        | some n => max g.slipAt (spokePt k d - n)
        | none => g.slipAt } else g) d) d
    (head ++ recs, d)

/-- The sections of the spokes given, in order. -/
def epochSections (t : Nat) (meas : List (Nat × SpokeMeas)) : List Nat → Dev → List Byte × Dev
  | [], d => ([], d)
  | k :: ks, d =>
    let m := ((meas.find? fun e => e.1 == k).map (·.2)).getD {}
    let (s, d) := spokeSection k t m d
    let (rest, d) := epochSections t meas ks d
    (s ++ rest, d)

/-- The PT that the hub sent for an epoch it reaches at PT t: an aligned one is reached within a tick of what it worked out ahead (R346, R347). -/
def epochPt (t : Nat) (d : Dev) : Nat :=
  match d.time.epochSent with
  | some (x, _) => if t ≤ x + 1 && x ≤ t + 1 then x else t
  | none => t

/-- A measurement epoch (R346, R347): every enabled spoke latches, each at the tick of its own PT, which lies within one of the hub's (R32; log
entry 161). -/
def latchEpoch (meas : List (Nat × SpokeMeas)) (d : Dev) : Dev :=
  match epochDue d with
  | none => d
  | some (pt, ft) =>
    let ks := (spokeList d).filter fun k => portEnabled k d
    let d0 := d
    let (bytes, d) := epochSections (epochPt pt d) meas ks d
    let e : Epoch := {
      pt := pt, sections := bytes, ports := ks.foldl (fun m k => m + 2 ^ (k - 1)) 0, count := ks.length
      ft := if ftValid d0 then fieldNs d0 else 0, ftValid := ftValid d0, holdover := isSet F.TIM_STATUS.HOLDOVER d0
      ms := getF F.GNB_EPOCH.EPOCH_MS d0, unc := getF F.TIM_UNC.UNC d0 }
    updTime (fun t => { t with epoch := some e, lastEpoch := some pt, lastEpochFt := ft }) d

/-- The epoch record (R349). -/
def epochRecord (seq : Nat) (e : Epoch) : List Byte :=
  leBytes 4 seq ++ List.replicate 4 0 ++ leBytes 8 e.pt ++ leBytes 8 e.ft
    ++ leBytes 1 ((if e.ftValid then 1 else 0) + (if e.holdover then 2 else 0)) ++ leBytes 1 e.ports
    ++ leBytes 2 e.ms ++ leBytes 4 e.unc ++ List.replicate 32 0 ++ e.sections

end Sys2Proof.Machine
end

