-- ==== Sys2Proof/Machine/RegFind.lean ====
section
/-! DEFINITION. From a BAR0 offset to the register that lies there (R537), with its reset word and the bits of each access code (R9). -/
namespace Sys2Proof.Machine

/-- A register found: its name, the spoke or controller, the indices of its instance, its offset and reset word, its fields. -/
structure RegHit where
  name   : RegName
  unit   : Nat
  i      : Nat
  j      : Nat
  reg    : Reg
  fields : List RowField
deriving DecidableEq, Repr

/-- The instance of a row at an offset from the start of its space. -/
def rowAt (r : RegRow) (rel : Nat) : Option (Nat × Nat) :=
  if rel < r.base then none
  else
    let x := rel - r.base
    let i := if r.n1 = 1 then 0 else x / r.stride1
    let y := x - i * r.stride1
    if i < r.n1 && y % r.stride2 == 0 && decide (y / r.stride2 < r.n2) then some (i, y / r.stride2) else none

/-- The first row of a space that has a register at an offset. -/
def findRow (sp : RegSpace) (rel : Nat) : List RegRow → Option (RegRow × Nat × Nat)
  | [] => none
  | r :: rs =>
    if r.space == sp then
      match rowAt r rel with
      | some (i, j) => some (r, i, j)
      | none => findRow sp rel rs
    else findRow sp rel rs

/-- The default configuration of an odd and an even host-owned source (R430). -/
def irqCfgReset (m core : Nat) : Word := if m < core then 0 else 0x01000100

/-- The reset word of a row's instance. Words the part fixes are computed when they are read. -/
def rowReset (r : RegRow) (i : Nat) : Word :=
  match r.reset with
  | .const w => w
  | .hicCfg => irqCfgReset i 80
  | .sicCfg => irqCfgReset i 16
  | .hltClass => hltClassReset i
  | _ => 0

/-- The register at a BAR0 offset. -/
def regFind (off : Nat) : Option RegHit :=
  let mk := fun (unit base : Nat) (x : RegRow × Nat × Nat) =>
    let o := base + x.1.base + (if x.1.n1 = 1 then 0 else x.2.1 * x.1.stride1) + x.2.2 * x.1.stride2
    ({ name := x.1.name, unit := unit, i := x.2.1, j := x.2.2, reg := ⟨o, rowReset x.1 x.2.1⟩, fields := x.1.fields } : RegHit)
  if 0x14000 ≤ off then
    let k := (off - 0x14000) / 0x4000 + 1
    (findRow .spoke ((off - 0x14000) % 0x4000) regRows).map (mk k (spk k))
  else
    match findRow .hub off regRows with
    | some x => some (mk 0 0 x)
    | none =>
      if 0x0A000 ≤ off ∧ off < 0x0C000 then
        let n := (off - 0x0A000) / 0x800
        (findRow .can ((off - 0x0A000) % 0x800) regRows).map (mk n (canBase n))
      else none

/-- The bits of a register whose access code satisfies a test. -/
def accMask (p : Acc → Bool) (h : RegHit) : Nat :=
  h.fields.foldl (fun m f => if p f.acc then m + (2 ^ f.len - 1) * 2 ^ f.lo else m) 0

/-- The bits software sets up: RW and RWA fields; pending bits are no set-up (R442). -/
def setupMask (h : RegHit) : Nat := if h.name == .HIC_PEND || h.name == .SIC_PEND then 0 else accMask (fun a => a == .rw || a == .rwa) h

/-- A word with the bits of a mask taken from another. -/
def mixWord (mask : Nat) (old new : Word) : Word :=
  BitVec.ofNat 32 ((old.toNat &&& (mask ^^^ 0xFFFFFFFF)) ||| (new.toNat &&& mask))

end Sys2Proof.Machine
end

