-- ==== Sys2Proof/Machine/Power.lean ====
section
/-! DEFINITION. The make-ready sequencer (02_make_ready_and_parked.md): turning outputs off, disarm, SAFE, RESTRICTED, spokes, isolation (R478)
and the reset kinds. -/
namespace Sys2Proof.Machine

def updPwr (f : Pwr → Pwr) (d : Dev) : Dev := { d with pwr := f d.pwr }
def setState (s : PwrState) (d : Dev) : Dev := updPwr (fun p => { p with state := s }) d

/-- A spoke that runs: powered, loaded, not isolated. -/
def spokeRuns (k : Nat) (d : Dev) : Bool := d.pwr.loaded.contains k

/-- A restricted cause is held (R65, R66). -/
def restrictedCause (d : Dev) : Bool := isSet F.PWR_CAUSE.FW_COMBO d || isSet F.PWR_CAUSE.ABI d

/-! ### Precharge (R58 to R61, R545) -/

/-- The level at which a boost rail is found after a time without SBOOST, from its level before (R545): no less than VBAT less 1 V, where VBAT
is the world's, and above that no more than it was; how far it fell is open. Both are free. -/
def idleRail (was : Nat) (d : Dev) : Nat × Dev :=
  let (b, d) := fresh d
  let floor := b % 256 - 4
  let (v, d) := fresh d
  (floor + v % (max was floor - floor + 1), d)

/-- The converter of a spoke may charge: its domain powered, not disabled by a lasting failure, the spoke running and in supply (R236, R515,
R545). -/
def boostReady (k : Nat) (d : Dev) : Bool :=
  sboostOn k d && !isSet (F.DRV_BOOST_STATUS.LASTING k) d && !outOfSupply k d && spokeRuns k d

/-- A precharge of the spoke runs (R58). -/
def precharging (k : Nat) (d : Dev) : Bool := d.pwr.prechargeBy.any fun e => e.1 == k

/-- The converter follows the rail (R228, R515): in a precharge it charges up to TARGET; after it, it charges below TARGET − 0.5 V and stops at
TARGET. -/
def settleConverter (k : Nat) (d : Dev) : Dev :=
  let b := (getSpoke k d).boost
  let tgt := 2 * getF (F.DRV_BOOST_CFG.TARGET k) d
  let go := boostReady k d && decide (b.rail < tgt) &&
    (precharging k d || (bitOf F.PWR_STATE.PRECHARGED (k - 1) d && (b.charging || decide (b.rail + 2 < tgt))))
  updBoost k (fun b => { b with charging := go }) d

/-- A spoke charges its boost rail from now, within TIMEOUT. -/
def startPrecharge (k : Nat) (d : Dev) : Dev :=
  d |> updPwr (fun p => { p with prechargeBy := kins p.prechargeBy k (d.pt + ms (getF F.PWR_PRECHARGE.TIMEOUT d)) }) |> settleConverter k

/-- Every running spoke whose boost is enabled and whose rail is not known to be at its target precharges, but one whose converter is
disabled by a lasting failure (R236). -/
def prechargeAll (d : Dev) : Dev :=
  eachD (spokeList d) (fun k d =>
    if spokeRuns k d && isSet (F.DRV_BOOST_CFG.EN k) d && !isSet (F.DRV_BOOST_STATUS.LASTING k) d &&
        !bitOf F.PWR_STATE.PRECHARGED (k - 1) d && !d.pwr.noCharge.contains k && !precharging k d then startPrecharge k d else d) d

/-- The state READY, in which every spoke whose boost is enabled precharges (R61). -/
def toReady (d : Dev) : Dev := prechargeAll (setState .ready d)

/-! ### Turning outputs off (R73 to R76) -/

/-- The regulation of every loop-owned channel of a spoke ends. -/
def endLoopChannels (k : Nat) (d : Dev) : Dev :=
  eachD ((getSpoke k d).chans.map (·.1)) (fun n d => if getF (F.DRV_CH_CFG.OWNER k n) d = 2 then endRegulation k n d else d) d

/-- A spoke turns its channels and pairs off: the hub disables its drive (R75, R219). -/
def quietSpoke (k : Nat) (force : Bool) (d : Dev) : Dev :=
  d |> stopSpoke k force (fun n => outletOf k n d) |> endLoopChannels k |> disableDrive k |> settlePairs k

/-- A spoke's drive is enabled (R219). -/
def enableSpoke (k : Nat) (d : Dev) : Dev := settlePairs k (raise (F.DRV_STATUS.DRIVE_EN k) d)

/-- Every force returns to AUTO (R195). -/
def dropForces (d : Dev) : Dev :=
  eachD (List.range (outlets d).length) (fun o => updOut o (fun s => { s with forceMode := 0, forceDuty := 0 })) d

/-- The entries the hub counts on are over. -/
def dropEntries (d : Dev) : Dev :=
  eachD (List.range (outlets d).length) (fun o d => updOut o (fun s =>
    if (outletRec o d).kind = 0 then { s with entryOn := false, runEnd := min s.runEnd d.pt } else s) d) d

/-- Disarm under R74 and R75; the state that follows is the caller's. -/
def disarm (force : Bool) (d : Dev) : Dev :=
  if !isArmed d then d
  else d |> eachD (spokeList d) (fun k d => d |> quietSpoke k force |> loopsDisarm k) |> dropEntries |> dropForces

/-- Disarm and enter READY. -/
def disarmReady (d : Dev) : Dev := if isArmed d then toReady (disarm false d) else d

/-! ### Tandem yield (R500) -/

/-- A captain that must stop driving sends YIELD at once: cause 2 safe state, which ends the entries itself, 3 isolation. -/
def yieldNow (cause : Nat) (d : Dev) : Dev :=
  if !isCaptain d || d.tdm.yielding.isSome then d
  else
    d |> whenD (cause == 3) (fun d => d |> endAllEntries d.pt |> edgeFlush d.eng.cycleStart |> eachD (spokeList d) (fun k => quietSpoke k false) |> dropEntries)
      |> tdmSend (.yield_ (implOf d.eng.cycleStart d) cause) |> raise F.TDM_STATUS.YIELD_SEEN
      |> logEvent 0x0907 5 ⟨0, 8, 0⟩ cause (getF F.PWR_CAUSE.SAFE d) 0
      |> tdmEvent 4 cause 0
      |> updTdm (fun t => { t with yielding := some (d.pt, none), yieldNext := none })

/-! ### The end of a loop-back (R527, R529) -/

/-- The running loop-back ends with a STATE: a spoke link retrains, a CAN controller leaves with HALT 1. -/
def endLoopback (state : Nat) (d : Dev) : Dev :=
  match d.lb with
  | none => d
  | some r =>
    let d := setF F.PWR_LB_STATUS.STATE state { d with lb := none }
    match r.target with
    | 1 => updLink r.spoke (fun l => { l with lostAt := some (d.pt + us 100) }) d
    | 2 => haltSet r.inst d
    | _ => d

/-! ### SAFE (R52, R76 to R78) -/

/-- A safe-cause bit that sends YIELD: REFCLK, LASTING, WATCHDOG, THERMAL, HUB_FAULT (R500). -/
def safeYields (bit_ : Nat) : Bool := decide (1 ≤ bit_) && decide (bit_ ≤ 5)

/-- SAFE is entered (R76): each loop takes the SAFE action and is then opened by the disarm (R74, R300, R304). -/
def goSafe (d : Dev) : Dev :=
  d |> eachD (spokeList d) (fun k d => d |> quietSpoke k false |> loopsSafe k 5 |> loopsDisarm k)
    |> dropEntries |> dropForces |> endLoopback 0
    |> setState .safe
    |> updPwr (fun p => { p with testing := false, trainBy := [], prechargeBy := [], park := .awake, wakeLatched := none })
    |> logEvent 0x0102 6 ⟨0, 0, 0⟩ (getF F.PWR_CAUSE.SAFE d) 0 0

/-- A safe-state cause arises. In COLD, BOOT and PARKED it only sets its bit, and acts once that state is left (R52). -/
def enterSafe (bit_ : Nat) (d : Dev) : Dev :=
  let d := bitF F.PWR_CAUSE.SAFE bit_ true d
  if pstate d = .cold || pstate d = .boot || pstate d = .parked then updPwr (fun p => { p with heldSafe := true }) d
  else if pstate d = .safe then d
  else goSafe (whenD (safeYields bit_) (yieldNow 2) d)

/-- A cause that arose in COLD, BOOT or PARKED, and that nothing has cleared, acts when that state is left (R52, R76, R83, log entry 7). -/
def heldCause (d : Dev) : Dev :=
  let held := d.pwr.heldSafe
  let d := updPwr (fun p => { p with heldSafe := false }) d
  whenD (held && getF F.PWR_CAUSE.SAFE d != 0) goSafe d

/-- The lasting REGISTRATION instance sets its cause again (R77, R475), as do a reference that stays off (R38) and a hot die. -/
def persistentCauses (d : Dev) : Nat :=
  (if d.pwr.persistRef then 2 else 0) + (if (getInst 12 0 d).lasting then 4 else 0) + (if d.pwr.hotDies = [] then 0 else 16)

/-- Set again the safe causes whose condition persists (R77). -/
def setPersistent (d : Dev) : Dev := setF F.PWR_CAUSE.SAFE (getF F.PWR_CAUSE.SAFE d ||| persistentCauses d) d

/-! ### READY and RESTRICTED (R65 to R69) -/

/-- A host-less follower's role record, from the set-up defaults (R402). -/
def parseRole (bs : List Byte) : RoleRec :=
  let dflt := fun (v z : Nat) => if v = 0 then z else v
  { role := leAt bs 0 1 % 4, poseIn := (leAt bs 0 1).testBit 2, poseOut := (leAt bs 0 1).testBit 3, leader := leAt bs 1 1 % 64
    cableNs := leAt bs 2 2, cadPeriod := dflt (leAt bs 4 2) 1000, lossN := dflt (leAt bs 6 1) 10
    followers := (List.range (leAt bs 7 1 % 16)).map fun i => leAt bs (8 + i) 1 % 64, planner := leAt bs 23 1 % 64 }

/-- READY is entered (R51, R61, R402): a host-less follower runs the address probe, every time. -/
def enterReady (d : Dev) : Dev :=
  let d := d |> toReady |> updPwr (fun p => { p with reachedReady := true })
  match d.pwr.store.role with
  | none => d
  | some bs => if (d.sox.role.role = 0 || d.sox.role.role = 3) && d.sox.probe.isNone && soxAddr d ≠ 63 then probeStart (some (parseRole bs)) none d else d

/-- The live fields of CTL_LOOP_STATUS of a loop that runs no more; its flags and counter stay (R47). -/
def closeLoops (k : Nat) (d : Dev) : Dev :=
  eachD (List.range 24) (fun l d => rput (R.CTL_LOOP_STATUS k l)
    (BitVec.ofNat 32 ((rget (R.CTL_LOOP_STATUS k l) d).toNat &&& 0x00FFF000)) d) d

/-- What is left of a spoke whose power goes: the level of its rail (R545) and of the encoder lines, which the board drives (R274). -/
def darkSpoke (rail : Nat) (x : Spoke) : Spoke :=
  { boost := { rail := rail }, ctl := { encs := (x.ctl.encs.map fun e => (e.1, ({ lines := e.2.lines } : Enc))).filter fun e => e.2 != {} } }

/-- The drive, boost, PWM, control and GNSS domains of a spoke are unpowered (R69, R545): state lost, registers kept but for their live
fields (R47). -/
def unpowerOutputs (k : Nat) (d : Dev) : Dev :=
  let (rail, d) := idleRail (getSpoke k d).boost.rail d
  d |> eachD ((getCtl k d).loops.filterMap fun e => e.2.block) (dropClaims k)
    |> updSpoke k (darkSpoke rail)
    |> closeLoops k |> portSwitched k |> lower (F.DRV_STATUS.DRIVE_EN k)
    |> lower (F.CTL_STATUS.LOADED k)

/-- Descriptors of a ring that does not run in restricted service complete with status RESTRICTED (R94), but for a CAN_SEND whose frame is
on the bus. -/
def restrictRing (i : Nat) (d : Dev) : Dev :=
  if classRestricted (ringClass i d) || !ringLive i d then d
  else
    let onBus := fun (x : InDesc) => [0, 1, 2, 3].any fun c => match busEntry c d with
      | some e => e.from_ == TxFrom.send i x.index
      | none => false
    eachD ((getRing i d).inflight.filter fun x => !onBus x) (fun x => complete i x.index stRestricted 0 []) d

/-- Frames of CAN_SEND that are not on the bus leave their FIFO without a further completion (R94). -/
def dropSends (d : Dev) : Dev :=
  eachD [0, 1, 2, 3] (fun c => updCan c (fun x => { x with
    fifo := if x.onBus == .fifo then x.fifo.take 1 else []
    summary := if x.onBus == .summary then x.summary else none, nextSum := none
    sox := if x.onBus == .soxaek then x.sox.take 1 else [], soxWait := [] })) d

/-- The loop commands whose frames still wait in the hub are withdrawn (R94). -/
def dropLoopCmds (d : Dev) : Dev :=
  eachD (spokeList d) (fun k => updEnd k .hub (fun e => { e with waiting := e.waiting.filter fun p => match p with
    | .cmd (.loop ..) => false
    | _ => true })) d

/-- What waits inside the hub for a cycle start, a probe or a buffer is forgotten; no tile is queued by an invalidation any more (R94). -/
def dropWaiting (d : Dev) : Dev :=
  d |> updPwr (fun p => { p with armAccepted := [], disarmWait := [] })
    |> updEng giveUpMerge
    |> updEng (fun g => { g with waiting := [], commit := none, edges := [], evaluating := false, lateCycle := false
                                 tiles := g.tiles.map fun t =>
                                   if t.dropBy.isSome then { t with dropBy := none, dropFor := [], wbDue := false } else t })
    |> updSox (fun s => { s with newRole := none, probe := none, poses := [] })

/-- RESTRICTED is entered (R66, R68, R69, R94, R493). -/
def enterRestricted (d : Dev) : Dev :=
  let d := d |> disarm false |> eachD (spokeList d) (fun k d => d |> quietSpoke k false |> unpowerOutputs k) |> dropEntries |> dropForces
  let d := d |> lower F.PWR_STATE.PRECHARGED |> eachD ringList restrictRing |> detachNow |> dropSends |> dropLoopCmds |> dropWaiting
  { d with pins := { d.pins with timePulse := false } } |> setState .restricted
    |> updTime (fun t => { t with pulseRise := none }) |> updEng (fun g => { g with lanesOn := false })
    |> updPwr (fun p => { p with prechargeBy := [], noCharge := [] })
    |> logEvent 0x010A 4 ⟨0, 0, 0⟩ (getF F.PWR_CAUSE.FW_COMBO d + 2 * getF F.PWR_CAUSE.ABI d) (getF F.IDN_HOST_ABI.ABI d) 0

/-- Make-ready ends: READY, or RESTRICTED while a cause is held. Whether it has reached READY is kept across a wake (R78). -/
def finishReady (d : Dev) : Dev :=
  let d := updPwr (fun p => { p with reachedReady := p.reachedReady || p.readyBefore, readyBefore := false }) d
  if restrictedCause d then enterRestricted d else enterReady d

/-- An entry of the manifest matches the loaded firmware (R65). -/
def manMatches (d : Dev) (e : ManEntry) : Bool :=
  e.hub == getF F.IDN_FW_GEN.HUB_GEN d && e.spoke == getF F.IDN_FW_GEN.SPOKE_GEN d && e.ucode == getF F.IDN_UCODE_GEN.UCODE_GEN d

/-- The check of R66 for the ABI generation written. -/
def abiCheck (d : Dev) : Dev :=
  let v := getF F.IDN_HOST_ABI.ABI d
  if d.pwr.manifest.any fun e => manMatches d e && decide (e.abiMin ≤ v) && decide (v ≤ e.abiMax) then
    let d := d |> raise F.PWR_STATE.ABI_ACCEPTED |> lower F.PWR_CAUSE.ABI
    if pstate d = .restricted && !restrictedCause d then enterReady d else d
  else
    let d := d |> lower F.PWR_STATE.ABI_ACCEPTED |> raise F.PWR_CAUSE.ABI
    if pstate d = .ready || pstate d = .armed then enterRestricted d else d

/-! ### Spokes (R53, R54, R443, R478) -/

/-- An offset lies in spoke k's window, and not among the registers the hub holds (R29). -/
def spokeOffset (k off : Nat) : Bool :=
  decide (spk k ≤ off) && decide (off < spk k + 0x4000) && !(decide (spk k + 0x10 ≤ off) && decide (off < spk k + 0x20))

/-- The set-up words of a spoke join the shadow that a later load replays (R80, R443). -/
def shadowSpoke (k : Nat) (d : Dev) : Dev :=
  eachD (d.regs.filter fun e => spokeOffset k e.1) (fun e d =>
    match regFind e.1 with
    | none => d
    | some h => updPwr (fun p => { p with shadow := kput p.shadow e.1 (mixWord (setupMask h) h.reg.reset e.2) h.reg.reset }) d) d

/-- The counters that the spoke itself keeps start anew (R475, R477); EVENTS stay (R506). -/
def clearSpokeInsts (k : Nat) (d : Dev) : Dev :=
  let mine := fun (key : Nat) =>
    let cls := key / 4096
    let i := key % 4096
    match cls with
    | 0 | 1 | 2 | 3 => i / 64 + 1 == k
    | 4 | 10 => i / 8 + 1 == k
    | 5 => i + 1 == k
    | 6 => i / 12 + 1 == k
    | 8 => i / 24 + 1 == k
    | _ => false
  { d with health := { d.health with insts := (d.health.insts.map fun e =>
      if mine e.1 then (e.1, { ({} : Inst) with events := e.2.events }) else e).filter fun e => e.2 != {} } }

/-- What the supply monitor of spoke k shows of VBAT, which lasts till the recovery crossing whatever happens to the spoke (R515). -/
def supplyWord (k : Nat) (d : Dev) : KMap Word :=
  kput [] (R.SPK_SUPPLY k).off (rget (R.SPK_SUPPLY k) d &&& 0x300) (R.SPK_SUPPLY k).reset

/-- A spoke loses its power: every domain's state goes (R47), set-up words to the shadow. -/
def spokeOff (k : Nat) (d : Dev) : Dev :=
  let d := shadowSpoke k d
  let (rail, d) := idleRail (getSpoke k d).boost.rail d
  let l := getLink k d
  { d with
      regs := (supplyWord k d).foldl (fun m e => kput m e.1 e.2 0) (d.regs.filter fun e => !spokeOffset k e.1)
      spokes := kput d.spokes k (darkSpoke rail (getSpoke k d)) {}
      sic := kdel d.sic k
      links := kput d.links k { rxBad := l.rxBad } {} }
    |> clearSpokeInsts k |> clearSlots k |> bitF F.PWR_LINK_STATUS.LINK_UP (k - 1) false
    |> bitF F.PWR_STATE.PRECHARGED (k - 1) false
    |> updPwr (fun p => { p with spokeOn := p.spokeOn.filter (· != k), loaded := p.loaded.filter (· != k)
                                 trainBy := kdel p.trainBy k, prechargeBy := kdel p.prechargeBy k
                                 noCharge := p.noCharge.filter (· != k) })

/-- A spoke's power switch closes; its link must train within 100 µs (R53, R54). -/
def spokeSwitch (k : Nat) (d : Dev) : Dev :=
  updPwr (fun p => { p with spokeOn := p.spokeOn ++ [k], trainBy := kins p.trainBy k (d.pt + us 100) }) d

/-- Self-test begins when every precharge has ended (R53, R62). -/
def prechargeDone (d : Dev) : Dev :=
  if pstate d = .precharge && d.pwr.prechargeBy = [] then
    d |> setState .selftest |> updPwr (fun p => { p with testing := true })
  else d

/-- The state LINK ends when every spoke runs or is isolated (R53, R65, R83). -/
def linkDone (d : Dev) : Dev :=
  if pstate d = .link && (spokeList d).all (fun k => spokeRuns k d || isIsolated k d) then
    if d.pwr.park = .waking then finishReady (updPwr (fun p => { p with park := .awake }) d)
    else if isSet F.PWR_CAUSE.FW_COMBO d then enterRestricted d
    else d |> setState .precharge |> prechargeAll |> prechargeDone
  else d

/-- A spoke starts to run (step 9 of R53, step 7 of R83): defaults and shadow stand in its registers, the active table's outlets own
their channels again, and PT is aligned. -/
def spokeLoaded (k : Nat) (d : Dev) : Dev :=
  let put := fun (e : Nat × Word) (d : Dev) =>
    match regFind e.1 with
    | none => d
    | some h => if spokeOffset k e.1 then rput h.reg (mixWord (setupMask h) (rget h.reg d) e.2) d else d
  d |> eachD d.pwr.store.defaults put
    |> eachD d.pwr.shadow put
    |> updPwr (fun p => { p with shadow := p.shadow.filter (fun e => !spokeOffset k e.1), loaded := p.loaded ++ [k] })
    |> alignPt k |> levelsPend (.spoke k) |> spokeSettle k |> eachD (List.range 3) (notchMoved k) |> settlePairs k
    |> eachD ((outlets d).filter fun r => spokeOf r.chan == k) ownChannel
    |> whenD (pstate d == .ready) prechargeAll
    |> linkDone

/-- Some channel of a spoke is configured (R500). -/
def carriesChannel (k : Nat) (d : Dev) : Bool := (List.range 64).any fun n => getF (F.DRV_CH_CFG.OWNER k n) d != 0

/-- End every applying interval of a spoke's outlets now (R478). -/
def endSpokeIvs (k : Nat) (d : Dev) : Dev :=
  eachD (List.range (outlets d).length) (fun o d =>
    let r := outletRec o d
    if r.kind = 0 && spokeOf r.chan == k then
      updOut o (fun s => updIv (fun v => { v with stop := if v.stop.isNone then some d.pt else v.stop })
        { s with valveOpen := false, entryOn := false, runEnd := min s.runEnd d.pt }) d
    else d) d

/-- Loop commands to a spoke complete with status TIMEOUT (R478). -/
def timeoutLoops (k : Nat) (d : Dev) : Dev :=
  eachD ringList (fun i d =>
    if ringClass i d = 6 && ringLive i d then
      eachD ((getRing i d).inflight.filter fun x => x.stage == .waiting && paramBits x 24 0 3 == k) (fun x => complete i x.index stTimeout 0 []) d
    else d) d

/-- Isolation of spoke k (R54, R63, R478): cause 1 link, 2 self-test, 3 lasting fault. -/
def isolate (k cause : Nat) (d : Dev) : Dev :=
  if isIsolated k d then d
  else
    d |> whenD (carriesChannel k d) (yieldNow 3)
      |> endSpokeIvs k |> timeoutLoops k |> spokeOff k
      |> bitF F.PWR_STATE.ISOLATED (k - 1) true
      |> logEvent 0x0106 5 ⟨k, 0, 0⟩ cause 0 0
      |> prechargeDone |> linkDone

/-! ### Reset kinds (R85, R136, R543) -/

/-- A register that a watchdog or restart reset keeps (R543). -/
def keptReg (off : Nat) : Bool :=
  (decide (0x1000 ≤ off) && decide (off < 0x2000)) || (decide (0x4000 ≤ off) && decide (off < 0x5000)) ||
    (decide (0xC000 ≤ off) && decide (off < 0xC040)) || off == R.GNB_EPOCH.off ||
    off == R.PWR_PARK_CFG.off || off == R.PWR_PARK_TIMER.off

/-- PKG_ILIM after a reset (R1, HLT_PKG). -/
def pkgReset (d : Dev) : Nat := match d.chip.variant with | .yn2 => 200 | .yn4 => 600 | .yn8 => 960

/-- The levels at hub sources that the balls and registers give, after the controller was cleared. -/
def resumeSources (d : Dev) : Dev :=
  eachD ((List.range 66).map (160 + ·)) (fun s d => if hubSourceLevel s d = some true then hubSignal s true d else d) d

/-- The spokes that lose their power, as it leaves them (R545). -/
def idleRails (d : Dev) : KMap Spoke × Dev :=
  (spokeList d).foldl (fun a k =>
    let (rail, d) := idleRail (getSpoke k d).boost.rail a.2
    (kput a.1 k (darkSpoke rail (getSpoke k d)) {}, d)) ([], d)

/-- What every spoke's supply monitor shows, for a reset that clears the spokes. -/
def supplyWords (d : Dev) : KMap Word := (spokeList d).flatMap fun k => supplyWord k d

/-- The balls after a reset that clears the hub: the test access port is in its reset state (R46, R534, R543). -/
def resetTap (p : Pins) : Pins := { p with tap := .idcode, cells := [] }

/-- A watchdog or restart reset (R85, R543): `bit_` of PWR_CAUSE.RESET, from flash or from the image store. -/
def clearHub (bit_ : Nat) (fromStore : Bool) (d : Dev) : Dev :=
  let (rails, d) := idleRails (enterHoldover 0 (detachNow (dropRings ringDrop d)))
  let p := d.pwr
  let kept : Dev := {
    chip := d.chip, pt := d.pt, free := d.free, out := d.out
    regs := (supplyWords d).foldl (fun m e => kput m e.1 e.2 0) (d.regs.filter fun e => keptReg e.1)
    ticks := d.ticks
    spokes := rails
    pins := resetTap d.pins
    pwr := { state := .images, fromStore := fromStore, store := p.store, storeValid := p.storeValid, suppliesGood := true
             seqA := p.seqA, seqB := p.seqB
             aoFail := p.aoFail, persistRef := p.persistRef, hotDies := p.hotDies, opTicks := p.opTicks, opTime := p.opTime, wakeIdle := p.wakeIdle, lowSpokes := p.lowSpokes }
    pcie := d.pcie
    log := d.log, health := { lastReplan := p.opTime }
    time := { d.time with epoch := none, epochSeq := 0, rate := 0, rateAcc := 0 }
    sox := { o := d.sox.o } }
  kept |> setF F.HLT_PKG.PKG_ILIM (pkgReset d)
    |> setF F.PWR_CAUSE.SAFE (getF F.PWR_CAUSE.SAFE d) |> bitF F.PWR_CAUSE.RESET bit_ true |> resumeSources

/-- The logbook after the power of HLOG went: only the store and the colophon are left (R457, R463), an erase cut short where it was. -/
def logAfterPower (d : Dev) : Dev :=
  let d := eraseCut 0 d
  { d with log := { store := d.log.store, colA := d.log.colA, colB := d.log.colB, newerB := d.log.newerB
                    writes := d.log.writes, erases := d.log.erases } }

/-- The power-cycle count as the colophon or the newest record has it (R466); a reset before it was saved counts on from LOG_PCYC. -/
def savedPcyc (l : Logbook) : Nat :=
  match chosenColophon l with
  | some c => c.pcyc
  | none => ((l.store.filterMap (·.2)).filter recordValid).foldl (fun m r => max m r.entry.pcyc) 0

/-- A power-on or external reset (R85, R465 to R467, R543): `bit_` of PWR_CAUSE.RESET. Make-ready starts while RESET_N and VBAT_AO are
present. -/
def coldReset (bit_ : Nat) (go : Bool) (d : Dev) : Dev :=
  let (rails, d) := idleRails (logAfterPower d)
  let l := d.log
  let p := d.pwr
  let new : Dev := {
    chip := d.chip, free := d.free, out := d.out, log := l, health := { lastReplan := resumeOpTime l }, spokes := rails
    regs := supplyWords d
    ticks := d.ticks
    pins := { resetTap d.pins with pwrEn := false, timePulse := false }
    pwr := { powerFrom := if go then some 0 else none, opTime := resumeOpTime l
             hotDies := p.hotDies, persistRef := p.persistRef } }
  new |> setF F.HLT_PKG.PKG_ILIM (pkgReset d) |> setF F.PWR_CAUSE.RESET (2 ^ bit_)
    |> setF F.LOG_PCYC.PCYC (min 0xFFFFFF (max (savedPcyc l) (getF F.LOG_PCYC.PCYC d) + 1))
    |> setF F.LOG_NEXT_SEQ.SEQ (resumeSeq l)

/-- A PCIe reset (R85, R136): endpoint, ring engine and MSI-X cleared, disarm. -/
def pcieReset (d : Dev) : Dev :=
  let d := d |> disarmReady |> endLoopback 0 |> dropRings ringClear |> setF F.HIF_EPOCH.EPOCH 0 |> lower F.HIF_STATUS.ATOMIC_ACTIVE
  { d with pcie := { linkUp := d.pcie.linkUp }, eng := { d.eng with writing := none, casStale := 0 } }

/-- The byte memories after a reset that clears the hub. -/
def clearMems (s : State) : State := { s with mem := {} }

end Sys2Proof.Machine
end

