-- ==== Sys2Proof/Machine/Lane.lean ====
section
/-! DEFINITION. The slots of the spoke-link lanes (R18, R24, R42): every 8 ns each lane carries the ready frame of lowest rank: NAK, then a
replay, then the frames that wait, by rank, or IDLE. Log entries 6 and 111. -/
namespace Sys2Proof.Machine

/-- Side s of link k puts a frame on its lane. -/
def sendOn (k : Nat) (s : Side) (seq typ bits : Nat) (d : Dev) : Dev :=
  emit (.linkFrame k s (frameBytes (ackOf (linkEnd k s d)) seq typ bits)) d

/-- The slot carries IDLE, and with it ACK (R17, R18). -/
def sendIdle (k : Nat) (s : Side) (d : Dev) : Dev := sendOn k s (linkEnd k s d).nextSeq 0x0 0 d

/-- The slot carries the next frame of a replay; the hub's are counted in HUB_REPLAYS (R30; log entry 110). -/
def sendReplay (k : Nat) (s : Side) (q : Nat) (d : Dev) : Dev :=
  let d := updEnd k s (fun e => { e with resend := e.resend.drop 1 }) d
  match (linkEnd k s d).replay.find? fun f => f.seq == q with
  | none => sendIdle k s d
  | some f =>
    d |> updEnd k s (fun e => { e with replay := e.replay.map fun g => if g.seq = q then { g with at_ := d.pt, tries := g.tries + 1 } else g })
      |> whenD (s == Side.hub) (countF (F.SPK_LINK_REPLAY.HUB_REPLAYS k))
      |> sendOn k s q (typeCode f.payload) f.bits

/-- A frame leaves the queue of those that wait. -/
def unqueue (k : Nat) (s : Side) (d : Dev) : Dev := updEnd k s (fun e => { e with waiting := e.waiting.drop 1 }) d

/-- PTSYNC carries the PT at transmission (R18). -/
def stamped (p : Payload) (t : Nat) : Payload := match p with | .ptsync _ echo => .ptsync t echo | q => q

/-- The slot carries a new frame, which takes the next SEQ and a place in the replay buffer. -/
def sendNew (k : Nat) (s : Side) (p : Payload) (d : Dev) : Dev :=
  let p := stamped p (match s with | .hub => d.pt | .spoke => spokePt k d)
  let (bits, d) := payloadBits p d
  let q := (linkEnd k s d).nextSeq
  d |> updEnd k s (fun e => { e with
        nextSeq := (q + 1) % 64, replay := e.replay ++ [{ seq := q, payload := p, bits := bits, at_ := d.pt }], waiting := e.waiting.drop 1 })
    |> sendOn k s q (typeCode p) bits

/-- The hub cannot send a schedule entry (row 3 of R45): the entry is withdrawn, the outlet taken as off for the cycle. -/
def withdrawEntry (k : Nat) (p : Payload) (d : Dev) : Dev :=
  match p with
  | .sched e =>
    match findOutlet (globalCh k e.chan) d with
    | some o => updOut o (fun x => { x with planOn := false, entryOn := false, runEnd := min x.runEnd d.pt }) d
    | none => d
  | _ => d

/-- A spoke cannot send a frame (row 5 of R45): a FEED event goes as ENDED_NO_TRAVEL with DELAY 0xFFFF. -/
def withheldFeed (k : Nat) (p : Payload) (d : Dev) : Dev :=
  match p with
  | .feed f => linkSend k .spoke (.feed { f with event := .endedNoTravel, delay := 0xFFFF }) d
  | _ => d

/-- The ECC check of the frame next in line (R42 to R45): the frame goes once it has passed; a corrected one goes in the next slot, and this one
carries IDLE. -/
def checkNew (k : Nat) (s : Side) (p : Payload) (d : Dev) : Dev :=
  let (row, die) := match s with | .hub => (3, 0) | .spoke => (5, k)
  let clean := (upsetAt row k d).isNone
  crossEcc row k die 0 0 (if clean then sendNew k s p else sendIdle k s)
    (fun d => d |> sendIdle k s |> unqueue k s |> (match s with | .hub => withdrawEntry k p | .spoke => withheldFeed k p)) d

/-- One slot of the lane that side s of link k sends on. A full replay buffer holds new frames (R24); with nothing ready the lane
carries IDLE. -/
def laneSlot (k : Nat) (s : Side) (d : Dev) : Dev :=
  let e := linkEnd k s d
  if e.nakDue then d |> updEnd k s (fun e => { e with nakDue := false }) |> sendOn k s e.nextSeq 0x1 0
  else
    match e.resend, e.waiting with
    | q :: _, _ => sendReplay k s q d
    | [], p :: _ => if e.replay.length < 32 then checkNew k s p d else sendIdle k s d
    | [], [] => sendIdle k s d

/-- RESUME follows the INT frames a spoke sends after retraining (R441). -/
def releaseResume (k : Nat) (d : Dev) : Dev :=
  let l := getLink k d
  let left := l.spoke.waiting.any fun p => match p with
    | .int .. => true
    | _ => false
  if l.resumeDue && !left then d |> updLink k (fun l => { l with resumeDue := false }) |> linkSend k .hub (.cmd .resume) else d

/-- The lanes of a link carry frames: it is up and no loop-back has it (R529). -/
def laneRuns (k : Nat) (d : Dev) : Bool := (getLink k d).up && !linkLooped k d && !isIsolated k d

/-- A slot of every lane, one each 8 ns (R18). -/
def laneSlots (d : Dev) : Dev :=
  if d.ticks % 2 != 0 then d
  else eachD (spokeList d) (fun k d => if laneRuns k d then d |> laneSlot k .hub |> laneSlot k .spoke |> releaseResume k else d) d

end Sys2Proof.Machine
end

