-- ==== Sys2Proof/Machine/Tick.lean ====
section
/-! DEFINITION. One tick of package time: what passes by itself, without a command (R31 to R37, R352 to R359, R408, R464). Log
entry 6. -/
namespace Sys2Proof.Machine

/-- PT and the spokes' copies advance by one, but for a die that holds this tick (R35); operating time goes with PT (R464). -/
def tickPt (d : Dev) : Dev :=
  let hub : Int := if d.time.holds = 0 then 1 else 0
  let links := d.links.map fun e =>
    let own : Int := if e.2.holds = 0 then 1 else 0
    (e.1, { e.2 with ptOff := e.2.ptOff + own - hub, holds := e.2.holds - 1 })
  let d := whenD (d.time.holds != 0) (updTime fun t => { t with ptSteps := (d.pt, -1) :: lastSecond d t.ptSteps }) d
  operate hub.toNat { updTime (fun t => { t with holds := t.holds - 1 }) d with
    pt := (d.pt + hub.toNat) % 2 ^ 64, links := links.filter fun e => e.2 != {} }

/-- Field time over one tick, the slew included (R352, R356). -/
def tickField (d : Dev) : Dev :=
  if !ftValid d then d
  else
    let s := slewPart d
    updTime (fun t => { t with ft := t.ft + ftTicks (rateY d) 1 + s, slew := t.slew - s }) d

/-- The seconds spent in holdover raise TIM_UNC (R358). -/
def tickHoldover (d : Dev) : Dev :=
  if !isSet F.TIM_STATUS.HOLDOVER d then d
  else if d.time.holdTicks + 1 < sec 1 then updTime (fun t => { t with holdTicks := t.holdTicks + 1 }) d
  else
    let d := updTime (fun t => { t with holdTicks := 0 }) d
    if ftValid d then setUnc (getF F.TIM_UNC.UNC d + getF F.TIM_HOLD.HOLD_RATE d) d else d

/-- The device is a follower of the section bus (R402). -/
def isFollower (d : Dev) : Bool := d.sox.role.role == 2 || d.sox.role.role == 3

/-- Steering of PT to field time (R353): an adjustment of one tick is made past half a tick, so that ±4 ns hold while it takes
effect (log entry 139). -/
def tickSteer (d : Dev) : Dev :=
  let on := isSet F.TIM_CFG.STEER d && ftValid d && !isFollower d
  let d := flag F.TIM_STATUS.STEER_LIMIT (on && decide (100000000 < (rateY d).natAbs)) d
  if !on || !mayAdjust d then d
  else
    let off := d.time.ft - 4 * ftNs * d.pt - d.time.hold
    if 2 * ftNs < off then adjustAll true d
    else if off < -(2 * ftNs) then adjustAll false d
    else d

/-- The rate a follower applies, in single-tick adjustments (R408). -/
def tickRate (d : Dev) : Dev :=
  let acc := d.time.rateAcc + 4 * d.time.rate
  let d := updTime (fun t => { t with rateAcc := acc }) d
  if !mayAdjust d then d
  else if 4000000000 ≤ acc then adjustAll true (updTime (fun t => { t with rateAcc := acc - 4000000000 }) d)
  else if acc ≤ -4000000000 then adjustAll false (updTime (fun t => { t with rateAcc := acc + 4000000000 }) d)
  else d

/-- The correction of a spoke that a PT check found off, one adjustment after another (R33). -/
def tickSpokes (d : Dev) : Dev :=
  if !mayAdjust d then d
  else
    match (spokeList d).find? fun k => (getLink k d).up && (getLink k d).adjLeft != 0 with
    | some k => adjustSpoke k d
    | none => d

/-- Step 2 of R53: 40 to 60 µs after t0, at a time that is free, PWR_EN goes high and the supplies have 20 ms (R48, R49); after a wake event at
the time it gives (R83). With TESTMODE high make-ready does not run (R536). -/
def tickPower (d : Dev) : Dev :=
  match d.pwr.powerFrom, d.pwr.powerAt with
  | some t, none =>
    if d.pt < t + us 40 then d
    else
      let (v, d) := fresh d
      { d with pwr := { d.pwr with powerFrom := none, powerAt := some (t + us 40 + v % (us 20 + 1)) } }
  | _, some t =>
    if d.pins.testMode || decide (d.pt < t) then d
    else { d with pins := { d.pins with pwrEn := true }, pwr := { d.pwr with powerAt := none, attempts := 1, pgDeadline := some (d.pt + ms 20) } }
  | none, none => d

/-- The PT of the next epoch goes to every spoke with its antenna port enabled, 8 µs ahead or, where the port is enabled later, till 4 µs ahead
(R347; log entry 161). -/
def tickEpoch (d : Dev) : Dev :=
  match epochNext d with
  | none => d
  | some x =>
    if x ≤ d.pt + us 4 || d.pt + us 8 < x then d
    else
      let sent := match d.time.epochSent with
        | some (y, ks) => if y = x then ks else []
        | none => []
      let ks := (spokeList d).filter fun k => gnssOn k d && (getLink k d).up && !sent.contains k
      if ks.isEmpty then d
      else d |> updTime (fun t => { t with epochSent := some (x, sent ++ ks) }) |> eachD ks fun k => linkSend k .hub (.data (.epoch x))

/-- The trip filters of every spoke (R325). -/
def tickTrips (d : Dev) : Dev := eachD (spokeList d) settleTrips d

/-- The interrupt controllers of a hub that is powered see the signals as they now are (R427, R431). -/
def tickSources (d : Dev) : Dev := if pstate d = .cold || pstate d = .parked then d else settleSources d

/-- One tick of the device: a part held in reset stands still, and in PARKED only the parked interval counts (R37, R516). -/
def tickDev (d : Dev) : Dev :=
  let d := { d with marks := [], ticks := d.ticks + 1, pcie := { d.pcie with sent := [] } }
  if !d.pins.vbatAo || !d.pins.resetN then d
  else if d.pwr.park = .saved then { d with pwr := { d.pwr with parkTicks := d.pwr.parkTicks + 1 } }
  else d |> tickField |> tickPt |> tickHoldover |> tickSteer |> tickRate |> tickSpokes |> tickPower |> tickEpoch |> tickErase |> tickTrips |> tickSources |> laneSlots

/-- One tick of the block. -/
def tick (s : State) : State := { s with dev := tickDev s.dev }

end Sys2Proof.Machine
end

