-- ==== Sys2Proof/Machine/SectionBus.lean ====
section
/-! DEFINITION. The Soxaek engine (12_section_bus.md): acceptance of frames, roles, the address probe, cadence and discipline, poses,
EDGE and STATE frames. What a cycle start does with a new role, an arming or the EDGE frames of the cycle is in Cycle.lean. -/
namespace Sys2Proof.Machine

/-! ### Roles (R400 to R402) -/

/-- Forget what belongs to a source that was lost (R398). -/
def forgetSrc (src : Nat) (d : Dev) : Dev :=
  updSox (fun s => { s with rxCount := s.rxCount.filter fun e => e.1 / 64 != src }) d

/-- The time unit leaves LOCKED (R424). -/
def leaveLocked (d : Dev) : Dev :=
  whenD (getF F.TIM_IMPL_STATUS.STATE d == 3) (fun d => d |> raise F.TIM_IMPL_STATUS.UNLOCK_SEEN
    |> soxEvent 4 (soxAddr d) (signedOf 32 (getF F.TIM_IMPL_ERR.E d)) 0) d

/-- A role comes into force (R402, R406, R408): counters, presence and discipline start anew. -/
def setRole (r : RoleRec) (d : Dev) : Dev :=
  let own := r.role = 2 || r.role = 3
  d |> leaveLocked |> setF F.CAN_SB_CFG.ROLE r.role |> flag F.CAN_SB_CFG.POSE_IN r.poseIn |> flag F.CAN_SB_CFG.POSE_OUT r.poseOut
    |> setF F.CAN_SB_CFG.LEADER r.leader |> setF F.CAN_SB_CFG.NFOL r.followers.length
    |> rput R.CAN_SB_PRESENT 0 |> lower F.CAN_SB_STATUS.CONFLICT |> lower F.CAN_SB_STATUS.PLANNER_OK
    |> setF F.TIM_IMPL_STATUS.STATE (if own then 1 else 0) |> lower F.TIM_IMPL_STATUS.LEADER_LOST |> lower F.TIM_IMPL_STATUS.MISMATCH
    |> rput R.TIM_IMPL_FREQ 0
    |> whenD (!own) (fun d => d |> rput R.TIM_IMPL_OFF_LO 0 |> rput R.TIM_IMPL_OFF_HI 0)
    |> updTime (fun t => { t with rate := 0, rateAcc := 0 })
    |> updSox (fun s => { events := s.events, probe := s.probe, txCount := s.txCount, cadSeq := s.cadSeq, role := r
                          o := if own then s.o else 0, cadAt := d.pt, stateAt := d.pt })

/-- A role record breaks R401. -/
def roleBad (bs : List Byte) (d : Dev) : Bool :=
  let r := parseRole bs
  let raw := leAt bs 4 2
  let loss := leAt bs 6 1
  let fs := r.followers
  r.role == 3 || decide (16 ≤ leAt bs 0 1) || decide (64 ≤ leAt bs 1 1) || r.leader == 63 || decide (2000 < r.cableNs) ||
    (raw != 0 && (decide (raw < 500) || decide (10000 < raw))) || (loss != 0 && decide (loss < 3)) || decide (16 ≤ leAt bs 7 1) ||
    (List.range 15).any (fun i => decide (64 ≤ leAt bs (8 + i) 1)) || decide (64 ≤ leAt bs 23 1) || (bs.drop 24).any (· != 0) ||
    (r.role == 1 && r.leader != soxAddr d) || fs.any (fun a => a == 63 || a == soxAddr d) || (uniq fs).length != fs.length ||
    (r.role == 0 && !fs.isEmpty)

/-- CAN-B can carry the section bus (R401). -/
def canBReady (d : Dev) : Bool := isSet (F.CAN_CFG.EN 1) d && !isSet (F.CAN_CFG.HALT 1) d && isSet (F.CAN_CFG.FD_EN 1) d

/-- The role of a descriptor waits for the next cycle start. -/
def awaitRole (r : RoleRec) (desc : Option (Nat × Nat)) (d : Dev) : Dev := updSox (fun s => { s with newRole := some (r, desc) }) d

/-- SB_ROLE (R400, R401). -/
def sbRole (i : Nat) (d : Dev) : Dev :=
  startDesc i 0xE0 (fun x d =>
    if soxAddr d = 63 || x.len != 32 || roleBad x.buf d then complete i x.index stBadLength 0 [] d
    else if isArmed d || !canBReady d then complete i x.index stBusy 0 [] d
    else if d.sox.newRole.isSome || d.sox.probe.isSome then d
    else
      let r := parseRole x.buf
      let d := holdDesc i x d
      if r.role = 0 || isSet F.CAN_SB_STATUS.PROBED d then awaitRole r (some (i, x.index)) d
      else probeStart (some r) (some (i, x.index)) d) d

/-- SB_PROBE (R400, R405). -/
def sbProbe (i : Nat) (d : Dev) : Dev :=
  startDesc i 0xE1 (fun x d =>
    if soxAddr d = 63 then complete i x.index stBadLength 0 [] d
    else if d.sox.newRole.isSome || d.sox.probe.isSome then d
    else probeStart none (some (i, x.index)) (holdDesc i x d)) d

/-- PROBE_FRAME_SEND (R404). -/
def probeFrame (d : Dev) : Dev :=
  match d.sox.probe with
  | some p => if p.sent < 3 && decide (p.lastAt + ms 10 ≤ d.pt) then probeSend d else d
  | none => d

/-- Complete the descriptor of a probe. -/
def probeAnswer (desc : Option (Nat × Nat)) (status detail : Nat) (d : Dev) : Dev :=
  match desc with
  | some (i, index) => complete i index status detail [] d
  | none => d

/-- PROBE_WINDOW_END (R401, R402, R405). -/
def probeEnd (d : Dev) : Dev :=
  match d.sox.probe with
  | none => d
  | some p =>
    if p.sent < 3 || d.pt < p.lastAt + ms 20 then d
    else
      let d := updSox (fun s => { s with probe := none }) d
      if p.dup then
        d |> raise F.CAN_SB_STATUS.DUP_ADDR |> raise F.CAN_SB_STATUS.DUP_SEEN
          |> logEvent 0x0703 5 ⟨0, 5, 0⟩ (soxAddr d) 0 0 |> healthReport 15 0 |> soxEvent 8 (soxAddr d) 0 0
          |> probeAnswer p.desc stBusy 2
          |> whenD (d.sox.role.role == 3) (awaitRole {} none)
      else
        let d := d |> lower F.CAN_SB_STATUS.DUP_ADDR |> whenD (p.acked != 0) (raise F.CAN_SB_STATUS.PROBED)
        match p.role with
        | some r => if d.sox.role.role = 3 then d else awaitRole r p.desc d
        | none => if p.acked = 0 then probeAnswer p.desc stNoAck 0 d else probeAnswer p.desc stOk 0 d

/-! ### Cadence and discipline (R403, R406 to R411) -/

/-- CADENCE_SEND (R403, R406). -/
def cadenceSend (d : Dev) : Dev :=
  let s := d.sox
  match gridReached (us s.role.cadPeriod) 0 d.pt with
  | none => d
  | some g =>
    let yields := s.conflicts.any fun x => decide (x.1 < soxAddr d)
    if s.role.role != 1 || s.cadLast == some g || yields then d
    else
      let seq := s.cadSeq
      let prev := match s.cadStamp with
        | some (n, t) => if (n + 1) % 256 = seq % 256 then some t else none
        | none => none
      let body := leBytes 8 (prev.getD 0) ++ leBytes 1 seq ++ leBytes 1 (if prev.isSome then 1 else 0) ++ leBytes 2 s.role.cadPeriod
      d |> soxQueue 0 63 0 true body |> updSox (fun s => { s with cadSeq := (seq + 1) % 256, cadLast := some g, cadStamp := none })

/-- CONFLICT_END (R403): the conflict with an address ends LOSS_N periods after its last CADENCE. -/
def conflictEnd (d : Dev) : Dev :=
  let left := d.sox.conflicts.filter fun x => decide (d.pt < x.2 + us (d.sox.role.lossN * d.sox.role.cadPeriod))
  d |> updSox (fun s => { s with conflicts := left }) |> whenD left.isEmpty (lower F.CAN_SB_STATUS.CONFLICT)

/-- A leader accepts a CADENCE of another address (R403): each start of a conflict with an address is recorded. -/
def cadenceConflict (src : Nat) (d : Dev) : Dev :=
  let begins := !d.sox.conflicts.any fun x => x.1 == src
  d |> updSox (fun s => { s with conflicts := kins s.conflicts src d.pt })
    |> raise F.CAN_SB_STATUS.CONFLICT |> raise F.CAN_SB_STATUS.CONFLICT_SEEN
    |> whenD begins (fun d => d |> logEvent 0x0704 4 ⟨0, 5, 0⟩ src 0 0 |> healthReport 15 0 |> soxEvent 9 src 0 0)

/-- The rate of R408 from a term in 1/64 ns per cadence period, in force from now. -/
def setRate (term : Int) (d : Dev) : Dev :=
  let (r, d) := divFree (-term * 1000000) (64 * max 1 d.sox.cadUs) d
  let r := clampI (-100000) 100000 r
  let (f, d) := divFree r 10 d
  d |> updTime (fun t => { t with rate := r }) |> setF F.TIM_IMPL_FREQ.FREQ (toBits 32 f)

/-- A new O (R406, R408). -/
def setOffset (o : Int) (d : Dev) : Dev :=
  d |> updSox (fun s => { s with o := o }) |> setF F.TIM_IMPL_OFF_LO.O (toBits 64 o % 2 ^ 32) |> setF F.TIM_IMPL_OFF_HI.O (toBits 64 o / 2 ^ 32)

/-- Round e / (4 tg) to the nearest integer, halves away from zero (llround of R408). -/
def roundTg (e : Int) (tg : Nat) : Int :=
  let n : Int := 4 * tg
  if 0 ≤ e then (2 * e + n) / (2 * n) else -((-2 * e + n) / (2 * n))

/-- ACQUIRE sets a new O (R408). -/
def acquireOffset (e0 : Int) (d : Dev) : Int × Dev :=
  let tg := cyclePeriod d
  let n := roundTg e0 tg
  let e := e0 - 4 * tg * n
  let d := d |> setOffset (d.sox.o - tg * n)
    |> updSox (fun s => { s with acquire := false })
    |> setF F.TIM_IMPL_STATUS.STATE 2 |> countF F.TIM_IMPL_STATUS.REACQS |> raise F.TIM_IMPL_STATUS.REACQ_SEEN
  (e, soxEvent 10 (soxAddr d) e d.sox.o d)

/-- One cadence error on a follower (R408, R411). -/
def applyError (e0 : Int) (d : Dev) : Dev :=
  let before := getF F.TIM_IMPL_STATUS.STATE d
  let acq := d.sox.acquire || (!isArmed d && decide (10000 < e0.natAbs))
  let d := whenD (acq && before == 3) (fun d => d |> raise F.TIM_IMPL_STATUS.UNLOCK_SEEN |> soxEvent 4 (soxAddr d) e0 0) d
  let (e, d) := if acq then acquireOffset e0 d else (e0, d)
  let d := whenD (!acq && (before == 4 || before == 1)) (setF F.TIM_IMPL_STATUS.STATE 2) d
  let freq := d.sox.freq + e
  let good := if e.natAbs ≤ 100 then d.sox.good + 1 else 0
  let bad := if 200 < e.natAbs then d.sox.bad + 1 else 0
  let d := setRate (8 * e + freq) (updSox (fun s => { s with freq := freq, good := good, bad := bad }) d)
  let st := getF F.TIM_IMPL_STATUS.STATE d
  let d :=
    if st = 2 && decide (16 ≤ good) then
      d |> setF F.TIM_IMPL_STATUS.STATE 3 |> raise F.TIM_IMPL_STATUS.LOCK_SEEN |> soxEvent 3 (soxAddr d) e 0
    else if st = 3 && decide (4 ≤ bad) then
      d |> setF F.TIM_IMPL_STATUS.STATE 2 |> raise F.TIM_IMPL_STATUS.UNLOCK_SEEN |> soxEvent 4 (soxAddr d) e 0
    else d
  d |> flag F.TIM_IMPL_STATUS.MISMATCH (decide (10000 < e.natAbs))
    |> setF F.TIM_IMPL_ERR.E (toBits 32 (clampI (-(2 ^ 31)) (2 ^ 31 - 1) e))

/-- A follower accepts a CADENCE of its leader (R407, R411). -/
def cadenceFollow (bs : List Byte) (stamp : Nat) (d : Dev) : Dev :=
  let seq := leAt bs 8 1
  let err := match d.sox.stamped with
    | some (n, t) =>
      if (leAt bs 9 1).testBit 0 && seq = (n + 1) % 256 then
        some (4 * (signedOf 64 (toBits 64 ((t : Int) + d.sox.o - leAt bs 0 8))) - d.sox.role.cableNs)
      else none
    | none => none
  let d := updSox (fun s => { s with stamped := some (seq, stamp), cadAt := d.pt, cadUs := leAt bs 10 2 }) d
  let d := whenD (isSet F.TIM_IMPL_STATUS.LEADER_LOST d)
    (fun d => d |> lower F.TIM_IMPL_STATUS.LEADER_LOST |> soxEvent 2 d.sox.role.leader 0 0) d
  match err with
  | some e => applyError e d
  | none => d

/-- An accepted CADENCE. -/
def onCadence (src : Nat) (f : CanFrame) (stamp : Nat) (d : Dev) : Dev :=
  if d.sox.role.role = 1 then cadenceConflict src d
  else if src = d.sox.role.leader then cadenceFollow f.data stamp d
  else d

/-- LEADER_LOST (R411). -/
def leaderLost (d : Dev) : Dev :=
  let s := d.sox
  if !isFollower d || isSet F.TIM_IMPL_STATUS.LEADER_LOST d || d.pt < s.cadAt + us (s.role.lossN * s.cadUs) then d
  else
    d |> leaveLocked |> setF F.TIM_IMPL_STATUS.STATE 4 |> raise F.TIM_IMPL_STATUS.LEADER_LOST |> raise F.CAN_SB_STATUS.LEADER_LOST_SEEN
      |> updSox (fun s => { s with good := 0, bad := 0 })
      |> setRate s.freq |> forgetSrc s.role.leader
      |> logEvent 0x0705 4 ⟨0, 5, 0⟩ s.role.leader 0 0 |> healthReport 15 0 |> soxEvent 1 s.role.leader 0 0

/-! ### Poses (R412, R413) -/

/-- The part of POSE frames that holds 24 bytes of kinematics. -/
def poseBytes (p : Pose) : List Byte :=
  leBytes 4 (toBits 32 p.east) ++ leBytes 4 (toBits 32 p.north) ++ leBytes 4 p.heading ++ leBytes 4 (toBits 32 p.speed) ++
    leBytes 4 (toBits 32 p.yaw) ++ leBytes 4 (toBits 32 p.accel)

/-- A leader broadcasts a pose it uses, with the coefficients of its record (R412). -/
def poseBroadcast (p : Pose) (rec_ : Option (List (List Int))) (d : Dev) : Dev :=
  if d.sox.role.role != 1 || !d.sox.role.poseOut then d
  else
    let tag := leBytes 8 (implOf p.tag d)
    let cs := rec_.getD []
    let d := soxQueue 3 63 0 false (tag ++ poseBytes p ++ leBytes 1 (if p.noApply then 1 else 0) ++ leBytes 1 cs.length) d
    eachD (List.range ((cs.length + 2) / 3)) (fun i d =>
      let three := (cs.drop (3 * i)).take 3
      soxQueue 3 63 (i + 1) false (tag ++ three.flatMap fun c => c.flatMap fun v => leBytes 4 (toBits 32 v)) d) d

/-- The broadcast poses that a test selects are over without their coefficients (R413). -/
def posesMissed (past : PoseParts → Bool) (d : Dev) : Dev :=
  eachD (d.sox.poses.filter past) (fun _ => countF F.CAN_SB_COUNT.MISSED) (updSox (fun s => { s with poses := s.poses.filter fun p => !past p }) d)

/-- POSE_PARTS_TIMEOUT (R413). -/
def posePartsTimeout (d : Dev) : Dev := posesMissed (fun p => decide (p.at_ + ms 5 ≤ d.pt)) d

/-- An accepted POSE frame (R413; log entry 144). -/
def onPose (src : Nat) (f : CanFrame) (d : Dev) : Dev :=
  if src != d.sox.role.leader then d
  else
    let spec := soxSpec f.id
    let bs := f.data
    if spec = 0 then
      let d := posesMissed (fun w => w.part0.take 8 == bs.take 8) d
      let p := poseOf (leBytes 8 (ownPt (leAt bs 0 8) d) ++ (bs.drop 8).take 24) ((leAt bs 32 1).testBit 0)
      if d.pt < p.tag then d
      else
        let n := leAt bs 33 1
        let old := match d.eng.newestTag with | some t => decide (p.tag ≤ t) | none => false
        let d := (poseAccept p none d).2
        let segs := match d.eng.table with | some t => t.segments.length | none => 0
        if n = 0 || old then d
        else if n != segs then countF F.CAN_SB_COUNT.MISSED d
        else updSox (fun s => { s with poses := s.poses ++ [{ part0 := bs, at_ := d.pt }] }) d
    else
      match d.sox.poses.find? fun w => w.part0.take 8 == bs.take 8 with
      | none => d
      | some w =>
        let others := d.sox.poses.filter fun x => x.part0.take 8 != bs.take 8
        let n := leAt w.part0 33 1
        let parts := (n + 2) / 3
        if parts < spec || w.at_ + ms 5 < d.pt then d
        else
          let got := kins w.parts spec bs
          if got.length < parts then updSox (fun s => { s with poses := others ++ [{ w with parts := got }] }) d
          else
            let cs := (List.range n).map fun s => coeffs4 (((kget got (s / 3 + 1) []).drop (8 + 16 * (s % 3))).take 16)
            let tag := ownPt (leAt w.part0 0 8) d
            let older := match d.eng.recordTag with | some t => decide (tag < t) | none => false
            d |> updSox (fun s => { s with poses := others })
              |> whenD (!older) (updEng fun e => { e with coeffs := cs, recordTag := some tag, zeroed := false })

/-! ### Host-less follower: EDGE frames (R414, R415, R418) -/

/-- The first condition of R70 that a device does not meet, as PWR_ARM.REFUSE codes it; 0 if it meets all. `table` says whether a
table is loaded, or on a host-less follower a channel set up (R418). -/
def armRefusal (table : Bool) (d : Dev) : Nat :=
  if pstate d != .ready then 5
  else if !armHigh d then 1
  else if !table then 2
  else if (spokeList d).any fun k => isSet (F.DRV_BOOST_CFG.EN k) d && !bitOf F.PWR_STATE.PRECHARGED (k - 1) d then 3
  else if (outlets d).any fun r => r.kind = 0 && isIsolated (spokeOf r.chan) d then 4
  else if d.lb.isSome then 6
  else 0

def parseEdge (bs : List Byte) (e : Nat) : EdgeEntry :=
  let w := leAt bs (6 + 6 * e) 6
  { chan := w % 512, action := w / 512 % 8, offset := w / 4096 % 2 ^ 20, duty := w / 2 ^ 32 % 65536 }

/-- The entry that runs on a channel. -/
def runningEntry (k n : Nat) (d : Dev) : Option Entry :=
  (getChan k n d).running.filter fun e => !e.ended && decide (spokePt k d < e.finish)

/-- The running entry of a channel takes an END (R415); `drop` discards a pending entry as row 1 of the arrival table does. -/
def takeEnd (k n finish_ : Nat) (drop : Bool) (d : Dev) : Dev :=
  match runningEntry k n d with
  | none => d
  | some e =>
    let d := updChan k n (fun c => { c with
      running := some { e with finish := finish_ }
      pending := if drop then none else c.pending
      onEnd := if e.freq = 0 || isProp k n d then c.onEnd.map (fun _ => finish_) else c.onEnd }) d
    if finish_ ≤ spokePt k d then endEntry k n (outletOf k n d) d else d

/-- The running entry of a set-up channel is closing (R415). -/
def isClosing (chan : Nat) (e : Entry) (d : Dev) : Bool := kget d.sox.closing chan 0 == e.start + 1

def badEntry (d : Dev) : Dev := countF F.CAN_SB_COUNT.BAD_ENTRY d

/-- ON (R415), with the END that follows it. -/
def edgeOn (x : EdgeEntry) (start finish_ : Nat) (d : Dev) : Dev :=
  let k := spokeOf x.chan
  let n := localOf x.chan
  let set := kget d.sox.setup x.chan 0 - 1
  let was := (runningEntry k n d).map (·.start)
  let p : SchedP := { start := start % 2 ^ 32, finish := finish_ % 2 ^ 32, chan := n, duty := x.duty, freq := set % 128, slot := set / 128 % 8 }
  let d := arriveEntry k p false (outletOf k n d) d
  let c := getChan k n d
  let merged := was.isSome && c.pending.isNone && c.running.map (·.start) == was
  whenD merged (updSox fun s => { s with closing := kdel s.closing x.chan }) d

/-- END of one channel (R415). -/
def edgeEnd (x : EdgeEntry) (t : Nat) (d : Dev) : Dev :=
  let k := spokeOf x.chan
  let n := localOf x.chan
  match runningEntry k n d with
  | none => badEntry d
  | some e => d |> takeEnd k n t true |> updSox (fun s => { s with closing := kins s.closing x.chan (e.start + 1) })

/-- END of every channel set up whose running entry is not closing and ends before T (R415). -/
def edgeEndAll (t : Nat) (d : Dev) : Dev :=
  eachD (d.sox.setup.map (·.1)) (fun chan d =>
    let k := spokeOf chan
    let n := localOf chan
    match runningEntry k n d with
    | some e => if !isClosing chan e d && decide (e.finish < t) then takeEnd k n t false d else d
    | none => d) d

/-- DUTY (R415). -/
def edgeDuty (x : EdgeEntry) (t : Nat) (d : Dev) : Dev :=
  let k := spokeOf x.chan
  let n := localOf x.chan
  match runningEntry k n d with
  | none => badEntry d
  | some e =>
    let new : Entry := { start := t, finish := e.finish, duty := x.duty, freq := e.freq, slot := e.slot }
    updChan k n (fun c => { c with running := some (mergeEntry e new), pending := none }) d

/-- SETUP (R415). -/
def edgeSetup (x : EdgeEntry) (d : Dev) : Dev :=
  let k := spokeOf x.chan
  let n := localOf x.chan
  let par := x.duty.testBit 10
  let r : Outlet := { chan := x.chan, profile := x.offset % 16, parallel := par }
  let busy := fun (n : Nat) => (runningEntry k n d).isSome || (getChan k n d).pending.isSome
  if busy n || (par && (n % 2 == 1 || busy (n + 1))) then badEntry d
  else
    let bond := isSet (F.DRV_CH_CFG.BOND k n) d
    if x.duty.testBit 11 then
      d |> releaseChannel { r with parallel := bond } |> updSox (fun s => { s with setup := kdel s.setup x.chan })
    else
      let d := whenD (bond && !par) (releaseChannel { r with chan := x.chan + 1 }) d
      let d := ownChannel r d
      if getF (F.DRV_CH_CFG.OWNER k n) d = 1 then
        updSox (fun s => { s with setup := kins s.setup x.chan (1 + x.duty % 1024) }) d
      else d

/-- The entries of a frame after one of them, with whether an ON of a channel waits for its END. -/
def pairEnd (chan : Nat) : List EdgeEntry → Option EdgeEntry
  | [] => none
  | x :: xs => if x.action = 2 && x.chan == chan then some x else pairEnd chan xs

/-- Apply the entries in order (R415); `open_` lists the channels whose ON has not met its END. Log entry 144. -/
def edgeEntries (at_ : EdgeEntry → Nat) : List EdgeEntry → List Nat → Dev → Dev
  | [], _, d => d
  | x :: xs, open_, d =>
    let all := x.chan == 511
    if !all && !hasSpoke (spokeOf x.chan) d then edgeEntries at_ xs open_ (badEntry d)
    else
      match x.action with
      | 1 =>
        match pairEnd x.chan xs with
        | some y => if all then edgeEntries at_ xs open_ (badEntry d) else edgeEntries at_ xs (x.chan :: open_) (edgeOn x (at_ x) (at_ y) d)
        | none => edgeEntries at_ xs open_ (badEntry d)
      | 2 =>
        if all then edgeEntries at_ xs open_ (edgeEndAll (at_ x) d)
        else if open_.contains x.chan then edgeEntries at_ xs (open_.filter (· != x.chan)) d
        else edgeEntries at_ xs open_ (edgeEnd x (at_ x) d)
      | 3 => if all then edgeEntries at_ xs open_ (badEntry d) else edgeEntries at_ xs open_ (edgeDuty x (at_ x) d)
      | 4 => if all then edgeEntries at_ xs open_ (badEntry d) else edgeEntries at_ xs open_ (edgeSetup x d)
      | _ => edgeEntries at_ xs open_ (badEntry d)

/-- ARM of a frame (R418). -/
def edgeArming (arm : Bool) (d : Dev) : Dev :=
  if !arm then updSox (fun s => { s with edgeArm := false, edgeOff := s.edgeOff || isArmed d }) d
  else if isArmed d || d.sox.edgeArm || getF F.TIM_IMPL_STATUS.STATE d != 3 then d
  else
    match armRefusal (!d.sox.setup.isEmpty) d with
    | 0 => updSox (fun s => { s with edgeArm := true }) d
    | c => setF F.PWR_ARM.REFUSE c d

/-- An accepted EDGE frame (R414, R415, R418). -/
def onEdge (src : Nat) (f : CanFrame) (d : Dev) : Dev :=
  if src != d.sox.role.planner then d
  else
    let bs := f.data
    let base := extendPt (implNow d) (leAt bs 0 4)
    let es := (List.range (min 9 (leAt bs 4 1 % 16))).map (parseEdge bs)
    let at_ := fun (x : EdgeEntry) => ownPt (base + us x.offset) d
    d |> updSox (fun s => { s with edgeAt := some d.pt })
      |> raise F.CAN_SB_STATUS.PLANNER_OK
      |> edgeEntries at_ es []
      |> edgeArming ((leAt bs 4 1).testBit 4)

/-- PLANNER_LOST (R418). -/
def plannerLost (d : Dev) : Dev :=
  match d.sox.edgeAt with
  | none => d
  | some t =>
    if d.sox.role.role != 3 || d.pt < t + ms 50 then d
    else
      let p := d.sox.role.planner
      d |> updSox (fun s => { s with edgeAt := none, edgeArm := false, edgeOff := s.edgeOff || isArmed d })
        |> lower F.CAN_SB_STATUS.PLANNER_OK |> raise F.CAN_SB_STATUS.PLANNER_LOST_SEEN |> forgetSrc p
        |> logEvent 0x0706 5 ⟨0, 5, 0⟩ p 0 0 |> healthReport 15 0 |> soxEvent 7 p 0 0

/-! ### Host-less follower: STATE frames (R419) -/

def feedOfCode (c : Nat) : Option FeedEvent :=
  match c with | 0 => some .opened | 1 => some .closed | 2 => some .endedNoTravel | 3 => some .disabledByFault | _ => none

/-- The eight bytes of an event with its age in µs. -/
def stateEventBytes (x : StateEvent) (age : Nat) : List Byte :=
  leBytes 2 (x.chan % 512 + 512 * x.event + (if x.late then 4096 else 0) + (if x.slip then 8192 else 0)) ++
    leBytes 2 age ++ leBytes 2 x.delay ++ leBytes 2 x.slipUs

/-- Pack events oldest first; one that is too old is dropped (R419). -/
def packFeeds : List StateEvent → Dev → List (List Byte) × Dev
  | [], d => ([], d)
  | x :: xs, d =>
    let (age, d) := toUs (d.pt - x.at_) d
    if 65535 < age then packFeeds xs (updSox (fun s => { s with feedLost := true }) d)
    else
      let (rest, d) := packFeeds xs d
      (stateEventBytes x age :: rest, d)

/-- Queue a STATE frame with the oldest events. -/
def stateSend (d : Dev) : Dev :=
  let (evs, d) := packFeeds (d.sox.feeds.take 6) d
  let flags := evs.length + (if d.sox.feedLost then 8 else 0) + (if isArmed d then 16 else 0) +
    (if getF F.TIM_IMPL_STATUS.STATE d = 3 then 32 else 0)
  d |> soxQueue 2 d.sox.role.planner 0 false (leBytes 4 (implNow d) ++ leBytes 1 flags ++ [0] ++ evs.flatten)
    |> updSox (fun s => { s with feeds := s.feeds.drop 6, feedLost := false, stateAt := d.pt })

/-- Frames go out while events are held. -/
def stateFlush : Nat → Dev → Dev
  | 0, d => d
  | n + 1, d => if d.sox.feeds.isEmpty || pstate d == .restricted then d else stateFlush n (stateSend d)

/-- A FEED event of an owned channel (R419). -/
def stateStore (x : StateEvent) (d : Dev) : Dev :=
  let d := if 64 ≤ d.sox.feeds.length then updSox (fun s => { s with feedLost := true }) d
    else updSox (fun s => { s with feeds := s.feeds ++ [x] }) d
  stateFlush 12 d

/-- STATE_KEEPALIVE (R419). -/
def stateKeepalive (d : Dev) : Dev :=
  if d.sox.role.role = 3 && pstate d != .restricted && decide (d.sox.stateAt + ms 20 ≤ d.pt) then stateSend d else d

/-! ### Planner (R416, R417, R420, R421) -/

/-- The index of a listed follower. -/
def followerIndex (a : Nat) (d : Dev) : Option Nat := d.sox.role.followers.findIdx? (· == a)

/-- One event of a STATE frame. Whether a closing was in fast decay, which R259 asks, no field of it says: free (log entry 79). -/
def stateEvent (src base : Nat) (bs : List Byte) (v : Nat) (d : Dev) : Dev :=
  let w := leAt bs (6 + 8 * v) 2
  match feedOfCode (w / 512 % 8), findOutlet (512 * (src + 1) + w % 512) d with
  | some ev, some o =>
    let at_ := ownPt (toBits 64 ((base : Int) - us (leAt bs (8 + 8 * v) 2))) d
    let (b, d) := fresh d
    let f : HeldFeed := { outlet := o, at_ := at_, event := ev, delay := leAt bs (10 + 8 * v) 2, late := w.testBit 12, slip := w.testBit 13
                          slipUs := leAt bs (12 + 8 * v) 2, fast := b % 2 == 1 }
    updEng (fun g => { g with feeds := g.feeds ++ [f] }) d
  | _, _ => d

/-- Events of a follower were lost (R420): each of its outlets takes that behind the events of earlier frames. -/
def stateLost (src at_ : Nat) (d : Dev) : Dev :=
  let mine := (List.range (outlets d).length).filter fun o => (outletRec o d).kind == 1 && (outletRec o d).follower == src
  updEng (fun g => { g with feeds := g.feeds ++ mine.map fun o => { outlet := o, at_ := at_, event := .endedNoTravel, lost := true } }) d

/-- An accepted STATE frame (R420, R421). -/
def onState (src : Nat) (f : CanFrame) (d : Dev) : Dev :=
  match followerIndex src d with
  | none => d
  | some i =>
    let bs := f.data
    let base := extendPt (implNow d) (leAt bs 0 4)
    let fresh_ := !bitOf F.CAN_SB_PRESENT.IN_FORCE i d
    let d := updSox (fun s => { s with lastState := kins s.lastState src d.pt }) d
    let d := whenD fresh_ (fun d => d |> bitF F.CAN_SB_PRESENT.IN_FORCE i true
      |> updSox (fun s => { s with setupSent := s.setupSent.filter (· != src) }) |> soxEvent 5 src 0 0) d
    let d := whenD ((leAt bs 4 1).testBit 3) (stateLost src (ownPt base d)) d
    eachD (List.range (min 6 (leAt bs 4 1 % 8))) (stateEvent src base bs) d

/-- FOLLOWER_LOST of a follower's address (R421). -/
def followerLost (a : Nat) (d : Dev) : Dev :=
  match followerIndex a d with
  | none => d
  | some i =>
    if !bitOf F.CAN_SB_PRESENT.IN_FORCE i d || d.pt < kget d.sox.lastState a 0 + ms 50 then d
    else
      d |> bitF F.CAN_SB_PRESENT.IN_FORCE i false |> raise F.CAN_SB_STATUS.FOLLOWER_LOST_SEEN |> forgetSrc a
        |> logEvent 0x0707 4 ⟨0, 5, 0⟩ a 0 0 |> healthReport 15 0 |> soxEvent 6 a 0 0

/-- EDGE_KEEPALIVE of a follower's address (R417). -/
def edgeKeepalive (f : Nat) (d : Dev) : Dev :=
  if d.eng.proof || (followerIndex f d).isNone || d.pt < kget d.sox.edgeSent f 0 + ms 20 then d
  else edgeFrame f d.eng.cycleStart [] d

/-! ### Acceptance (R397, R398, R404) -/

/-- A frame of the probe classes whose SRC is this device's address (R404). -/
def onProbe (f : CanFrame) (d : Dev) : Dev :=
  let nonce := f.data.take 8
  let d := match d.sox.probe with
    | some p => if p.nonce = nonce then d else updSox (fun s => { s with probe := some { p with dup := true } }) d
    | none => d
  soxQueue 5 63 0 false nonce d

def onDuplicate (f : CanFrame) (d : Dev) : Dev :=
  match d.sox.probe with
  | some p => if p.nonce = f.data.take 8 then updSox (fun s => { s with probe := some { p with dup := true } }) d else d
  | none => d

/-- The class is one this device's role consumes (R397). -/
def consumes (cls : Nat) (d : Dev) : Bool :=
  let r := d.sox.role
  match cls with
  | 0 => r.role != 0
  | 1 => r.role == 3
  | 2 => !r.followers.isEmpty
  | 3 => r.role == 2 && r.poseIn
  | 4 => decide (soxAddr d < 63)
  | 5 => d.sox.probe.isSome
  | _ => false

/-- The checks of R397 beside those that show the frame to be meant for another device. -/
def soxGood (cls : Nat) (f : CanFrame) (d : Dev) : Bool :=
  let len := classLen cls
  f.fdf && dlcBytes true f.dlc == len && f.data.length == len && (decide (4 ≤ cls) || soxSrc f.id != soxAddr d) && consumes cls d &&
    leAt f.data (len - 2) 2 == crc16 (leBytes 4 f.id ++ f.data.take (len - 2))

/-- The engine takes a frame of class 0 to 5 in (R397, R398). In restricted service it takes cadence messages only (R69, log entry 143). -/
def soxTake (f : CanFrame) (stamp : Nat) (d : Dev) : Dev :=
  let cls := soxClass f.id
  let src := soxSrc f.id
  let dest := soxDest f.id
  let other := (dest != soxAddr d && dest != 63) || (decide (4 ≤ cls) && src != soxAddr d)
  if other || (pstate d == .restricted && cls != 0) then d
  else if !soxGood cls f d then d |> countF F.CAN_SB_COUNT.BAD |> raise F.CAN_SB_STATUS.BAD_SEEN
  else
    let n := leAt f.data (classLen cls - 3) 1 % 16
    let key := src * 64 + cls
    let last := d.sox.rxCount.find? fun e => e.1 == key
    let put := updSox (fun s => { s with rxCount := kins s.rxCount key n })
    let act := fun (d : Dev) =>
      match cls with
      | 0 => onCadence src f stamp d
      | 1 => onEdge src f d
      | 2 => onState src f d
      | 3 => onPose src f d
      | 4 => onProbe f d
      | _ => onDuplicate f d
    match last with
    | none => act (put d)
    | some e =>
      if e.2 = n then countF F.CAN_SB_COUNT.DUP d
      else act (put (setF F.CAN_SB_COUNT.MISSED (satAdd 255 (getF F.CAN_SB_COUNT.MISSED d) ((n + 15 - e.2) % 16)) d))

/-- A frame is one the Soxaek engine consumes whatever the filters say (R397). -/
def isSoxaek (c : Nat) (f : CanFrame) : Bool := c == 1 && f.ide && decide (soxClass f.id ≤ 5)

/-- A frame is valid on a controller (R379, R397): an FD frame only with FD_EN. -/
def frameValid (c : Nat) (f : CanFrame) (stamp : Nat) (d : Dev) : Dev :=
  if !canHears c stamp d || (f.fdf && !isSet (F.CAN_CFG.FD_EN c) d) then d
  else
    let d := receiveOk c d
    if isSoxaek c f then
      soxTake f stamp (frameOver c (whenD (isSet F.CAN_SB_CFG.MIRROR d) (filterStore c f stamp) d))
    else frameOver c (filterStore c f stamp d)

/-- A frame of one Soxaek class on CAN-B. -/
def soxReceive (cls : Nat) (f : CanFrame) (stamp : Nat) (d : Dev) : Dev :=
  if f.ide && soxClass f.id == cls && !canCut 1 d then frameValid 1 f stamp d else d

end Sys2Proof.Machine
end

