-- ==== Sys2Proof/Machine/Tandem.lean ====
section
/-! DEFINITION. Tandem operation (R489 to R504): heartbeats, digests, takeover, yield, attach and detach. What happens at a
geometry-cycle start is in Cycle.lean. -/
namespace Sys2Proof.Machine

/-! ### The link (R490) -/

/-- A tandem frame arrives: discarded and counted with a bad CRC or a reserved TYPE, else taken. -/
def tdmFrameIn (good : Bool) (act : Dev → Dev) (d : Dev) : Dev :=
  if !good then healthReport 17 0 d
  else
    let up := isSet F.TDM_STATUS.LINK_UP d
    d |> updTdm (fun t => { t with lastFrame := d.pt, downAt := none, downSaid := false })
      |> raise F.TDM_STATUS.LINK_UP
      |> whenD (!up) (tdmEvent 12 0 0)
      |> act

/-- TANDEM_LINK_DOWN (R490). -/
def tandemLinkDown (d : Dev) : Dev :=
  if !isSet F.TDM_STATUS.LINK_UP d || d.pt < d.tdm.lastFrame + us 500 then d
  else
    d |> lower F.TDM_STATUS.LINK_UP |> raise F.TDM_STATUS.LINK_LOST_SEEN
      |> updTdm (fun t => { t with downAt := some d.pt, downSaid := false }) |> tdmEvent 11 0 0

/-- TANDEM_LINK_DOWN_TIMEOUT (R494). -/
def tandemDownTimeout (d : Dev) : Dev :=
  match d.tdm.downAt with
  | some t =>
    if d.tdm.downSaid || d.pt < t + ms 100 then d
    else d |> updTdm (fun t => { t with downSaid := true }) |> syncLost 2
  | none => d

/-! ### Heartbeats (R492, R493, R498) -/

/-- The package drives: ARMED with the drive of its spokes enabled (R489, R500). -/
def isDriving (d : Dev) : Bool := isArmed d && !isStoker d && d.tdm.yielding.isNone

/-- ROLE, ARMED, SYNC, DRIVING, SAFE. -/
def hbFlags (d : Dev) : Nat :=
  let b := fun (x : Bool) (i : Nat) => if x then 2 ^ i else 0
  b (isStoker d) 0 + b (isArmed d) 1 + b (isSet F.TDM_STATUS.SYNC d) 2 + b (isDriving d) 3 + b (pstate d == .safe) 4

/-- The slots of this package and of its partner, in ticks of implement time from each multiple of 100 µs. -/
def ownSlot (d : Dev) : Nat := if isStoker d then us 50 else 0
def partnerSlot (d : Dev) : Nat := if isStoker d then 0 else us 50

/-- Implement time lies within 10 µs of the partner's slot. -/
def inPartnerSlot (d : Dev) : Bool := decide ((implNow d + us 110 - partnerSlot d) % us 100 ≤ us 20)

/-- Detached with a yield still under way, which runs to its own end (R500). -/
def detachYielding (d : Dev) : Dev :=
  let y := d.tdm
  updTdm (fun t => { t with yielding := y.yielding, yieldNext := y.yieldNext, resumeNext := y.resumeNext }) (detachNow d)

/-- A captain whose own pulses fail and whose heartbeats nobody acknowledges fences itself (R498). -/
def fence (d : Dev) : Dev :=
  let d := if isArmed d then toReady (disarm true d) else d
  d |> detachYielding |> raise F.TDM_STATUS.FENCE_SEEN |> logEvent 0x090B 6 ⟨0, 8, 0⟩ 0 0 0 |> tdmEvent 10 0 0

/-- HEARTBEAT_SLOT with the readback of the pulse. -/
def heartbeatSlot (readback : Bool) (d : Dev) : Dev :=
  match gridReached (us 100) (ownSlot d) (implNow d) with
  | none => d
  | some g =>
    if d.tdm.lastPulse == some g || !isAttached d then d
    else
      let bad := isCaptain d && isSet F.TDM_STATUS.PARTNER_SYNC d && !readback && d.tdm.hbAcked != d.tdm.hbNumber
      let n := (d.tdm.hbNumber + 1) % 65536
      let d := d |> updTdm (fun t => { t with hbNumber := n, lastPulse := some g, badSlots := if bad then t.badSlots + 1 else 0 })
        |> tdmSend (.heartbeat g (hbFlags d) n d.tdm.hbLast)
        |> emit .hbPulse |> flag F.TDM_STATUS.HB_FAULT (!readback)
      if 3 ≤ d.tdm.badSlots then fence d else d

/-- The yielding captain sees the new captain's heartbeat and becomes stoker (R500). -/
def yieldDone (d : Dev) : Dev :=
  match d.tdm.yielding with
  | some (_, desc) =>
    d |> updTdm (fun t => { t with yielding := none, missed := 0, byFrame := false, byLine := false })
      |> setF F.TDM_STATUS.STATE 3 |> raise F.TDM_STATUS.SYNC |> probeAnswer desc stOk 0
  | none => d

/-- HEARTBEAT from the partner (R492, R498, R500). -/
def heartbeat (flags number last : Nat) (d : Dev) : Dev :=
  if !isAttached d then d
  else
    let newCaptain := d.tdm.yielding.isSome && flags % 2 == 0 && decide ((implNow d + us 110) % us 100 ≤ us 20)
    let had := isSet F.TDM_STATUS.PARTNER_SYNC d
    let d := d |> setF F.TDM_PARTNER.FLAGS (flags % 32) |> flag F.TDM_STATUS.PARTNER_SYNC (flags.testBit 2)
      |> updTdm (fun t => { t with hbLast := number % 65536, hbAcked := last % 65536, lastHb := d.pt, byFrame := t.byFrame || inPartnerSlot d })
    let d := if isCaptain d && had && !flags.testBit 2 then
        let (v, d) := fresh d
        syncLost v d
      else d
    whenD newCaptain yieldDone d

/-- HEARTBEAT_PULSE on the line. -/
def heartbeatPulse (d : Dev) : Dev :=
  if isAttached d && inPartnerSlot d then updTdm (fun t => { t with byLine := true }) d else d

/-- The partner counts as lost (R495, R498). -/
def partnerLost (d : Dev) : Dev :=
  if d.tdm.partnerLost then d
  else
    let a := getF F.TDM_PARTNER.ADDR d
    d |> updTdm (fun t => { t with partnerLost := true }) |> raise F.TDM_STATUS.PARTNER_LOST_SEEN
      |> whenD (isCaptain d) (logEvent 0x090C 4 ⟨0, 8, 0⟩ a 0 0) |> tdmEvent 5 a 0

/-- A stoker starts a takeover (R495), or reports the partner lost. -/
def startTakeover (cause : Nat) (d : Dev) : Dev :=
  if isArmed d && isSet F.TDM_STATUS.SYNC d then
    d |> setF F.TDM_STATUS.STATE 4 |> updTdm (fun t => { t with takeover := some { cause := cause, at_ := d.pt } })
  else partnerLost d

/-- PARTNER_PERIOD_END (R492, R494, R495, R498). -/
def partnerPeriodEnd (d : Dev) : Dev :=
  match gridReached (us 100) (partnerSlot d + us 10) (implNow d) with
  | none => d
  | some g =>
    if !isAttached d || d.tdm.judged == some g then d
    else
      let n := (if d.tdm.byFrame then 1 else 0) + (if d.tdm.byLine then 1 else 0)
      let missed := if n = 0 then d.tdm.missed + 1 else 0
      let d := updTdm (fun t => { t with judged := some g, byFrame := false, byLine := false, missed := missed }) d
      let d := whenD (n == 1) (fun d => healthReport 17 0 (countF F.TDM_COUNT.ONE_PATH d)) d
      let back := n != 0 && d.tdm.partnerLost
      let d := whenD back (fun d => d |> updTdm (fun t => { t with partnerLost := false }) |> tdmEvent 6 (getF F.TDM_PARTNER.ADDR d) 0) d
      if missed != 5 then d
      else
        let d := if tdmState d = 3 then startTakeover 1 d else if isCaptain d then partnerLost d else d
        if tdmState d = 4 then d else syncLost 3 d

/-! ### Digests (R494) -/

/-- The digest of a cycle start. -/
def digestOf (c : Nat) (d : Dev) : Nat :=
  crc32c (leBytes 8 (implOf c d) ++ (List.range (outlets d).length).flatMap fun o =>
    let s := getOut o d
    leBytes 1 ((if s.planOn then 1 else 0) + 2 * s.reason) ++ leBytes 2 (dutyShown s))

/-- Compare a captain's digest with the stoker's own for the same cycle. -/
def compareDigest (start theirs own : Nat) (d : Dev) : Dev :=
  if theirs = own then updTdm (fun t => { t with diverging := false }) d
  else
    let first := !d.tdm.diverging
    let d := d |> updTdm (fun t => { t with diverging := true }) |> countF F.TDM_COUNT.DIVERGED |> raise F.TDM_STATUS.DIVERGE_SEEN
      |> whenD first (logEvent 0x0908 4 ⟨0, 8, 0⟩ (start % 2 ^ 32) theirs own)
      |> healthReport 16 0
    if (getInst 16 0 d).lasting then syncLost 1 d else d

/-- DIGEST from the captain: compared now, or held until this package has computed its own. -/
def digestIn (start theirs : Nat) (d : Dev) : Dev :=
  if !isStoker d then d
  else
    match d.tdm.own.find? fun x => x.1 == start with
    | some x => compareDigest start theirs x.2 d
    | none => updTdm (fun t => { t with theirs := (start, theirs) :: t.theirs.take 1 }) d

/-- Each attached package computes its digest at a cycle start; the captain sends it. A stoker keeps its own of two cycles (R494). -/
def digestCycle (c : Nat) (d : Dev) : Dev :=
  if !isAttached d then d
  else
    let g := digestOf c d
    let at_ := implOf c d
    if isCaptain d then tdmSend (.digest at_ g) d
    else
      let d := updTdm (fun t => { t with own := (at_, g) :: t.own.take 1 }) d
      match d.tdm.theirs.find? fun x => x.1 == at_ with
      | some x => compareDigest at_ x.2 g (updTdm (fun t => { t with theirs := t.theirs.filter (· != x) }) d)
      | none => d

/-! ### What a captain sends and a stoker takes (R489, R491) -/

/-- The captain forwards an event of an outlet. -/
def forwardFeed (o at_ : Nat) (f : FeedP) (d : Dev) : Dev :=
  let taking := match d.tdm.attach with | some a => a.role == 0 && a.taken | none => false
  if isCaptain d || taking then tdmSend (.feed [{ outlet := o, impl := implOf at_ d, feed := f }]) d else d

/-- A forwarded event joins those the next cycle start takes. Whether a closing was in fast decay follows the template, as the frame
does not carry it. -/
def holdFeed (x : TdmFeed) (d : Dev) : Dev :=
  let r := outletRec x.outlet d
  let k := spokeOf r.chan
  let n := localOf r.chan
  let h : HeldFeed := { outlet := x.outlet, at_ := ownPt x.impl d, event := x.feed.event, delay := x.feed.delay, late := x.feed.late
                        slip := x.feed.slip, slipUs := x.feed.slipUs
                        fast := r.kind != 0 || !isSet (F.DRV_TPL_CTL.OFF_SLOW k (tplOf k n d)) d }
  updEng (fun g => { g with feeds := g.feeds ++ [h] }) d

/-- TANDEM_FEED: taken as own, or while attaching held until the snapshot is loaded (R489, R502). -/
def tandemFeed (events : List TdmFeed) (d : Dev) : Dev :=
  let known := events.filter fun x => decide (x.outlet < (outlets d).length)
  match d.tdm.attach with
  | some a =>
    if isStoker d || (a.role = 1 && a.synced) then eachD known holdFeed d
    else if a.role = 1 then updTdm (fun t => { t with attach := some { a with held := a.held ++ known } }) d
    else d
  | none => if isStoker d then eachD known holdFeed d else d

/-- The bytes a loop takes in a LOOPSTATE frame. -/
def loopStateBytes (x : TdmLoop) : Nat := 2 + 8 * x.outs.length

/-- Cut a list of loops into frames of at most 240 bytes. -/
def cutLoops : List TdmLoop → List TdmLoop → List (List TdmLoop)
  | [], cur => if cur.isEmpty then [] else [cur]
  | x :: xs, cur =>
    if 240 < (cur.map loopStateBytes).sum + loopStateBytes x then cur :: cutLoops xs [x] else cutLoops xs (cur ++ [x])

/-- u_j and z_j of a loop. -/
def loopOuts (k l : Nat) (d : Dev) : List (Int × Int) :=
  let x := getLoop k l d
  (List.range x.u.length).map fun j => (x.u.getD j 0, x.z.getD j 0)

/-- The captain sends LOOPSTATE frames at a cycle start. -/
def sendLoopState (d : Dev) : Dev :=
  if !isCaptain d then d
  else
    let ls := (spokeList d).flatMap fun k => (List.range 24).filterMap fun l =>
      match loopBlock k l d with
      | some b => if drives b && loopMode k l d == 2 then some ({ spoke := k, loop := l, outs := loopOuts k l d } : TdmLoop) else none
      | none => none
    eachD (cutLoops ls []) (fun x => tdmSend (.loopstate x)) d

/-- LOOPSTATE on a stoker. -/
def loopState (ls : List TdmLoop) (d : Dev) : Dev :=
  if !isStoker d then d
  else
    eachD ls (fun x d =>
      match loopBlock x.spoke x.loop d with
      | some b =>
        if hasSpoke x.spoke d && drives b then updLoop x.spoke x.loop (fun y => { y with u := x.outs.map (·.1), z := x.outs.map (·.2) }) d else d
      | none => d) d

/-- WBDONE on a stoker: the increments of cycles up to the one named are cleared. -/
def wbDone (e n : Int) (cycle : Nat) (d : Dev) : Dev :=
  if !isStoker d then d
  else
    let c := ownPt cycle d
    updTiles e n (fun t =>
      let marks := t.marks.filter fun m => decide (c < m.1)
      let incr := marks.foldl (fun m x => kput m x.2 (min 3 (kget m x.2 0 + 1)) 0) []
      { t with marks := marks, incr := incr, oldest := if incr = [] then none else t.oldest }) d

/-! ### Takeover (R495 to R497) -/

/-- A running entry whose START has passed starts at once, late (R22, R497). -/
def startShadow (k n : Nat) (d : Dev) : Dev :=
  let c := getChan k n d
  let t := spokePt k d
  match c.running with
  | none => d
  | some e =>
    if c.phase == .idle && !e.ended && decide (e.start ≤ t) && decide (t < e.finish) && mayOpen k n d then
      beginEntry k n { e with late := true } (countF (F.DRV_STATUS.LATE k) d)
    else d

/-- OUTPUTS_QUIET: the stoker becomes captain. -/
def outputsQuiet (d : Dev) : Dev :=
  match d.tdm.takeover with
  | none => d
  | some t =>
    if tdmState d != 4 || t.at_ + ms 10 < d.pt then d
    else
      let (gap, d) := toUs (d.pt - d.tdm.lastHb) d
      let (quiet, d) := toUs (d.pt - t.at_) d
      d |> setF F.TDM_STATUS.STATE 2
        |> updTdm (fun x => { x with takeover := none, missed := 0, byFrame := false, byLine := false, lastPulse := none })
        |> updEng (fun g => { g with tiles := g.tiles.map fun x => { x with marks := [] } })
        |> whenD (isArmed d) (fun d => eachD (spokeList d) (fun k d =>
            if spokeRuns k d then eachD (List.range 64) (startShadow k) (enableSpoke k d) else d) d)
        |> raise F.TDM_STATUS.TAKEOVER_SEEN |> countF F.TDM_COUNT.TAKEOVERS
        |> setF F.TDM_LAST.GAP (min 0xFFFF gap) |> setF F.TDM_LAST.QUIET (min 0xFFFF quiet)
        |> logEvent 0x0906 6 ⟨0, 8, 0⟩ t.cause gap quiet |> tdmEvent 3 t.cause gap

/-- QUIET_TIMEOUT: the takeover is blocked by a cassette (R496). -/
def quietTimeout (cas : Nat) (d : Dev) : Dev :=
  match d.tdm.takeover with
  | none => d
  | some t =>
    if tdmState d != 4 || d.pt < t.at_ + ms 10 then d
    else
      d |> setF F.TDM_STATUS.STATE 3 |> updTdm (fun x => { x with takeover := none }) |> syncLost 4
        |> raise F.TDM_STATUS.BLOCKED_SEEN |> logEvent 0x0909 5 ⟨0, 8, 0⟩ cas 0 0 |> tdmEvent 8 cas 0

/-- Both own switches of a cassette are open and none of its channels is in slow decay (R499). -/
def casOpen (k c : Nat) (d : Dev) : Bool :=
  !boostSwitch k c d && !batterySwitch k c d && (casChans c).all fun n => pathOf k n d != .slowDecay

/-- FOREIGN_DRIVE at a global cassette (R499). -/
def foreignDrive (g : Nat) (d : Dev) : Dev :=
  let k := g / 8 + 1
  let lately := isAttached d || match d.tdm.attachedAt with | some t => decide (d.pt ≤ t + sec 10) | none => false
  if !lately || !isSet (F.DRV_STATUS.DRIVE_EN k) d || !casOpen k (g % 8) d then d
  else
    d |> enterSafe 6 |> logEvent 0x090A 7 ⟨0, 8, 0⟩ g 0 0 |> raise F.TDM_STATUS.FOREIGN_SEEN |> tdmEvent 9 g 0

/-! ### Yield (R500) -/

/-- TDM_YIELD. -/
def tdmYield (i : Nat) (d : Dev) : Dev :=
  startDesc i 0xD2 (fun x d =>
    let f := getF F.TDM_PARTNER.FLAGS d
    if !isCaptain d || !f.testBit 1 || !f.testBit 2 || d.tdm.yielding.isSome || d.tdm.yieldNext.isSome then complete i x.index stBusy 0 [] d
    else d |> holdDesc i x |> updTdm (fun t => { t with yieldNext := some (i, x.index) })) d

/-- YIELD on a stoker. -/
def yieldIn (d : Dev) : Dev :=
  if tdmState d != 3 then d else startTakeover 2 (raise F.TDM_STATUS.YIELD_SEEN d)

/-- YIELD_TIMEOUT. -/
def yieldTimeout (d : Dev) : Dev :=
  match d.tdm.yielding with
  | some (t, desc) =>
    if d.pt < t + ms 20 then d
    else d |> updTdm (fun x => { x with yielding := none, resumeNext := true }) |> probeAnswer desc stTimeout 0
  | none => d

/-- The accepted yield takes place at cycle start C. -/
def yieldCycle (c : Nat) (d : Dev) : Dev :=
  match d.tdm.yieldNext with
  | none => d
  | some x =>
    let d := updTdm (fun t => { t with yieldNext := none }) d
    if !isCaptain d then probeAnswer (some x) stBusy 0 d
    else
      d |> endAllEntries c |> eachD (spokeList d) (fun k => quietSpoke k false) |> dropEntries
        |> tdmSend (.yield_ (implOf c d) 1) |> raise F.TDM_STATUS.YIELD_SEEN
        |> logEvent 0x0907 5 ⟨0, 8, 0⟩ 1 (getF F.PWR_CAUSE.SAFE d) 0 |> tdmEvent 4 1 0
        |> updTdm (fun t => { t with yielding := some (d.pt, some x) })

/-- A captain whose yield failed enables its drive again at a cycle start. -/
def resumeCycle (d : Dev) : Dev :=
  if !d.tdm.resumeNext then d
  else
    let d := updTdm (fun t => { t with resumeNext := false }) d
    if isArmed d && !isStoker d then eachD (spokeList d) (fun k d => if spokeRuns k d then enableSpoke k d else d) d else d

/-! ### Attach and detach (R501 to R503) -/

/-- Implement time is the leader's or LOCKED. -/
def timeAgrees (d : Dev) : Bool := d.sox.role.role == 1 || getF F.TIM_IMPL_STATUS.STATE d == 3

/-- Send an ATTACH frame. -/
def attachSend (d : Dev) : Dev :=
  match d.tdm.attach with
  | none => d
  | some a =>
    d |> tdmSend (.attach { role := a.role, addr := soxAddr d, spokes := nSpokes d, table := getF F.REG_TABLE_ID.TABLE_ID d
                            appId := getF F.REG_CFG.APPLICATOR_ID d, period := getF F.REG_CYCLE.PERIOD d, timeOk := timeAgrees d })
      |> updTdm (fun t => { t with attach := some { a with sentAt := d.pt } })

/-- TDM_ATTACH: an attached package too exchanges ATTACH frames before the checks, of which it fails the first (R501). -/
def tdmAttach (i : Nat) (d : Dev) : Dev :=
  startDesc i 0xD0 (fun x d =>
    if d.tdm.attach.isSome then d
    else
      let a : Attach := { role := paramBits x 24 0 1, addr := paramBits x 25 0 6, desc := (i, x.index), begun := d.pt, sentAt := d.pt }
      d |> holdDesc i x |> whenD (!isAttached d) (setF F.TDM_STATUS.STATE 1) |> updTdm (fun t => { t with attach := some a }) |> attachSend) d

/-- The attachment is over without success. -/
def attachOver (d : Dev) : Dev := whenD (tdmState d == 1) (setF F.TDM_STATUS.STATE 0) d

/-- The attachment fails. -/
def attachFails (a : Attach) (status detail : Nat) (d : Dev) : Dev :=
  d |> attachOver |> updTdm (fun t => { t with attach := none }) |> complete a.desc.1 a.desc.2 status detail []

/-- ATTACH_FRAME_SEND: every 1 ms until the partner's has arrived (R491, R501; log entry 148). -/
def attachFrameSend (d : Dev) : Dev :=
  match d.tdm.attach with
  | some a => if !a.passed && decide (a.sentAt + ms 1 ≤ d.pt) then attachSend d else d
  | none => d

/-- ATTACH_TIMEOUT. -/
def attachTimeout (d : Dev) : Dev :=
  match d.tdm.attach with
  | some a => if !a.passed && decide (a.begun + ms 100 ≤ d.pt) then attachFails a stTimeout 0 d else d
  | none => d

/-- The attach checks; 0 if all pass. -/
def attachCheck (a : Attach) (p : TdmAttach) (d : Dev) : Nat :=
  if isAttached d then 1
  else if p.spokes != nSpokes d || p.addr != a.addr then 2
  else if p.role % 2 == a.role then 3
  else if p.table != getF F.REG_TABLE_ID.TABLE_ID d || p.appId != getF F.REG_CFG.APPLICATOR_ID d || p.period != getF F.REG_CYCLE.PERIOD d then 4
  else if !timeAgrees d || !p.timeOk then 5
  else if (spokeList d).any fun k => (List.range 12).any fun q =>
      isSet (F.PWM_CFG.EN k q) d && (isSet (F.PWM_CFG.IDLE_H k q) d || isSet (F.PWM_CFG.IDLE_L k q) d) then 6
  else if a.role = 1 && isArmed d then 7
  else 0

/-- ATTACH from the partner. -/
def attachIn (p : TdmAttach) (d : Dev) : Dev :=
  match d.tdm.attach with
  | none => d
  | some a =>
    if a.passed then d
    else
      match attachCheck a p d with
      | 0 => updTdm (fun t => { t with attach := some { a with passed := true } }) d
      | c => attachFails a stBusy c d

/-- The snapshot of the captain, one item a block (R502). -/
def snapshot (d : Dev) : List (List XferItem) :=
  let os := (List.range (outlets d).length).map fun o =>
    let s := getOut o d
    [XferItem.outlet o s.on.e s.off.e s.s s.coverOn s.planOn]
  let rises := (spokeList d).flatMap fun k => (List.range 64).map fun n => [XferItem.rise k n (getF (F.DRV_CH_RISE.T_RISE k n) d)]
  let loops := (spokeList d).flatMap fun k => (List.range 24).filterMap fun l =>
    if (loopBlock k l d).isSome then
      some [XferItem.loop k l (loopMode k l d) (loopOuts k l d) ((getLoop k l d).shapers.map fun x => (x.ws, x.rho))]
    else none
  os ++ rises ++ loops

/-- Send the block that is due. -/
def xferSend (d : Dev) : Dev :=
  match d.tdm.attach with
  | none => d
  | some a =>
    if a.next < a.blocks.length then
      d |> tdmSend (.xfer a.next (a.next + 1 == a.blocks.length) (a.blocks.getD a.next []))
        |> updTdm (fun t => { t with attach := some { a with sent := some d.pt, tries := a.tries + 1 } })
    else updTdm (fun t => { t with attach := some { a with sent := none, allIn := true } }) d

/-- XFER_ACK on the captain. -/
def xferAck (block : Nat) (d : Dev) : Dev :=
  match d.tdm.attach with
  | some a =>
    if a.role = 0 && a.taken && a.sent.isSome && a.next == block then
      xferSend (updTdm (fun t => { t with attach := some { a with next := a.next + 1, tries := 0 } }) d)
    else d
  | none => d

/-- XFER_RESEND: up to 8 times (R490). -/
def xferResend (d : Dev) : Dev :=
  match d.tdm.attach with
  | some a =>
    match a.sent with
    | some t => if t + us 50 ≤ d.pt && decide (a.tries < 9) then xferSend d else d
    | none => d
  | none => d

/-- XFER on the stoker. -/
def xferIn (block : Nat) (last : Bool) (data : List XferItem) (d : Dev) : Dev :=
  match d.tdm.attach with
  | some a =>
    if a.role = 1 && a.passed then
      let d := tdmSend (.xferAck block) d
      if block = a.next && !a.allIn then
        updTdm (fun t => { t with attach := some { a with next := a.next + 1, received := a.received ++ data, allIn := last } }) d
      else d
    else d
  | none => d

/-- Load one item of the snapshot. -/
def loadItem (x : XferItem) (d : Dev) : Dev :=
  match x with
  | .outlet o eOn eOff slip coverOn planOn =>
    if o < (outlets d).length then
      updOut o (fun s => { s with on := { s.on with e := eOn }, off := { s.off with e := eOff }, s := slip, coverOn := coverOn, planOn := planOn }) d
    else d
  | .rise k n v =>
    if hasSpoke k d && decide (n < 64) then d |> setF (F.DRV_CH_RISE.T_RISE k n) v |> updChan k n (fun c => { c with er := 16 * v }) else d
  | .loop k l mode outs shapers =>
    if hasSpoke k d && (loopBlock k l d).isSome then
      d |> setMode k l mode
        |> updLoop k l (fun y => { y with u := outs.map (·.1), z := outs.map (·.2), shapers := shapers.map fun p => { ws := p.1, rho := p.2 } })
    else d

/-- The attach at a cycle start (R502): snapshot, load, completion. SYNC stays clear while the digest instance is lasting (R475). -/
def attachCycle (d : Dev) : Dev :=
  match d.tdm.attach with
  | none => d
  | some a =>
    if (inFlight a.desc.1 a.desc.2 d).isNone then d |> attachOver |> updTdm (fun t => { t with attach := none })
    else if !a.passed then d
    else if a.synced then
      d |> setF F.TDM_STATUS.STATE (2 + a.role) |> whenD (!(getInst 16 0 d).lasting) (raise F.TDM_STATUS.SYNC) |> setF F.TDM_PARTNER.ADDR a.addr
        |> updTdm (fun t => { t with attach := none, hbNumber := 0, hbLast := 0, hbAcked := 0, byFrame := false, byLine := false, missed := 0
                                     lastHb := d.pt, own := [], theirs := [], diverging := false, badSlots := 0, partnerLost := false
                                     attachedAt := none, lastPulse := none, judged := none })
        |> logEvent 0x0904 2 ⟨0, 8, 0⟩ a.role a.addr 0 |> tdmEvent 1 a.role a.addr
        |> complete a.desc.1 a.desc.2 stOk 0 []
    else if a.allIn then
      let d := updTdm (fun t => { t with attach := some { a with synced := true, received := [], blocks := [], held := [] } }) d
      if a.role = 1 then eachD a.held holdFeed (eachD a.received loadItem d) else d
    else if a.role = 0 && !a.taken then
      xferSend (updTdm (fun t => { t with attach := some { a with taken := true, blocks := snapshot d } }) d)
    else d

/-- TDM_DETACH: a DETACH frame names the next cycle start. -/
def tdmDetach (i : Nat) (d : Dev) : Dev :=
  startDesc i 0xD1 (fun x d =>
    if d.tdm.detachAt.isSome then d
    else
      let c := (d.pt / cyclePeriod d + 1) * cyclePeriod d
      d |> holdDesc i x |> whenD (tdmState d != 0) (tdmSend (.detach (implOf c d)))
        |> updTdm (fun t => { t with detachAt := some (c, some (i, x.index)) })) d

/-- DETACH from the partner names the cycle start. -/
def detachIn (start : Nat) (d : Dev) : Dev :=
  if tdmState d = 0 || d.tdm.detachAt.isSome then d else updTdm (fun t => { t with detachAt := some (ownPt start d, none) }) d

/-- The detachment at the cycle start named. -/
def detachCycle (c : Nat) (d : Dev) : Dev :=
  match d.tdm.detachAt with
  | none => d
  | some (at_, desc) =>
    if c < at_ then d
    else
      let d := whenD (isStoker d) disarmReady d
      let d := match d.tdm.attach with
        | some a => complete a.desc.1 a.desc.2 stAborted 0 [] d
        | none => d
      d |> detachYielding |> updTdm (fun t => { t with detachAt := none }) |> probeAnswer desc stOk 0

/-! ### Waking a parked partner (R493) -/

/-- A wake begins: a package that was attached when it parked pulses TDM_HB for 10 ms. -/
def pulseAfterWake (d : Dev) : Dev :=
  if d.tdm.parkAttached then updTdm (fun t => { t with parkAttached := false, pulseEnd := some (d.pt + ms 10), lastPulse := none }) d else d

/-- POST_WAKE_PULSE: every 100 µs until those 10 ms have passed. -/
def postWakePulse (d : Dev) : Dev :=
  match d.tdm.pulseEnd with
  | none => d
  | some e =>
    if e < d.pt then updTdm (fun t => { t with pulseEnd := none }) d
    else
      let due := match d.tdm.lastPulse with | some p => decide (p + us 100 ≤ d.pt) | none => true
      if due && !isAttached d && pstate d != .restricted then d |> updTdm (fun t => { t with lastPulse := some d.pt }) |> emit .hbPulse else d

end Sys2Proof.Machine
end

