-- ==== Sys2Proof/Machine/Cycle.lean ====
section
/-! DEFINITION. The geometry-cycle start (R41, R208, R210): the changes that wait for it, in the order the rules give, and the
evaluation. -/
namespace Sys2Proof.Machine

/-! ### Descriptors that wait for a cycle start -/

/-- A descriptor is held until the next cycle start. -/
def awaitCycle (i : Nat) (x : InDesc) (d : Dev) : Dev :=
  d |> holdDesc i x |> updEng (fun g => { g with waiting := g.waiting ++ [(i, x.index)] })

/-- The descriptors of some opcodes that wait for this cycle start: by ring, and of one ring in index order (R542). The order between the
rings of one class is open: ascending ring number (log entry 50). -/
def cycleQueue (ops : List Nat) (d : Dev) : List (Nat × InDesc) :=
  ringList.flatMap fun i => ((getRing i d).inflight.filter fun x =>
    ops.contains x.opcode && x.stage == .waiting && (d.eng.waiting.contains (i, x.index) || [0x21, 0x50, 0x51].contains x.opcode)).map fun x => (i, x)

/-- Apply the waiting descriptors of some opcodes; one that ended meanwhile is passed over. -/
def takeWaiting (ops : List Nat) (f : Nat → InDesc → Dev → Dev) (d : Dev) : Dev :=
  eachD (cycleQueue ops d) (fun w d => match inFlight w.1 w.2.index d with
    | some x => f w.1 x (updEng (fun g => { g with waiting := g.waiting.filter (· != (w.1, x.index)) }) d)
    | none => d) d

/-- FIELD_SET takes effect (R143). -/
def applyFieldSet (i : Nat) (x : InDesc) (d : Dev) : Dev :=
  let fid := paramAt x 24 4
  let k := paramBits x 28 0 4
  d |> invalidate true 0 0 0 false none
    |> updEng (fun g => if g.fieldId = fid && g.k = k then g else { g with requested := [] })
    |> updEng (fun g => { g with fieldId := fid, k := k, originLat := signedOf 32 (paramAt x 32 4), originLon := signedOf 32 (paramAt x 36 4)
                                 pose := none })
    |> setF F.REG_FIELD.K k |> setF F.REG_FIELD_ID.FIELD_ID fid
    |> logEvent 0x0301 2 ⟨0, 2, 0⟩ fid k 0
    |> complete i x.index stOk 0 []

/-- RATE_TABLE takes effect (R175). -/
def applyRates (i : Nat) (x : InDesc) (d : Dev) : Dev :=
  let es := (List.range 256).map fun j => (j, leAt x.buf (4 * j) 4)
  d |> updEng (fun g => { g with rates := es.filter fun e => e.2 != 0 }) |> complete i x.index stOk 0 []

/-- TILE_PUSH installs its tile (R178 to R180). -/
def applyPush (i : Nat) (x : InDesc) (d : Dev) : Dev :=
  let (r, d) := installTile x.buf (paramAt x 24 8) d
  completeLater i x.index r.1 r.2 [] d

/-- TILE_INVALIDATE takes effect (R185). -/
def applyInvalidate (i : Nat) (x : InDesc) (d : Dev) : Dev :=
  let f := paramBits x 32 0 3
  invalidate (f.testBit 1) (f % 2) (signedOf 32 (paramAt x 24 4)) (signedOf 32 (paramAt x 28 4)) (f.testBit 2) (some (i, x.index)) d

/-- A push or an invalidation that waited takes effect. -/
def applyTile (i : Nat) (x : InDesc) (d : Dev) : Dev :=
  let d := updEng (fun g => { g with cacheOn := true }) d
  if x.opcode = 0x30 then applyPush i x d else applyInvalidate i x d

/-- PROOF takes effect (R196): on entry every running entry ends at C. -/
def applyProof (c i : Nat) (x : InDesc) (d : Dev) : Dev :=
  let on := paramBits x 24 0 1 == 1
  let same := d.eng.proof == on
  let d := if on && !same then edgeFlush c (endAllEntries c d) else d
  d |> updEng (fun g => { g with proof := on }) |> complete i x.index stOk (if same then 1 else 0) []

/-- Entry j of OUTLET_FORCE: outlet, mode, duty. -/
def forceEntry (x : InDesc) (j : Nat) : Nat × Nat × Nat := (leAt x.buf (8 * j) 2, leAt x.buf (8 * j + 2) 1, leAt x.buf (8 * j + 4) 2)

/-- OUTLET_FORCE takes effect (R195); its outlets are checked again, since a table may have become active. -/
def applyForce (i : Nat) (x : InDesc) (d : Dev) : Dev :=
  let es := (List.range (x.len / 8)).map (forceEntry x)
  if es.any fun e => decide ((outlets d).length ≤ e.1) then complete i x.index stBadLength 0 [] d
  else
    d |> eachD es (fun e => updOut e.1 (fun s => { s with forceMode := e.2.1 % 4, forceDuty := e.2.2 }))
      |> complete i x.index stOk 0 []

/-! ### Arming and disarming (R70 to R75, R114, R115, R418, R489) -/

/-- ARMED is entered: the drive of every spoke that runs is enabled, but on a stoker; a commit in progress cannot activate any more (R151). -/
def enterArmed (d : Dev) : Dev :=
  d |> endCommit |> whenD (!isStoker d) (fun d => eachD (spokeList d) (fun k d => if spokeRuns k d && !isIsolated k d then enableSpoke k d else d) d)
    |> setState .armed

/-- DISARM takes effect (R75). -/
def applyDisarm (i : Nat) (x : InDesc) (d : Dev) : Dev :=
  if !d.pwr.disarmWait.contains (i, x.index) then d
  else
    let was := isArmed d
    d |> updPwr (fun p => { p with disarmWait := p.disarmWait.filter (· != (i, x.index)) }) |> disarmReady
      |> complete i x.index stOk (if was then 0 else 1) []

/-- A host-less follower disarms (R418). -/
def edgeDisarm (d : Dev) : Dev := if d.sox.edgeOff then disarmReady (updSox (fun s => { s with edgeOff := false }) d) else d

/-- The device arms, if it still may; the refusal code if not (R70, R71). -/
def tryArm (d : Dev) : Dev × Nat :=
  if pstate d = .ready && armHigh d then (enterArmed d, 0)
  else if isArmed d then (d, 0)
  else
    let code := if armHigh d then 5 else 1
    (setF F.PWR_ARM.REFUSE code d, code)

/-- An accepted ARM takes effect (R70). -/
def applyArm (i : Nat) (x : InDesc) (d : Dev) : Dev :=
  if !d.pwr.armAccepted.contains (i, x.index) then d
  else
    let (d, code) := tryArm (updPwr (fun p => { p with armAccepted := p.armAccepted.filter (· != (i, x.index)) }) d)
    complete i x.index (if code = 0 then stOk else stNotArmed) code [] d

/-- A host-less follower arms (R418). -/
def edgeArmNow (d : Dev) : Dev := if d.sox.edgeArm then (tryArm (updSox (fun s => { s with edgeArm := false }) d)).1 else d

/-- The role that waits comes into force (R401). -/
def roleCycle (d : Dev) : Dev :=
  match d.sox.newRole with
  | none => d
  | some (r, desc) =>
    if isArmed d && desc.isSome then probeAnswer desc stBusy 0 (updSox (fun s => { s with newRole := none }) d)
    else probeAnswer desc stOk 0 (setRole r d)

/-! ### Evaluation -/

/-- The sum of two fractions, over the least common denominator. -/
def addFrac (a b : Nat × Nat) : Nat × Nat :=
  let g := max 1 (Nat.gcd a.2 b.2)
  (a.1 * (b.2 / g) + b.1 * (a.2 / g), a.2 / g * b.2)

/-- Registration streams (R276): the sum of D × FLOW over the outlets of a range of groups that are planned on. -/
def sendStreams (c : Nat) (d : Dev) : Dev :=
  eachD (List.range 8) (fun s d =>
    if !isSet (F.REG_STREAM.EN s) d then d
    else
      let lo := getF (F.REG_STREAM.G_LO s) d
      let hi := getF (F.REG_STREAM.G_HI s) d
      let live := isArmed d && !d.eng.proof
      let sum := (List.range (outlets d).length).foldl (fun v o =>
        let r := outletRec o d
        let x := getOut o d
        if live && x.planOn && decide (lo ≤ r.group) && decide (r.group ≤ hi) then addFrac v (x.dose.1 * r.flow, x.dose.2) else v) (0, 1)
      let (v, d) := divFree sum.1 sum.2 d
      eachD (spokeList d) (fun k d => if (getLink k d).up then linkSend k .hub (.data (.stream s v c)) d else d) d) d

/-- The report of this cycle is due (R212): in the DIV-th cycle counted while EN is 1; the count stays while EN is 0 (log entry 155). -/
def noteReport (d : Dev) : Dev :=
  if !isSet F.REG_REPORT_CFG.EN d then d
  else
    let n := d.eng.reportDiv + 1
    if getF F.REG_REPORT_CFG.DIV d ≤ n then updEng (fun g => { g with reportDiv := 0, reportDue := true }) d
    else updEng (fun g => { g with reportDiv := n }) d

/-- The engine is powered and its firmware runs: from SPOKES on, but not in restricted service or parked (R46, R69). -/
def engineRuns (d : Dev) : Bool :=
  match pstate d with
  | .cold | .boot | .images | .restricted | .parked => false
  | _ => true

/-- A descriptor of a table ring that waited takes effect. -/
def applyTableDesc (i : Nat) (x : InDesc) (d : Dev) : Dev :=
  match x.opcode with
  | 0x22 => applyFieldSet i x d
  | 0x23 => applyRates i x d
  | _ => activateTable d

/-- A descriptor of an override ring that waited takes effect. -/
def applyOverride (c i : Nat) (x : InDesc) (d : Dev) : Dev :=
  match x.opcode with
  | 0x50 => applyArm i x d
  | 0x51 => applyDisarm i x d
  | 0x52 => applyProof c i x d
  | _ => applyForce i x d

/-- What a geometry-cycle start does, in order: FEED events that were held count for the table in force till now (R200, R249), then the changes that wait
take effect, of one ring in index order (R542). -/
def cycleActs (c : Nat) (d : Dev) : Dev :=
  let d := updEng (fun g => { g with prevCycle := g.cycleStart, cycleStart := c, cycleAt := some d.pt, evaluating := true, lanesOn := true, cacheOn := true, lateCycle := false, shortTiles := [] }) d
  let held := d.eng.feeds
  let d := eachD held takeFeed (updEng (fun g => { g with feeds := [] }) d)
  let d := d |> takeWaiting [0x21, 0x22, 0x23] applyTableDesc |> activateTable |> takeWaiting [0x30, 0x32] applyTile
    |> takeWaiting [0x50, 0x51, 0x52, 0x53] (applyOverride c)
  let d := d |> edgeDisarm |> detachCycle c |> attachCycle |> edgeArmNow |> resumeCycle |> yieldCycle c |> roleCycle
  let d := d |> notePose c |> decideAll c |> markAll c |> edgeFlush c |> sendStreams c |> sendLoopState |> digestCycle c
  d |> eachD [0, 1, 2, 3] summaryChange |> noteReport

/-- One geometry cycle with start C; the completions of what finishes in it are of one ring in index order (R542). -/
def runCycle (c : Nat) (d : Dev) : Dev := releaseFinished (cycleActs c d)

/-- GEOMETRY_CYCLE_START: an instant of the grid of R208. While the cycle before is still evaluated it is an overrun (R41, R210). -/
def cycleStart (d : Dev) : Dev :=
  match gridReached (cyclePeriod d) 0 d.pt with
  | none => d
  | some c =>
    if d.eng.lastGrid == some c || !engineRuns d then d
    else
      let d := updEng (fun g => { g with lastGrid := some c }) d
      if !d.eng.evaluating then runCycle c d
      else if d.eng.lateCycle then countF F.REG_CYCLE_STATS.SKIPPED d
      else
        let (d, lasting) := healthEvent 12 0 false
          (raise F.REG_STATUS.OVERRUN (countF F.REG_CYCLE_STATS.OVERRUNS (updEng (fun g => { g with lateCycle := true }) d)))
        whenD lasting (enterSafe 2) d

/-- The 4 µs before a cycle start, for which the lanes are started (R40). -/
def inLead (d : Dev) : Bool := decide (cyclePeriod d ≤ d.pt % cyclePeriod d + us 4)

/-- CYCLE_EVALUATION_DONE: the lanes are done; a late cycle starts now (R41, R209, R210). -/
def evaluationDone (d : Dev) : Dev :=
  if !d.eng.evaluating then d
  else
    let (t, d) := divFree (d.pt - d.eng.cycleStart) 25 d
    let t := min 0xFFFF t.toNat
    let d := d |> setF F.REG_CYCLE_TIME.LAST t |> setF F.REG_CYCLE_TIME.MAX (max t (getF F.REG_CYCLE_TIME.MAX d))
    let late := d.eng.lateCycle
    let d := updEng (fun g => { g with evaluating := false, lanesOn := inLead d, lateCycle := false }) d
    if late && engineRuns d then runCycle d.pt d else d

/-- LANE_POWER_UP: 4 µs before each cycle start (R40). -/
def lanePowerUp (d : Dev) : Dev :=
  let p := cyclePeriod d
  match gridReached p (p - us 4) d.pt with
  | some _ => if engineRuns d then updEng (fun g => { g with lanesOn := true, cacheOn := true }) d else d
  | none => d

end Sys2Proof.Machine
end

