-- ==== Sys2Proof/Machine/Galley.lean ====
section
/-! DEFINITION. From the galley into the logbook store (R453 to R455, R463), across the ECC check of row 12 of the crossing table (R45). -/
namespace Sys2Proof.Machine

/-- An entry leaves the galley for the store; one whose ECC check fails is a galley drop. -/
def storeChecked (e : LogEntry) (d : Dev) : Dev := checkEcc 12 0 0 (storeEntry e) (galleyDrop e.sev) d

/-- The galley is stored to the end (R463, R80 step 2), but for a logbook that writes nothing more (R458). -/
def flushGalley (d : Dev) : Dev :=
  if mayStore d then eachD d.log.galley storeChecked { d with log := { d.log with galley := [] } } else d

/-- The galley head is stored (R453 to R455). -/
def storeHead (d : Dev) : Dev :=
  match d.log.galley with
  | e :: rest => if mayStore d then storeChecked e { d with log := { d.log with galley := rest } } else d
  | [] => d

/-- The record in progress is completed (R458, R462): the pending summary where one has a slot, or the galley head. -/
def finishWrite (d : Dev) : Dev :=
  match d.log.galley with
  | [] => d
  | e :: _ => if mayStore d && (summarySlot e d).isSome then storeSummary e d else storeHead d

end Sys2Proof.Machine
end

