-- ==== Sys2Proof/Machine/PowerCmds.lean ====
section
/-! DEFINITION. Meanings of the make-ready commands: resets, supplies, images, spokes, precharge, self-test, safe state, arming ball, parked
and wake (02_make_ready_and_parked.md, R37 to R39, R136, R541). -/
namespace Sys2Proof.Machine

/-! ### Reset kinds (R85, R136, R543) -/

/-- POWER_ON_RESET: make-ready starts while RESET_N is high. -/
def execPowerOnReset (s : State) : Host.Outcome State Fault Refusal :=
  run (fun d => coldReset 0 d.pins.resetN { d with pins := { d.pins with vbatAo := true } }) (clearMems s)

/-- EXTERNAL_RESET: RESET_N low clears the device as power-on does; COLD begins to count when it rises. -/
def execExternalReset (level : Bool) (s : State) : Host.Outcome State Fault Refusal :=
  if level then
    run (fun d =>
      if d.pins.resetN then d
      else
        { d with
          pins := { d.pins with resetN := true }
          pwr := { d.pwr with powerFrom := if d.pins.vbatAo then some d.pt else none } }) s
  else run (fun d => coldReset 1 false { d with pins := { d.pins with resetN := false } }) (clearMems s)

/-- WATCHDOG: SAFE is entered, then the hub starts again from flash. -/
def execWatchdog (s : State) : Host.Outcome State Fault Refusal :=
  if pstate s.dev = .cold || pstate s.dev = .parked then run id s
  else run (fun d => clearHub 2 false (enterSafe 3 d)) (clearMems s)

/-- PCIE_RESET; `down` says that the link is down afterwards. -/
def execPcieReset (down : Bool) (s : State) : Host.Outcome State Fault Refusal :=
  run (fun d => pcieReset { d with pcie := { d.pcie with linkUp := !down } }) s

/-- D3HOT (R90). -/
def execD3hot (s : State) : Host.Outcome State Fault Refusal :=
  run (fun d => disarmReady { d with pcie := { d.pcie with d3hot := true } }) s

/-- The next start of a poll period (R90, R98). -/
def nextPeriod (d : Dev) : Nat :=
  let period := 25 * getF F.HIF_CFG.DB_PERIOD d
  if d.pt < d.host.nextPoll then d.host.nextPoll else d.host.nextPoll + period * ((d.pt - d.host.nextPoll) / period + 1)

/-- D0_ENTRY (R90, R437): polling resumes at the next poll period, and messages that were held are sent. -/
def execD0Entry (s : State) : Host.Outcome State Fault Refusal :=
  run (fun d =>
    if d.pcie.d3hot then msixRelease { d with pcie := { d.pcie with d3hot := false }, host := { d.host with nextPoll := nextPeriod d } } else d) s

/-- RESTART: from READY or RESTRICTED (R51). -/
def restart (s : State) : State := { clearMems s with dev := clearHub 3 true s.dev }

def restartCmd (s : State) : State :=
  if pstate s.dev = .ready || pstate s.dev = .restricted then restart s else { s with dev := raise F.PWR_ARM.CMD_REFUSED s.dev }

def execRestart (s : State) : Host.Outcome State Fault Refusal := .next (restartCmd s)

/-! ### Supplies and boot (R48, R49, R53, R83) -/

/-- SUPPLIES_GOOD: every supply is good, also that of a spoke whose supply had failed (R514). -/
def execSuppliesGood (s : State) : Host.Outcome State Fault Refusal :=
  run (fun d =>
    let d := updPwr (fun p => { p with lowSpokes := [] }) d
    let d := eachD d.pwr.loaded settlePairs d
    if d.pins.pwrEn && d.pwr.pgDeadline.isSome then updPwr (fun p => { p with suppliesGood := true, pgDeadline := none }) d else d) s

/-- SUPPLY_TIMEOUT: after the third failed attempt the sequencer stays in COLD. -/
def execSupplyTimeout (s : State) : Host.Outcome State Fault Refusal :=
  run (fun d =>
    match d.pwr.pgDeadline with
    | none => d
    | some t =>
      if d.pt < t || d.pwr.suppliesGood then d
      else
        let d := { d with pins := { d.pins with pwrEn := false } }
        if d.pwr.attempts < 3 then updPwr (fun p => { p with pgDeadline := none, retryAt := some (d.pt + sec 1) }) d
        else d |> updPwr (fun p => { p with pgDeadline := none, retryAt := none, park := .awake }) |> setState .cold) s

/-- SUPPLY_RETRY. -/
def execSupplyRetry (s : State) : Host.Outcome State Fault Refusal :=
  run (fun d =>
    match d.pwr.retryAt with
    | none => d
    | some t =>
      if d.pt < t then d
      else
        updPwr (fun p => { p with retryAt := none, attempts := p.attempts + 1, pgDeadline := some (d.pt + ms 20) })
          { d with pins := { d.pins with pwrEn := true } }) s

/-- The hub is restored from retention, state SPOKES (step 5 of R83); the WAKE record. -/
def hubRestored (d : Dev) : Dev :=
  d |> setState .spokes |> updPwr (fun p => { p with nextSpoke := 1, slotAt := d.pt })
    |> logEvent 0x0105 1 ⟨0, 0, 0⟩ d.pwr.wakeSource (d.pwr.parkTicks / 250000000) 0 |> resumeController |> heldCause

/-- PLL_LOCKED: the boot ROM runs, or after a wake the hub is restored. -/
def execPllLocked (s : State) : Host.Outcome State Fault Refusal :=
  run (fun d =>
    if !d.pwr.suppliesGood then d
    else if pstate d = .cold then setState .boot d
    else if pstate d = .parked && d.pwr.park = .waking then hubRestored d
    else d) s

/-- FLASH_DESCRIPTOR_READ with the sequence numbers of the two sets. -/
def execFlashDescriptorRead (seqA seqB : Nat) (s : State) : Host.Outcome State Fault Refusal :=
  run (fun d => if pstate d = .boot then d |> updPwr (fun p => { p with seqA := seqA, seqB := seqB }) |> setState .images |> heldCause else d) s

/-! ### Images (R55 to R57, R64 to R66, R120, R541) -/

/-- A set holds one image of each of kinds 1 to 4 and at most one of kind 5. -/
def layoutOk (x : ImageSet) : Bool :=
  let n := fun (k : Nat) => (x.images.filter fun v => v.kind == k).length
  [1, 2, 3, 4].all (fun k => n k == 1) && decide (n 5 ≤ 1) && x.images.all fun v => decide (1 ≤ v.kind) && decide (v.kind ≤ 5)

/-- The set that flash bytes spell, if its layout is whole and every image is accepted (R55, R56). -/
def acceptedSet (f : FlashSet) (d : Dev) : Option ImageSet :=
  match parseSet d.chip f.bytes with
  | none => none
  | some x =>
    if layoutOk x && x.images.all (imageAccepted · d.chip) then
      some (if x.images.any fun v => v.kind == 5 then { x with defaults := f.defaults, role := f.role } else x)
    else none

/-- The interface generation of the image of a kind. -/
def genOf (x : ImageSet) (kind : Nat) : Nat :=
  match x.images.find? fun v => v.kind == kind with
  | some v => v.gen % 65536
  | none => 0

/-- A set-up default for a hub register. -/
def hubDefault (e : Nat × Word) (d : Dev) : Dev :=
  match regFind e.1 with
  | some h => if decide (e.1 < spk 1) then rput h.reg (mixWord (setupMask h) (rget h.reg d) e.2) d else d
  | none => d

/-- The set-up defaults of the hub; a source they make deliverable sends its message (R436). -/
def hubDefaults (es : List (Nat × Word)) (d : Dev) : Dev :=
  if es.isEmpty then d
  else
    let set := eachD es hubDefault
    withDelivery (touchedSources .hub (set d)) (fun d => levelsPend .hub (set d)) d

/-- IMAGES ends with the set in the image store (R53, R65, R66, R540, R541): generations, POWER_UP record, set-up defaults, the check of
the combination, the ABI check that waited, state SPOKES. -/
def imagesDone (d : Dev) : Dev :=
  let x := d.pwr.store
  let d := d |> lower F.PWR_STATE.IMG_WAIT
    |> setF F.IDN_FW_GEN.HUB_GEN (genOf x 1) |> setF F.IDN_FW_GEN.SPOKE_GEN (genOf x 2) |> setF F.IDN_UCODE_GEN.UCODE_GEN (genOf x 3)
    |> setF F.IDN_UCODE_GEN.MANIFEST (min 64 x.manifest.length)
    |> updPwr (fun p => { p with manifest := x.manifest, nextSpoke := 1, slotAt := d.pt })
    |> logEvent 0x0101 2 ⟨0, 0, 0⟩ (getF F.PWR_CAUSE.RESET d) (genOf x 1) 0
    |> hubDefaults x.defaults
  let d := flag F.PWR_CAUSE.FW_COMBO (!x.manifest.any (manMatches d)) d
  let d := setState .spokes d
  if d.pwr.abiPending then abiCheck (updPwr (fun p => { p with abiPending := false }) d) else d

/-- A set of the flash goes into the image store. -/
def takeSet (x : ImageSet) (b : Bool) (d : Dev) : Dev :=
  imagesDone (d |> flag F.PWR_STATE.SET_B b |> updPwr (fun p => { p with store := x, storeValid := true }))

/-- IMAGE_SET_AUTHENTICATED: the set with the higher sequence number first; a restart takes the image store. Where the numbers are equal
the order is not stated: free. -/
def execImageSetAuthenticated (setA setB : FlashSet) (s : State) : Host.Outcome State Fault Refusal :=
  run (fun d =>
    if pstate d != .images || isSet F.PWR_STATE.IMG_WAIT d then d
    else if d.pwr.fromStore && d.pwr.storeValid then imagesDone d
    else
      let (v, d) := if d.pwr.seqA = d.pwr.seqB then fresh d else (if d.pwr.seqA < d.pwr.seqB then 1 else 0, d)
      let bFirst := v % 2 == 1
      match acceptedSet setA d, acceptedSet setB d with
      | some a, some b => if bFirst then takeSet b true d else takeSet a false d
      | some a, none => takeSet a false d
      | none, some b => takeSet b true d
      | none, none => raise F.PWR_STATE.IMG_WAIT d) s

/-- IDN_HOST_ABI (R66, R541). -/
def writeAbi (v : Nat) (d : Dev) : Dev :=
  if v % 65536 = 0 then d
  else
    let d := setF F.IDN_HOST_ABI.ABI v d
    if pstate d = .images then updPwr (fun p => { p with abiPending := true }) d else abiCheck d

def execIdnHostAbi (value : Word) (s : State) : Host.Outcome State Fault Refusal := run (writeAbi value.toNat) s

/-! ### Spokes, precharge and self-test (R54, R58 to R63, R85, R479) -/

/-- SPOKE_POWER_SWITCH: the slot of the next spoke; an isolated one stays off, and one that a SPOKE_RESET has powered stays on. -/
def execSpokePowerSwitch (s : State) : Host.Outcome State Fault Refusal :=
  run (fun d =>
    let k := d.pwr.nextSpoke
    if pstate d != .spokes || d.pt < d.pwr.slotAt + us (100 * (k - 1)) || nSpokes d < k then d
    else
      let d := d |> whenD (!isIsolated k d && !d.pwr.spokeOn.contains k) (spokeSwitch k) |> updPwr (fun p => { p with nextSpoke := k + 1 })
      if k = nSpokes d then linkDone (setState .link d) else d) s

/-- SPOKE_LINK_TRAINED within its 100 µs. -/
def execSpokeLinkTrained (spoke : Nat) (s : State) : Host.Outcome State Fault Refusal :=
  onSpoke spoke (fun d =>
    match d.pwr.trainBy.find? fun e => e.1 == spoke with
    | none => d
    | some e =>
      if e.2 < d.pt then d
      else
        d |> updPwr (fun p => { p with trainBy := kdel p.trainBy spoke })
          |> updLink spoke (fun l => { rxBad := l.rxBad, up := true, syncSent := some d.pt, hub := { lastValid := d.pt }, spoke := { lastValid := d.pt } })
          |> linkSend spoke .hub (.ptsync d.pt none)
          |> bitF F.PWR_LINK_STATUS.LINK_UP (spoke - 1) true) s

/-- SPOKE_TRAIN_TIMEOUT (R54, R479). -/
def execSpokeTrainTimeout (spoke : Nat) (s : State) : Host.Outcome State Fault Refusal :=
  onSpoke spoke (fun d =>
    match d.pwr.trainBy.find? fun e => e.1 == spoke with
    | none => d
    | some e => if d.pt ≤ e.2 then d else isolate spoke 1 d) s

/-- SPOKE_LOADED (R53, R83). -/
def execSpokeLoaded (spoke : Nat) (s : State) : Host.Outcome State Fault Refusal :=
  onSpoke spoke (fun d =>
    if (getLink spoke d).up && d.pwr.spokeOn.contains spoke && !spokeRuns spoke d then spokeLoaded spoke d else d) s

/-- RAIL_AT_TARGET with the rail in 0.25 V (R58, R61). -/
def execRailAtTarget (spoke rail : Nat) (s : State) : Host.Outcome State Fault Refusal :=
  onSpoke spoke (fun d =>
    if (d.pwr.prechargeBy.any fun e => e.1 == spoke) && decide (2 * getF (F.DRV_BOOST_CFG.TARGET spoke) d ≤ rail) then
      d |> updPwr (fun p => { p with prechargeBy := kdel p.prechargeBy spoke })
        |> updBoost spoke (fun b => { b with rail := rail, charging := false })
        |> bitF F.PWR_STATE.PRECHARGED (spoke - 1) true |> prechargeDone
    else d) s

/-- PRECHARGE_TIMEOUT with the rail reached (R59). -/
def execPrechargeTimeout (spoke rail : Nat) (s : State) : Host.Outcome State Fault Refusal :=
  onSpoke spoke (fun d =>
    match d.pwr.prechargeBy.find? fun e => e.1 == spoke with
    | none => d
    | some e =>
      if d.pt < e.2 then d
      else
        d |> updPwr (fun p => { p with prechargeBy := kdel p.prechargeBy spoke, noCharge := p.noCharge ++ [spoke] })
          |> updBoost spoke (fun b => { b with rail := rail, charging := false })
          |> bitF F.PWR_STATE.PRECHARGE_FAIL (spoke - 1) true
          |> logEvent 0x0107 4 ⟨spoke, 12, 0⟩ rail 0 0 |> prechargeDone) s

/-- The first step of the reference table whose check fails, 0 if none does (R530). -/
def refStep (x : RefMeas) : Nat :=
  let due : Int := 5000000 - x.nodeUv
  if x.ma = 0 || 300 * x.ma < x.nodeUv then 1
  else if 3 * due < 100 * ((10000 * (x.adcMa : Int) - due).natAbs : Int) then 2
  else if !x.at40 || x.at60 then 3
  else if 2000 < x.offNs then 4
  else if 50 < x.nodeUs then 5
  else 0

/-- Step 1 leaves the on-resistance, node voltage over current in 0.1 mΩ, in DRV_CH_MEAS.RDS (R530). -/
def testRds (k : Nat) (x : RefMeas) (d : Dev) : Dev :=
  let (v, d) := measured (10 * x.nodeUv) x.ma 65536 d
  setF (F.DRV_CH_MEAS.RDS k (x.chan % 64)) v d

/-- A self-test failure of a spoke: recorded with the failing test, and the spoke isolated (R63). -/
def spokeFails (k test : Nat) (d : Dev) : Dev := logEvent 0x0108 6 ⟨k, 0, 0⟩ test 0 0 (isolate k 2 d)

/-- The reference-load test of a powered spoke in self-test; a channel that fails is a failure of the spoke. The manual gives the tests no
numbers: P0 of the record is free (R531; log entry 149). -/
def spokeLoads (k : Nat) (tests : List RefMeas) (d : Dev) : Dev :=
  if !d.pwr.spokeOn.contains k then d
  else
    let d := eachD tests (testRds k) d
    if tests.any fun x => refStep x != 0 then
      let (v, d) := fresh d
      spokeFails k v d
    else d

/-- SELFTEST_DONE: what the reference-load test found on each spoke, the spokes that failed another test, and a test that failed elsewhere
(R62, R63, R531). -/
def execSelftestDone (loads : List (Nat × List RefMeas)) (spokes : List (Nat × Nat)) (device : Option Nat) (s : State) :
    Host.Outcome State Fault Refusal :=
  run (fun d =>
    if pstate d != .selftest then d
    else
      let d := updPwr (fun p => { p with testing := false }) d
      let d := eachD loads (fun x => spokeLoads x.1 x.2) d
      let d := eachD (spokes.filter fun x => hasSpoke x.1 d) (fun x => spokeFails x.1 x.2) d
      match device with
      | some t => enterSafe 5 (logEvent 0x0108 6 ⟨0, 0, 0⟩ t 0 0 d)
      | none => finishReady d) s

/-- SELFTEST: from READY only (R62, PWR_CMD). -/
def selftestCmd (d : Dev) : Dev :=
  if pstate d = .ready then d |> setState .selftest |> updPwr (fun p => { p with testing := true }) else raise F.PWR_ARM.CMD_REFUSED d

def execSelftest (s : State) : Host.Outcome State Fault Refusal := run selftestCmd s

/-- The states in which SPOKE_RESET is accepted: of an isolated spoke every state of a running hub but ARMED (R479); of another READY,
RESTRICTED and SAFE (log entry 159). -/
def spokeResetOk (k : Nat) (d : Dev) : Bool :=
  if isIsolated k d then pstate d != .armed && pstate d != .cold && pstate d != .parked
  else pstate d == .ready || pstate d == .restricted || pstate d == .safe

/-- SPOKE_RESET (R85, R475, R479, R506). -/
def spokeReset (k : Nat) (d : Dev) : Dev :=
  if !spokeResetOk k d then raise F.PWR_ARM.CMD_REFUSED d
  else
    d |> endLoopback 0 |> whenD (isIsolated k d) (clearInst 7 (k - 1)) |> clearInst 5 (k - 1)
      |> endSpokeIvs k |> timeoutLoops k |> spokeOff k
      |> bitF F.PWR_STATE.ISOLATED (k - 1) false |> spokeSwitch k

/-- A SPOKE_RESET that names no spoke of the part is refused like any other that is not allowed. -/
def spokeResetCmd (k : Nat) (d : Dev) : Dev := if hasSpoke k d then spokeReset k d else raise F.PWR_ARM.CMD_REFUSED d

def execSpokeReset (spoke : Nat) (s : State) : Host.Outcome State Fault Refusal := run (spokeResetCmd spoke) s

/-! ### Safe state (R38, R39, R76 to R78) -/

/-- REFCLK_FAIL with the deviation measured in 0.01 %: above 1 % the safe state is forced; within it the condition has ended. -/
def execRefclkFail (deviation : Int) (s : State) : Host.Outcome State Fault Refusal :=
  run (fun d =>
    if deviation.natAbs ≤ 100 then updPwr (fun p => { p with persistRef := false }) d
    else
      d |> updPwr (fun p => { p with persistRef := true }) |> logEvent 0x0109 6 ⟨0, 0, 0⟩ (toBits 32 deviation) 0 0 |> enterSafe 1) s

/-- AO_CLOCK_FAIL (R39). -/
def execAoClockFail (s : State) : Host.Outcome State Fault Refusal := run (updPwr fun p => { p with aoFail := true }) s

/-- THERMAL: a die above 155 °C. -/
def execThermal (die : Nat) (temp : Int) (s : State) : Host.Outcome State Fault Refusal :=
  run (fun d =>
    if temp ≤ 155 || !(die == 0 || hasSpoke die d) then d
    else d |> updPwr (fun p => { p with hotDies := if p.hotDies.contains die then p.hotDies else die :: p.hotDies }) |> enterSafe 4) s

/-- HUB_FAULT. -/
def execHubFault (s : State) : Host.Outcome State Fault Refusal := run (enterSafe 5) s

/-- SAFE of PWR_CMD; refused where SAFE cannot be entered. -/
def safeCmd (d : Dev) : Dev :=
  if pstate d = .cold || pstate d = .boot || pstate d = .parked then raise F.PWR_ARM.CMD_REFUSED d else enterSafe 0 d

def execSafe (s : State) : Host.Outcome State Fault Refusal := run safeCmd s

/-- Make-ready starts again from SPOKES (R78), or from IMAGES if it had loaded no images. -/
def againFromSpokes (d : Dev) : Dev :=
  if d.pwr.manifest.isEmpty then setState .images d
  else
    let d := eachD ((spokeList d).filter fun k => d.pwr.spokeOn.contains k) spokeOff d
    d |> setState .spokes |> updPwr (fun p => { p with nextSpoke := 1, slotAt := d.pt })

/-- SAFE_CLEAR (R77, R78): refused for a cause it sets SAFE_CLEAR_REFUSED, in another state CMD_REFUSED (log entry 117). -/
def safeClearCmd (d : Dev) : Dev :=
  if pstate d != .safe then raise F.PWR_ARM.CMD_REFUSED d
  else if getF F.PWR_CAUSE.SAFE d != 0 then raise F.PWR_ARM.SAFE_CLEAR_REFUSED d
  else if d.pwr.reachedReady then finishReady d
  else againFromSpokes d

def execSafeClear (s : State) : Host.Outcome State Fault Refusal := run safeClearCmd s

/-! ### The ARM ball (R72, R73) -/

/-- ARM_BALL_LOW. -/
def armBallLow (d : Dev) : Dev :=
  let mine := d.pwr.armAccepted
  let d := { d with pins := { d.pins with arm := false } }
  let d := d |> hubSignal 225 false |> updPwr (fun p => { p with armAccepted := [] })
  let waiting := mine ≠ [] || d.sox.edgeArm
  let d := d |> updSox (fun s => { s with edgeArm := false }) |> whenD waiting (setF F.PWR_ARM.REFUSE 1)
  let d := eachD mine (fun w => complete w.1 w.2 stNotArmed 1 []) d
  if isArmed d then
    d |> disarm true |> toReady |> raise F.PWR_ARM.ARM_DROP |> logEvent 0x0103 5 ⟨0, 0, 0⟩ 0 0 0
  else d

def execArmBallLow (s : State) : Host.Outcome State Fault Refusal := run armBallLow s

/-! ### Parked (R79 to R84) -/

/-- Parked entry begins. -/
def parkBegin (d : Dev) : Dev := updPwr (fun p => { p with park := .entering, parkPrior := p.state, parkAt := d.pt, wakeLatched := none }) d

/-- PARK of PWR_CMD (R39, R79): refused while armed or without the 32.768 kHz clock it sets PARK_REFUSED, in another state CMD_REFUSED
(log entry 117). -/
def parkCmd (d : Dev) : Dev :=
  if pstate d = .ready || pstate d = .restricted then
    if d.pwr.aoFail then raise F.PWR_ARM.PARK_REFUSED d
    else if d.pwr.park = .awake then parkBegin d
    else raise F.PWR_ARM.CMD_REFUSED d
  else if isArmed d then raise F.PWR_ARM.PARK_REFUSED d
  else raise F.PWR_ARM.CMD_REFUSED d

def execPark (s : State) : Host.Outcome State Fault Refusal := run parkCmd s

/-- The WAKE ball is at its active level. -/
def wakeActive (d : Dev) : Bool := d.pins.wake == isSet F.PWR_PARK_CFG.WAKE_POL d

/-- AUTO_PARK (R39, R79). -/
def execAutoPark (s : State) : Host.Outcome State Fault Refusal :=
  run (fun d =>
    let delay := getF F.PWR_PARK_CFG.PARK_DELAY d
    let ok := pstate d == .ready || pstate d == .armed || pstate d == .restricted
    if delay = 0 || wakeActive d || d.pt < d.pwr.wakeIdle + sec delay || !ok || d.pwr.park != .awake then d
    else if d.pwr.aoFail then raise F.PWR_ARM.PARK_REFUSED d
    else parkBegin (disarmReady d)) s

/-- A tile with unwritten marks that is merged before it is written, while a WB_BUFFER for it is fetched (R187, R206). -/
def mergeLeft (d : Dev) : Option Tile :=
  if isStoker d || !isSet F.REG_CFG.MERGE d || !atomicsOpen d || (waitingBuffer 4 0x40 none d).isNone then none
  else d.eng.tiles.find? fun t => t.kind == 0 && isDirty t && t.home != 0

/-- Step 1 of parked entry for the tile cache (R187): dirty tiles are written while WB_BUFFERs are fetched, the rest lost. A merge that is
not done within the step goes out in own-layer form, as do tiles without compare-and-swap (R205, R207; log entry 127). -/
def parkTiles (d : Dev) : Dev :=
  let d := match d.eng.writing with
    | some w => writeMerged w true (updEng giveUpMerge d)
    | none => d
  let d := eachD (d.eng.tiles.filter isDirty) (fun t d => match d.eng.tiles.find? (sameTile t) with
    | some u => whenD (isDirty u) (writeOwn u) d
    | none => d) d
  let left := d.eng.tiles.filter isDirty
  updEng (fun g => { g with tiles := [], requested := [] }) (eachD left marksLost d)

/-- Step 1 for the rings: fetching has stopped; what still waits is withdrawn (R80). -/
def parkRings (d : Dev) : Dev :=
  let d := eachD ringList (fun i d => eachD (getRing i d).inflight (fun x => complete i x.index stAborted 0 []) d) d
  let d := eachD ringList (fun i => updRing i (fun r => { r with issued := r.head })) d
  updHost (fun h => { h with polling := false, readingTails := false }) d

/-- Step 1 of parked entry: descriptors in flight complete, the progress block with them. -/
def parkStep1 (d : Dev) : Dev := d |> endLoopback 0 |> parkTiles |> dropWaiting |> parkRings

/-- Step 2: the galley is flushed, operating time saved and PARK_ENTER written (R463), once a scan and an erase that run have ended (R456,
R470); a logbook that has stopped writes nothing (R458). -/
def parkStep2 (d : Dev) : Dev :=
  d |> scanDone |> eraseDone |> endFreeze |> flushGalley |> logEvent 0x0104 1 ⟨0, 0, 0⟩ (rget R.PWR_PARK_CFG d).toNat 0 0 |> flushGalley
    |> whenD (!d.log.stopped) saveColophon

/-- Step 3: the spokes lose their power. -/
def parkStep3 (d : Dev) : Dev := eachD ((spokeList d).filter fun k => d.pwr.spokeOn.contains k) spokeOff d

/-- PARKED: the steps of the parked-entry table are done (R80, R442, R463, R493). -/
def parkDone (d : Dev) : Dev :=
  let was := isAttached d
  let d := d |> parkStep1 |> detachNow |> updTdm (fun t => { t with parkAttached := was }) |> parkStep2 |> parkStep3
    |> updEng (fun g => { g with lanesOn := false, cacheOn := false })
  let d := { d with pins := { d.pins with pwrEn := false, timePulse := false }, can := [], pcie := { d.pcie with linkUp := false } }
  d |> setState .parked
    |> updPwr (fun p => { p with park := .saved, parkTicks := 0, suppliesGood := false,
                                 wakeDelay := if p.wakeLatched.isSome then some (ms 1) else none })

/-- The entry to parked is aborted (R81): of steps 1 to 3 those are done that their limits require by now, and more if the time they
took was short, which is free. The device is then in its prior state, with spokes that step 3 turned off powered again (log entry 116). -/
def parkAbort (d : Dev) : Dev :=
  let t := d.pt - d.pwr.parkAt
  let least := if t < ms 1 then 0 else if t < ms 6 then 1 else if t < ms 6 + us 50 then 2 else 3
  let (v, d) := fresh d
  let n := if d.eng.writing.isSome && decide (t < ms 1) then 0 else least + v % (4 - least)
  let on := d.pwr.spokeOn
  d |> whenD (1 ≤ n) parkStep1 |> whenD (2 ≤ n) parkStep2 |> whenD (3 ≤ n) parkStep3 |> whenD (3 ≤ n) (eachD on spokeSwitch)
    |> updPwr (fun p => { p with park := .awake }) |> raise F.PWR_ARM.PARK_ABORTED

/-- PARKED while tiles are still merged within the 1 ms of step 1: the merge goes on, or the next one begins (R80, R187). -/
def parkNext (d : Dev) : Dev :=
  if d.pwr.parkAt + ms 1 ≤ d.pt then parkDone d
  else if d.eng.writing.isSome then d
  else match mergeLeft d with
    | some t => writeTile t d
    | none => parkDone d

def execParked (s : State) : Host.Outcome State Fault Refusal := run (fun d => if d.pwr.park = .entering then parkNext d else d) s

/-- The parked interval in ticks: whole periods of the 32.768 kHz clock at 7,629.39453125 ticks each, rounded down (R37). The
number of periods is known to within one: free. -/
def parkedInterval (d : Dev) : Nat × Dev :=
  let (v, d) := fresh d
  let n := d.pwr.parkTicks * 256 / 1953125 + v % 2
  (n * 1953125 / 256, d)

/-- A wake starts (R37, R83, R359, R493): PWR_EN goes high within 5 µs, when is free (step 2). -/
def wakeBegin (source : Nat) (d : Dev) : Dev :=
  let (n, d) := parkedInterval d
  let (ao, d) := divFree (4 * n * getF F.TIM_HOLD.AO_PPM d) 1000000 d
  let d := { d with pt := (d.pt + n) % 2 ^ 64 }
  let d := whenD (ftValid d) (fun d => updTime (fun t => { t with ft := t.ft + ftTicks (rateY d) n }) d) d
  let d := enterHoldover (30500 + ao.toNat) d
  let (v, d) := fresh d
  d |> updPwr (fun p => { p with park := .waking, reachedReady := false, readyBefore := p.reachedReady || p.readyBefore, wakeSource := source, wakeLatched := none, wakeDelay := none
                                 suppliesGood := false, powerAt := some (d.pt + v % (us 5 + 1)) })
    |> pulseAfterWake

/-- A wake event (R81, R82): `saving` says that step 4 of parked entry has begun. -/
def wakeEvent (source : Nat) (saving : Bool) (d : Dev) : Dev :=
  match d.pwr.park with
  | .entering =>
    if saving then updPwr (fun p => { p with wakeLatched := if p.wakeLatched.isSome then p.wakeLatched else some source }) d
    else parkAbort d
  | .saved =>
    if d.pwr.wakeDelay.isSome then d
    else if ms 1 ≤ d.pwr.parkTicks then wakeBegin source d
    else updPwr (fun p => { p with wakeLatched := some source, wakeDelay := some (ms 1) }) d
  | _ => d

/-- WAKE: the filtered ball becomes active. -/
def execWake (saving : Bool) (s : State) : Host.Outcome State Fault Refusal :=
  run (fun d =>
    let d := { d with pins := { d.pins with wake := isSet F.PWR_PARK_CFG.WAKE_POL d } }
    if isSet F.PWR_PARK_CFG.WAKE_EN d then wakeEvent 1 saving d else d) s

/-- PARK_TIMER_EXPIRY: SECONDS after entry to parked. -/
def execParkTimerExpiry (saving : Bool) (s : State) : Host.Outcome State Fault Refusal :=
  run (fun d =>
    let n := getF F.PWR_PARK_TIMER.SECONDS d
    if !isSet F.PWR_PARK_CFG.TIMER_EN d || n = 0 || d.pwr.parkTicks < sec n || d.pwr.park != .saved then d else wakeEvent 2 saving d) s

/-- HEARTBEAT_WAKE. -/
def execHeartbeatWake (saving : Bool) (s : State) : Host.Outcome State Fault Refusal :=
  run (fun d => if isSet F.PWR_PARK_CFG.HEARTBEAT_EN d then wakeEvent 3 saving d else d) s

/-- WAKE_DELAY_DONE: PWR_EN has been low for 1 ms. -/
def execWakeDelayDone (s : State) : Host.Outcome State Fault Refusal :=
  run (fun d =>
    match d.pwr.wakeDelay with
    | some t => if d.pwr.park = .saved && decide (t ≤ d.pwr.parkTicks) then wakeBegin (d.pwr.wakeLatched.getD 0) d else d
    | none => d) s

end Sys2Proof.Machine
end

