-- ==== Sys2Proof/Machine/LinkCmds.lean ====
section
/-! DEFINITION. Meanings of the spoke-link commands (R17 to R36, R478) and of the geometry-cycle commands (R40, R208, R209). -/
namespace Sys2Proof.Machine

/-! ### Loss and recovery (R24, R26 to R28, R478) -/

/-- Every output of a spoke goes off until RESUME: channels by fast decay (R217), pairs to their idle levels, loops to their SAFE
action (R26). -/
def spokeLinkOff (k : Nat) (d : Dev) : Dev :=
  d |> updLink k (fun l => { l with spokeOff := true })
    |> stopSpoke k true (fun n => outletOf k n d) |> endLoopChannels k |> loopsSafe k 4 |> settlePairs k

/-- A side may declare its link lost (R24): no valid frame for 1 µs, or a frame replayed 8 times that no ACK has covered 400 ns after. -/
def linkDead (e : LinkEnd) (d : Dev) : Bool := decide (e.lastValid + us 1 ≤ d.pt) || (replaysSpent e && ackOverdue d.pt e)

/-- SPOKE_DECLARES_LINK_LOST. -/
def execSpokeDeclaresLinkLost (spoke : Nat) (s : State) : Host.Outcome State Fault Refusal :=
  onSpoke spoke (fun d =>
    if (getLink spoke d).spokeOff || !spokeRuns spoke d || linkLooped spoke d || !linkDead (linkEnd spoke .spoke d) d then d
    else spokeLinkOff spoke d) s

/-- Reads that wait for a spoke return 0xFFFFFFFF (R29). -/
def failReads (k : Nat) (d : Dev) : Dev :=
  d |> eachD (getLink k d).reads (fun off => emit (.readDone off 0xFFFFFFFF)) |> updLink k (fun l => { l with reads := [] })

/-- The hub declares a link lost (R27, R478); a link in loop-back loses nothing (R529). -/
def linkLost (k : Nat) (d : Dev) : Dev :=
  if !(getLink k d).up || linkLooped k d then d
  else
    let d := d |> updLink k (fun l => { l with up := false, lostAt := some d.pt, adjLeft := 0, syncSent := none, resumeDue := false })
      |> bitF F.PWR_LINK_STATUS.LINK_UP (k - 1) false |> bitF F.PWR_LINK_STATUS.LINK_LOST (k - 1) true
      |> countF (F.SPK_LINK_REPLAY.LOSSES k) |> failReads k
    let d := logEvent 0x0201 5 ⟨k, 9, 0⟩ (getF (F.SPK_LINK_REPLAY.LOSSES k) d) 0 0 d
    let (d, lasting) := healthEvent 7 (k - 1) false d
    whenD lasting (isolate k 3) d

/-- LINK_LOST. -/
def execLinkLost (spoke : Nat) (s : State) : Host.Outcome State Fault Refusal :=
  onSpoke spoke (fun d => if linkDead (linkEnd spoke .hub d) d then linkLost spoke d else d) s

/-- An end of a link that has trained again: the frames no ACK has covered are sent once more, and their replays count anew. -/
def freshLane (t : Nat) (e : LinkEnd) : LinkEnd :=
  { e with replay := e.replay.map fun f => { f with tries := 0, at_ := t }, resend := e.replay.map (·.seq), lastValid := t }

/-- The entry an outlet of a spoke holds on, sent again as it stands (R28). -/
def resendEntry (k o : Nat) (d : Dev) : Dev :=
  let r := outletRec o d
  let st := getOut o d
  if r.kind = 0 && spokeOf r.chan == k && st.entryOn && decide (d.pt < st.runEnd) then sendEntry o st.runStart st.runEnd st.sent .renew d
  else d

/-- RETRAINING_DONE (R28, R441): PT is loaded again, the spoke sends its slot levels, the hub the current entries, and then RESUME. -/
def execRetrainingDone (spoke : Nat) (s : State) : Host.Outcome State Fault Refusal :=
  onSpoke spoke (fun d =>
    if (getLink spoke d).lostAt.isNone || isIsolated spoke d then d
    else
      d |> updLink spoke (fun l => { l with lostAt := none, up := true, hub := freshLane d.pt l.hub, spoke := freshLane d.pt l.spoke })
        |> bitF F.PWR_LINK_STATUS.LINK_UP (spoke - 1) true
        |> alignPt spoke
        |> eachD (List.range 64) (fun j d => linkSend spoke .spoke (.int j ((getIrq (.spoke spoke) d).slots.contains j)) d)
        |> eachD (List.range (outlets d).length) (resendEntry spoke)
        |> updLink spoke (fun l => { l with resumeDue := true })) s

/-- RETRAIN_TIMEOUT: 100 µs after the loss (R478). -/
def execRetrainTimeout (spoke : Nat) (s : State) : Host.Outcome State Fault Refusal :=
  onSpoke spoke (fun d =>
    match (getLink spoke d).lostAt with
    | none => d
    | some t => if d.pt < t + us 100 then d else isolate spoke 1 d) s

/-- RESUME arrives at the spoke: its outputs may act again (R26). -/
def resumeOutputs (k : Nat) (d : Dev) : Dev :=
  d |> updLink k (fun l => { l with spokeOff := false })
    |> eachD ((getSpoke k d).chans.map (·.1)) (fun n d => if (getChan k n d).retryEnd.isSome then d else resumeChan k n d)
    |> settlePairs k

def execResume (spoke : Nat) (hdr : LinkHdr) (s : State) : Host.Outcome State Fault Refusal :=
  onSpoke spoke (onFrame spoke .spoke hdr (resumeOutputs spoke)) s

/-! ### Retry (R19, R24) -/

/-- A side that would replay a frame a ninth time declares the link lost instead (R24, R26, R27). -/
def replayOrLose (k : Nat) (side : Side) (d : Dev) : Dev :=
  if !replaysSpent (linkEnd k side d) then replayAll k side d
  else
    match side with
    | .hub => linkLost k d
    | .spoke => if (getLink k d).spokeOff then d else spokeLinkOff k d

/-- ACK_TIMEOUT: `side` is the sender; a frame has been without ACK for 400 ns. -/
def execAckTimeout (spoke : Nat) (side : Side) (s : State) : Host.Outcome State Fault Refusal :=
  onSpoke spoke (fun d => if ackOverdue d.pt (linkEnd spoke side d) then replayOrLose spoke side d else d) s

/-- NAK arrives at the sender on `side`: its ACK frees frames, and the rest is replayed. -/
def execNak (spoke : Nat) (side : Side) (hdr : LinkHdr) (s : State) : Host.Outcome State Fault Refusal :=
  onSpoke spoke (fun d => d |> hearFrame spoke side hdr.ack |> replayOrLose spoke side) s

/-- FRAME_BAD_CRC at the receiver on `side`. -/
def execFrameBadCrc (spoke : Nat) (side : Side) (s : State) : Host.Outcome State Fault Refusal := onSpoke spoke (badFrame spoke side) s

/-- IDLE. -/
def execIdle (spoke : Nat) (side : Side) (hdr : LinkHdr) (s : State) : Host.Outcome State Fault Refusal :=
  onSpoke spoke (hearFrame spoke side hdr.ack) s

/-! ### Package time (R32 to R36) -/

/-- A PTSYNC arrives: the spoke echoes with its local receive tick; the hub takes half the round trip as the one-way delay and loads the
spoke. -/
def ptsyncIn (k : Nat) (side : Side) (echo : Option Nat) (d : Dev) : Dev :=
  match side with
  | .spoke =>
    let t := spokePt k d
    d |> updLink k (fun l => { l with echoed := some t }) |> linkSend k .spoke (.ptsync t (some t))
  | .hub => if (getLink k d).syncSent.isSome && echo.isSome then alignPt k d else d

/-- PTSYNC. -/
def execPtsync (spoke : Nat) (side : Side) (hdr : LinkHdr) (_sent : Nat) (echo : Option Nat) (s : State) : Host.Outcome State Fault Refusal :=
  onSpoke spoke (onFrame spoke side hdr (ptsyncIn spoke side echo)) s

/-- PTADJ arrives at a spoke. -/
def execPtadj (spoke : Nat) (hdr : LinkHdr) (eff : Nat) (plus : Bool) (s : State) : Host.Outcome State Fault Refusal :=
  onSpoke spoke (onFrame spoke .spoke hdr (updLink spoke (fun l => { l with adjs := l.adjs ++ [(eff, plus)] }))) s

/-- PT_ADJUSTMENT. -/
def execPtAdjustment (s : State) : Host.Outcome State Fault Refusal := run applyAdjs s

/-- A PT check finds a spoke off by `offset` ticks, ahead of the hub if positive (R33, R34). More than 16 ticks is a link
loss and sets no PT_MISMATCH (log entry 114). -/
def ptCheck (k : Nat) (offset : Int) (d : Dev) : Dev :=
  if !(getLink k d).up || linkLooped k d then d
  else
    let d := updLink k (fun l => { l with ptOff := offset }) d
    if offset.natAbs ≤ 1 then d
    else if offset.natAbs ≤ 16 then
      d |> bitF F.PWR_LINK_STATUS.PT_MISMATCH (k - 1) true |> updLink k (fun l => { l with adjLeft := -offset })
        |> logEvent 0x0202 3 ⟨k, 9, 0⟩ (toBits 32 offset) 0 0
    else linkLost k d

/-- PT_CHECK. -/
def execPtCheck (spoke : Nat) (offset : Int) (s : State) : Host.Outcome State Fault Refusal := onSpoke spoke (ptCheck spoke offset) s

/-! ### Payloads (R18, R20 to R23, R200, R276, R287, R294, R440) -/

/-- SCHED arrives at a spoke. -/
def execSched (spoke : Nat) (hdr : LinkHdr) (entry : SchedP) (s : State) : Host.Outcome State Fault Refusal :=
  onSpoke spoke (onFrame spoke .spoke hdr (fun d => arriveEntry spoke entry (isStoker d) (outletOf spoke entry.chan d) d)) s

/-- The hub takes a channel event: as planner's event, as a follower's STATE event, or for the outlet of the channel, held for the next
cycle start and forwarded to a stoker (R23, R200, R249, R419, R489). -/
def feedIn (k : Nat) (f : FeedP) (d : Dev) : Dev :=
  let at_ := extendPt d.pt f.evtPt
  let d := whenD f.late (raise F.REG_STATUS.LATE) d
  if d.sox.role.role = 3 then
    stateStore { chan := globalCh k f.chan, event := feedCode f.event, late := f.late, slip := f.slip, at_ := at_, delay := f.delay
                 slipUs := f.slipUs } d
  else
    match findOutlet (globalCh k f.chan) d with
    | none => d
    | some o =>
      let h : HeldFeed := { outlet := o, at_ := at_, event := f.event, delay := f.delay, late := f.late, slip := f.slip
                            slipUs := f.slipUs, fast := !(getChan k f.chan d).lastSlow }
      d |> updEng (fun g => { g with feeds := g.feeds ++ [h] }) |> forwardFeed o at_ f

/-- FEED. -/
def execFeed (spoke : Nat) (hdr : LinkHdr) (event : FeedP) (s : State) : Host.Outcome State Fault Refusal :=
  onSpoke spoke (onFrame spoke .hub hdr (feedIn spoke event)) s

/-- INT: slot 0 to 63 of the spoke takes a level at the hub. -/
def execInt (spoke : Nat) (hdr : LinkHdr) (slot : Nat) (level : Bool) (s : State) : Host.Outcome State Fault Refusal :=
  onSpoke spoke (onFrame spoke .hub hdr (slotLevel spoke (slot % 64) level)) s

/-- What a DATA frame does at its receiver. -/
def dataIn (k : Nat) (side : Side) (x : DataP) (d : Dev) : Dev :=
  match side, x with
  | .hub, .sample l pt states _ =>
    eachD (List.range states.length) (fun i => updEng (fun g =>
      { g with taps := kupd g.taps (tapKey k l i) [] (addSample { value := states.getD i 0, pt := pt } d.pt) })) d
  | .hub, .loopDone ring index status detail => complete ring index status detail [] d
  | .hub, .rxBad n => setF (F.SPK_LINK_COUNT.SPOKE_RX_BAD k) (min n 0xFFFF) d
  | .spoke, .epoch pt => whenD (gnssOn k d) (updGnss k fun g => { g with epochAt := some pt }) d
  | .spoke, .stream i v pt => updCtl k (fun c => { c with streams := kput c.streams i { value := v, pt := pt } {} }) d
  | _, _ => d

/-- DATA. -/
def execData (spoke : Nat) (side : Side) (hdr : LinkHdr) (data : DataP) (s : State) : Host.Outcome State Fault Refusal :=
  onSpoke spoke (onFrame spoke side hdr (dataIn spoke side data)) s

/-- The read of a spoke register ends with the value RESP carries. -/
def readBack (k off : Nat) (v : Word) (d : Dev) : Dev :=
  if (getLink k d).reads.contains off then
    emit (.readDone off v) (updLink k (fun l => { l with reads := l.reads.erase off }) d)
  else d

/-- RESP. -/
def execResp (spoke : Nat) (hdr : LinkHdr) (off : Nat) (value : Word) (s : State) : Host.Outcome State Fault Refusal :=
  onSpoke spoke (onFrame spoke .hub hdr (readBack spoke off value)) s

/-! ### Geometry cycles (R40, R208, R209) -/

/-- LANE_POWER_UP. -/
def execLanePowerUp (s : State) : Host.Outcome State Fault Refusal := run lanePowerUp s

/-- GEOMETRY_CYCLE_START. -/
def execGeometryCycleStart (s : State) : Host.Outcome State Fault Refusal := run cycleStart s

/-- CYCLE_EVALUATION_DONE. -/
def execCycleEvaluationDone (s : State) : Host.Outcome State Fault Refusal := run evaluationDone s

end Sys2Proof.Machine
end

