-- ==== Sys2Proof/Machine/DriveCmds.lean ====
section
/-! DEFINITION. Meanings of the channel-drive commands (06_channel_drive.md, 07_cassette_scheduling.md, R514, R515). -/
namespace Sys2Proof.Machine

/-! ### Delivery within an entry (R226, R227) -/

/-- ENTRY_START. -/
def execEntryStart (spoke chan : Nat) (s : State) : Host.Outcome State Fault Refusal :=
  onUnit spoke chan 64 (fun d => startPending spoke chan (outletOf spoke chan d) d) s

/-- ENTRY_END. -/
def execEntryEnd (spoke chan : Nat) (s : State) : Host.Outcome State Fault Refusal :=
  onUnit spoke chan 64 (fun d =>
    match (getChan spoke chan d).running with
    | none => d
    | some e => if e.ended || spokePt spoke d < e.finish then d else endEntry spoke chan (outletOf spoke chan d) d) s

/-- A grid instant inside the running entry begins a window: a new opening, or an interval on that goes on. -/
def windowStart (k n : Nat) (d : Dev) : Dev :=
  let c := getChan k n d
  let t := spokePt k d
  match c.running with
  | none => d
  | some e =>
    if e.freq = 0 || e.ended || e.finish ≤ t || c.waitRec || isProp k n d then d
    else
      match gridLe e.freq e.slot t with
      | none => d
      | some g =>
        let seen := match e.lastG with | some l => decide (g ≤ l) | none => false
        if g < e.start || seen then d
        else
          let w := windowW e g
          let short := decide (w < minOn k n d)
          let stop := g + if short then minOn k n d else w
          let d := updChan k n (fun c => { c with running := some { e with lastG := some g } }) d
          if engaged k n d then
            if w = 0 then (if c.onEnd.isNone then beginOff k n false (outletOf k n d) d else d)
            else
              d |> updChan k n (fun c => { c with onEnd := some (max stop (c.onEnd.getD 0)) })
                |> whenD short (raise (F.DRV_CH_STATUS.STRETCHED k n))
          else if w = 0 then d
          else if !mayOpen k n d then prevented k n d
          else
            d |> updChan k n (fun c => { c with onEnd := some stop })
              |> whenD short (raise (F.DRV_CH_STATUS.STRETCHED k n))
              |> riseDue k n g (if e.fromStart then e.start else g) e.late

/-- WINDOW_START. -/
def execWindowStart (spoke chan : Nat) (s : State) : Host.Outcome State Fault Refusal := onUnit spoke chan 64 (windowStart spoke chan) s

/-- An interval on ends: the channel stays on where the next interval begins within MIN_OFF, else its off phase begins. -/
def windowEnd (k n : Nat) (d : Dev) : Dev :=
  let c := getChan k n d
  let t := spokePt k d
  match c.running, c.onEnd with
  | some e, some stop =>
    if t < stop || e.freq = 0 || isProp k n d then d
    else
      let g := gridGe e.freq e.slot stop
      let stays := engaged k n d && decide (g < e.finish) && windowW e g != 0 && (g == stop || decide (g - stop < minOff k n d))
      if stays then updChan k n (fun c => { c with onEnd := none }) d else beginOff k n false (outletOf k n d) d
  | _, _ => d

/-- WINDOW_END. -/
def execWindowEnd (spoke chan : Nat) (s : State) : Host.Outcome State Fault Refusal := onUnit spoke chan 64 (windowEnd spoke chan) s

/-! ### Phases (R220 to R222, R242, R245) -/

/-- A queued rise has waited SLIP_LIMIT (R242). -/
def slipExpired (k n : Nat) (d : Dev) : Dev :=
  match (getCas k (cassetteOf n) d).queue.find? fun r => r.chan == n with
  | none => d
  | some r =>
    if spokePt k d < r.key + slipLimit k d then d
    else if entryOver k n d then leaveQueue k n d
    else startPeak k n true r.key r.sched r.late (leaveQueue k n d)

/-- SLIP_LIMIT_EXPIRY. -/
def execSlipLimitExpiry (spoke chan : Nat) (s : State) : Host.Outcome State Fault Refusal := onUnit spoke chan 64 (slipExpired spoke chan) s

/-- A rise reaches PEAK_I: a boost rise gives a sample of T_RISE; the low side opens and dwell begins. -/
def peakReached (k n : Nat) (d : Dev) : Dev :=
  let c := getChan k n d
  match c.phase, c.opening with
  | .rise, some o =>
    let d := updChan k n (fun c => { c with phase := .dwell, lowClosed := false }) d
    if o.slow then d
    else
      let (r, d) := toUs (spokePt k d - o.peak) d
      let er := c.er + r - c.er / 16
      d |> updChan k n (fun c => { c with er := er })
        |> setF (F.DRV_CH_RISE.LAST_RISE k n) (min r 8191)
        |> releaseSwitch k n
  | _, _ => d

/-- PEAK_I_REACHED. -/
def execPeakIReached (spoke chan : Nat) (s : State) : Host.Outcome State Fault Refusal := onUnit spoke chan 64 (peakReached spoke chan) s

/-- A boost rise runs out of BOOST_TMAX. -/
def boostTmaxEnd (k n : Nat) (d : Dev) : Dev :=
  let c := getChan k n d
  match c.phase, c.opening with
  | .rise, some o =>
    if o.slow || spokePt k d < o.peak + boostTmax k n d then d
    else
      let (r, d) := toUs (spokePt k d - o.peak) d
      d |> updChan k n (fun c => { c with phase := .dwell, slopes := { onAt := some (spokePt k d) } }) |> raise (F.DRV_CH_STATUS.PEAK_TIMEOUT k n)
        |> setF (F.DRV_CH_RISE.LAST_RISE k n) (min r 8191) |> releaseSwitch k n
  | _, _ => d

/-- BOOST_TMAX_EXPIRY. -/
def execBoostTmaxExpiry (spoke chan : Nat) (s : State) : Host.Outcome State Fault Refusal := onUnit spoke chan 64 (boostTmaxEnd spoke chan) s

/-- An outlet-owned proportional channel reports OPENED (R234). -/
def propOpened (k n : Nat) (d : Dev) : Dev :=
  match (getChan k n d).opening with
  | none => d
  | some o =>
    if o.reported then d
    else d |> updChan k n (fun c => { c with opening := some { o with reported := true } }) |> feedEvent k n .opened (spokePt k d) 0xFFFF o

/-- PEAK_T ends (R220, R221, R234, R253). An outlet whose VALVE count became lasting has its channel disabled, which ends its entry
(R238, R474; DEDUCED, log entry 101). -/
def peakTEnd (k n : Nat) (d : Dev) : Dev :=
  let c := getChan k n d
  match c.opening with
  | none => d
  | some o =>
    if spokePt k d < o.peak + peakT k n d then d
    else
      match c.phase with
      | .regulation => propOpened k n d
      | .rise | .dwell =>
        let d := whenD (c.phase == .rise) (raise (F.DRV_CH_STATUS.PEAK_TIMEOUT k n)) (cutRise k n d)
        let d := updChan k n (fun c => { c with phase := .hold }) d
        let d := whenD (c.phase == .rise && !o.slow) (releaseSwitch k n) d
        if o.reported then d
        else
          let out := outletOf k n d
          let d := noTravelEvent k n true out o d
          whenD (isSet (F.DRV_CH_STATUS.DISABLED k n) d) (stopChan k n false out) d
      | _ => d

/-- PEAK_T_EXPIRY. -/
def execPeakTExpiry (spoke chan : Nat) (s : State) : Host.Outcome State Fault Refusal := onUnit spoke chan 64 (peakTEnd spoke chan) s

/-- A slope s has recovered from the least slope m by RATIO / 64 of it (R251). -/
def slopeBack (ratio : Nat) (m s : Slope) : Bool :=
  decide (0 < m.rise) && decide (ratio * m.rise * max 1 s.time ≤ 64 * (s.rise * max 1 m.time - m.rise * max 1 s.time))

/-- The lesser of two slopes. -/
def leastSlope (m : Option Slope) (s : Slope) : Slope :=
  match m with
  | some m => if s.rise * max 1 m.time < m.rise * max 1 s.time then s else m
  | none => s

/-- The span in which the detector looks for the end of travel (R251). -/
def travelSpan (k n : Nat) (o : Opening) (t : Nat) (d : Dev) : Bool :=
  decide (o.peak + 2500 * getF (F.DRV_DET_CFG.BLANK k (tplOf k n d)) d ≤ t) && decide (t ≤ o.peak + peakT k n d)

/-- An on-interval of dwell ends: its slope, the band over its duration, is held against the least so far (R250, R251). -/
def dwellSlope (k n : Nat) (d : Dev) : Dev :=
  let c := getChan k n d
  let t := spokePt k d
  match c.phase, c.opening, c.slopes.onAt with
  | .dwell, some o, some a =>
    let d := updChan k n (fun c => { c with slopes := { c.slopes with onAt := none } }) d
    if !detOn k n d || !travelSpan k n o t d || c.slopes.found.isSome then d
    else
      let s : Slope := { rise := 10 * getF (F.DRV_TPL_CTL.BAND k (tplOf k n d)) d * pairFold k n d, time := t - a }
      let hit := c.slopes.least.any fun m => slopeBack (getF (F.DRV_DET_CFG.ON_RATIO k (tplOf k n d)) d) m s
      updChan k n (fun c => { c with slopes := { c.slopes with least := some (leastSlope c.slopes.least s), found := if hit then some a else none } }) d
  | _, _, _ => d

/-- A chopping threshold is crossed in dwell or hold: upwards the low side opens; downwards it closes, at least 20 µs after its last
closing (R220, R222). -/
def chopThreshold (k n : Nat) (above : Bool) (d : Dev) : Dev :=
  let c := getChan k n d
  let t := spokePt k d
  let soon := match c.closedAt with | some p => decide (t < p + us 20) | none => false
  if c.phase != .dwell && c.phase != .hold then d
  else if above then dwellSlope k n (updChan k n (fun c => { c with lowClosed := false }) d)
  else if c.lowClosed || soon then d
  else updChan k n (fun c => { c with lowClosed := true, closedAt := some t, slopes := { c.slopes with onAt := some t } }) d


def execChopThreshold (spoke chan : Nat) (above : Bool) (s : State) : Host.Outcome State Fault Refusal :=
  onUnit spoke chan 64 (chopThreshold spoke chan above) s

/-- A fast decay has returned energy to the rail: what the measurement adds to DRV_BOOST_ENERGY is free. -/
def energyReturned (k : Nat) (d : Dev) : Dev :=
  let (e, d) := fresh d
  setF (F.DRV_BOOST_ENERGY.RECOVERED k) (getF (F.DRV_BOOST_ENERGY.RECOVERED k) d + e) d

/-- The channel is recovered: a proportional one reports CLOSED (R234), an entry held back begins (R226), a released channel loses its
owner (R218). -/
def recovered (k n : Nat) (d : Dev) : Dev :=
  let c := getChan k n d
  if c.phase ≠ .off then d
  else
    let t := spokePt k d
    let d := updChan k n (fun c => { c with phase := .idle, closing := c.closing.map fun x => { x with recAt := some t } }) d
    let d := if c.lastSlow then d else energyReturned k d
    let d := match c.closing with
      | some cl =>
        if cl.offEvent then d else d |> updChan k n (fun c => { c with closing := none }) |> feedEvent k n .closed t 0xFFFF (nullOpening t)
      | none => d
    let d := match c.running with
      | none => d
      | some e =>
        if e.ended || e.finish ≤ t then updChan k n (fun c => { c with running := none, waitRec := false }) d
        else if !c.waitRec then d
        else
          beginEntry k n e (updChan k n (fun c => { c with waitRec := false }) d)
    settlePairOwner k n d

/-- RECOVERED. -/
def execRecovered (spoke chan : Nat) (s : State) : Host.Outcome State Fault Refusal := onUnit spoke chan 64 (recovered spoke chan) s

/-! ### Regulation (R232, R233) -/

/-- The set-point in mA: of a loop, or of the entry's duty. -/
def setPoint (k n : Nat) (d : Dev) : Nat × Dev :=
  let c := getChan k n d
  if getF (F.DRV_CH_CFG.OWNER k n) d = 2 then (c.loopSet, d)
  else
    let duty := match c.running with | some e => dutyAt e (spokePt k d) | none => 0
    let (v, d) := divFree (fullScale k n d * duty) 65535 d
    (v.toNat, d)

/-- The dither at t ticks after regulation started, in 1/10⁶ of its amplitude: a square, or a triangle that rises from 0. -/
def dither (square : Bool) (freq t : Nat) : Int :=
  let p := 250000000 / max 1 freq
  let x : Int := (t % p) * 1000000 / p
  if square then (if x < 500000 then 1000000 else -1000000)
  else if x < 250000 then 4 * x
  else if x < 750000 then 2000000 - 4 * x
  else 4 * x - 4000000

/-- A chopping period begins: the regulator aims at the dithered set-point, limited to FS_I. The on-time it finds and whether the current
came within 5 % of the set-point are the measurement's: free. -/
def chopPeriod (k n : Nat) (d : Dev) : Dev :=
  let c := getChan k n d
  if c.phase ≠ .regulation then d
  else
    let tp := tplOf k n d
    let (sp, d) := setPoint k n d
    let (a, d) := divFree (sp * getF (F.DRV_TPL_PROP.DITHER_A k tp) d *
      dither (isSet (F.DRV_TPL_CTL.DITHER_SQ k tp) d) (getF (F.DRV_TPL_PROP.DITHER_F k tp) d) (spokePt k d - c.regAt)) 100000000 d
    let goal := clampI 0 (fullScale k n d) (sp + a)
    let (on, d) := fresh d
    let (near, d) := fresh d
    d |> updChan k n (fun c => { c with setPt := sp, setAt := if c.setPt = sp then c.setAt else spokePt k d, target := goal.toNat, onTime := on % (2500000 / max 1 (getF (F.DRV_TPL_PROP.CHOP k tp) d) + 1)
                                        lowClosed := true, closedAt := some (spokePt k d) })
      |> whenD (near % 2 == 1) (propOpened k n)

/-- CHOP_PERIOD. -/
def execChopPeriod (spoke chan : Nat) (s : State) : Host.Outcome State Fault Refusal := onUnit spoke chan 64 (chopPeriod spoke chan) s

/-! ### Armature detector (R250 to R258) -/

/-- N of R250 in samples, which are 100 ticks apart (2.5 Msps). -/
def slopeN (k n : Nat) (d : Dev) : Nat := 4 * 2 ^ getF (F.DRV_DET_CFG.SLOPE_N k (tplOf k n d)) d

/-- What a pass over the slopes of a rise holds: the least so far and the sample that met the condition. -/
structure RiseScan where
  least : Option Slope := none
  found : Option Nat := none
deriving DecidableEq, Repr

/-- One slope s_k = i_k − i_(k−N) of a segment, whose samples `xs` end at t, within the span from `a` to `b` (R250, R251). -/
def scanSlope (n ratio a b t : Nat) (xs : List Nat) (r : RiseScan) (j : Nat) : RiseScan :=
  let at_ := t - 100 * (xs.length - 1 - j)
  if j < n || at_ < a || b < at_ || r.found.isSome then r
  else
    let s : Slope := { rise := (xs.getD j 0 : Int) - xs.getD (j - n) 0, time := n }
    { least := some (leastSlope r.least s), found := if r.least.any (fun m => slopeBack ratio m s) then some at_ else none }

/-- The newest samples of a measurement that ends at t which fall on or after a. -/
def samplesSince (a t : Nat) (xs : List Nat) : List Nat := xs.drop (xs.length - ((t - a) / 100 + 1))

/-- The start of the present rise segment: the rise is one, or each stretch of a slow peak between changes of the cassette output (R250). -/
def segmentStart (k n : Nat) (o : Opening) (d : Dev) : Nat := if o.slow then max o.peak (getCas k (cassetteOf n) d).feedAt else o.peak

/-- The end of travel that the current samples of the present rise segment show (R251). -/
def riseTravel (k n : Nat) (o : Opening) (xs : List Nat) (d : Dev) : Option Nat :=
  let t := spokePt k d
  let tp := tplOf k n d
  let ys := samplesSince (segmentStart k n o d) t xs
  ((List.range ys.length).foldl (scanSlope (slopeN k n d) (getF (F.DRV_DET_CFG.ON_RATIO k tp) d)
    (o.peak + 2500 * getF (F.DRV_DET_CFG.BLANK k tp) d) (o.peak + peakT k n d) t ys) {}).found

/-- A detected end of travel at `at_` (R251, R254, R257). -/
def travelFound (k n at_ : Nat) (o : Opening) (d : Dev) : Dev :=
  let (delay, d) := toUs (at_ - o.peak) d
  d |> updChan k n (fun c => { c with opening := some { o with travel := true, reported := true } })
    |> lower (F.DRV_CH_TRAVEL.MISS_ON k n) |> lower (F.DRV_CH_TRAVEL.NO_MOTION k n)
    |> lower (F.DRV_CH_TRAVEL.NO_TRAVEL k n) |> lower (F.DRV_CH_TRAVEL.STUCK k n)
    |> feedEvent k n .opened at_ (min delay 0xFFFF) o

/-- The detector looks for the end of travel: in a rise in the current samples of the segment, the newest taken now; in dwell in the slope
of the on-interval that has ended (R250, R251; log entry 130). -/
def endOfTravel (k n : Nat) (xs : List Nat) (d : Dev) : Dev :=
  let c := getChan k n d
  match c.opening with
  | none => d
  | some o =>
    if o.reported || !detOn k n d then d
    else
      match c.phase with
      | .rise => (match riseTravel k n o xs d with | some at_ => travelFound k n at_ o d | none => d)
      | .dwell => (match c.slopes.found with | some at_ => travelFound k n at_ o d | none => d)
      | _ => d

/-- END_OF_TRAVEL. -/
def execEndOfTravel (spoke chan : Nat) (samples : List Nat) (s : State) : Host.Outcome State Fault Refusal :=
  onUnit spoke chan 64 (endOfTravel spoke chan samples) s

/-- What a pass over the motion EMF holds: its peak, and the kink. -/
structure EmfScan where
  peak  : Nat := 0
  found : Option Nat := none
deriving DecidableEq, Repr

/-- One sample of the motion EMF: a kink where, once it has exceeded `level`, it has fallen within one window of n samples by RATIO / 64 of
its peak (R252). -/
def scanEmf (n ratio level t : Nat) (xs : List Nat) (r : EmfScan) (j : Nat) : EmfScan :=
  let x := xs.getD j 0
  let top := ((xs.take (j + 1)).drop (j - n)).foldl max 0
  if r.found.isSome then r
  else if level < r.peak && decide (ratio * r.peak ≤ 64 * (top - x)) then { r with found := some (t - 100 * (xs.length - 1 - j)) }
  else { r with peak := max r.peak x }

/-- From when a closing is watched: a slow decay from its start, a fast one once the channel has recovered (R252). -/
def watchedFrom (cl : Closing) : Option Nat := if cl.slow then some cl.start else cl.recAt

/-- The kink that the samples of the motion EMF in mV since a PT show (R252). -/
def kinkOf (k n from_ : Nat) (xs : List Nat) (d : Dev) : Option Nat :=
  let t := spokePt k d
  let tp := tplOf k n d
  let ys := samplesSince from_ t xs
  ((List.range ys.length).foldl (scanEmf (slopeN k n d) (getF (F.DRV_DET_CFG.OFF_RATIO k tp) d)
    (10 * getF (F.DRV_DET_WIN.OFF_LEVEL k tp) d) t ys) {}).found

/-- The detector looks for the decay kink (R252, R254, R257) in the motion EMF, the newest sample taken now. -/
def decayKink (k n : Nat) (xs : List Nat) (d : Dev) : Dev :=
  match (getChan k n d).closing with
  | none => d
  | some cl =>
    match watchedFrom cl with
    | none => d
    | some from_ =>
    match kinkOf k n from_ xs d with
    | none => d
    | some at_ =>
      if !cl.offEvent || !detOn k n d || cl.start + offWin k n d ≤ at_ then d
      else
        let (delay, d) := toUs (at_ - cl.start) d
        d |> updChan k n (fun c => { c with closing := none, noKink := false })
          |> lower (F.DRV_CH_TRAVEL.NO_MOTION k n) |> lower (F.DRV_CH_TRAVEL.STUCK k n)
          |> feedEvent k n .closed at_ (min delay 0xFFFF) (nullOpening at_)

/-- DECAY_KINK. -/
def execDecayKink (spoke chan : Nat) (emf : List Nat) (s : State) : Host.Outcome State Fault Refusal :=
  onUnit spoke chan 64 (decayKink spoke chan emf) s

/-- A closing window runs to OFF_WIN: conclusive, without a kink (R252 to R254). -/
def offWinEnd (k n : Nat) (d : Dev) : Dev :=
  match (getChan k n d).closing with
  | none => d
  | some cl =>
    if !cl.offEvent || spokePt k d < cl.start + offWin k n d then d
    else
      d |> updChan k n (fun c => { c with closing := none, noKink := detOn k n d || c.noKink })
        |> feedEvent k n .closed cl.start 0xFFFF (nullOpening cl.start)

/-- OFF_WIN_EXPIRY. -/
def execOffWinExpiry (spoke chan : Nat) (s : State) : Host.Outcome State Fault Refusal := onUnit spoke chan 64 (offWinEnd spoke chan) s

/-! ### The boost rail (R228 to R230, R236) -/

/-- CLAMP_EVENT with the rail in 0.25 V: above 80 V a clamp event begins, below 78 V it ends; any level is the rail from now on. While SBOOST
is unpowered nothing measures the rail and the clamp is off (R46, R545). -/
def clampEvent (k rail : Nat) (d : Dev) : Dev :=
  if !sboostOn k d then d
  else
  let was := (getSpoke k d).boost.clamping
  let begins := !was && decide (320 < rail)
  let now := (was || begins) && decide (312 ≤ rail)
  d |> updBoost k (fun b => { b with rail := rail, clamping := now })
    |> whenD begins (fun d => d |> countF (F.DRV_BOOST_STATUS.CLAMPS k) |> raise (F.DRV_BOOST_STATUS.CLAMPED k))
    |> settleConverter k

/-- CLAMP_EVENT. -/
def execClampEvent (spoke rail : Nat) (s : State) : Host.Outcome State Fault Refusal := onSpoke spoke (clampEvent spoke rail) s

/-- BOOST_FAILURE: the converter stops; a lasting failure disables it until a spoke reset. -/
def execBoostFailure (spoke : Nat) (s : State) : Host.Outcome State Fault Refusal :=
  onSpoke spoke (fun d =>
    let (d, lasting) := healthEvent 5 (spoke - 1) false (raise (F.DRV_BOOST_STATUS.BOOST_FAIL spoke) d)
    d |> updBoost spoke (fun b => { b with charging := false }) |> whenD lasting (raise (F.DRV_BOOST_STATUS.LASTING spoke))) s

/-! ### Channel and cassette faults (R236 to R238, R247) -/

/-- A fault of a conducting channel: its flag, the end of the opening, its class. -/
def conductingFault (k n cls : Nat) (f : Fld) (d : Dev) : Dev :=
  if !conducts (getChan k (leadOf k n d) d) then d
  else d |> raise f |> faultOff k n (outletOf k (leadOf k n d) d) |> channelFault k n cls

/-- OPEN_LOAD_ON. -/
def execOpenLoadOn (spoke chan : Nat) (s : State) : Host.Outcome State Fault Refusal :=
  onUnit spoke chan 64 (fun d => conductingFault spoke chan 0 (F.DRV_CH_STATUS.OPEN spoke chan) d) s

/-- The off-state diagnosis of a channel ends: an open load, which it finds only with the battery switch closed, is counted once per off
interval; a node above 1.5 V shows neither an open load nor a short to ground. -/
def openLoadOff (k n : Nat) (found : Bool) (d : Dev) : Dev :=
  let c := getChan k n d
  if conducts (getChan k (leadOf k n d) d) || (found && !batterySwitch k (cassetteOf n) d) then d
  else if !found then updChan k n (fun c => { c with diagOpen := false, diagGnd := false }) d
  else
    let d := updChan k n (fun c => { c with diagOpen := true, diagGnd := false, offDiag := true }) d
    if c.offDiag then d else d |> raise (F.DRV_CH_STATUS.OPEN k n) |> channelFault k n 0

/-- OPEN_LOAD_OFF. -/
def execOpenLoadOff (spoke chan : Nat) (found : Bool) (s : State) : Host.Outcome State Fault Refusal :=
  onUnit spoke chan 64 (openLoadOff spoke chan found) s

/-- SHORT_TO_BATTERY. -/
def execShortToBattery (spoke chan : Nat) (s : State) : Host.Outcome State Fault Refusal :=
  onUnit spoke chan 64 (fun d => conductingFault spoke chan 1 (F.DRV_CH_STATUS.SHORT_BAT spoke chan) d) s

/-- A short to ground at a channel that is off: the whole cassette opens. -/
def shortToGround (k n : Nat) (d : Dev) : Dev :=
  let c := cassetteOf n
  if conducts (getChan k (leadOf k n d) d) then d
  else
    let d := d |> raise (F.DRV_CH_STATUS.SHORT_GND k n) |> raise (F.DRV_CAS_STATUS.SHORT_GND k c)
      |> updChan k n (fun c => { c with diagGnd := true, diagOpen := false })
      |> cassetteOff k c (fun n => outletOf k n d)
    let (d, lasting) := healthEvent 1 (globalCh k n) true d
    whenD lasting (holdCassette k c true) d

/-- SHORT_TO_GROUND. -/
def execShortToGround (spoke chan : Nat) (s : State) : Host.Outcome State Fault Refusal := onUnit spoke chan 64 (shortToGround spoke chan) s

/-- OVERCURRENT. -/
def execOvercurrent (spoke chan : Nat) (s : State) : Host.Outcome State Fault Refusal :=
  onUnit spoke chan 64 (fun d => conductingFault spoke chan 2 (F.DRV_CH_STATUS.OVERCURRENT spoke chan) d) s

/-- OVERTEMPERATURE: a switch above 175 °C, conducting or not. -/
def overtemperature (k n : Nat) (d : Dev) : Dev :=
  d |> raise (F.DRV_CH_STATUS.OVERTEMP k n) |> updChan k n (fun c => { c with hot := true })
    |> faultOff k n (outletOf k (leadOf k n d) d) |> channelFault k n 3

def execOvertemperature (spoke chan : Nat) (s : State) : Host.Outcome State Fault Refusal := onUnit spoke chan 64 (overtemperature spoke chan) s

/-- OVERTEMP_COOLED: below 160 °C; with RETRY ended the channel resumes (R237). -/
def overtempCooled (k n : Nat) (d : Dev) : Dev :=
  if !(getChan k n d).hot then d
  else
    let l := leadOf k n d
    let d := updChan k n (fun c => { c with hot := false }) d
    if isHot k l d || (getChan k l d).retryEnd.isSome then d else resumeChan k l d

def execOvertempCooled (spoke chan : Nat) (s : State) : Host.Outcome State Fault Refusal := onUnit spoke chan 64 (overtempCooled spoke chan) s

/-- HIGH_SIDE_OVERCURRENT. -/
def highSideOvercurrent (k c : Nat) (d : Dev) : Dev :=
  let d := d |> raise (F.DRV_CAS_STATUS.HS_OC k c) |> cassetteOff k c (fun n => outletOf k n d)
  let (d, lasting) := healthEvent 4 (globalCas k c) false d
  whenD lasting (holdCassette k c false) d

def execHighSideOvercurrent (spoke cas : Nat) (s : State) : Host.Outcome State Fault Refusal := onUnit spoke cas 8 (highSideOvercurrent spoke cas) s

/-- RETRY ends, for the channel and with it for its cassette (R237). -/
def retryDone (k n : Nat) (d : Dev) : Dev :=
  let t := spokePt k d
  match (getChan k n d).retryEnd with
  | none => d
  | some r =>
    if t < r then d
    else
      d |> updCas k (cassetteOf n) (fun c => { c with retryEnd := match c.retryEnd with | some x => if x ≤ t then none else some x | none => none })
        |> resumeChan k n

/-- RETRY_END. -/
def execRetryEnd (spoke chan : Nat) (s : State) : Host.Outcome State Fault Refusal := onUnit spoke chan 64 (retryDone spoke chan) s

/-- A clear of DISABLED of a channel, or pair, from the next entry (R238, R475); refused while the diagnosis shows a fault. -/
def clearDisabled (k n : Nat) (d : Dev) : Dev :=
  let ms := pairOf k n d
  if !isSet (F.DRV_CH_STATUS.DISABLED k n) d || ms.any (fun m => (getChan k m d).diagOpen || (getChan k m d).diagGnd ||
      setNow (F.DRV_CH_STATUS.DISABLED k m) d) then d
  else
    let one := fun (m : Nat) (d : Dev) =>
      d |> lower (F.DRV_CH_STATUS.DISABLED k m)
        |> clearInst 0 (globalCh k m) |> clearInst 1 (globalCh k m) |> clearInst 2 (globalCh k m) |> clearInst 3 (globalCh k m)
        |> clearInst 9 (outletOf k m d)
        |> updChan k m (fun c => { c with byCas := false, pending := none, running := none, waitRec := false })
    eachD ms one d

/-- CHANNEL_DISABLED_CLEAR. -/
def execChannelDisabledClear (spoke chan : Nat) (s : State) : Host.Outcome State Fault Refusal :=
  onUnit spoke chan 64 (setUp (clearDisabled spoke chan)) s

/-- A clear of DISABLED of a cassette (R238, R475); refused while a short to ground remains. -/
def clearCassette (k c : Nat) (d : Dev) : Dev :=
  if !isSet (F.DRV_CAS_STATUS.DISABLED k c) d || setNow (F.DRV_CAS_STATUS.DISABLED k c) d ||
      (casChans c).any (fun n => (getChan k n d).diagGnd) then d
  else
    let one := fun (n : Nat) (d : Dev) =>
      let x := getInst 1 (globalCh k n) d
      d |> whenD (x.lasting && x.toGround) (clearInst 1 (globalCh k n))
        |> whenD ((getChan k n d).byCas && !setNow (F.DRV_CH_STATUS.DISABLED k n) d) (fun d =>
            d |> lower (F.DRV_CH_STATUS.DISABLED k n) |> updChan k n (fun c => { c with byCas := false }))
    d |> lower (F.DRV_CAS_STATUS.DISABLED k c) |> clearInst 4 (globalCas k c) |> eachD (casChans c) one

/-- CASSETTE_DISABLED_CLEAR. -/
def execCassetteDisabledClear (spoke cas : Nat) (s : State) : Host.Outcome State Fault Refusal :=
  onUnit spoke cas 8 (setUp (clearCassette spoke cas)) s

/-- One 1 ms mean in 10 mA: it goes on with the run above 4.00 A or ends it; a hundredth sets OVERLOAD, and the next run begins (R247). -/
def casMean (k c : Nat) (mean : Nat) (d : Dev) : Dev :=
  let run := (getCas k c d).overRun + 1
  if mean ≤ 400 then updCas k c (fun x => { x with overRun := 0 }) d
  else if run < 100 then updCas k c (fun x => { x with overRun := run }) d
  else
    d |> updCas k c (fun x => { x with overRun := 0 }) |> raise (F.DRV_CAS_SCHED.OVERLOAD k c)
      |> logEvent 0x0403 4 ⟨k, 11, c⟩ mean 0 0 |> healthReport 10 (globalCas k c)

/-- The successive 1 ms means of a cassette since the last judged one, as many as milliseconds have passed; a mean that no command brings
is at or below 4.00 A (R247; log entry 131). -/
def casMeans (k c : Nat) (means : List Nat) (d : Dev) : Dev :=
  let t := spokePt k d
  let n := (t - (getCas k c d).meanAt) / ms 1
  let xs := means.drop (means.length - n)
  match xs.getLast? with
  | none => d
  | some last =>
    d |> updCas k c (fun x => { x with overRun := if xs.length < n then 0 else x.overRun, mean := last, meanAt := t }) |> eachD xs (casMean k c)

/-- CAS_OVERLOAD. -/
def execCasOverload (spoke cas : Nat) (means : List Nat) (s : State) : Host.Outcome State Fault Refusal :=
  onUnit spoke cas 8 (casMeans spoke cas means) s

/-! ### Supplies of a spoke (R514, R515) -/

/-- Every switch of a spoke opens; `fault` says that what ends or waits is reported DISABLED_BY_FAULT. -/
def openSwitches (k : Nat) (fault : Bool) (d : Dev) : Dev :=
  let queued := (List.range 8).flatMap fun c => ((getCas k c d).queue.map (·.chan))
  d |> eachD (if fault then queued else []) (prevented k)
    |> clearQueues k
    |> eachD ((getSpoke k d).chans.map (·.1)) (fun n d => beginOffWith k n fault true (outletOf k n d) d)

/-- OUT_OF_SUPPLY: below UV, or above OV. -/
def outOfSupplyNow (k : Nat) (high : Bool) (d : Dev) : Dev :=
  let was := outOfSupply k d
  let d := raise (if high then F.SPK_SUPPLY.OV k else F.SPK_SUPPLY.UV k) d
  if was then d
  else d |> countF (F.SPK_SUPPLY.OUTS k) |> openSwitches k true |> updBoost k (fun b => { b with charging := false })

def execOutOfSupply (spoke : Nat) (high : Bool) (s : State) : Host.Outcome State Fault Refusal := onSpoke spoke (outOfSupplyNow spoke high) s

/-- SUPPLY_RECOVERY: entries resume as at the end of RETRY, a precharge goes on. -/
def supplyRecovery (k : Nat) (high : Bool) (d : Dev) : Dev :=
  let was := outOfSupply k d
  let d := lower (if high then F.SPK_SUPPLY.OV k else F.SPK_SUPPLY.UV k) d
  if !was || outOfSupply k d then d
  else
    d |> eachD ((getSpoke k d).chans.map (·.1)) (fun n d => if (getChan k n d).retryEnd.isSome then d else resumeChan k n d)
      |> settleConverter k

def execSupplyRecovery (spoke : Nat) (high : Bool) (s : State) : Host.Outcome State Fault Refusal := onSpoke spoke (supplyRecovery spoke high) s

/-- POWER_GOOD_LOSS: every switch of the spoke opens and its gate balls float low until its supplies are good again. -/
def execPowerGoodLoss (spoke : Nat) (s : State) : Host.Outcome State Fault Refusal :=
  onSpoke spoke (fun d =>
    if d.pwr.lowSpokes.contains spoke then d
    else d |> openSwitches spoke false |> updPwr (fun p => { p with lowSpokes := spoke :: p.lowSpokes }) |> settlePairs spoke) s

end Sys2Proof.Machine
end

