-- ==== Sys2Proof/Machine/PwmCmds.lean ====
section
/-! DEFINITION. Meanings of the PWM commands (09_motor_pwm.md, R265 for compare matches). -/
namespace Sys2Proof.Machine

/-- PWM_ENABLE: a write of PWM_CFG that sets or clears EN and leaves the other fields as they are. -/
def execPwmEnable (spoke pair : Nat) (on : Bool) (s : State) : Host.Outcome State Fault Refusal :=
  onUnit spoke pair 12 (setUp fun d => writePwmCfg spoke pair (BitVec.ofNat 32 (putBit (rget (R.PWM_CFG spoke pair) d).toNat 0 on)) d) s

/-- PERIOD_START. A loop output written in this tick is taken (R313). -/
def execPeriodStart (spoke pair : Nat) (s : State) : Host.Outcome State Fault Refusal := onUnit spoke pair 12 (fun d => periodStart spoke pair (writeDue spoke d)) s

/-- MID_PERIOD_UPDATE. A loop output written in this tick is taken (R313). -/
def execMidPeriodUpdate (spoke pair : Nat) (s : State) : Host.Outcome State Fault Refusal := onUnit spoke pair 12 (fun d => midUpdate spoke pair (writeDue spoke d)) s

/-- REFERENCE_EDGE. -/
def execReferenceEdge (spoke pair : Nat) (s : State) : Host.Outcome State Fault Refusal := onUnit spoke pair 12 (edgeReached spoke pair) s

/-- COMPARE_MATCH of compare `cmp` modulo 4. -/
def execCompareMatch (spoke pair cmp : Nat) (s : State) : Host.Outcome State Fault Refusal :=
  onUnit spoke pair 12 (compareMatch spoke pair (cmp % 4)) s

/-- DEAD_TIME_END: the on-edge is known and its tick is reached (R317, R318). -/
def deadTimeEnd (k p : Nat) (d : Dev) : Dev :=
  match (getPair k p d).dt with
  | some { high := _, off := _, on := some f } => if f / 32 ≤ spokePt k d then deadEnd k p f d else d
  | _ => d

def execDeadTimeEnd (spoke pair : Nat) (s : State) : Host.Outcome State Fault Refusal := onUnit spoke pair 12 (deadTimeEnd spoke pair) s

/-- The on-edge of an adaptive dead time that began at t_off, for a crossing at t_c, in fine units (R318). -/
def adaptiveOn (x : Pair) (off tc : Nat) : Nat :=
  off + min (wordField x.adtReg 16 14) (max (wordField x.adtReg 0 14) (tc + wordField x.senseReg 0 10 - off))

/-- No crossing came by DT_MAX (R318): NO_CROSS and its count. -/
def noCross (k p : Nat) (d : Dev) : Dev :=
  d |> raise (F.PWM_STATUS.NO_CROSS k p) |> countF (F.PWM_COUNT.NO_CROSSES k p)
    |> updMon k (fun m => { m with dt := kupd m.dt p (0, 0, 0, 0) fun e => (e.1, e.2.1, e.2.2.1, e.2.2.2 + 1) })

/-- NODE_CROSSING at a fine instant: the opposite on-edge is known. A node already past the threshold crosses at the off-edge. The
dead-time monitor takes t_c − t_off (R480). -/
def nodeCrossing (k p tc : Nat) (d : Dev) : Dev :=
  match (getPair k p d).dt with
  | some { high := h, off := off, on := none } =>
    let gap := max off tc - off
    if wordField (getPair k p d).adtReg 16 14 < gap then
      noCross k p (updPair k p (fun x => { x with dt := some { high := h, off := off, on := some (off + wordField x.adtReg 16 14) } }) d)
    else
    let note := fun (e : Nat × Nat × Nat × Nat) =>
      (if e.2.2.1 = 0 then gap else min e.1 gap, max e.2.1 gap, e.2.2.1 + 1, e.2.2.2)
    d |> updPair k p (fun x => { x with dt := some { high := h, off := off, on := some (adaptiveOn x off (off + gap)) } })
      |> updMon k (fun m => { m with dt := kupd m.dt p (0, 0, 0, 0) note })
  | _ => d

def execNodeCrossing (spoke pair at_ : Nat) (s : State) : Host.Outcome State Fault Refusal :=
  onUnit spoke pair 12 (nodeCrossing spoke pair at_) s

/-- DT_MAX_EXPIRY: no crossing came. -/
def dtMaxEnd (k p : Nat) (d : Dev) : Dev :=
  let x := getPair k p d
  match x.dt with
  | some { high := _, off := off, on := none } =>
    let f := off + wordField x.adtReg 16 14
    if spokePt k d < f / 32 then d
    else d |> noCross k p |> deadEnd k p f
  | _ => d

def execDtMaxExpiry (spoke pair : Nat) (s : State) : Host.Outcome State Fault Refusal := onUnit spoke pair 12 (dtMaxEnd spoke pair) s

/-- BOOTSTRAP_REFRESH: the high output has been on for REFRESH_INT (R322). -/
def refreshFalls (k p : Nat) (d : Dev) : Dev :=
  let n := getF (F.PWM_REFRESH.REFRESH_INT k p) d
  match (getPair k p d).highSince with
  | some h => if n = 0 || spokePt k d < h + us n then d else updPair k p (fun x => { x with refreshDue := true }) d
  | none => d

def execBootstrapRefresh (spoke pair : Nat) (s : State) : Host.Outcome State Fault Refusal := onUnit spoke pair 12 (refreshFalls spoke pair) s

/-- TRIP: trip input 0 to 3 of a spoke becomes active. -/
def execTrip (spoke input : Nat) (s : State) : Host.Outcome State Fault Refusal := onUnit spoke input 4 (tripInput spoke input true) s

/-- CLEAR. -/
def execClear (spoke pair : Nat) (s : State) : Host.Outcome State Fault Refusal := onUnit spoke pair 12 (setUp (clearPair spoke pair)) s

end Sys2Proof.Machine
end

