-- ==== Sys2Proof/Machine/LoopCmds.lean ====
section
/-! DEFINITION. Meanings of the control-loop commands and of the spoke's inputs (08_control_loops.md). -/
namespace Sys2Proof.Machine

/-! ### LOOP ring (R294 to R298) -/

/-- The hub passes a loop command to its spoke in a CMD frame and waits 10 ms for the answer; over a link that is down nothing passes. -/
def passLoop (i : Nat) (x : InDesc) (c : LoopCmd) (d : Dev) : Dev :=
  let k := paramBits x 24 0 3
  let d := updDesc i x.index (fun x => { x with stage := .waiting, aux := d.pt + ms 10 }) d
  if (getLink k d).up then linkSend k .hub (.cmd (.loop (paramBits x 25 0 5) i x.index c)) d else d

/-- LOOP_SETPOINT. -/
def execLoopSetpoint (ring : Nat) (s : State) : Host.Outcome State Fault Refusal :=
  onHub ring 32 (startDesc ring 0x60 fun x => passLoop ring x (.setpoint (paramBits x 26 0 3) (signedOf 32 (paramAt x 28 4)))) s

/-- LOOP_MODE. -/
def execLoopMode (ring : Nat) (s : State) : Host.Outcome State Fault Refusal :=
  onHub ring 32 (startDesc ring 0x61 fun x => passLoop ring x (.mode (paramBits x 26 0 2) (paramBits x 26 2 1 == 1))) s

/-- LOOP_COEFF. -/
def execLoopCoeff (ring : Nat) (s : State) : Host.Outcome State Fault Refusal :=
  onHub ring 32 (startDesc ring 0x62 fun x => passLoop ring x (match paramBits x 26 0 2 with
    | 0 => .block x.buf
    | 1 => .table false x.buf
    | 2 => .table true x.buf
    | _ => .unload)) s

/-- A loop command without an answer for 10 ms. -/
def loopCmdTimeout (i index : Nat) (d : Dev) : Dev :=
  match inFlight i index d with
  | none => d
  | some x =>
    if ringClass i d = 6 && x.stage == .waiting && decide (x.aux ≤ d.pt) then complete i index stTimeout 0 [] d else d

/-- LOOP_COMMAND_TIMEOUT. -/
def execLoopCommandTimeout (ring index : Nat) (s : State) : Host.Outcome State Fault Refusal := onHub ring 32 (loopCmdTimeout ring index) s

/-! ### Samples (R265 to R268) -/

/-- The timer of a loop triggers at every multiple of PERIOD (R265). A compare-triggered loop is triggered by its compare match. -/
def timerTrigger (k l : Nat) (d : Dev) : Dev :=
  match loopBlock k l d with
  | none => d
  | some b =>
    match gridReached b.period 0 (spokePt k d) with
    | none => d
    | some t => if b.trigCmp || (getLoop k l d).trigAt.any (fun u => decide (t ≤ u)) then d else d |> writeDue k |> loopTrigger k l |> laneServe k

/-- LOOP_TRIGGER. -/
def execLoopTrigger (spoke loop : Nat) (s : State) : Host.Outcome State Fault Refusal := onUnit spoke loop 24 (timerTrigger spoke loop) s

/-- TRIGGER_TIMEOUT. -/
def execTriggerTimeout (spoke loop : Nat) (s : State) : Host.Outcome State Fault Refusal := onUnit spoke loop 24 (triggerTimeout spoke loop) s

/-- CONVERSION_DONE with the code measured. -/
def execConversionDone (spoke ain code : Nat) (s : State) : Host.Outcome State Fault Refusal :=
  onUnit spoke ain 16 (convDone spoke ain (min code 4095)) s

/-- SAMPLE_COMPUTED. -/
def execSampleComputed (spoke loop : Nat) (s : State) : Host.Outcome State Fault Refusal := onUnit spoke loop 24 (sampleDone spoke loop) s

/-! ### Inputs (R273 to R275) -/

/-- PULSE_EDGE; `width` is the pulse's width in ticks, for the glitch filter. -/
def execPulseEdge (spoke input width : Nat) (s : State) : Host.Outcome State Fault Refusal := onUnit spoke input 8 (pulseEdge spoke input width) s

/-- ENCODER_EDGE; `lines` is A, B and Z, or U, V and W, after the change. -/
def execEncoderEdge (spoke enc lines width : Nat) (s : State) : Host.Outcome State Fault Refusal :=
  onUnit spoke enc 3 (encEdge spoke enc (lines % 8) width) s

/-- SPI_POLL. -/
def execSpiPoll (spoke port : Nat) (s : State) : Host.Outcome State Fault Refusal := onUnit spoke port 2 (spiPoll spoke port) s

/-- SPI_FRAME_DONE with the bytes received. -/
def execSpiFrameDone (spoke port : Nat) (bytes : List Byte) (s : State) : Host.Outcome State Fault Refusal :=
  onUnit spoke port 2 (spiDone spoke port bytes) s

end Sys2Proof.Machine
end

