-- ==== Sys2Proof/Machine/GnssCmds.lean ====
section
/-! DEFINITION. Meanings of the GNSS and time-unit commands (10_gnss_and_time.md). -/
namespace Sys2Proof.Machine

/-! ### Basebands (R331 to R345) -/

/-- SCLK_CHECK with the deviation in 0.01 ppm; none: no edge came. -/
def execSclkCheck (spoke : Nat) (ppm : Option Int) (s : State) : Host.Outcome State Fault Refusal := onSpoke spoke (sclkCheck spoke ppm) s

/-- AGC_UPDATE: of `total` components, `large` have magnitude 4 or more. -/
def execAgcUpdate (spoke large total : Nat) (s : State) : Host.Outcome State Fault Refusal := onSpoke spoke (agcUpdate spoke large total) s

/-- ACQUISITION_DETECTION. -/
def execAcquisitionDetection (spoke sys prn : Nat) (doppler : Int) (s : State) : Host.Outcome State Fault Refusal :=
  onSpoke spoke (acquire spoke sys prn doppler) s

/-- LOCK_ACHIEVED. -/
def execLockAchieved (spoke chan : Nat) (doppler : Int) (s : State) : Host.Outcome State Fault Refusal :=
  onUnit spoke chan 24 (lockAchieved spoke chan doppler) s

/-- PULL_IN_TIMEOUT. -/
def execPullInTimeout (spoke chan : Nat) (s : State) : Host.Outcome State Fault Refusal := onUnit spoke chan 24 (pullInTimeout spoke chan) s

/-- LOSS_OF_LOCK with the last Doppler, the greatest C/N0 of the last `low` ticks, and how long a lock indicator has failed. -/
def execLossOfLock (spoke chan : Nat) (doppler : Int) (cn0 low fail : Nat) (s : State) : Host.Outcome State Fault Refusal :=
  onUnit spoke chan 24 (lossOfLock spoke chan doppler cn0 low fail) s

/-- SIDE_PEAK_SHIFT toward the very-late tap, or the very-early one. -/
def execSidePeakShift (spoke chan : Nat) (late : Bool) (tap prompt lasting : Nat) (s : State) : Host.Outcome State Fault Refusal :=
  onUnit spoke chan 24 (sidePeak spoke chan late tap prompt lasting) s

/-- NOTCH_LOCK onto a bin `db` dB above the median, at `freq` kHz. -/
def execNotchLock (spoke notch : Nat) (freq : Int) (db : Nat) (s : State) : Host.Outcome State Fault Refusal :=
  onUnit spoke notch 3 (notchLock spoke notch freq db) s

/-- NOTCH_RELEASE. -/
def execNotchRelease (spoke notch : Nat) (db : Int) (lasting : Nat) (s : State) : Host.Outcome State Fault Refusal :=
  onUnit spoke notch 3 (notchRelease spoke notch db lasting) s

/-- JI_EVALUATION with e of R344 in dB. -/
def execJiEvaluation (spoke : Nat) (level : Int) (s : State) : Host.Outcome State Fault Refusal := onSpoke spoke (jiEvaluation spoke level) s

/-! ### Epochs (R346 to R351) -/

/-- EPOCH with what each enabled spoke measured. -/
def execEpoch (meas : List (Nat × SpokeMeas)) (s : State) : Host.Outcome State Fault Refusal := run (latchEpoch meas) s

/-- Place an epoch record in the oldest fetched GNSS_BUFFER that holds it (R348, R546). -/
def placeEpoch (bytes : List Byte) : Nat → Dev → Dev
  | 0, d => d
  | n + 1, d =>
    match waitingBuffer 7 0x70 none d with
    | none => d |> noBuf 7 none |> raise F.TIM_STATUS.EPOCH_DROP
    | some (i, x) =>
      if x.len < bytes.length then placeEpoch bytes n (putCompletion i x stBadLength bytes.length [] d)
      else putCompletion i x stOk 0 bytes d

/-- EPOCH_RECORD: the record goes out, or is dropped; EPOCH_SEQ counts both (R348, R349; log entry 140). -/
def epochPlaced (d : Dev) : Dev :=
  match d.time.epoch with
  | none => d
  | some e =>
    let waiting := ringList.foldl (fun n i => n + (getRing i d).inflight.length) 1
    let d' := updTime (fun t => { t with epoch := none, epochSeq := (t.epochSeq + 1) % 2 ^ 32 }) d
    placeEpoch (epochRecord d.time.epochSeq e) waiting d'

def execEpochRecord (s : State) : Host.Outcome State Fault Refusal := run epochPlaced s

/-- GNSS_BUFFER. -/
def execGnssBuffer (ring : Nat) (s : State) : Host.Outcome State Fault Refusal := onHub ring 32 (waitDesc ring 0x70) s

/-! ### Field time and the time pulse (R353 to R361) -/

/-- TIME_CORR. -/
def execTimeCorr (ring : Nat) (s : State) : Host.Outcome State Fault Refusal :=
  onHub ring 32 (startDesc ring 0x11 fun x d =>
    let kind := paramBits x 24 0 2
    let v := if kind = 2 then 0 else signedOf 64 (paramAt x 36 8)
    let (r, d) := timeCorr kind (paramBits x 24 2 1 == 1) (paramAt x 28 8) v (signedOf 32 (paramAt x 44 4)) (paramAt x 48 4) d
    complete ring x.index r.1 r.2 [] d) s

/-- SLEW_DONE. -/
def execSlewDone (s : State) : Host.Outcome State Fault Refusal := run slewDone s

/-- TIME_PULSE: a whole second plus OFFSET, or a pulse boundary. -/
def execTimePulse (s : State) : Host.Outcome State Fault Refusal := run timePulse s

/-- PULSE_END. -/
def execPulseEnd (s : State) : Host.Outcome State Fault Refusal := run pulseEnd s

/-- AUTO_HOLD_EXPIRY. -/
def execAutoHoldExpiry (s : State) : Host.Outcome State Fault Refusal := run autoHold s

end Sys2Proof.Machine
end

