-- ==== Sys2Proof/Machine/RingCmds.lean ====
section
/-! DEFINITION. Meanings of the ring-engine commands, of NOP, ARM and DISARM (03_host_rings.md, R70 to R75, R437). -/
namespace Sys2Proof.Machine

/-! ### Polls, fetches and buffers (R97 to R112) -/

/-- DOORBELL_POLL. -/
def execDoorbellPoll (s : State) : Host.Outcome State Fault Refusal := run doorbellPoll s

/-- DOORBELL_READ_COMPLETE. -/
def execDoorbellReadComplete (result : ReadResult) (s : State) : Host.Outcome State Fault Refusal := run (doorbellRead result) s

/-- DESCRIPTOR_ARRIVAL. -/
def execDescriptorArrival (ring : Nat) (result : ReadResult) (s : State) : Host.Outcome State Fault Refusal :=
  onHub ring 32 (descArrival ring result) s

/-- BUFFER_READ_DONE. -/
def execBufferReadDone (ring index : Nat) (result : ReadResult) (s : State) : Host.Outcome State Fault Refusal :=
  onHub ring 32 (bufferRead ring index result) s

/-- A request of the device gets no completion (R89, R100, R134). -/
def requestTimeout (q : HostReq) (d : Dev) : Dev :=
  let d := match q with
    | .buffer .. => readsEnded q d
    | _ => readEnded q d
  match q with
  | .descriptor i =>
    let g := getRing i d
    if decide (g.head < g.issued) then ringError i 2 g.head d else d
  | .buffer i index =>
    match inFlight i index d with
    | some x => if x.stage == .reading then ringError i 7 index d else d
    | none => d
  | .doorbell => if d.host.polling then pollEnd true d else d
  | .atomic => casCompletion .abort d

/-- COMPLETION_TIMEOUT. -/
def execCompletionTimeout (request : HostReq) (s : State) : Host.Outcome State Fault Refusal :=
  match request with
  | .descriptor i => onHub i 32 (requestTimeout request) s
  | .buffer i _ => onHub i 32 (requestTimeout request) s
  | .doorbell => run (requestTimeout request) s
  | .atomic => run (requestTimeout request) s

/-- MODERATION_TIMER. -/
def execModerationTimer (ring : Nat) (s : State) : Host.Outcome State Fault Refusal := onHub ring 32 (moderationTimer ring) s

/-- The vectors of the sources deliverable to the host. -/
def liveVectors (d : Dev) : List Nat := uniq ((List.range 1024).filterMap fun s => srcVector s d)

/-- The word of MSI-X control takes Enable and the function mask: Enable set or the mask cleared counts as every deliverable source becoming so
(R436), and what can be sent with both as they now are is sent (R437). -/
def msixControl (enable mask : Bool) (d : Dev) : Dev :=
  let again := (enable && !d.pcie.msixEnable) || (!mask && d.pcie.funcMask)
  let d := { d with pcie := { d.pcie with msixEnable := enable, funcMask := mask } }
  d |> whenD again (fun d => eachD (liveVectors d) msixSend d) |> msixRelease

/-- A change at the MSI-X side; what can be sent now is sent (R437). -/
def msixChange (c : MsixChange) (d : Dev) : Dev :=
  let p := d.pcie
  match c with
  | .vector v masked =>
    msixRelease { d with pcie := { p with unmasked := if masked then p.unmasked.filter (· != v) else v :: p.unmasked.filter (· != v) } }
  | .enable on => msixControl on p.funcMask d
  | .functionMask on => msixControl p.msixEnable on d
  | .linkUp => msixRelease { d with pcie := { p with linkUp := true } }

/-- MSIX_UNMASK. The function has 64 vectors (R86). -/
def execMsixUnmask (change : MsixChange) (s : State) : Host.Outcome State Fault Refusal :=
  match change with
  | .vector v _ => onHub v 64 (msixChange change) s
  | .enable _ => run (msixChange change) s
  | .functionMask _ => run (msixChange change) s
  | .linkUp => run (msixChange change) s

/-! ### Ring commands (R131 to R135) -/

/-- A write of HIF_RING_CTL of ring i: in restricted service only that of a permitted ring takes effect (R69). -/
def ringWrite (i : Nat) (f : Dev → Dev) (d : Dev) : Dev := if pstate d = .restricted && !classRestricted (ringClass i d) then d else f d

/-- RING_START. -/
def execRingStart (ring : Nat) (s : State) : Host.Outcome State Fault Refusal := onHub ring 32 (ringWrite ring (ringStart ring)) s

/-- A fetched descriptor that a STOP withdraws: of a waiting opcode without its event, or a CAN_SEND that has not entered the FIFO. -/
def stopWithdraws (x : InDesc) : Bool :=
  (opWaits x.opcode && !(x.stage == .waiting && x.aux != 0)) || (x.opcode == 0x80 && x.stage != .waiting)

/-- STOP (R133): the frames of a CAN_TX ring that have not started on the bus are withdrawn. -/
def ringStop (i : Nat) (d : Dev) : Dev :=
  if ringState i d != .running then raise (F.HIF_RING_STATUS.START_REFUSED i) d
  else
    let d := setRingState i .stopping d
    let mine := fun (e : TxEntry) => match e.from_ with
      | .send j _ => j == i
      | _ => false
    let d := if ringClass i d = 8 then (withdraw (ringInstance i d) mine d).1 else d
    eachD ((getRing i d).inflight.filter stopWithdraws) (fun x => complete i x.index stAborted 0 []) d

/-- RING_STOP. -/
def execRingStop (ring : Nat) (s : State) : Host.Outcome State Fault Refusal := onHub ring 32 (ringWrite ring (ringStop ring)) s

/-- RING_STOPPED. -/
def execRingStopped (ring : Nat) (s : State) : Host.Outcome State Fault Refusal := onHub ring 32 (ringStopped ring) s

/-- RESET (R135). -/
def ringReset (i : Nat) (d : Dev) : Dev :=
  if ringState i d == .stopped || ringState i d == .error then issueReads (ringClear i d) else raise (F.HIF_RING_STATUS.START_REFUSED i) d

/-- RING_RESET. -/
def execRingReset (ring : Nat) (s : State) : Host.Outcome State Fault Refusal := onHub ring 32 (ringWrite ring (ringReset ring)) s

/-- A write to HIF_CFG (R89). -/
def writeHifCfg (v : Nat) (d : Dev) : Dev :=
  let period := v % 1024
  let on := v.testBit 10
  d |> whenD (decide (5 ≤ period) && decide (period ≤ 1000)) (setF F.HIF_CFG.DB_PERIOD period)
    |> flag F.HIF_CFG.ATOMIC_EN on
    |> (fun d => if on then { d with eng := { d.eng with casWithdrawn := false } } else d)
    |> settleAtomics

/-- HIF_CFG_WRITE, with the AtomicOp Requester Enable bit as configuration software has set it. -/
def execHifCfgWrite (value : Word) (requester : Bool) (s : State) : Host.Outcome State Fault Refusal :=
  run (fun d => writeHifCfg value.toNat { d with pcie := { d.pcie with atomicReq := requester } }) s

/-! ### NOP, ARM, DISARM (R70 to R75, R111, R114, R115) -/

/-- NOP. -/
def execNop (ring : Nat) (s : State) : Host.Outcome State Fault Refusal :=
  onHub ring 32 (startDesc ring 0x00 fun x => complete ring x.index stOk 0 []) s

/-- An arm descriptor is accepted or refused. -/
def armDesc (i : Nat) (x : InDesc) (d : Dev) : Dev :=
  if isArmed d then complete i x.index stOk 1 [] d
  else
    match armRefusal d.eng.table.isSome d with
    | 0 => d |> holdDesc i x |> updPwr (fun p => { p with armAccepted := p.armAccepted ++ [(i, x.index)] })
    | c => d |> setF F.PWR_ARM.REFUSE c |> complete i x.index stNotArmed c []

/-- ARM. -/
def execArm (ring : Nat) (s : State) : Host.Outcome State Fault Refusal := onHub ring 32 (startDesc ring 0x50 (armDesc ring)) s

/-- A disarm descriptor. -/
def disarmDesc (i : Nat) (x : InDesc) (d : Dev) : Dev :=
  if isArmed d then d |> holdDesc i x |> updPwr (fun p => { p with disarmWait := p.disarmWait ++ [(i, x.index)] })
  else complete i x.index stOk 1 [] d

/-- DISARM. -/
def execDisarm (ring : Nat) (s : State) : Host.Outcome State Fault Refusal := onHub ring 32 (startDesc ring 0x51 (disarmDesc ring)) s

end Sys2Proof.Machine
end

