-- ==== Sys2Proof/Machine/FirmwareCmds.lean ====
section
/-! DEFINITION. Meanings of the firmware-ring commands (R116 to R120). -/
namespace Sys2Proof.Machine

/-! ### The staged set -/

/-- The bytes of the staged set: those no chunk has written read as 0 (R117). -/
def stagedBytes (s : State) : List Byte := memReadBytes s.mem.fwSet 0 s.dev.host.fwLength

/-- The checks of FW_COMMIT in order (R118): the DETAIL, 0 where all pass. -/
def commitDetail (x : Option ImageSet) (c : Chip) : Nat :=
  match x with
  | none => 1
  | some x =>
    if !layoutOk x then 1
    else
      match (x.images.map (imageDetail · c)).find? fun n => n != 0 with
      | some n => n
      | none => if x.manifest.any fun e => e.hub == genOf x 1 && e.spoke == genOf x 2 && e.ucode == genOf x 3 then 0 else 6

/-! ### Session, commit and activation -/

/-- FW_BEGIN (R116). -/
def fwBegin (i : Nat) (s : State) : State :=
  match nextDesc i s.dev with
  | some x =>
    if x.opcode != 0xB0 then s
    else if s.dev.host.fwOpen then { s with dev := complete i x.index stBusy 0 [] s.dev }
    else
      { s with mem := { s.mem with fwSet := [] },
               dev := complete i x.index stOk 0 [] (updHost (fun h => { h with fwOpen := true, fwLength := paramAt x 24 4 }) s.dev) }
  | none => s

def execFwBegin (ring : Nat) (s : State) : Host.Outcome State Fault Refusal := onHub ring 32 id (fwBegin ring s)

/-- FW_CHUNK (R117). -/
def fwChunk (i : Nat) (s : State) : State :=
  match nextDesc i s.dev with
  | some x =>
    let off := paramAt x 24 4
    if x.opcode != 0xB1 then s
    else if s.dev.host.fwLength < off + x.len && s.dev.host.fwOpen then { s with dev := complete i x.index stBadLength 0 [] s.dev }
    else if !s.dev.host.fwOpen then { s with dev := complete i x.index stAborted 0 [] s.dev }
    else { s with mem := { s.mem with fwSet := memWriteBytes s.mem.fwSet off x.buf }, dev := complete i x.index stOk 0 [] s.dev }
  | none => s

def execFwChunk (ring : Nat) (s : State) : Host.Outcome State Fault Refusal := onHub ring 32 id (fwChunk ring s)

/-- The session closes. -/
def fwClose (d : Dev) : Dev := updHost (fun h => { h with fwOpen := false, fwLength := 0, flashCommit := none }) d

/-- The set is in the image store, and the commit completes; an activation follows (R118 to R120). -/
def commitPlaced (i index : Nat) (act : Bool) (x : ImageSet) (s : State) : State :=
  let d := s.dev |> fwClose |> updPwr (fun p => { p with store := x, storeValid := true })
    |> updHost (fun h => { h with fwCommitted := true, staged := {} })
  if !act then { s with dev := complete i index stOk 0 [] d }
  else if isArmed d then { s with dev := complete i index stBusy 8 [] d }
  else if pstate d = .images && isSet F.PWR_STATE.IMG_WAIT d then { s with dev := imagesDone (complete i index stOk 0 [] d) }
  else restart { s with dev := complete i index stOk 0 [] d }

/-- FW_COMMIT (R118). -/
def fwCommit (i : Nat) (defaults : List (Nat × Word)) (role : Option (List Byte)) (s : State) : State :=
  match nextDesc i s.dev with
  | some x =>
    if x.opcode != 0xB2 then s
    else if !s.dev.host.fwOpen || s.dev.host.flashCommit.isSome then { s with dev := complete i x.index stAborted 0 [] s.dev }
    else
      let parsed := (parseSet s.dev.chip (stagedBytes s)).map fun x =>
        if x.images.any fun v => v.kind == 5 then { x with defaults := defaults, role := role } else x
      let set := parsed.getD {}
      let act := paramBits x 24 1 1 == 1
      match commitDetail parsed s.dev.chip with
      | 0 =>
        if paramBits x 24 0 1 == 0 then commitPlaced i x.index act set s
        else
          let p := s.dev.pwr
          let (v, d) := if p.seqA = p.seqB then fresh s.dev else (if p.seqA < p.seqB then 0 else 1, s.dev)
          let setB := v % 2 == 1
          let d := d |> holdDesc i x |> emit (.flashWrite setB)
            |> updHost (fun h => { h with flashCommit := some (i, x.index, act), staged := { set with seq := if setB then 1 else 0 } })
          { s with dev := d }
      | c => { s with dev := s.dev |> fwClose |> crcFail 16 i x.index |> complete i x.index stBadCrc c [] }
  | none => s

def execFwCommit (ring : Nat) (defaults : List (Nat × Word)) (role : Option (List Byte)) (s : State) :
    Host.Outcome State Fault Refusal := onHub ring 32 id (fwCommit ring defaults role s)

/-- The flash write of a commit ends (R118): the set written gets the higher sequence number plus 1. -/
def flashDone (good : Bool) (s : State) : State :=
  match s.dev.host.flashCommit with
  | none => s
  | some (i, index, act) =>
    let set := s.dev.host.staged
    if good then
      let n := max s.dev.pwr.seqA s.dev.pwr.seqB + 1
      let d := updPwr (fun p => if set.seq = 1 then { p with seqB := n } else { p with seqA := n }) s.dev
      commitPlaced i index act { set with seq := n } { s with dev := d }
    else { s with dev := complete i index stTimeout 7 [] (fwClose (updHost (fun h => { h with staged := {} }) s.dev)) }

/-- FLASH_WRITE_DONE. -/
def execFlashWriteDone (good : Bool) (s : State) : Host.Outcome State Fault Refusal := run id (flashDone good s)

/-- FW_ACTIVATE (R119). -/
def fwActivate (i : Nat) (s : State) : State :=
  match nextDesc i s.dev with
  | some x =>
    if x.opcode != 0xB3 then s
    else if !s.dev.host.fwCommitted then { s with dev := complete i x.index stAborted 0 [] s.dev }
    else if isArmed s.dev then { s with dev := complete i x.index stBusy 0 [] s.dev }
    else restart { s with dev := complete i x.index stOk 0 [] s.dev }
  | none => s

def execFwActivate (ring : Nat) (s : State) : Host.Outcome State Fault Refusal := onHub ring 32 id (fwActivate ring s)

end Sys2Proof.Machine
end

