-- ==== Sys2Proof/Machine/EngineCmds.lean ====
section
/-! DEFINITION. Meanings of the registration commands: poses, the table, the field, tiles, proof mode, forces and reports
(04_implement_and_pose.md, 05_registration_decisions.md). -/
namespace Sys2Proof.Machine

/-! ### Pose, table and field (R143 to R156) -/

/-- A pose descriptor whose record, if any, is in (R155, R156); a leader broadcasts it (R412). With LENGTH 0 it has no record, whatever ADDR
holds (log entry 153). -/
def poseDesc (i : Nat) (x : InDesc) (d : Dev) : Dev :=
  let p := poseOf x.param (paramBits x 56 0 1 == 1)
  let withRec := x.len != 0
  if d.pt < p.tag || (withRec && recordBad x.buf d) then complete i x.index stBadLength 0 [] d
  else
    let rec_ := if withRec then some (recordCoeffs x.buf) else none
    let (detail, d) := poseAccept p rec_ d
    let d := whenD (detail % 2 == 0) (poseBroadcast p rec_) d
    complete i x.index stOk detail [] d

/-- POSE. -/
def execPose (ring : Nat) (s : State) : Host.Outcome State Fault Refusal := onHub ring 32 (startDesc ring 0x10 (poseDesc ring)) s

/-- TABLE_LOAD. -/
def execTableLoad (ring : Nat) (s : State) : Host.Outcome State Fault Refusal := onHub ring 32 id (tableLoad ring s)

/-- TABLE_COMMIT. -/
def execTableCommit (ring : Nat) (s : State) : Host.Outcome State Fault Refusal := onHub ring 32 (tableCommit ring) s

/-- TABLE_CHECKS_DONE. -/
def execTableChecksDone (s : State) : Host.Outcome State Fault Refusal := run (tableChecked s.mem.staging) s

/-- FIELD_SET (R143). -/
def fieldDesc (i : Nat) (x : InDesc) (d : Dev) : Dev := if isArmed d then complete i x.index stBusy 0 [] d else awaitCycle i x d

def execFieldSet (ring : Nat) (s : State) : Host.Outcome State Fault Refusal := onHub ring 32 (startDesc ring 0x22 (fieldDesc ring)) s

/-- RATE_TABLE (R175). -/
def execRateTable (ring : Nat) (s : State) : Host.Outcome State Fault Refusal := onHub ring 32 (startDesc ring 0x23 (awaitCycle ring)) s

/-! ### Tiles (R177 to R187, R201 to R207) -/

/-- TILE_PUSH: checked, and installed at the next cycle start (R177, R178). -/
def pushDesc (i : Nat) (x : InDesc) (d : Dev) : Dev :=
  match pushCheck x d with
  | 0 => awaitCycle i x d
  | c => complete i x.index stBadLength c [] d

def execTilePush (ring : Nat) (s : State) : Host.Outcome State Fault Refusal := onHub ring 32 (startDesc ring 0x30 (pushDesc ring)) s

/-- TILE_REQUEST. -/
def execTileRequest (ring : Nat) (s : State) : Host.Outcome State Fault Refusal := onHub ring 32 (waitDesc ring 0x31) s

/-- TILE_INVALIDATE. -/
def execTileInvalidate (ring : Nat) (s : State) : Host.Outcome State Fault Refusal := onHub ring 32 (startDesc ring 0x32 (awaitCycle ring)) s

/-- WB_BUFFER. -/
def execWbBuffer (ring : Nat) (s : State) : Host.Outcome State Fault Refusal := onHub ring 32 (waitDesc ring 0x40) s

/-- MISS_GRACE_EXPIRY. -/
def execMissGraceExpiry (outlet : Nat) (s : State) : Host.Outcome State Fault Refusal := onHub outlet 2048 (missGraceExpiry outlet) s

/-- PREFETCH_WALK. -/
def execPrefetchWalk (s : State) : Host.Outcome State Fault Refusal := run prefetchWalk s

/-- DECISION_REPORT. -/
def execDecisionReport (s : State) : Host.Outcome State Fault Refusal := run decisionReport s

/-- MARK_HOLD_EXPIRY. -/
def execMarkHoldExpiry (tileE tileN : Int) (s : State) : Host.Outcome State Fault Refusal := run (markHoldExpiry tileE tileN) s

/-- WB_IDLE. -/
def execWbIdle (tileE tileN : Int) (s : State) : Host.Outcome State Fault Refusal := run (wbIdle tileE tileN) s

/-- WB_MAX_AGE. -/
def execWbMaxAge (tileE tileN : Int) (s : State) : Host.Outcome State Fault Refusal := run (wbMaxAge tileE tileN) s

/-- TILE_WRITE_BACK. -/
def execTileWriteBack (tileE tileN : Int) (s : State) : Host.Outcome State Fault Refusal := run (tileWriteBack tileE tileN) s

/-- CAS_COMPLETION. -/
def execCasCompletion (result : ReadResult) (s : State) : Host.Outcome State Fault Refusal := run (casCompletion result) s

/-- INVALIDATE_TIMEOUT. -/
def execInvalidateTimeout (tileE tileN : Int) (s : State) : Host.Outcome State Fault Refusal := run (invalidateTimeout tileE tileN) s

/-! ### Proof mode and forces (R195, R196) -/

/-- PROOF. -/
def execProof (ring : Nat) (s : State) : Host.Outcome State Fault Refusal := onHub ring 32 (startDesc ring 0x52 (awaitCycle ring)) s

/-- An entry of a force list names no outlet of the table, or sets a reserved bit. -/
def forceBad (x : InDesc) (j : Nat) (d : Dev) : Bool :=
  let e := forceEntry x j
  decide ((outlets d).length ≤ e.1) || decide (3 ≤ e.2.1) || leAt x.buf (8 * j + 3) 1 != 0 || leAt x.buf (8 * j + 6) 2 != 0

/-- OUTLET_FORCE (R195). -/
def forceDesc (i : Nat) (x : InDesc) (d : Dev) : Dev :=
  if (List.range (x.len / 8)).any fun j => forceBad x j d then complete i x.index stBadLength 0 [] d else awaitCycle i x d

def execOutletForce (ring : Nat) (s : State) : Host.Outcome State Fault Refusal := onHub ring 32 (startDesc ring 0x53 (forceDesc ring)) s

end Sys2Proof.Machine
end

