-- ==== Sys2Proof/Machine/CanCmds.lean ====
section
/-! DEFINITION. Meanings of the CAN commands (11_can_controllers.md); `ctl` is the controller, 0 CAN-A to 3 CAN-D. -/
namespace Sys2Proof.Machine

/-! ### Set-up and bus state (R365 to R372, R388) -/

/-- CAN_ENABLE. -/
def execCanEnable (ctl : Nat) (s : State) : Host.Outcome State Fault Refusal := onHub ctl 4 (setUp (canEnable ctl)) s

/-- CAN_DISABLE. -/
def execCanDisable (ctl : Nat) (s : State) : Host.Outcome State Fault Refusal := onHub ctl 4 (setUp (canDisable ctl)) s

/-- HALT_CLEAR. -/
def execHaltClear (ctl : Nat) (s : State) : Host.Outcome State Fault Refusal := onHub ctl 4 (setUp (haltClear ctl)) s

/-- BUS_INTEGRATION. -/
def execBusIntegration (ctl : Nat) (s : State) : Host.Outcome State Fault Refusal := onHub ctl 4 (busIntegration ctl) s

/-- PROTOCOL_EXCEPTION. -/
def execProtocolException (ctl : Nat) (s : State) : Host.Outcome State Fault Refusal := onHub ctl 4 (protocolException ctl) s

/-- BUS_OFF_RECOVERY. -/
def execBusOffRecovery (ctl : Nat) (s : State) : Host.Outcome State Fault Refusal := onHub ctl 4 (busOffRecovery ctl) s

/-- RECOVER. -/
def execRecover (ctl : Nat) (s : State) : Host.Outcome State Fault Refusal := onHub ctl 4 (setUp (canRecover ctl)) s

/-- FILTER_WORD2_WRITE of an extended filter element. -/
def execFilterWord2Write (ctl elem : Nat) (value : Word) (s : State) : Host.Outcome State Fault Refusal :=
  if ctl < 4 then onHub elem 64 (setUp (extFilterWrite ctl elem 2 value)) s else .fault (.absentUnit ctl)

/-! ### Frames (R377 to R387) -/

/-- FRAME_VALID with the stamp of its start of frame. -/
def execFrameValid (ctl : Nat) (frame : CanFrame) (stamp : Nat) (s : State) : Host.Outcome State Fault Refusal :=
  onHub ctl 4 (fun d => if canCut ctl d then d else frameValid ctl frame stamp d) s

/-- ARBITRATION. -/
def execArbitration (ctl : Nat) (s : State) : Host.Outcome State Fault Refusal := onHub ctl 4 (arbitration ctl) s

/-- A frame was sent; in a loop-back the controller receives it too (R529). -/
def frameTransmitted (c stamp delay : Nat) (d : Dev) : Dev :=
  match busEntry c d with
  | none => d
  | some e =>
    let d := frameSent c stamp delay d
    if canLooped c d then countF F.PWR_LB_RESULT.VALUE (frameValid c e.frame stamp d) else d

/-- FRAME_TRANSMITTED with the stamp of its start of frame and the transmitter delay measured. -/
def execFrameTransmitted (ctl stamp delay : Nat) (s : State) : Host.Outcome State Fault Refusal := onHub ctl 4 (frameTransmitted ctl stamp delay) s

/-- ATTEMPT_FAILED with the error code of R390, the bit rate and field it arose in; `eights`: how often ISO 11898-1 raises the transmit error
counter by 8, for the error and for bit errors and dominant bits in and after the flag; 0 in its exceptions. -/
def execAttemptFailed (ctl err : Nat) (data : Bool) (field : CanField) (eights : Nat) (delay : Option Nat) (s : State) :
    Host.Outcome State Fault Refusal :=
  onHub ctl 4 (attemptFailed ctl err data field eights delay) s

/-- ARBITRATION_LOST. -/
def execArbitrationLost (ctl : Nat) (s : State) : Host.Outcome State Fault Refusal := onHub ctl 4 (lostArbitration ctl) s

/-- RECEIVE_ERROR with how far ISO 11898-1 raises the counters. -/
def execReceiveError (ctl err : Nat) (data : Bool) (steps : IsoSteps) (s : State) : Host.Outcome State Fault Refusal :=
  onHub ctl 4 (receiveError ctl err data steps) s

/-- SUMMARY_PERIOD. -/
def execSummaryPeriod (ctl : Nat) (s : State) : Host.Outcome State Fault Refusal := onHub ctl 4 (summaryPeriod ctl) s

/-! ### Rings (R379, R384, R386) -/

/-- CAN_SEND. -/
def execCanSend (ring : Nat) (s : State) : Host.Outcome State Fault Refusal := onHub ring 32 (canSend ring) s

/-- CAN_ABORT. -/
def execCanAbort (ring : Nat) (s : State) : Host.Outcome State Fault Refusal := onHub ring 32 (canAbort ring) s

/-- CAN_BUFFER: a frame that waits goes into it at once. -/
def execCanBuffer (ring : Nat) (s : State) : Host.Outcome State Fault Refusal :=
  onHub ring 32 (fun d => drainRx (ringInstance ring d) 65 (waitDesc ring 0x90 d)) s

end Sys2Proof.Machine
end

