-- ==== Sys2Proof/Machine/SectionBusCmds.lean ====
section
/-! DEFINITION. Meanings of the Soxaek section-bus commands (12_section_bus.md). A frame command gives a frame received on CAN-B with
the stamp of its start of frame. -/
namespace Sys2Proof.Machine

/-! ### SECTION ring (R401, R405, R423) -/

/-- SB_ROLE. -/
def execSbRole (ring : Nat) (s : State) : Host.Outcome State Fault Refusal := onHub ring 32 (sbRole ring) s

/-- SB_PROBE. -/
def execSbProbe (ring : Nat) (s : State) : Host.Outcome State Fault Refusal := onHub ring 32 (sbProbe ring) s

/-- SB_BUFFER: an event that waits goes into it at once. -/
def execSbBuffer (ring : Nat) (s : State) : Host.Outcome State Fault Refusal := onHub ring 32 (fun d => soxDrain 17 (waitDesc ring 0xE2 d)) s

/-! ### Cadence (R403, R406 to R411) -/

/-- CADENCE_SEND. -/
def execCadenceSend (s : State) : Host.Outcome State Fault Refusal := run cadenceSend s

/-- CADENCE: class 0. -/
def execCadence (frame : CanFrame) (stamp : Nat) (s : State) : Host.Outcome State Fault Refusal := run (soxReceive 0 frame stamp) s

/-- CONFLICT_END. -/
def execConflictEnd (s : State) : Host.Outcome State Fault Refusal := run conflictEnd s

/-- LEADER_LOST. -/
def execLeaderLost (s : State) : Host.Outcome State Fault Refusal := run leaderLost s

/-! ### Poses, EDGE and STATE frames (R412 to R421) -/

/-- POSE_BROADCAST: class 3. -/
def execPoseBroadcast (frame : CanFrame) (stamp : Nat) (s : State) : Host.Outcome State Fault Refusal := run (soxReceive 3 frame stamp) s

/-- POSE_PARTS_TIMEOUT. -/
def execPosePartsTimeout (s : State) : Host.Outcome State Fault Refusal := run posePartsTimeout s

/-- EDGE: class 1. -/
def execEdge (frame : CanFrame) (stamp : Nat) (s : State) : Host.Outcome State Fault Refusal := run (soxReceive 1 frame stamp) s

/-- EDGE_KEEPALIVE for the follower with an address. -/
def execEdgeKeepalive (follower : Nat) (s : State) : Host.Outcome State Fault Refusal := onHub follower 64 (edgeKeepalive follower) s

/-- PLANNER_LOST. -/
def execPlannerLost (s : State) : Host.Outcome State Fault Refusal := run plannerLost s

/-- STATE: class 2. -/
def execState (frame : CanFrame) (stamp : Nat) (s : State) : Host.Outcome State Fault Refusal := run (soxReceive 2 frame stamp) s

/-- STATE_KEEPALIVE. -/
def execStateKeepalive (s : State) : Host.Outcome State Fault Refusal := run stateKeepalive s

/-- FOLLOWER_LOST of the follower with an address. -/
def execFollowerLost (follower : Nat) (s : State) : Host.Outcome State Fault Refusal := onHub follower 64 (followerLost follower) s

/-! ### Address probe (R404, R405) -/

/-- PROBE: class 4. -/
def execProbe (frame : CanFrame) (stamp : Nat) (s : State) : Host.Outcome State Fault Refusal := run (soxReceive 4 frame stamp) s

/-- DUPLICATE: class 5. -/
def execDuplicate (frame : CanFrame) (stamp : Nat) (s : State) : Host.Outcome State Fault Refusal := run (soxReceive 5 frame stamp) s

/-- PROBE_WINDOW_END. -/
def execProbeWindowEnd (s : State) : Host.Outcome State Fault Refusal := run probeEnd s

/-- PROBE_FRAME_SEND. -/
def execProbeFrameSend (s : State) : Host.Outcome State Fault Refusal := run probeFrame s

end Sys2Proof.Machine
end

