-- ==== Sys2Proof/Machine/TandemCmds.lean ====
section
/-! DEFINITION. Meanings of the tandem commands (R486 to R504). A frame command gives a frame received on the tandem link; `good` says that its
CRC passes and its TYPE is known. -/
namespace Sys2Proof.Machine

/-! ### TANDEM ring (R500 to R504) -/

/-- TDM_ATTACH. -/
def execTdmAttach (ring : Nat) (s : State) : Host.Outcome State Fault Refusal := onHub ring 32 (tdmAttach ring) s

/-- TDM_DETACH. -/
def execTdmDetach (ring : Nat) (s : State) : Host.Outcome State Fault Refusal := onHub ring 32 (tdmDetach ring) s

/-- TDM_YIELD. -/
def execTdmYield (ring : Nat) (s : State) : Host.Outcome State Fault Refusal := onHub ring 32 (tdmYield ring) s

/-- TDM_BUFFER: an event that waits goes into it at once. -/
def execTdmBuffer (ring : Nat) (s : State) : Host.Outcome State Fault Refusal := onHub ring 32 (fun d => tdmDrain 17 (waitDesc ring 0xD3 d)) s

/-! ### Heartbeats (R492, R493, R498) -/

/-- HEARTBEAT_SLOT; `readback`: TDM_HB went low and high again with the pulse. -/
def execHeartbeatSlot (readback : Bool) (s : State) : Host.Outcome State Fault Refusal := run (heartbeatSlot readback) s

/-- HEARTBEAT. -/
def execHeartbeat (good : Bool) (_slotTime flags number last : Nat) (s : State) : Host.Outcome State Fault Refusal :=
  run (tdmFrameIn good (heartbeat flags number last)) s

/-- HEARTBEAT_PULSE. -/
def execHeartbeatPulse (s : State) : Host.Outcome State Fault Refusal := run heartbeatPulse s

/-- PARTNER_PERIOD_END. -/
def execPartnerPeriodEnd (s : State) : Host.Outcome State Fault Refusal := run partnerPeriodEnd s

/-- POST_WAKE_PULSE. -/
def execPostWakePulse (s : State) : Host.Outcome State Fault Refusal := run postWakePulse s

/-! ### Shadowing (R489, R494) -/

/-- DIGEST. -/
def execDigest (good : Bool) (start digest : Nat) (s : State) : Host.Outcome State Fault Refusal := run (tdmFrameIn good (digestIn start digest)) s

/-- TANDEM_FEED. -/
def execTandemFeed (good : Bool) (events : List TdmFeed) (s : State) : Host.Outcome State Fault Refusal :=
  run (tdmFrameIn good (tandemFeed events)) s

/-- LOOPSTATE. -/
def execLoopstate (good : Bool) (loops : List TdmLoop) (s : State) : Host.Outcome State Fault Refusal := run (tdmFrameIn good (loopState loops)) s

/-- WBDONE. -/
def execWbdone (good : Bool) (tileE tileN : Int) (cycle : Nat) (s : State) : Host.Outcome State Fault Refusal :=
  run (tdmFrameIn good (wbDone tileE tileN cycle)) s

/-! ### Takeover and yield (R495 to R500) -/

/-- OUTPUTS_QUIET. -/
def execOutputsQuiet (s : State) : Host.Outcome State Fault Refusal := run outputsQuiet s

/-- QUIET_TIMEOUT at a cassette, numbered over the spokes (R496); one the part lacks reads nothing. -/
def execQuietTimeout (cas : Nat) (s : State) : Host.Outcome State Fault Refusal :=
  onHub cas 56 (fun d => whenD (decide (cas < 8 * nSpokes d)) (quietTimeout cas) d) s

/-- YIELD. -/
def execYield (good : Bool) (_start _cause : Nat) (s : State) : Host.Outcome State Fault Refusal := run (tdmFrameIn good yieldIn) s

/-- YIELD_TIMEOUT. -/
def execYieldTimeout (s : State) : Host.Outcome State Fault Refusal := run yieldTimeout s

/-- FOREIGN_DRIVE at a cassette, numbered over the spokes. -/
def execForeignDrive (cas : Nat) (s : State) : Host.Outcome State Fault Refusal :=
  onHub cas 56 (fun d => whenD (decide (cas < 8 * nSpokes d)) (foreignDrive cas) d) s

/-! ### Attach and detach (R490, R501 to R503) -/

/-- ATTACH. -/
def execAttach (good : Bool) (data : TdmAttach) (s : State) : Host.Outcome State Fault Refusal := run (tdmFrameIn good (attachIn data)) s

/-- ATTACH_FRAME_SEND. -/
def execAttachFrameSend (s : State) : Host.Outcome State Fault Refusal := run attachFrameSend s

/-- ATTACH_TIMEOUT. -/
def execAttachTimeout (s : State) : Host.Outcome State Fault Refusal := run attachTimeout s

/-- XFER. -/
def execXfer (good : Bool) (block : Nat) (last : Bool) (data : List XferItem) (s : State) : Host.Outcome State Fault Refusal :=
  run (tdmFrameIn good (xferIn block last data)) s

/-- XFER_ACK. -/
def execXferAck (good : Bool) (block : Nat) (s : State) : Host.Outcome State Fault Refusal := run (tdmFrameIn good (xferAck block)) s

/-- XFER_RESEND. -/
def execXferResend (s : State) : Host.Outcome State Fault Refusal := run xferResend s

/-- DETACH. -/
def execDetach (good : Bool) (start : Nat) (s : State) : Host.Outcome State Fault Refusal := run (tdmFrameIn good (detachIn start)) s

/-- TANDEM_LINK_DOWN. -/
def execTandemLinkDown (s : State) : Host.Outcome State Fault Refusal := run tandemLinkDown s

/-- TANDEM_LINK_DOWN_TIMEOUT. -/
def execTandemLinkDownTimeout (s : State) : Host.Outcome State Fault Refusal := run tandemDownTimeout s

end Sys2Proof.Machine
end

