-- ==== Sys2Proof/Machine/IrqCmds.lean ====
section
/-! DEFINITION. Meanings of the interrupt-controller commands (R426 to R447); `die` 0 is the hub, others name a spoke. -/
namespace Sys2Proof.Machine

/-- Act on the controller of a die. -/
def onDie (die : Nat) (f : Ctl → Dev → Dev) (s : State) : Host.Outcome State Fault Refusal :=
  if die = 0 then run (f .hub) s else onSpoke die (f (.spoke die)) s

/-- As `onDie`, for unit n of those the hub's controller and a spoke's have. -/
def onDieUnit (die n hub spoke : Nat) (f : Ctl → Dev → Dev) (s : State) : Host.Outcome State Fault Refusal :=
  if die = 0 then onHub n hub (f .hub) s else onUnit die n spoke (f (.spoke die)) s

/-- A hub source whose signal nothing but the world outside the registers drives: core timers, corrected errors, firmware sources. -/
def hubSourceFree (s : Nat) : Bool := (decide (s < 128) && decide (s % 32 < 2)) || (decide (128 ≤ s) && decide (s < 160))

/-- The WAKE ball takes a level (R79). -/
def wakeBall (active : Bool) (d : Dev) : Dev :=
  let was := wakeActive d
  let d := { d with pins := { d.pins with wake := active == isSet F.PWR_PARK_CFG.WAKE_POL d } }
  whenD (was && !active) (updPwr fun p => { p with wakeIdle := d.pt }) d

/-- A hub source signal changes (R427): the signal is what registers, balls or frames make it, the operand's level else. A corrected
ECC error that is signalled is an ECC event of the die (R474). -/
def hubSourceChange (s : Nat) (level : Bool) (d : Dev) : Dev :=
  if s = 225 then
    if level then hubSignal 225 (armHigh { d with pins := { d.pins with arm := true } }) { d with pins := { d.pins with arm := true } }
    else armBallLow d
  else if s = 224 then hubSignal 224 level (wakeBall level d)
  else
    match hubSourceLevel s d with
    | some now => hubSignal s now d
    | none =>
      if hubSourceFree s then d |> whenD (level && s % 32 == 1 && decide (s < 128)) (healthReport 18 0) |> hubSignal s level else d

/-- A spoke source signal changes (R428); the trip inputs act on the pairs too (R325). A spoke without power has no signals. -/
def spokeSourceChange (k s : Nat) (level : Bool) (d : Dev) : Dev :=
  if !d.pwr.spokeOn.contains k then d
  else if 92 ≤ s ∧ s < 96 then
    let d := tripInput k (s - 92) level d
    spokeSignal k s (bitOf (F.PWM_TRIP_STATUS.LEVEL k) (s - 92) d) d
  else
    match spokeSourceLevel k s d with
    | some now => spokeSignal k s now d
    | none => if s < 2 then d |> whenD (level && s == 1) (healthReport 18 k) |> spokeSignal k s level else d

/-- SOURCE_SIGNAL_CHANGE. -/
def execSourceSignalChange (die src : Nat) (level : Bool) (s : State) : Host.Outcome State Fault Refusal :=
  onDieUnit die src 1024 256 (fun c => match c with
    | .hub => hubSourceChange src level
    | .spoke k => spokeSourceChange k src level) s

/-- INTERRUPT_TAKE, with what firmware did to the core just before. -/
def execInterruptTake (die core : Nat) (act : CoreAct) (s : State) : Host.Outcome State Fault Refusal :=
  onDieUnit die core 4 1 (fun c => takeInterrupt c core act) s

/-- EOI. -/
def execEoi (die core : Nat) (by_ : Agent) (nothing_ : Bool) (s : State) : Host.Outcome State Fault Refusal :=
  onDieUnit die core 4 1 (fun c => writeEoi by_ c core nothing_) s

/-- NUDGE_RAISE. -/
def execNudgeRaise (die core index : Nat) (by_ : Agent) (s : State) : Host.Outcome State Fault Refusal :=
  onDieUnit die core 4 1 (fun c => writeNudge by_ c core index true false) s

/-- NUDGE_LOWER. -/
def execNudgeLower (die core index : Nat) (by_ : Agent) (s : State) : Host.Outcome State Fault Refusal :=
  onDieUnit die core 4 1 (fun c => writeNudge by_ c core index false true) s

/-- PENDING_WORD_WRITE; `edges` are the bits hardware sets in the same clock. -/
def execPendingWordWrite (die word : Nat) (value edges : Word) (by_ : Agent) (s : State) : Host.Outcome State Fault Refusal :=
  onDieUnit die word 32 8 (fun c => writePending by_ c word value.toNat edges.toNat) s

/-- CONFIGURATION_WRITE. -/
def execConfigurationWrite (die reg : Nat) (value : Word) (by_ : Agent) (s : State) : Host.Outcome State Fault Refusal :=
  onDieUnit die reg 512 128 (fun c => writeConfig by_ c reg value.toNat) s

end Sys2Proof.Machine
end

