-- ==== Sys2Proof/Machine/LogCmds.lean ====
section
/-! DEFINITION. Meanings of the logbook commands (14_logbook.md, R516). -/
namespace Sys2Proof.Machine

/-! ### LOG ring (R462, R469) -/

/-- The store as a LOG_READ finds it (R453): the slot of the record in progress is void from step 1 to step 4, so whether the older record
of that slot is still read is free. Log entry 146. -/
def storeSeen (d : Dev) : Dev × Dev :=
  match nextWrite d with
  | none => (d, d)
  | some w =>
    let (n, d) := fresh d
    (if n % 2 = 1 then { d with log := { d.log with store := kput d.log.store w.2 none none } } else d, d)

/-- A LOG_READ. -/
def logReadDesc (i : Nat) (x : InDesc) (d : Dev) : Dev :=
  if d.log.erasing then complete i x.index stBusy 0 [] d
  else
    let (seen, d) := storeSeen d
    let (detail, bytes) := readRecords (paramAt x 24 4) (paramBits x 28 0 1 == 1) (x.len / 32) seen
    complete i x.index stOk detail bytes d

/-- LOG_READ. -/
def execLogRead (ring : Nat) (s : State) : Host.Outcome State Fault Refusal := onHub ring 32 (startDesc ring 0xA0 (logReadDesc ring)) s

/-- A LOG_FREEZE: the record in progress is completed before the store is frozen (R462). -/
def logFreezeDesc (i : Nat) (x : InDesc) (d : Dev) : Dev :=
  if d.log.frozen.isSome || d.log.erasing then complete i x.index stBusy 0 [] d
  else
    let d := finishWrite d
    complete i x.index stOk 0 [] { d with log := { d.log with frozen := some (d.pt + sec (getF F.LOG_CFG.FREEZE_TO d)) } }

/-- LOG_FREEZE. -/
def execLogFreeze (ring : Nat) (s : State) : Host.Outcome State Fault Refusal := onHub ring 32 (startDesc ring 0xA1 (logFreezeDesc ring)) s

/-- LOG_RELEASE. -/
def execLogRelease (ring : Nat) (s : State) : Host.Outcome State Fault Refusal :=
  onHub ring 32 (startDesc ring 0xA2 fun x d => complete ring x.index stOk (if d.log.frozen.isSome then 0 else 1) [] (endFreeze d)) s

/-! ### Events and the store (R453 to R470) -/

/-- LOGBOOK_EVENT: an event that no other command raises, such as a failed protection crossing (R45). -/
def execLogbookEvent (event : LogEvt) (s : State) : Host.Outcome State Fault Refusal :=
  run (logEvent event.code (event.sev % 8) ⟨event.die, event.block, event.index⟩ event.p0 event.p1 event.p2) s

/-- RECORD_STORED. -/
def execRecordStored (s : State) : Host.Outcome State Fault Refusal := run storeHead s

/-- SCAN_DONE. -/
def execScanDone (s : State) : Host.Outcome State Fault Refusal := run scanDone s

/-- COLOPHON_SAVE: every 60 counts (R465). -/
def execColophonSave (s : State) : Host.Outcome State Fault Refusal :=
  run (fun d => if d.log.scanned && !d.log.stopped && decide (d.log.nextSave ≤ d.pwr.opTime) then saveColophon d else d) s

/-- POWER_FAIL_WARNING: VBAT_AO falls below its warning threshold, or rises past the level that clears the warning (R458, R516). The
record in progress is completed, a running erase ends where it is, the colophon is saved, and the logbook writes nothing more until it is
reset. Log entry 146. -/
def execPowerFailWarning (below : Bool) (s : State) : Host.Outcome State Fault Refusal :=
  run (fun d =>
    let d := { d with pins := { d.pins with aoWarn := below } }
    if below && !d.log.stopped then
      let d := d |> finishWrite |> eraseCut 0 |> saveColophon
      { d with log := { d.log with stopped := true } }
    else d) s

/-- FREEZE_TIMEOUT. -/
def execFreezeTimeout (s : State) : Host.Outcome State Fault Refusal := run freezeTimeout s

/-- ERASE: a write to LOG_CTL. -/
def execErase (value : Nat) (s : State) : Host.Outcome State Fault Refusal := run (eraseWrite value) s

/-- ERASE_DONE. -/
def execEraseDone (s : State) : Host.Outcome State Fault Refusal := run eraseDone s

/-- VBAT_AO_LOSS: power-on reset is entered and held until VBAT_AO rises (R516); `at_` says what the logbook was writing. -/
def execVbatAoLoss (at_ : LossPoint) (s : State) : Host.Outcome State Fault Refusal :=
  run (fun d => coldReset 0 false (powerLost at_ { d with pins := { d.pins with vbatAo := false, aoWarn := true } })) (clearMems s)

end Sys2Proof.Machine
end

