-- ==== Sys2Proof/Machine/HealthCmds.lean ====
section
/-! DEFINITION. Meanings of the health commands (15_health_and_tandem.md, R473 to R485): leak timers, clears, monitors, the re-plan
and its descriptor, the margins it gives and derating. -/
namespace Sys2Proof.Machine

/-! ### Counters (R473, R475, R476) -/

/-- LEAK_TIMER_EXPIRY. -/
def execLeakTimerExpiry (cls inst : Nat) (s : State) : Host.Outcome State Fault Refusal :=
  onHub cls 19 (fun d => if hasInst cls inst d then leakInst cls inst d else d) s

/-- A write to HLT_CLEAR (R476). One that names an instance the part lacks clears nothing (log entry 147). -/
def hltClear (cls inst : Nat) (d : Dev) : Dev :=
  if cls = 8 || (decide (10 ≤ cls) && decide (cls ≤ 18)) then (if hasInst cls inst d then clearInst cls inst d else d)
  else raise F.HLT_STATUS.CLEAR_REFUSED d

/-- HLT_CLEAR. -/
def execHltClear (cls inst : Nat) (s : State) : Host.Outcome State Fault Refusal := run (hltClear cls inst) s

/-! ### Monitors (R480) -/

/-- On-state voltage over current, normalised to 25 °C at 0.40 % per K, in 0.1 mΩ. -/
def onResistance (microvolts milliamps : Nat) (temp : Int) (d : Dev) : Nat × Dev :=
  measured (10000 * microvolts) (milliamps * (900 + 4 * temp).toNat) 65536 d

/-- The converter charges and no boost rise runs. -/
def chargesAlone (k : Nat) (d : Dev) : Bool :=
  (getSpoke k d).boost.charging && (List.range 8).all fun c => (getCas k c d).serving.isNone

/-- A sample of a monitor of a die: the registers it shows in, and the interval it belongs to. C of the boost capacitor is ILIM × Δt / ΔV in
0.1 µF, in a precharge with the limit it charges at (R58); its ESR the rail step over the current in mΩ; η is C(V₂² − V₁²) / (L I²) in 1/256, voltages in mV, L in nH. -/
def monSample (die : Nat) (m : DieMeas) (d : Dev) : Dev :=
  let lower_ := fun (o : Option Nat) (v : Nat) => some (match o with | some x => min x v | none => v)
  let higher := fun (o : Option Int) (v : Int) => some (match o with | some x => max x v | none => v)
  match m with
  | .margin v =>
    let d := updMon die (fun x => { x with margin := lower_ x.margin v }) d
    if die = 0 then
      if ftValid d && !isSet F.TIM_STATUS.HOLDOVER d then updHealth (fun h => { h with xtal := some (rateY d) }) d else d
    else
      d |> setF (F.SHL_MARGIN.LAST die) v |> setF (F.SHL_MARGIN.LEAST die) (((getMon die d).margin).getD v)
        |> whenD (decide (v < 50)) (raise (F.SHL_STATUS.MARGIN_LOW die))
  | .junction t =>
    let d := updMon die (fun x => { x with tjMax := higher x.tjMax t }) d
    let d := if t ≤ 155 then updPwr (fun p => { p with hotDies := p.hotDies.filter (· != die) }) d else d
    if die = 0 then d
    else
      d |> setF (F.SHL_THERMAL.TJ die) (t + 64).toNat
        |> setF (F.SHL_THERMAL.TJ_MAX die) ((((getMon die d).tjMax).getD t) + 64).toNat
  | .casTemp c t =>
    if die = 0 || !sdqOn die (c % 8 / 2) d then d
    else
      let d := updMon die (fun x => { x with tjMax := higher x.tjMax t }) d
      d |> setF (F.DRV_CAS_TEMP.TEMP_MAX die (c % 8)) (t + 64).toNat
        |> setF (F.SHL_THERMAL.TJ_MAX die) ((((getMon die d).tjMax).getD t) + 64).toNat
  | .onResistance n uv ma temp =>
    let n := n % 64
    let phase := (getChan die (leadOf die n d) d).phase
    if die = 0 || !sdqOn die (n / 16) d || ma < 200 || (phase != .hold && phase != .regulation) then d
    else
      let (v, d) := onResistance uv ma temp d
      let d := setF (F.DRV_CH_MEAS.RDS die n) v d
      if getF (F.DRV_CH_CFG.OWNER die n) d = 0 then d
      else
        let top := fun (o : Option (Nat × Nat)) => match o with
          | some (x, c) => if x < v then some (v, n) else some (x, c)
          | none => some (v, n)
        updMon die (fun x => { x with rdsSum := x.rdsSum + v, rdsCount := x.rdsCount + 1, rdsMax := top x.rdsMax }) d
  | .boostCap t mv =>
    if die = 0 || !sboostOn die d || !chargesAlone die d then d
    else
      let ilim := if d.pwr.prechargeBy.any fun e => e.1 == die then getF F.PWR_PRECHARGE.ILIM d else getF (F.DRV_BOOST_CFG.ILIM die) d
      let (v, d) := measured (8 * ilim * t) mv 65536 d
      updMon die (fun x => { x with boostC := some v }) d
  | .boostEsr mv ma =>
    if die = 0 || !sboostOn die d then d
    else
      let (v, d) := measured (1000 * mv) ma 65536 d
      updMon die (fun x => { x with boostEsr := some v }) d
  | .recovery v1 v2 ma nh =>
    if die = 0 || !sboostOn die d then d
    else
      let (c, d) := measuredOr (getMon die d).boostC 65536 d
      let (v, d) := measured (25600 * c * (v2 * v2 - v1 * v1)) (nh * ma * ma) 256 d
      updMon die (fun x => { x with eta := some v }) d
  | .aoCrystal v => updHealth (fun h => { h with aoXtal := some v }) d

/-- A die runs: its monitors do. -/
def dieRuns (die : Nat) (d : Dev) : Bool :=
  if die = 0 then d.pwr.suppliesGood && d.pwr.park != .saved else hasSpoke die d && d.pwr.spokeOn.contains die

/-- MONITOR_MEASUREMENT. -/
def execMonitorMeasurement (die : Nat) (meas : DieMeas) (s : State) : Host.Outcome State Fault Refusal :=
  run (fun d => if dieRuns die d then monSample die meas d else d) s

/-! ### The margins of a re-plan (R481) -/

/-- VCORE_MIN in mV for a nominal voltage and a least margin m: rounded up to 5 mV and limited. -/
def vcoreMin (nom m : Nat) : Int :=
  let x := 3 * (nom : Int) - 2 * ((m : Int) - 50)
  clampI ((nom : Int) - 50) ((nom : Int) + 40) (5 * ((x + 14) / 15))

/-- The slip budget in µs for the largest T_RISE. -/
def slipBudget (t : Nat) : Nat := max 100 (min 2000 (10 * ((3 * t + 19) / 20)))

/-- I_d in 0.1 A for a mean on-resistance in 0.1 mΩ and a highest temperature in °C. -/
def deratedCurrent (r : Nat) (t : Int) : Nat :=
  let byR := if r = 0 then 200 else isqrt (40000 * 1500 / r)
  let byT := isqrt (40000 * (150 - t).toNat / 25)
  max 40 (min 200 (min byR byT))

/-- DT_MIN_REC. -/
def dtMinRec (tMin margin : Nat) : Nat := tMin + margin - 500

/-- DT_MAX_REC, `inForce` being DT_MAX: crossings and edges without one decide. -/
def dtMaxRec (tMax margin inForce crossed missed : Nat) : Nat :=
  if crossed = 0 || crossed + missed < 100 * missed then inForce else min 16000 (tMax + margin + 1000)

/-- The margin of a die: m and VCORE_MIN, with MARGIN_LOW and its record where m is below 50. -/
def planCore (die : Nat) (d : Dev) : (Nat × Nat) × Dev :=
  let (m, d) := measuredOr (getMon die d).margin 1024 d
  let v := (vcoreMin (if die = 0 then 800 else 1100) m).toNat
  ((m, v), if m < 50 then d |> raise F.HLT_STATUS.MARGIN_LOW |> logEvent 0x0903 4 ⟨0, 7, 0⟩ die m v else d)

/-- The largest T_RISE of a spoke's configured channels on switched templates. -/
def largestRise (k : Nat) (d : Dev) : Option Nat :=
  let ns := (List.range 64).filter fun n => getF (F.DRV_CH_CFG.OWNER k n) d != 0 && !isProp k n d
  if ns = [] then none else some (ns.foldl (fun m n => max m (getF (F.DRV_CH_RISE.T_RISE k n) d)) 0)

/-- The dead-time bounds of a pair: kept for R482 where the pair is adaptive. -/
def planPair (k p : Nat) (d : Dev) : List Byte × Dev :=
  if !isSet (F.PWM_CFG.DT_MODE k p) d then ([0, 0, 0, 0], updHealth (fun h => { h with bounds := kdel h.bounds (16 * k + p) }) d)
  else
    let e := kget (getMon k d).dt p (0, 0, 0, 0)
    let margin := getF (F.PWM_SENSE.MARGIN k p) d
    let (lo, d) := measuredOr (if e.2.2.1 = 0 then none else some (dtMinRec e.1 margin)) 16384 d
    let hi := dtMaxRec e.2.1 margin (getF (F.PWM_ADT.DT_MAX k p) d) e.2.2.1 e.2.2.2
    (leBytes 2 lo ++ leBytes 2 hi, updHealth (fun h => { h with bounds := kins h.bounds (16 * k + p) (lo, hi) }) d)

/-- The bounds of the pairs of a spoke, in order. -/
def planPairs (k : Nat) : List Nat → Dev → List Byte × Dev
  | [], d => ([], d)
  | p :: ps, d =>
    let (b, d) := planPair k p d
    let (bs, d) := planPairs k ps d
    (b ++ bs, d)

/-- The section of spoke k: its I_d, in force at once, and its 128 bytes. -/
def planSpoke (k : Nat) (d : Dev) : (Nat × List Byte) × Dev :=
  let mon := getMon k d
  let ((m, v), d) := planCore k d
  let (rise, d) := measuredOr (largestRise k d) 8192 d
  let (r, d) := measuredOr (if mon.rdsCount = 0 then none else some (mon.rdsSum / mon.rdsCount)) 65536 d
  let (frac, d) := divFree mon.rdsSum (max 1 mon.rdsCount) d
  let (rMax, d) := measuredOr (mon.rdsMax.map (·.1)) 65536 d
  let (rCh, d) := measuredOr (mon.rdsMax.map (·.2)) 64 d
  let (t, d) := measuredOr (mon.tjMax.map fun t => (t + 64).toNat) 512 d
  let (c, d) := measuredOr mon.boostC 65536 d
  let (esr, d) := measuredOr mon.boostEsr 65536 d
  let (eta, d) := measuredOr mon.eta 256 d
  let iD := if mon.rdsCount = 0 then deratedCurrent r ((t : Int) - 64)
    else max 40 (min 200 (min (isqrt (40000 * 1500 * mon.rdsCount / max 1 mon.rdsSum)) (deratedCurrent 0 ((t : Int) - 64))))
  let slip := slipBudget rise
  let d := d |> setF (F.SHL_ILIM.I_D k) iD |> updHealth (fun h => { h with slips := kins h.slips k slip })
  let (pairs, d) := planPairs k (List.range 12) d
  let mean := if mon.rdsCount = 0 then r else frac.toNat
  ((iD, leBytes 2 v ++ leBytes 2 m ++ leBytes 2 iD ++ leBytes 2 slip ++ leBytes 2 mean ++ leBytes 2 rMax ++ leBytes 1 rCh ++ leBytes 1 t
      ++ leBytes 2 c ++ leBytes 2 esr ++ leBytes 1 eta ++ List.replicate 13 0 ++ pairs ++ List.replicate 48 0), d)

/-- The sections of the descriptor: 0 for a spoke that is absent or isolated. -/
def planSpokes : List Nat → Dev → (Nat × List Byte) × Dev
  | [], d => ((0, []), d)
  | k :: ks, d =>
    let ((i, b), d) := if hasSpoke k d && !isIsolated k d then planSpoke k d else ((0, List.replicate 128 0), d)
    let ((is_, bs), d) := planSpokes ks d
    ((i + is_, b ++ bs), d)

/-- A trend in 10 µs, saturating (R481). -/
def trendByte (now ref : Nat) (d : Dev) : List Byte × Dev :=
  let (q, d) := divFree ((now : Int) - ref) 10 d
  (leBytes 1 (toBits 8 (clampI (-128) 127 q)), d)

/-- The entry of an outlet. -/
def planOutlet (o : Nat) (d : Dev) : List Byte × Dev :=
  let h := d.health
  let now := (dOn o d, dOff o d)
  let r := outletRec o d
  let ref := (kget h.trend o []).getD 9 (r.onSeed, r.offSeed)
  let (a, d) := trendByte now.1 ref.1 d
  let (b, d) := trendByte now.2 ref.2 d
  let flags := kget h.flags o 0 + if (getInst 9 o d).lasting then 4 else 0
  (leBytes 2 now.1 ++ leBytes 2 now.2 ++ a ++ b ++ leBytes 1 (min 255 (kget h.reseeds o 0)) ++ leBytes 1 flags, d)

/-- The entries of the outlets of the active table. -/
def planOutlets : List Nat → Dev → List Byte × Dev
  | [], d => ([], d)
  | o :: os, d =>
    let (b, d) := planOutlet o d
    let (bs, d) := planOutlets os d
    (b ++ bs, d)

/-! ### The descriptor (R484, R485) -/

/-- The descriptor that waits completes fetched HEALTH_BUFFERs: a short one completes BAD_LENGTH and the next is taken. `told` says
that a missing buffer is reported. -/
def healthDeliver (told : Bool) : Nat → Dev → Dev
  | 0, d => d
  | n + 1, d =>
    match d.health.held with
    | none => d
    | some r =>
      match waitingBuffer 12 0xC0 none d with
      | none => if told then d |> noBuf 12 none |> raise F.HLT_STATUS.REPORT_HELD else d
      | some (i, x) =>
        if x.len < r.length then healthDeliver told n (putCompletion i x stBadLength r.length [] d)
        else putCompletion i x stOk 0 r (updHealth (fun h => { h with held := none }) d)

/-- HEALTH_BUFFER: a descriptor that waits for a buffer goes into it at once. -/
def execHealthBuffer (ring : Nat) (s : State) : Host.Outcome State Fault Refusal :=
  onHub ring 32 (fun d => d |> waitDesc ring 0xC0 |> healthDeliver false 2) s

/-- HEALTH_NOW: the re-plan is scheduled. -/
def execHealthNow (ring : Nat) (s : State) : Host.Outcome State Fault Refusal :=
  onHub ring 32 (startDesc ring 0xC1 fun x d => complete ring x.index stOk 0 [] (updHealth (fun h => { h with nowPending := true }) d)) s

/-- A re-plan of KIND 0, periodic, or 1 (R481 to R485). -/
def replan (kind : Nat) (d : Dev) : Dev :=
  let seq := (d.health.seq + 1) % 2 ^ 32
  let ((mH, vH), d) := planCore 0 d
  let ((total, sections), d) := planSpokes ((List.range 7).map (· + 1)) d
  let pkg := min total (pkgReset d)
  let outlets := ((d.eng.table.map (·.outlets.length)).getD 0)
  let (entries, d) := planOutlets (List.range outlets) d
  let held := (List.range 7).foldl (fun m i => if hasSpoke (i + 1) d && !isIsolated (i + 1) d then m + 2 ^ i else m) 0
  let (x, d) := divFree (d.health.xtal.getD 0) 1000 d
  let xtal := if d.health.xtal.isSome then toBits 32 x else 0x80000000
  let (ao, d) := measuredOr (d.health.aoXtal.map (toBits 32 ·)) (2 ^ 32) d
  let (ferro, d) := divFree (mostWritten d.log) 1000000 d
  let head := leBytes 4 seq ++ leBytes 1 kind ++ leBytes 1 held ++ leBytes 2 outlets ++ leBytes 8 d.pwr.opTime ++ leBytes 8 d.pt
    ++ leBytes 2 vH ++ leBytes 2 mH ++ leBytes 4 xtal ++ leBytes 4 ao ++ leBytes 4 (ferro.toNat) ++ leBytes 2 pkg ++ List.replicate 22 0
  let bytes := head ++ sections ++ List.replicate 64 0 ++ entries
  let add := fun (t : KMap (List (Nat × Nat))) (o : Nat) => kput t o (((dOn o d, dOff o d) :: kget t o []).take 10) []
  d |> updHealth (fun h => { h with
        seq := seq, held := some bytes, mon := [], xtal := none, aoXtal := none, flags := [], reseeds := [], marginDue := true
        lastReplan := if kind = 0 then d.pwr.opTime else h.lastReplan
        nowPending := if kind = 0 then h.nowPending else false
        trend := if kind = 0 then (List.range outlets).foldl add h.trend else h.trend })
    |> eachD (spokeList d) (fun k d => d |> lower (F.SHL_MARGIN.LEAST k) |> lower (F.SHL_THERMAL.TJ_MAX k))
    |> setF F.HLT_PKG.PKG_ILIM pkg
    |> logEvent 0x0902 1 ⟨0, 7, 0⟩ seq pkg 0
    |> healthDeliver true 65536

/-- REPLAN: 36,000 counts of operating time after the last periodic re-plan, or when HEALTH_NOW has scheduled one. -/
def execReplan (s : State) : Host.Outcome State Fault Refusal :=
  run (fun d =>
    if !dieRuns 0 d then d
    else if d.health.lastReplan + 36000 ≤ d.pwr.opTime then replan 0 d
    else if d.health.nowPending then replan 1 d
    else d) s

/-! ### What the margins change (R482, R483) -/

/-- The bounds of a pair are written to PWM_ADT, except where the write would break R319 or R320. -/
def applyBounds (k p : Nat) (d : Dev) : Dev :=
  match d.health.bounds.find? fun e => e.1 == 16 * k + p with
  | none => d
  | some (_, lo, hi) =>
    let adt := wordPut (wordPut (rget (R.PWM_ADT k p) d) 0 14 lo) 16 14 hi
    let dEff := deadMax (isSet (F.PWM_CFG.DT_MODE k p) d) (rget (R.PWM_DT k p) d) adt
    if !isSet (F.PWM_CFG.DT_MODE k p) d || !adtLegal adt || !periodLegal (periodTicks k p d) dEff (getF (F.PWM_PULSE.MIN_PULSE k p) d) then d
    else rput (R.PWM_ADT k p) adt d

/-- The margins of the last re-plan go to the spokes that run. -/
def applyMargins (d : Dev) : Dev :=
  eachD ((spokeList d).filter fun k => dieRuns k d && !isIsolated k d) (fun k d =>
    d |> (fun d => match d.health.slips.find? fun e => e.1 == k with
        | some e => setF (F.DRV_SCHED_CFG.SLIP_LIMIT k) e.2 d
        | none => d)
      |> eachD (List.range 12) (applyBounds k)) (updHealth (fun h => { h with marginDue := false }) d)

/-- MARGIN_APPLY. -/
def execMarginApply (s : State) : Host.Outcome State Fault Refusal :=
  run (fun d => if d.health.marginDue && isSet F.HLT_CFG.APPLY d && !isArmed d then applyMargins d else d) s

/-- The cassette of highest mean, the lowest-numbered of equals. -/
def highestMean (means : List Nat) : Nat :=
  ((List.range 8).foldl (fun (b : Nat × Nat) c => if b.2 < means.getD c 0 then (c, means.getD c 0) else b) (0, 0)).1

/-- The check of a spoke whose cassettes have the given 1 s means of HS_CURRENT, in 10 mA. -/
def derateCheck (k : Nat) (means : List Nat) (d : Dev) : Dev :=
  let past := decide (10 * getF (F.SHL_ILIM.I_D k) d < (means.take 8).foldl (· + ·) 0)
  let d := flag (F.SHL_STATUS.DERATE_OVER k) past d
  if past then d |> raise (F.SHL_STATUS.DERATE_SEEN k) |> healthReport 10 (8 * (k - 1) + highestMean means) else d

/-- DERATE_CHECK. -/
def execDerateCheck (spoke : Nat) (means : List Nat) (s : State) : Host.Outcome State Fault Refusal :=
  onSpoke spoke (fun d => if dieRuns spoke d then derateCheck spoke means d else d) s

end Sys2Proof.Machine
end

