-- ==== Sys2Proof/Machine/Scan.lean ====
section
/-! DEFINITION. Boundary scan (R534, R535): the coverage table, the boundary register, what each ball drives and reads. -/
namespace Sys2Proof.Machine

/-- IDCODE (R534). -/
def idcode (d : Dev) : Word :=
  match d.chip.variant with
  | .yn2 => 0x1A7E2A6F
  | .yn4 => 0x1A7E4A6F
  | .yn8 => 0x1A7E8A6F

/-- How the boundary register covers a ball (R535). -/
inductive Coverage where
  | both | lowOnly | observe | acDrive | acObserve | comparator | none
deriving DecidableEq, Repr

/-- The coverage table (R535). -/
def coverage : Ball → Coverage
  | .pwmH _ _ | .pwmL _ _ | .qspiClk | .qspiCs | .qspiIo _ | .canTx _ => .both
  | .spiSck _ _ | .spiMosi _ _ | .spiCs _ _ | .agc _ | .tpulse | .pwrEn => .both
  | .tdmHb => .lowOnly
  | .trip _ _ | .sns _ _ | .canRx _ | .spiMiso _ _ | .enc _ _ _ | .sclk _ | .sampleI _ _ | .sampleQ _ _ => .observe
  | .addr _ | .arm | .resetN | .perstN | .clkreqN => .observe
  | .pcieTx _ | .tdmTx => .acDrive
  | .pcieRx _ | .refclk | .tdmRx => .acObserve
  | .pulse _ _ | .wake => .comparator
  | .out _ _ | .hs _ _ | .bst _ | .bsw _ | .ain _ _ | .aref _ | .xtal _ | .supply => .none

/-- The covered balls of the hub block (R510). -/
def hubBalls : List Ball :=
  [.qspiClk, .qspiCs, .tpulse, .pwrEn, .tdmHb, .arm, .resetN, .perstN, .clkreqN, .refclk, .tdmTx, .tdmRx, .wake]
    ++ (List.range 4).flatMap (fun n => [.qspiIo n, .canTx n, .canRx n])
    ++ (List.range 2).flatMap (fun n => [.pcieTx n, .pcieRx n])
    ++ (List.range 6).map .addr

/-- The covered balls of the field of spoke k (R509). -/
def spokeBalls (k : Nat) : List Ball :=
  [.agc k, .sclk k]
    ++ (List.range 12).flatMap (fun p => [.pwmH k p, .pwmL k p, .sns k p])
    ++ (List.range 2).flatMap (fun p => [.spiSck k p, .spiMosi k p, .spiMiso k p, .spiCs k p])
    ++ (List.range 4).flatMap (fun n => [.trip k n, .sampleI k n, .sampleQ k n])
    ++ (List.range 3).flatMap (fun e => (List.range 3).map (.enc k e))
    ++ (List.range 8).map (.pulse k)

/-- The balls of the part that the boundary register covers (R535). The order of the cells is the BSDL file's (log entry 138). -/
def coveredBalls (d : Dev) : List Ball := hubBalls ++ (spokeList d).flatMap spokeBalls

/-- What a ball drives: a level, a level with a pulse or a train of pulses on it (IEEE 1149.6), or nothing. -/
inductive BallDrive where
  | level (high : Bool)
  | pulse (high : Bool)
  | train (high : Bool)
  | released
deriving DecidableEq, Repr

/-- What the boundary cell of a ball drives under an instruction (R535): nothing where the ball only observes, and TDM_HB only low. The
AC-coupled transmitters pulse under EXTEST_PULSE and EXTEST_TRAIN. -/
def cellDrive (t : TapInst) (b : Ball) (d : Dev) : BallDrive :=
  let high := d.pins.cells.contains b
  match coverage b with
  | .both => .level high
  | .lowOnly => if high then .released else .level false
  | .acDrive => if t = .extestPulse then .pulse high else if t = .extestTrain then .train high else .level high
  | .observe | .acObserve | .comparator | .none => .released

/-- The level of a ball that the state gives outside a test: the outputs of the pairs (R324), TPULSE with its polarity (R360), PWR_EN, and
the inputs whose levels are held; CAN_TX of a controller that is off or only listens is recessive (R368, R369). None where the state does not
hold it, as for a serial line. -/
def ballLevel (b : Ball) (d : Dev) : Option Bool :=
  match b with
  | .pwmH k p => some (pairBalls k p d).1
  | .pwmL k p => some (pairBalls k p d).2
  | .tpulse => some (d.pins.timePulse != isSet F.TIM_CFG.PPS_POL d)
  | .pwrEn => some d.pins.pwrEn
  | .arm => some d.pins.arm
  | .resetN => some d.pins.resetN
  | .wake => some d.pins.wake
  | .canTx c => if canListen c d || !isSet (F.CAN_CFG.EN c) d then some true else none
  | .addr n => some (d.chip.strapAddr.testBit n)
  | .enc k e line => if (kget (getCtl k d).encs e {}).seen then some ((kget (getCtl k d).encs e {}).lines.testBit line) else none
  | _ => none

/-- An output ball is high impedance: all but PWR_EN while VIO is absent (R512), the gate balls of a spoke that lacks VIO or VCORE_S (R514). -/
def floats (b : Ball) (d : Dev) : Bool :=
  match b with
  | .pwrEn => false
  | .pwmH k _ | .pwmL k _ => !d.pwr.suppliesGood || d.pwr.lowSpokes.contains k
  | _ => !d.pwr.suppliesGood

/-- What a ball drives now: under an instruction that holds the outputs, its cell; otherwise what the part drives. -/
def ballDrive (b : Ball) (d : Dev) : BallDrive :=
  if tapHolds d then cellDrive d.pins.tap b d
  else if floats b d then .released
  else
    match coverage b, ballLevel b d with
    | .both, some v => .level v
    | _, _ => .released

/-- The level a boundary cell captures: what its ball drives or, where that is not known, the level at the ball, which is the
board's: free (log entry 138). -/
def captureBall (b : Ball) (d : Dev) : Bool × Dev :=
  match ballDrive b d, ballLevel b d with
  | .level v, _ => (v, d)
  | _, some v => (v, d)
  | _, none =>
    let (v, d) := fresh d
    (v % 2 == 1, d)

/-- The levels the boundary register captures. -/
def captureAll : List Ball → Dev → List (Ball × Bool) × Dev
  | [], d => ([], d)
  | b :: rest, d =>
    let (v, d) := captureBall b d
    let (vs, d) := captureAll rest d
    ((b, v) :: vs, d)

/-- The instruction selects the boundary register: SAMPLE/PRELOAD and the EXTEST instructions do, CLAMP selects the bypass register. -/
def selectsBoundary : TapInst → Bool
  | .sample | .extest | .extestPulse | .extestTrain => true
  | .bypass | .idcode | .clamp => false

/-- A scan of the data register the instruction selects (R534, R535): what it captured leaves at TDO, and the boundary cells take what
was shifted in. -/
def scanData (ones : List Ball) (d : Dev) : Dev :=
  if selectsBoundary d.pins.tap then
    let (levels, d) := captureAll (coveredBalls d) d
    emit (.scanOut (.boundary levels)) { d with pins := { d.pins with cells := (coveredBalls d).filter ones.contains } }
  else if d.pins.tap = .idcode then emit (.scanOut (.idcode (idcode d))) d
  else emit (.scanOut .bypass) d

end Sys2Proof.Machine
end

