-- ==== Sys2Proof/Machine/LoopbackCmds.lean ====
section
/-! DEFINITION. Meanings of the loop-back and test commands (17_loopback_and_test.md, R526 to R535). -/
namespace Sys2Proof.Machine

/-! ### Running a loop-back (R526 to R529) -/

/-- The target of the loop-back table exists on the variant. -/
def lbExists (r : LbRun) (d : Dev) : Bool :=
  let spoke := hasSpoke r.spoke d
  match r.target with
  | 1 => spoke && decide (r.depth ≤ 1)
  | 2 => decide (r.inst < 4) && decide (r.depth ≤ 1)
  | 3 => true
  | 4 => spoke && decide (r.inst ≤ 64) && r.depth == 0
  | 5 => spoke && decide (r.inst < 12) && decide (r.depth ≤ 1)
  | 6 => spoke && decide (r.depth ≤ 1)
  | 7 => spoke && decide (r.inst < 8) && r.depth == 0
  | 8 | 9 => spoke && r.depth == 0
  | _ => false

/-- The target's own condition; whether a tandem partner runs depth 3 is what `partner` says. -/
def lbCondition (r : LbRun) (partner : Bool) (d : Dev) : Bool :=
  match r.target with
  | 1 => (getLink r.spoke d).up
  | 2 => isSet (F.CAN_CFG.HALT r.inst) d
  | 3 => !isAttached d && (r.depth != 2 || partner)
  | 4 => (List.range 64).all fun n => getF (F.DRV_CH_CFG.OWNER r.spoke n) d != 2
  | 5 => !isSet (F.PWM_CFG.EN r.spoke r.inst) d && (getPair r.spoke r.inst d).claim.isNone
  | 6 => true
  | 7 => bitOf (F.ADC_EN.PULSE r.spoke) r.inst d
  | 8 => isSet (F.GNB_CFG.EN r.spoke) d && !isSet (F.GNB_STATUS.SCLK_BAD r.spoke) d &&
      prnEnabled r.spoke (getF F.PWR_LB_GEN.SYSTEM d) (getF F.PWR_LB_GEN.PRN d) d
  | 9 => isSet (F.GNB_CFG.EN r.spoke) d
  | _ => false

/-- The first condition of R526 that is not met, 0 if all are. -/
def lbRefuse (r : LbRun) (partner : Bool) (d : Dev) : Nat :=
  if pstate d ≠ .ready then 1
  else if d.lb.isSome then 2
  else if !lbExists r d then 3
  else if !lbCondition r partner d then 4
  else 0

/-- A write of START. A spoke link leaves service; a run that lasts until STOP counts from 0. -/
def lbStart (d : Dev) : Dev :=
  let r : LbRun := { target := getF F.PWR_LB_CTL.TARGET d, depth := getF F.PWR_LB_CTL.DEPTH d, spoke := getF F.PWR_LB_CTL.SPOKE d
                     inst := getF F.PWR_LB_CTL.INSTANCE d, at_ := d.pt }
  let (v, d) := if r.target = 3 && r.depth = 2 then fresh d else (0, d)
  match lbRefuse r (v % 2 == 1) d with
  | 0 =>
    let d := setF F.PWR_LB_STATUS.STATE 1 { d with lb := some r }
    match r.target with
    | 1 =>
      d |> failReads r.spoke |> updLink r.spoke (fun l => { l with up := false, adjLeft := 0, syncSent := none })
        |> bitF F.PWR_LINK_STATUS.LINK_UP (r.spoke - 1) false
    | 2 => lower F.PWR_LB_RESULT.VALUE d
    | _ => d
  | c => d |> raise F.PWR_LB_STATUS.REFUSED |> setF F.PWR_LB_STATUS.REFUSE c

/-- A write of STOP. The frames a tandem responder has returned are what the partner sent: free. -/
def lbStop (d : Dev) : Dev :=
  match d.lb with
  | none => d
  | some r =>
    let (v, d) := if r.target = 3 && r.depth = 3 then fresh d else (getF F.PWR_LB_RESULT.VALUE d, d)
    endLoopback 0 (setF F.PWR_LB_RESULT.VALUE v d)

/-- A write to PWR_LB_CTL, discarded in RESTRICTED (R69). STOP ends a run before START begins one. -/
def writeLbCtl (v : Word) (d : Dev) : Dev :=
  if pstate d = .restricted then d
  else
    d |> rput R.PWR_LB_CTL (v &&& 0x0000FFFF) |> whenD (v.getLsbD 30) lbStop |> whenD (v.getLsbD 31) lbStart

/-- LOOPBACK_START: a write of PWR_LB_CTL with START set. -/
def execLoopbackStart (value : Word) (s : State) : Host.Outcome State Fault Refusal := run (writeLbCtl (value ||| 0x80000000)) s

/-- LOOPBACK_STOP: a write of STOP that leaves the other fields as they are. -/
def execLoopbackStop (s : State) : Host.Outcome State Fault Refusal :=
  run (fun d => writeLbCtl (rget R.PWR_LB_CTL d ||| 0x40000000) d) s

/-- The larger of two magnitudes. -/
def worst (xs : List Nat) : Nat := xs.foldl max 0

/-- How far values lie from those due. -/
def deviations (due : List Nat) (xs : List Nat) : List Nat := (xs.zip due).map fun x => ((x.1 : Int) - x.2).natAbs

/-- The failing channels of a drive test: their number, and the first with its failing step as VALUE shows them (R528, R530). -/
def driveFailures (tests : List RefMeas) : Nat × Nat :=
  let bad := tests.filter fun x => refStep x != 0
  (bad.length, match bad with | [] => 0 | x :: _ => x.chan % 256 + 256 * refStep x)

/-- ERRORS, VALUE and the pass rule of the loop-back table for a run and what it found (R528, R532); none for a run that lasts until STOP, or for
a find of another target. VALUE of a generator run that tracked nothing, and which of two means of equal magnitude it shows, are free. -/
def lbResult (r : LbRun) (found : LbFound) (d : Dev) : Option (Nat × Int × Bool) × Dev :=
  match r.target, found with
  | 1, .link bad => (some (bad, bad, bad == 0), d)
  | 3, .tandem bad => (if r.depth = 3 then none else some (bad, bad, bad == 0), d)
  | 4, .drive tests =>
    let f := driveFailures tests
    (some (f.1, f.2, f.1 == 0), d)
  | 5, .pwm bad ps => (if r.depth = 0 then some (bad, ps, bad == 0 && decide (ps ≤ 4000)) else some (bad, bad, bad == 0), d)
  | 6, .adc codes =>
    let w := worst (codes.flatMap (deviations (if r.depth = 0 then [409, 2048, 3686] else [2048])))
    (some (0, w, decide (w ≤ 20)), d)
  | 7, .pulse rates =>
    let w := worst (deviations [1000000, 100000000, 1000000000] rates)
    (some (0, w, decide (w ≤ 1)), d)
  | 8, .generator track doppler cn0 sync =>
    let (free, d) := fresh d
    let err := doppler - 1000 * signedOf 16 (getF F.PWR_LB_GEN.DOPPLER d)
    let fits := fun (o : Option Nat) => match o with | some t => decide (t ≤ 250000) | none => false
    (some (0, if fits track then err else (free : Int), fits track && decide (err.natAbs ≤ 5000) && fits sync &&
      decide (((cn0 : Int) - 10 * getF F.PWR_LB_GEN.CN0 d).natAbs ≤ 15)), d)
  | 9, .port i q toggled =>
    let (free, d) := fresh d
    let v := if i.natAbs < q.natAbs || (i.natAbs == q.natAbs && free % 2 == 1) then q else i
    (some (0, v, toggled && decide (v.natAbs ≤ 128)), d)
  | _, _ => (none, d)

/-- The channels a drive test measures keep their on-resistance (R530). -/
def lbMeasures (r : LbRun) (found : LbFound) (d : Dev) : Dev :=
  match found with
  | .drive tests => if r.target = 4 then eachD tests (testRds r.spoke) d else d
  | _ => d

/-- A run completes. -/
def lbDone (found : LbFound) (d : Dev) : Dev :=
  match d.lb with
  | none => d
  | some r =>
    match lbResult r found (lbMeasures r found d) with
    | (none, _) => d
    | (some x, d) =>
      d |> setF F.PWR_LB_STATUS.ERRORS (min 0xFFFF x.1) |> setF F.PWR_LB_RESULT.VALUE (toBits 32 x.2.1) |> endLoopback (if x.2.2 then 2 else 3)

/-- LOOPBACK_DONE. -/
def execLoopbackDone (found : LbFound) (s : State) : Host.Outcome State Fault Refusal := run (lbDone found) s

/-! ### PCIe loop-back and boundary scan (R533 to R535) -/

/-- PCIE_LOOPBACK: the endpoint is loopback slave until its link goes down. -/
def execPcieLoopback (s : State) : Host.Outcome State Fault Refusal :=
  run (fun d => if d.pcie.linkUp then { d with pcie := { d.pcie with loopback := true } } else d) s

/-- A test instruction is loaded: one that holds the outputs acts as the ARM ball going low; once none does, the ball's level counts
again. -/
def loadTap (t : TapInst) (d : Dev) : Dev :=
  let arm := d.pins.arm
  let was := armHigh d
  let d : Dev := { d with pins := { d.pins with trstN := true, tap := t } }
  let now := armHigh d
  if was && !now then
    let d := armBallLow d
    eachD (spokeList d) settlePairs { d with pins := { d.pins with arm := arm } }
  else if now && !was then eachD (spokeList d) settlePairs (hubSignal 225 true d)
  else d

/-- BOUNDARY_SCAN_INSTRUCTION. -/
def execBoundaryScanInstruction (inst : TapInst) (scan : Option (List Ball)) (s : State) : Host.Outcome State Fault Refusal :=
  run (fun d => match scan with | none => loadTap inst d | some ones => scanData ones (loadTap inst d)) s

end Sys2Proof.Machine
end

