-- ==== Sys2Proof/Machine/PcieSpace.lean ====
section
/-! DEFINITION. BAR2 and the configuration space of the PCIe function (R86, R87, R129, R437). The register commands name a byte of BAR0 by
its offset, one of BAR2 by 0x40000 plus its offset, one of the configuration space by 0x44000 plus its offset, and the words whose place in that space the manual does not give by 0x45000 to 0x45020 (log entry 120). -/
namespace Sys2Proof.Machine

/-- An address of BAR2, and one of the configuration space. -/
def inBar2 (a : Nat) : Bool := decide (0x40000 ≤ a) && decide (a < 0x44000)
def inConfig (a : Nat) : Bool := decide (0x44000 ≤ a) && decide (a < 0x46000)

/-! ### BAR2: the MSI-X table at 0x0000, the pending-bit array at 0x2000 -/

/-- Word n of the pending-bit array. -/
def pbaWord (n : Nat) (d : Dev) : Word :=
  BitVec.ofNat 32 ((List.range 32).foldl (fun w b => if d.pcie.pba.contains (32 * n + b) then w + 2 ^ b else w) 0)

def bar2Read (a : Nat) (d : Dev) : Word :=
  let o := a - 0x40000
  if o < 0x400 then msixWord (o / 4) d
  else if 0x2000 ≤ o && decide (o < 0x2008) then pbaWord ((o - 0x2000) / 4) d
  else 0

/-- A write of BAR2: only the table takes it; an address is a multiple of 4, and bit 0 of the vector control masks the vector. -/
def bar2Write (a : Nat) (v : Word) (d : Dev) : Dev :=
  let n := (a - 0x40000) / 4
  if 0x100 ≤ n then d
  else if n % 4 = 3 then msixChange (.vector (n / 4) (v.getLsbD 0)) d
  else
    let v := if n % 4 = 0 then v &&& 0xFFFFFFFC else v
    { d with pcie := { d.pcie with msixWords := kput d.pcie.msixWords n v 0 } }

/-! ### Configuration space -/

/-- The code of Max_Read_Request_Size. -/
def mrrsCode (d : Dev) : Nat := ((List.range 6).find? fun c => decide (d.pcie.mrrs ≤ 128 * 2 ^ c)).getD 5

/-- The word of the configuration space at an address: identity, class code 0x118000 with the revision, the header type, the BARs; Device
Control, AtomicOp Requester Enable and MSI-X control; Device Capabilities with a payload of 256 bytes, the power-management word with
No_Soft_Reset and the state, the identifiers of Advanced Error Reporting and Device Serial Number, and the serial number (R86). What the manual
does not say of the others is free. -/
def configRead (a : Nat) (d : Dev) : Word × Dev :=
  let bar := fun (n : Nat) => kget d.pcie.bars n 0
  match (a - 0x44000) / 4 with
  | 0x000 => ((match d.chip.variant with | .yn2 => 0x59021F3C | .yn4 => 0x59041F3C | .yn8 => 0x59081F3C), d)
  | 0x002 => (0x11800011, d)
  | 0x003 => (0, d)
  | 0x004 => ((bar 0 &&& 0xFFFC0000) ||| 4, d)
  | 0x005 => (bar 1, d)
  | 0x006 => ((bar 2 &&& 0xFFFFC000) ||| 4, d)
  | 0x007 => (bar 3, d)
  | 0x008 | 0x009 | 0x00C => (0, d)
  | 0x400 => (BitVec.ofNat 32 (4096 * mrrsCode d + 32 * (if d.pcie.mps = 256 then 1 else 0)), d)
  | 0x401 => ((if d.pcie.atomicReq then 64 else 0), d)
  | 0x402 => (BitVec.ofNat 32 (63 + (if d.pcie.funcMask then 2 ^ 14 else 0) + if d.pcie.msixEnable then 2 ^ 15 else 0), d)
  | 0x403 => (1, d)
  | 0x404 => (BitVec.ofNat 32 (8 + if d.pcie.d3hot then 3 else 0), d)
  | 0x405 => (1, d)
  | 0x406 => (3, d)
  | 0x407 => (d.chip.serialLo, d)
  | 0x408 => (d.chip.serialHi, d)
  | _ =>
    let (v, d) := fresh d
    (BitVec.ofNat 32 v, d)

/-- A write of the configuration space: the BARs, Max_Read_Request_Size, the payload size, AtomicOp Requester Enable, MSI-X Enable and function mask. -/
def configWrite (a : Nat) (v : Word) (d : Dev) : Dev :=
  match (a - 0x44000) / 4 with
  | 0x004 | 0x005 | 0x006 | 0x007 => { d with pcie := { d.pcie with bars := kput d.pcie.bars ((a - 0x44000) / 4 - 4) v 0 } }
  | 0x400 =>
    let c := wordField v 12 3
    let p := wordField v 5 3
    { d with pcie := { d.pcie with mrrs := if c < 6 then 128 * 2 ^ c else d.pcie.mrrs, mps := if p < 2 then 128 * 2 ^ p else d.pcie.mps } }
  | 0x401 => settleAtomics { d with pcie := { d.pcie with atomicReq := v.getLsbD 6 } }
  | 0x402 => msixControl (v.getLsbD 15) (v.getLsbD 14) d
  | _ => d

end Sys2Proof.Machine
end

