-- ==== Sys2Proof/Machine/RegRead.lean ====
section
/-! DEFINITION. What a read of a register returns (R9, R47, R69, R537): the stored word, with the live fields computed from the state.
A field that shows something only the world outside can tell (a voltage, a current) is free. -/
namespace Sys2Proof.Machine

/-- The code of a state (R51). -/
def stateCode : PwrState → Nat
  | .cold => 0 | .boot => 1 | .images => 2 | .spokes => 3 | .link => 4 | .precharge => 5 | .selftest => 6
  | .ready => 7 | .armed => 8 | .restricted => 9 | .safe => 10 | .parked => 11

/-- The hub has left COLD and is not parked: HCPU, HPCIE, HLOG and HTIME are powered (R46). -/
def hubOn (d : Dev) : Bool := pstate d != .cold && pstate d != .parked

/-- HLINK is powered: from SPOKES on (R46). SAFE may have been entered before that, while no images were loaded. -/
def linkHostsOn (d : Dev) : Bool := hubOn d && pstate d != .boot && pstate d != .images && (pstate d != .safe || !d.pwr.manifest.isEmpty)

/-- A sum of powers of two, one for each bit that is on. -/
def bitSum (bs : List Bool) : Nat := (List.range bs.length).foldl (fun n i => if bs.getD i false then n + 2 ^ i else n) 0

/-- The on-demand blocks (R40). -/
inductive OnDemand where
  | lanes | tileCache | control (k : Nat) | gnss (k : Nat) | quarter (k q : Nat) | ringEngine | hubCore (n : Nat) | spokeCore (k : Nat)
deriving DecidableEq, Repr

/-- A block between uses: powered off, or clock-gated with its state kept, or running (R40). -/
inductive Demand where
  | off | gated | running
deriving DecidableEq, Repr

/-- A block that is gated or runs, while its domain is powered. -/
def demandOf (powered runs : Bool) : Demand := if !powered then .off else if runs then .running else .gated

/-- A core waits clock-gated for its interrupt, or is off where firmware has power-gated it (R40, R439). -/
def coreDemand (powered : Bool) (c : Ctl) (core : Nat) (d : Dev) : Demand :=
  demandOf (powered && coreRun c core d != .gated) (coreRun c core d == .running)

/-- What each on-demand block does now (R40): started by its trigger, and between uses off or clock-gated as the table gives. -/
def demand (b : OnDemand) (d : Dev) : Demand :=
  match b with
  | .lanes => demandOf (hubOn d && d.eng.lanesOn) true
  | .tileCache => demandOf (hubOn d && d.eng.cacheOn) d.eng.lanesOn
  | .control k =>
    demandOf (spokeFull k d && (getCtl k d).loops.any fun e => loopMode k e.1 d != 0) ((getCtl k d).loops.any fun e => e.2.latched.isSome)
  | .gnss k => demandOf (spokeFull k d && gnssOn k d) true
  | .quarter k q => demandOf (sdqOn k q d) true
  | .ringEngine =>
    demandOf (hubOn d) (d.host.polling || (ringList.any fun i => (getRing i d).head != (getRing i d).issued))
  | .hubCore n => coreDemand (hubOn d) .hub n d
  | .spokeCore k => coreDemand (d.pwr.spokeOn.contains k) (.spoke k) 0 d

/-- The domain of an on-demand block is powered. -/
def demandOn (b : OnDemand) (d : Dev) : Bool := demand b d != .off

/-- The CAN controllers are powered: while any is enabled (R46). -/
def hcanOn (d : Dev) : Bool := hubOn d && (List.range 4).any fun c => isSet (F.CAN_CFG.EN c) d

/-- PWR_DOMAIN_HUB (R46). -/
def hubDomains (d : Dev) : Nat :=
  let on := hubOn d
  let cache := demandOn .tileCache d
  bitSum [true, true, on, demandOn .lanes d, cache, cache, on, hcanOn d, on, linkHostsOn d, on, d.pins.trstN]

/-- PWR_DOMAIN_SPK(k) (R46). -/
def spokeDomains (k : Nat) (d : Dev) : Nat :=
  let on := d.pwr.spokeOn.contains k
  let full := spokeFull k d
  bitSum [on, on, on, demandOn (.control k) d, full && spwmOn k d, demandOn (.quarter k 0) d, demandOn (.quarter k 1) d, demandOn (.quarter k 2) d,
    demandOn (.quarter k 3) d, sboostOn k d, demandOn (.gnss k) d, on && rget (R.ADC_EN k) d != 0]

/-- PHASE of a channel: a current phase first, then 7 disabled, 6 retry. -/
def phaseCode (k n : Nat) (d : Dev) : Nat :=
  match (getChan k n d).phase with
  | .rise => 1
  | .dwell => 2
  | .hold => 3
  | .off => 4
  | .regulation => 5
  | .idle => if isSet (F.DRV_CH_STATUS.DISABLED k n) d then 7 else if (getChan k n d).retryEnd.isSome then 6 else 0

/-- DISABLED of 32 channels. -/
def faultMap (k base : Nat) (d : Dev) : Nat :=
  bitSum ((List.range 32).map fun i => isSet (F.DRV_CH_STATUS.DISABLED k (base + i)) d)

/-- Latched pairs of the part: the lasting instances of class 6. -/
def latchedPairs (d : Dev) : Nat :=
  ((spokeList d).flatMap fun k => (List.range 12).filter fun p => isSet (F.PWM_STATUS.LATCHED k p) d).length

/-- HLT_INST for the selected class and instance. -/
def selectedInst (d : Dev) : Nat :=
  let cls := getF F.HLT_SEL.CLASS d
  let i := getF F.HLT_SEL.INSTANCE d
  let x := getInst cls i d
  if !hasInst cls i d then 0
  else if cls = 6 then
    let k := i / 12 + 1
    let p := i % 12
    getF (F.PWM_STATUS.TRIP_CNT k p) d + 256 * getF (F.PWM_STATUS.LATCHED k p) d + 65536 * x.events
  else x.c + (if x.lasting then 256 else 0) + 65536 * x.events

/-- LOG_OLDEST_SEQ. -/
def oldestSeq (d : Dev) : Nat :=
  match oldestRecord d (heldRecords d) with
  | some e => e.2.seq
  | none => getF F.LOG_NEXT_SEQ.SEQ d

/-- REG_EST_DELAY and REG_EST_SLIP of the selected outlet. -/
def selectedDelay (d : Dev) : Nat :=
  let o := getF F.REG_EST_INDEX.OUTLET d
  if getF F.REG_TABLE_STATUS.OUTLETS d ≤ o then 0 else dOn o d + 65536 * dOff o d
def selectedSlip (d : Dev) : Nat :=
  let o := getF F.REG_EST_INDEX.OUTLET d
  let x := getOut o d
  if getF F.REG_TABLE_STATUS.OUTLETS d ≤ o then 0
  else slipOf o d % 2048 + 65536 * min 15 x.on.reject.length + 2 ^ 20 * min 15 x.off.reject.length + 2 ^ 24 * min 255 x.reseeds

/-- Channels of the part (IDN_REV). -/
def nChannels (d : Dev) : Nat := 64 * nSpokes d

/-- The core fields of an interrupt controller's core status: RUN_PRIO, DEPTH, GATED. -/
def coreFields (c : Ctl) (core : Nat) (d : Dev) : Nat :=
  runPrio c core d % 16 + 16 * min 15 (kget (getIrq c d).coreStacks core []).length + (if coreRun c core d == .gated then 256 else 0)

/-- Replace the bits [lo + len − 1 : lo] of a word. -/
def withBits (lo len v : Nat) (w : Word) : Word := wordPut w lo len v

/-- A free value in the bits [lo + len − 1 : lo] of a word. -/
def overFree (lo len : Nat) (w : Word) (d : Dev) : Word × Dev :=
  let (v, d) := fresh d
  (wordPut w lo len v, d)

/-- A word with its live fields, for the hub's blocks. -/
def hubLive (h : RegHit) (w : Word) (d : Dev) : Word × Dev :=
  match h.name with
  | .PWR_STATE => (withBits 0 4 (stateCode (pstate d)) w, d)
  | .PWR_ARM => (w |> withBits 0 1 (if armHigh d then 1 else 0) |> withBits 1 1 (if isArmed d then 1 else 0), d)
  | .PWR_DOMAIN_HUB => (BitVec.ofNat 32 (hubDomains d), d)
  | .PWR_DOMAIN_SPK => (if hasSpoke (h.i + 1) d then BitVec.ofNat 32 (spokeDomains (h.i + 1) d) else 0, d)
  | .PWR_SUPPLY => overFree 0 8 (withBits 8 1 (if d.pins.aoWarn then 1 else 0) w) d
  | .HIF_STATUS => (withBits 0 1 (if anyRunning d && hostReachable d then 1 else 0) w, d)
  | .REG_CFG => (withBits 13 1 (if d.eng.proof then 1 else 0) w, d)
  | .REG_TILE_COUNT =>
    (BitVec.ofNat 32 (usedBlocks d.eng.tiles + 65536 * (d.eng.tiles.filter fun t => t.kind == 0 && isDirty t).length), d)
  | .REG_EST_DELAY => (BitVec.ofNat 32 (selectedDelay d), d)
  | .REG_EST_SLIP => (BitVec.ofNat 32 (selectedSlip d), d)
  | .TIM_FT_LO => (BitVec.ofNat 32 (fieldNs d), d)
  | .TIM_FT_HI => (d.time.latchFtHi, d)
  | .TIM_PT_LO => (d.time.latchPtLo, d)
  | .TIM_PT_HI => (d.time.latchPtHi, d)
  | .CAN_STATUS =>
    (w |> withBits 0 2 (canState h.unit d) |> withBits 2 1 (if hcanOn d && (getCan h.unit d).alone then 1 else 0)
      |> withBits 3 1 (if hcanOn d && canListen h.unit d then 1 else 0), d)
  | .CAN_ERR =>
    let x := getCan h.unit d
    (w |> withBits 0 8 (canTec x) |> withBits 8 7 (min 127 x.rec_) |> withBits 15 1 (if 128 ≤ x.rec_ then 1 else 0), d)
  | .CAN_QUEUE =>
    let x := getCan h.unit d
    (BitVec.ofNat 32 (x.fifo.length + 256 * x.rx.length + if x.summary.isSome then 65536 else 0), d)
  | .CAN_SB_CFG => (withBits 8 6 d.chip.strapAddr w, d)
  | .HIC_CORE_STATUS => (withBits 0 16 (coreFields .hub h.i d) w, d)
  | .LOG_STATUS =>
    (w |> withBits 0 1 (if d.log.frozen.isSome then 1 else 0) |> withBits 2 1 (if d.log.erasing then 1 else 0)
      |> withBits 8 7 (galleyWaiting d).length, d)
  | .LOG_OLDEST_SEQ => (BitVec.ofNat 32 (oldestSeq d), d)
  | .LOG_COUNT =>
    let rs := heldRecords d
    (BitVec.ofNat 32 ((rs.filter fun e => recordValid e.2).length + 65536 * (rs.filter fun e => !recordValid e.2).length), d)
  | .LOG_OPTIME_LO => (BitVec.ofNat 32 d.pwr.opTime, d)
  | .HLT_STATUS =>
    let n := lastingNow d + latchedPairs d
    (w |> withBits 0 1 (if n = 0 then 0 else 1) |> withBits 16 16 (min 0xFFFF n), d)
  | .HLT_REPLAN => (BitVec.ofNat 32 (d.health.lastReplan + 36000 - d.pwr.opTime), d)
  | .HLT_PKG => (rget R.HLT_PKG d, d)
  | .HLT_INST => (BitVec.ofNat 32 (selectedInst d), d)
  | .IDN_ID => ((match d.chip.variant with | .yn2 => 0x59021F3C | .yn4 => 0x59041F3C | .yn8 => 0x59081F3C), d)
  | .IDN_REV => (BitVec.ofNat 32 (0x11 + 256 * nSpokes d + 65536 * nChannels d), d)
  | .IDN_SERIAL_LO => (d.chip.serialLo, d)
  | .IDN_SERIAL_HI => (d.chip.serialHi, d)
  | _ => (w, d)

/-- The domain that holds what a register of spoke k shows live is powered (R46, R47). -/
def liveOn (k : Nat) (h : RegHit) (d : Dev) : Bool :=
  match h.name with
  | .DRV_CH_STATUS | .DRV_CH_MEAS | .DRV_CH_RISE => demandOn (.quarter k (h.i / 16)) d
  | .DRV_CAS_STATUS | .DRV_CAS_SCHED => demandOn (.quarter k (h.i / 2)) d
  | .PWM_STATUS | .PWM_TRIP_STATUS => spokeFull k d && spwmOn k d
  | .GNB_STATUS | .GNB_CH => demandOn (.gnss k) d
  | .CTL_LOOP_STATUS => demandOn (.control k) d
  | .ADC_PULSE_VAL | .ADC_ENC_SPEED | .ADC_SPI_STATUS => rget (R.ADC_EN k) d != 0
  | _ => true

/-- The live bits of those registers. -/
def liveMask (n : RegName) : Nat :=
  match n with
  | .DRV_CH_STATUS => 0x0FFF000F
  | .DRV_CH_MEAS => 0x00000FFF
  | .DRV_CH_RISE => 0x00001FFF
  | .DRV_CAS_STATUS => 0x0FFF0001
  | .DRV_CAS_SCHED => 0x0000001F
  | .PWM_STATUS => 0x0000003F
  | .PWM_TRIP_STATUS => 0x0000000F
  | .GNB_STATUS => 0x002FFFF0
  | .GNB_CH => 0x0000037F
  | .CTL_LOOP_STATUS => 0x0F000F00
  | .ADC_PULSE_VAL | .ADC_ENC_SPEED => 0xFFFFFFFF
  | .ADC_SPI_STATUS => 0x00000001
  | _ => 0

/-- MEAN of DRV_CH_MEAS in mA: in regulation within 1 % of FS_I of the set-point, from 5 % of FS_I up and once a load with L/R up to 50 ms
has settled (R232; log entry 132); else what is measured. -/
def meanCurrent (k n : Nat) (d : Dev) : Nat × Dev :=
  let c := getChan k n d
  let (v, d) := fresh d
  let fs := fullScale k n d
  if c.phase == .regulation && decide (fs ≤ 20 * c.setPt) && decide (c.setAt + ms 201 ≤ spokePt k d) then
    (c.setPt - fs / 100 + v % (2 * (fs / 100) + 1), d)
  else (v, d)

/-- A word with its live fields, for a spoke window. -/
def spokeLive (k : Nat) (h : RegHit) (w : Word) (d : Dev) : Word × Dev :=
  let t := spokePt k d
  let limited := pstate d == .restricted
  match h.name with
  | .SPK_SUPPLY => overFree 0 8 w d
  | .DRV_BOOST_STATUS =>
    let b := (getSpoke k d).boost
    let on := sboostOn k d
    let above := on && decide (2 * getF (F.DRV_BOOST_CFG.LIMIT k) d < b.rail)
    (w |> withBits 0 9 (if on then b.rail else 0) |> withBits 9 1 (if on && b.charging then 1 else 0) |> withBits 10 1 (if above then 1 else 0), d)
  | .DRV_FAULT_MAP_LO => (BitVec.ofNat 32 (faultMap k 0 d), d)
  | .DRV_FAULT_MAP_HI => (BitVec.ofNat 32 (faultMap k 32 d), d)
  | .DRV_CAS_STATUS =>
    let c := getCas k h.i d
    let w := withBits 0 1 (if heldOff k h.i d then 1 else 0) w
    if t < c.meanAt + ms 1 && c.meanAt != 0 then (withBits 16 12 c.mean w, d) else overFree 16 12 w d
  | .DRV_CAS_SCHED =>
    let c := getCas k h.i d
    (w |> withBits 0 4 c.queue.length |> withBits 4 1 (if c.serving.isSome then 1 else 0), d)
  | .DRV_CH_STATUS =>
    overFree 16 12 (w |> withBits 0 3 (phaseCode k h.i d) |> withBits 3 1 (if (getChan k h.i d).pending.isSome then 1 else 0)) d
  | .DRV_CH_LEAK =>
    (BitVec.ofNat 32 ((List.range 4).foldl (fun n c => n + 256 ^ c * (getInst c (globalCh k h.i) d).c) 0), d)
  | .DRV_CH_MEAS =>
    let (v, d) := meanCurrent k h.i d
    (withBits 0 12 v w, d)
  | .DRV_CH_RISE => (withBits 0 13 (tRise (getChan k h.i d).er) w, d)
  | .PWM_STATUS =>
    (w |> withBits 0 3 (if limited then 0 else pairState k h.i d) |> withBits 4 1 (if tripActive k h.i d then 1 else 0)
      |> withBits 5 1 (if (getPair k h.i d).claim.isSome then 1 else 0), d)
  | .CTL_LOOP_STATUS => (withBits 10 1 (if destDown k h.i d then 1 else 0) w, d)
  | .ADC_PULSE_VAL => (BitVec.ofNat 32 (pulseFreq k h.i t d), d)
  | .ADC_ENC_STATUS => (withBits 0 3 (if isHall k h.i d then (getEnc k h.i d).lines else 0) w, d)
  | .ADC_ENC_POS => (BitVec.ofNat 32 (encPos k h.i t d), d)
  | .ADC_ENC_SPEED =>
    let (v, d) := encSpeed k h.i t d
    (BitVec.ofNat 32 (toBits 32 v), d)
  | .ADC_SPI_STATUS => (withBits 0 1 (if spiValid k h.i t d then 1 else 0) w, d)
  | .SIC_CORE => (withBits 0 16 (coreFields (.spoke k) 0 d) w, d)
  | _ => (w, d)

/-- The bits of a register that a read shows: those of every field but WO ones (R7, R9). -/
def readMask (h : RegHit) : Nat := accMask (fun a => a != .wo) h

/-- What the register at a BAR0 offset reads as, 0 where there is none (R537). -/
def regValue (off : Nat) (d : Dev) : Word × Dev :=
  match regFind off with
  | none => (0, d)
  | some h =>
    let w := rget h.reg d
    let (w, d) :=
      if off < 0x14000 then hubLive h w d
      else if liveOn h.unit h d then spokeLive h.unit h w d
      else (mixWord (liveMask h.name) w h.reg.reset, d)
    (mixWord (readMask h) 0 w, d)

/-- What a read of a hub register latches (TIM_FT_LO, LOG_OPTIME_LO). -/
def readLatch (off : Nat) (d : Dev) : Dev :=
  if off = R.TIM_FT_LO.off then
    updTime (fun t => { t with
      latchFtHi := BitVec.ofNat 32 (fieldNs d / 2 ^ 32)
      latchPtLo := BitVec.ofNat 32 d.pt
      latchPtHi := BitVec.ofNat 32 (d.pt / 2 ^ 32) }) d
  else if off = R.LOG_OPTIME_LO.off then setF F.LOG_OPTIME_HI.OP_TIME (d.pwr.opTime / 2 ^ 32) d
  else d

/-- The spoke whose window an offset lies in, 1 to 7. -/
def windowOf (off : Nat) : Option Nat :=
  if 0x14000 ≤ off && decide (off < 0x30000) then some ((off - 0x14000) / 0x4000 + 1) else none

/-- The offset within its window. -/
def windowOff (off : Nat) : Nat := (off - 0x14000) % 0x4000

/-- The registers of a window that the hub holds (R29). -/
def hubHeld (off : Nat) : Bool := decide (0x10 ≤ windowOff off) && decide (windowOff off ≤ 0x1F)

/-- A window out of reach: its link is down or its spoke isolated (R29, R538). -/
def windowDown (k : Nat) (d : Dev) : Bool := !(getLink k d).up || isIsolated k d

/-- A hub block whose domain is unpowered and whose registers are not held elsewhere (R47): the tandem block of HLINK. -/
def blockOff (off : Nat) (d : Dev) : Bool := decide (0x06000 ≤ off) && decide (off < 0x08000) && !linkHostsOn d

/-- A host read of BAR0 (R87, R537 to R539): answered at once, or by the spoke's RESP. One of BAR2 keeps the same access rules; one of the
configuration space has none of them. -/
def hostRead (off size : Nat) (d : Dev) : Dev :=
  let now := fun (d : Dev) =>
    let (v, d) := regValue off d
    emit (.readDone off v) (readLatch off d)
  if inConfig off then
    let (v, d) := configRead off d
    emit (.readDone off v) d
  else if size != 4 || off % 4 != 0 || decide (0x40000 ≤ off) && !inBar2 off then emit (.unsupported off) d
  else if inBar2 off then emit (.readDone off (bar2Read off d)) d
  else
    match windowOf off with
    | some k =>
      if !hasSpoke k d then emit (.readDone off 0) d
      else if hubHeld off then now d
      else if windowDown k d then emit (.readDone off 0xFFFFFFFF) d
      else d |> updLink k (fun l => { l with reads := l.reads ++ [off] }) |> linkSend k .hub (.cmd (.regRead (windowOff off)))
    | none => if blockOff off d then emit (.readDone off 0xFFFFFFFF) d else now d

end Sys2Proof.Machine
end

