-- ==== Sys2Proof/Machine/RegWrite.lean ====
section
/-! DEFINITION. What a write of a register does (R9, R29, R47, R69, R87, R130, R538, R539): which fields take it, the ranges that leave a
field or the register unchanged, and the actions of the registers that have one. -/
namespace Sys2Proof.Machine

/-! ### Ranges -/

/-- A field within a range, in a word. -/
def fieldIn (w : Word) (lo len a b : Nat) : Bool := decide (a ≤ wordField w lo len) && decide (wordField w lo len ≤ b)

/-- A signed field within ±b. -/
def fieldNear (w : Word) (lo len b : Nat) : Bool := decide ((signedOf len (wordField w lo len)).natAbs ≤ b)

/-- The ranges of a register whose write is taken whole or not at all; `i` is the instance. -/
def wordLegal (n : RegName) (w : Word) : Bool :=
  let f := wordField w
  match n with
  | .REG_TIMING => fieldIn w 0 15 200 20000 && fieldIn w 16 15 1000 30000
  | .REG_TIMING2 => fieldIn w 0 16 2000 60000 && fieldNear w 16 16 10000
  | .REG_THRESH => fieldIn w 0 7 0 100 && fieldIn w 8 7 1 100 && decide (f 0 7 ≤ f 8 7) && fieldIn w 16 10 0 1000
  | .REG_PREFETCH => fieldIn w 0 4 1 15 && fieldIn w 8 8 10 255 && fieldIn w 16 8 1 255
  | .REG_WB => fieldIn w 0 16 100 10000 && fieldIn w 16 16 10 6000
  | .REG_RATE_CFG => fieldIn w 0 19 1 266667
  | .DRV_CFG => fieldIn w 0 10 0 1000 && fieldIn w 10 8 1 255
  | .DRV_BOOST_CFG =>
    fieldIn w 1 8 48 144 && fieldIn w 9 8 (f 1 8 + 4) 156 && fieldIn w 17 8 32 (f 1 8 - 4) && fieldIn w 25 5 2 30
  | .DRV_TPL_CTL => fieldIn w 8 9 10 300 && fieldIn w 18 7 5 (min 120 (f 8 9)) && fieldIn w 26 6 2 (min 50 (f 18 7 - 2))
  | .DRV_TPL_PEAK => fieldIn w 16 13 50 5000 && fieldIn w 0 15 (max 100 (f 16 13)) 20000
  | .DRV_TPL_PULSE => fieldIn w 0 15 0 20000 && fieldIn w 16 15 0 20000
  | .DRV_TPL_PROP => fieldIn w 0 7 5 120 && fieldIn w 8 8 10 250 && fieldIn w 16 9 20 (min 500 (5 * f 8 8)) && fieldIn w 25 5 0 30
  | .DRV_SCHED_CFG => fieldIn w 0 11 0 2000 && fieldIn w 16 4 2 15
  | .DRV_DET_CFG => fieldIn w 16 6 1 63 && fieldIn w 24 6 1 63
  | .DRV_DET_WIN => fieldIn w 0 8 10 255 && fieldIn w 8 8 1 255
  | .REG_EST_CFG => fieldIn w 0 6 10 63 && fieldIn w 12 4 2 15
  | .ADC_SPI_CFG => fieldIn w 0 4 2 15 && fieldIn w 8 8 4 255 && fieldIn w 16 16 20 65535
  | .PWM_TRIP_LIM => fieldIn w 0 8 1 255 && fieldIn w 8 8 1 255
  | .TIM_HOLD => fieldIn w 24 7 1 100
  | .GNB_TRACK => fieldIn w 0 6 1 50 && fieldIn w 6 6 1 40 && fieldIn w 12 6 15 40 && fieldIn w 18 8 10 100
  | .GNB_TAPS =>
    fieldIn w 0 6 1 32 && fieldIn w 6 6 (f 0 6 + 1) 64 && fieldIn w 12 6 1 32 && fieldIn w 18 6 (f 12 6 + 1) 64
  | .GNB_NOTCH_CFG => decide (f 0 2 < 3) && decide (f 2 2 < 3) && decide (f 4 2 < 3) && fieldIn w 8 8 6 40
  | .GNB_JAM => fieldIn w 0 4 1 15 && fieldIn w 4 4 1 15 && fieldIn w 18 6 1 63 && fieldIn w 24 8 16 192
  | .CAN_FILT => fieldIn w 0 8 0 128 && fieldIn w 8 7 0 64
  | .HLT_CLASS_CFG => fieldIn w 0 4 1 15 && fieldIn w 4 8 1 255 && fieldIn w 12 16 1 65535
  | .PWR_LB_GEN => fieldIn w 0 6 1 (if w.getLsbD 6 then 36 else 32) && fieldIn w 8 8 30 55 && fieldNear w 16 16 5000
  | _ => true

/-- Keep a field of the old word where the new value is outside its range. -/
def keepField (old : Word) (lo len : Nat) (ok : Nat → Bool) (w : Word) : Word :=
  if ok (wordField w lo len) then w else wordPut w lo len (wordField old lo len)

/-- The registers whose fields each stay unchanged when written outside their range. -/
def fieldsLegal (n : RegName) (old w : Word) : Word :=
  let between := fun (a b v : Nat) => decide (a ≤ v) && decide (v ≤ b)
  match n with
  | .PWR_PRECHARGE => w |> keepField old 0 8 (between 10 255) |> keepField old 8 5 (between 2 20)
  | .HIF_RING_MOD => keepField old 8 8 (between 1 255) w
  | .REG_CFG => keepField old 16 4 (between 1 15) w
  | .REG_CYCLE => keepField old 0 15 (between 250 20000) w
  | .REG_REPORT_CFG => keepField old 8 8 (between 1 255) w
  | .ADC_PULSE_CFG | .ADC_ENC_CFG => keepField old 16 16 (between 1 65535) w
  | .TIM_CFG => keepField old 3 10 (between 1 999) w
  | .GNB_EPOCH => keepField old 0 10 (between 10 1000) w
  | .CAN_SUM_CFG => keepField old 16 16 (fun v => v == 0 || decide (10 ≤ v)) w
  | .LOG_CFG => keepField old 0 6 (between 1 60) w
  | _ => w

/-- The word a write leaves, by the access codes (R9): RWA fields only while outputs are disarmed, W1C flags cleared by
1, but for those of `set` which hardware has set in the same tick. -/
def writtenWord (h : RegHit) (v old : Word) (armed : Bool) (set : Nat) : Word :=
  let mask := accMask (fun a => a == .rw || (a == .rwa && !armed)) h
  let new := fieldsLegal h.name old (mixWord mask old v)
  let new := if wordLegal h.name new then new else old
  let clear := accMask (· == .w1c) h &&& v.toNat
  let clear := clear - (clear &&& set)
  mixWord clear new 0

/-- A write of a register without an action of its own. -/
def plainWrite (h : RegHit) (v : Word) (d : Dev) : Dev := rput h.reg (writtenWord h v (rget h.reg d) (isArmed d) (marksOf h.reg.off d)) d

/-! ### Registers with an action -/

/-- PWR_CMD: a code that names no command is refused. RESTART acts on the byte memories too: `writeHub` calls it. -/
def writePwrCmd (v : Word) (d : Dev) : Dev :=
  match wordField v 0 8 with
  | 1 => safeCmd d
  | 2 => safeClearCmd d
  | 3 => parkCmd d
  | 5 => selftestCmd d
  | 6 => spokeResetCmd (wordField v 8 3) d
  | _ => raise F.PWR_ARM.CMD_REFUSED d

/-- HIF_RING_CTL(i). -/
def writeRingCtl (i : Nat) (v : Word) (d : Dev) : Dev :=
  match wordField v 0 2 with
  | 1 => ringStart i d
  | 2 => ringStop i d
  | 3 => ringReset i d
  | _ => d

/-- A global host-interface register: only while every ring is STOPPED (R130). A write of HIF_EPOCH clears MISMATCH_COUNT. -/
def writeHifGlobal (h : RegHit) (v : Word) (d : Dev) : Dev :=
  if ringList.all fun i => ringState i d == .stopped then
    d |> plainWrite h v |> whenD (h.name == .HIF_EPOCH) (lower F.HIF_STATUS.MISMATCH_COUNT)
  else raise F.HIF_STATUS.CFG_DISCARDED d

/-- A configuration or base register of ring i: only while it is STOPPED (R130). -/
def writeRingReg (h : RegHit) (v : Word) (d : Dev) : Dev :=
  if ringState h.i d == .stopped then plainWrite h v d else raise (F.HIF_RING_STATUS.CFG_DISCARDED h.i) d

/-- CAN_CFG (R365, R368, R372): FD_EN and TRIPLE only while HALT is 1; EN and HALT act when they change. -/
def writeCanCfg (c : Nat) (v : Word) (d : Dev) : Dev :=
  let r := R.CAN_CFG c
  let old := rget r d
  let halted := isSet (F.CAN_CFG.HALT c) d
  let locked := 0x2004
  let mask := 0x3FFC - if halted then 0 else locked
  let d := rput r (mixWord mask old v) (updCan c (fun x => { x with cfgLog := x.cfgLog ++ [(d.pt, old)] }) d)
  let d := whenD (!halted && (old ^^^ v) &&& BitVec.ofNat 32 locked != 0) (raise (F.CAN_STATUS.CFG_DISCARDED c)) d
  let d := if v.getLsbD 0 then canEnable c d else canDisable c d
  if v.getLsbD 1 then (if halted then d else haltSet c d) else haltClear c d

/-- CAN_RXB_LO: the stores into each buffer count from where EN is set (R381, log entry 142). -/
def writeMirror (c : Nat) (h : RegHit) (v : Word) (d : Dev) : Dev :=
  let was := isSet (F.CAN_RXB_LO.EN c) d
  let d := plainWrite h v d
  if !was && isSet (F.CAN_RXB_LO.EN c) d then
    updCan c (fun x => { x with bufs := (x.bufs.map fun b => (b.1, { b.2 with count := 0 })).filter (fun b => b.2 != {}) }) d
  else d

/-- CAN_NOMBIT and CAN_DATABIT: only while HALT is 1 (R368). -/
def writeCanBits (c : Nat) (h : RegHit) (v : Word) (d : Dev) : Dev :=
  if isSet (F.CAN_CFG.HALT c) d then plainWrite h v d else raise (F.CAN_STATUS.CFG_DISCARDED c) d

/-- GNB_CFG (R47, R337, R343): EN set or cleared leaves every channel IDLE; cleared, the live fields read their reset values. -/
def writeGnbCfg (k : Nat) (h : RegHit) (v : Word) (d : Dev) : Dev :=
  let was := gnssOn k d
  let d := plainWrite h v d
  let now := gnssOn k d
  if was = now then d else portSwitched k d

/-- GNB_NOTCH_CFG and GNB_NOTCH: a notch whose mode or fixed centre changes moves. -/
def writeNotch (k : Nat) (h : RegHit) (v : Word) (d : Dev) : Dev :=
  let mode := fun i => notchMode k i d
  let d2 := plainWrite h v d
  eachD [0, 1, 2] (fun i d => if notchMode k i d = 2 || notchMode k i d != mode i then notchMoved k i d else d) d2

/-- DRV_CH_STATUS and DRV_CAS_STATUS: DISABLED clears only as R238 gives. -/
def writeChStatus (k n : Nat) (h : RegHit) (v : Word) (d : Dev) : Dev :=
  d |> plainWrite h (v &&& 0xFFFFFFEF) |> whenD (v.getLsbD 4) (clearDisabled k n)
def writeCasStatus (k c : Nat) (h : RegHit) (v : Word) (d : Dev) : Dev :=
  d |> plainWrite h (v &&& 0xFFFFFFF7) |> whenD (v.getLsbD 3) (clearCassette k c)

/-- The detector of a template is off: the counts of its channels are held at 0 (R258). -/
def settleDetector (k t : Nat) (d : Dev) : Dev :=
  if isSet (F.DRV_DET_CFG.DET_EN k t) d then d
  else eachD ((List.range 64).filter fun n => tplOf k n d == t) (fun n d =>
    d |> heldTravel k n |> updChan k n (fun c => { c with noKink := false })) d

/-- The four time registers of a pair, each RWA: one takes its fields of v, the others stand. -/
def writePairTimes (k p : Nat) (h : RegHit) (v : Word) (d : Dev) : Dev :=
  if isArmed d then d
  else
    let w := fun (n : RegName) (r : Reg) => if h.name = n then mixWord (setupMask h) (rget r d) v else rget r d
    writePwmTimes k p (w .PWM_DT (R.PWM_DT k p)) (w .PWM_ADT (R.PWM_ADT k p)) (w .PWM_SENSE (R.PWM_SENSE k p)) (w .PWM_PULSE (R.PWM_PULSE k p)) d

/-- TIM_CFG and TIM_UNC_LIMIT: TPULSE is inactive while it may not pulse (R361); steering starts from the values at the last jump. -/
def writeTim (h : RegHit) (v : Word) (d : Dev) : Dev :=
  let d := plainWrite h v d
  let d := whenD (h.name == .TIM_UNC_LIMIT) (fun d => setUnc (getF F.TIM_UNC.UNC d) d) d
  holdPulse d

/-- PWR_PARK_CFG: with the polarity the WAKE ball may cease to be active (R79). -/
def writeParkCfg (h : RegHit) (v : Word) (d : Dev) : Dev :=
  let was := wakeActive d
  let d := plainWrite h v d
  whenD (was && !wakeActive d) (updPwr fun p => { p with wakeIdle := d.pt }) d

/-- A write of a hub register, its place in reach. -/
def writeHubReg (by_ : Agent) (h : RegHit) (v : Word) (d : Dev) : Dev :=
  match h.name with
  | .PWR_CMD => writePwrCmd v d
  | .PWR_CAUSE => setPersistent (plainWrite h v d)
  | .PWR_PARK_CFG => writeParkCfg h v d
  | .PWR_LB_CTL => writeLbCtl v d
  | .IDN_HOST_ABI => writeAbi (v.toNat % 65536) d
  | .HIF_CFG => writeHifCfg v.toNat d
  | .HIF_DB_ADDR_LO | .HIF_DB_ADDR_HI | .HIF_PROG_ADDR_LO | .HIF_PROG_ADDR_HI | .HIF_EPOCH => writeHifGlobal h v d
  | .HIF_SQ_BASE_LO | .HIF_SQ_BASE_HI | .HIF_CQ_BASE_LO | .HIF_CQ_BASE_HI | .HIF_RING_CFG => writeRingReg h v d
  | .HIF_RING_CTL => writeRingCtl h.i v d
  | .HIC_PEND => writePending by_ .hub h.i v.toNat 0 d
  | .HIC_EN | .HIC_MASK => writeEnable by_ .hub h.reg h.i v.toNat d
  | .HIC_CFG => writeConfig by_ .hub h.i v.toNat d
  | .HIC_CORE_EOI => writeEoi by_ .hub h.i (v.getLsbD 0) d
  | .HIC_NUDGE => writeNudge by_ .hub h.i (wordField v 0 4) (v.getLsbD 4) (v.getLsbD 5) d
  | .LOG_CTL => eraseWrite v.toNat d
  | .HLT_CLEAR => hltClear (wordField v 0 5) (wordField v 8 11) d
  | .HLT_CLASS_CFG => if h.i = 6 then d else plainWrite h v d
  | .CAN_CFG => writeCanCfg h.unit v d
  | .CAN_NOMBIT | .CAN_DATABIT => writeCanBits h.unit h v d
  | .CAN_RXB_LO => writeMirror h.unit h v d
  | .CAN_EXT_FILT => extFilterWrite h.unit h.i h.j v d
  | .CAN_CTL => if v.getLsbD 0 then canRecover h.unit d else d
  | .TIM_CFG | .TIM_UNC_LIMIT => writeTim h v d
  | _ => plainWrite h v d

/-- A write of a register of spoke k, at the spoke. -/
def writeSpokeReg (by_ : Agent) (k : Nat) (h : RegHit) (v : Word) (d : Dev) : Dev :=
  match h.name with
  | .DRV_BOOST_CFG =>
    let was := isSet (F.DRV_BOOST_CFG.EN k) d
    let d := plainWrite h v d
    if isSet (F.DRV_BOOST_CFG.EN k) d then d |> whenD (!was && pstate d == .ready) prechargeAll |> settleConverter k
    else
      let (rail, d) := if was then idleRail (getSpoke k d).boost.rail d else ((getSpoke k d).boost.rail, d)
      d |> updBoost k (fun b => { b with rail := rail, charging := false }) |> bitF F.PWR_STATE.PRECHARGED (k - 1) false
        |> updPwr (fun p => { p with prechargeBy := kdel p.prechargeBy k, noCharge := p.noCharge.filter (· != k) }) |> prechargeDone
  | .DRV_DET_CFG => settleDetector k h.i (plainWrite h v d)
  | .DRV_CH_STATUS => writeChStatus k h.i h v d
  | .DRV_CAS_STATUS => writeCasStatus k h.i h v d
  | .PWM_CFG => writePwmCfg k h.i v d
  | .PWM_PER => writePwmPer k h.i v d
  | .PWM_PHASE => writePwmPhase k h.i v d
  | .PWM_DT | .PWM_ADT | .PWM_SENSE | .PWM_PULSE => writePairTimes k h.i h v d
  | .PWM_CTL => if v.getLsbD 0 then clearPair k h.i d else d
  | .ADC_EN => writeAdcEn k v d
  | .GNB_CFG => writeGnbCfg k h v d
  | .GNB_SV_GPS | .GNB_SV_GAL_LO | .GNB_SV_GAL_HI => prnsWritten k (plainWrite h v d)
  | .GNB_NOTCH_CFG | .GNB_NOTCH => writeNotch k h v d
  | .SIC_PEND => writePending by_ (.spoke k) h.i v.toNat 0 d
  | .SIC_EN | .SIC_MASK => writeEnable by_ (.spoke k) h.reg h.i v.toNat d
  | .SIC_CFG => writeConfig by_ (.spoke k) h.i v.toNat d
  | .SIC_EOI => writeEoi by_ (.spoke k) 0 (v.getLsbD 0) d
  | .SIC_NUDGE => writeNudge by_ (.spoke k) 0 (wordField v 0 4) (v.getLsbD 4) (v.getLsbD 5) d
  | _ => plainWrite h v d

/-! ### Where a write takes effect (R69) -/

/-- A ring of a class that RESTRICTED permits, or that this write gives one. -/
def ringPermitted (h : RegHit) (v : Word) (d : Dev) : Bool :=
  classRestricted (ringClass h.i d) || (h.name == .HIF_RING_CFG && classRestricted (wordField v 0 4))

/-- In RESTRICTED a write takes effect only in the identity and ABI block, the host-interface registers (those of a ring: of a permitted
ring), the interrupt controllers, PWR_CMD, and the logbook and health blocks. -/
def writable (off : Nat) (h : RegHit) (v : Word) (d : Dev) : Bool :=
  if pstate d != .restricted then true
  else
    match windowOf off with
    | some _ => decide (0x3800 ≤ windowOff off)
    | none =>
      decide (off < 0x1100) || (decide (0x1100 ≤ off) && decide (off < 0x2000) && ringPermitted h v d) || off == R.PWR_CMD.off ||
        (decide (0x3000 ≤ off) && decide (off < 0x6000))

/-- A write that has reached the register at a BAR0 offset; a reserved offset takes none (R537). -/
def regWrite (by_ : Agent) (off : Nat) (v : Word) (d : Dev) : Dev :=
  match regFind off with
  | none => d
  | some h =>
    if !writable off h v d then d
    else
      match windowOf off with
      | some k => writeSpokeReg by_ k h v d
      | none => writeHubReg by_ h v d

/-- A write of BAR0 (R29, R47, R87, R538): a spoke's register is written by a CMD frame, or by the spoke's own core at once. BAR2 and the
configuration space are the host's. -/
def busWrite (by_ : Agent) (off size : Nat) (v : Word) (d : Dev) : Dev :=
  if inConfig off then whenD (by_ == .host) (configWrite off v) d
  else if size != 4 || off % 4 != 0 then raise F.HIF_STATUS.BAD_ACCESS d
  else if 0x40000 ≤ off then whenD (by_ == .host && inBar2 off) (bar2Write off v) d
  else
    match windowOf off with
    | some k =>
      if !hasSpoke k d then d
      else if by_ = .spokeFw then (if d.pwr.spokeOn.contains k then regWrite by_ off v d else d)
      else if hubHeld off then regWrite by_ off v d
      else if windowDown k d then d
      else linkSend k .hub (.cmd (.regWrite (windowOff off) v by_)) d
    | none => if blockOff off d then d else regWrite by_ off v d

/-- As `busWrite`, with RESTART of PWR_CMD, which clears the byte memories as well (R85). -/
def storeWrite (by_ : Agent) (off size : Nat) (v : Word) (s : State) : State :=
  if off = R.PWR_CMD.off && size = 4 && wordField v 0 8 = 4 then restartCmd s else { s with dev := busWrite by_ off size v s.dev }

end Sys2Proof.Machine
end

