-- ==== Sys2Proof/Machine/RegCmds.lean ====
section
/-! DEFINITION. Meanings of the register accesses (R87, R537 to R539) and of CMD frames (R18). -/
namespace Sys2Proof.Machine

/-- REGISTER_WRITE: the hub acts on it while HCPU and HPCIE are powered. -/
def execRegisterWrite (addr size : Nat) (value : Word) (by_ : Agent) (s : State) : Host.Outcome State Fault Refusal :=
  .next (if hubOn s.dev then storeWrite by_ addr size value s else s)

/-- REGISTER_READ by the host. -/
def execRegisterRead (addr size : Nat) (s : State) : Host.Outcome State Fault Refusal :=
  run (fun d => if hubOn d then hostRead addr size d else d) s

/-- What a CMD frame asks of a spoke. In RESTRICTED its control engine is unpowered and a loop command has no effect (R69, R94). -/
def cmdIn (k : Nat) (c : CmdP) (d : Dev) : Dev :=
  match c with
  | .regWrite off v by_ => regWrite by_ (spk k + off % 0x4000) v d
  | .regRead off =>
    let (v, d) := regValue (spk k + off % 0x4000) d
    linkSend k .spoke (.resp (spk k + off % 0x4000) v) d
  | .loop l ring index c => if l < 24 && pstate d != .restricted then loopCommand k l ring index c d else d
  | .resume => resumeOutputs k d

/-- CMD arrives at a spoke. -/
def execCmd (spoke : Nat) (hdr : LinkHdr) (cmd : CmdP) (s : State) : Host.Outcome State Fault Refusal :=
  onSpoke spoke (onFrame spoke .spoke hdr (cmdIn spoke cmd)) s

end Sys2Proof.Machine
end

