-- ==== Sys2Proof/Machine/Dispatch.lean ====
section
/-! DEFINITION. The dispatcher: one arm for each command, each a direct call of its meaning. -/
namespace Sys2Proof.Machine

/-- The effect of a command on everything but the queue. -/
def exec (i : Instr) (s : State) : Host.Outcome State Fault Refusal :=
  match i with
  | .powerOnReset => Sys2Proof.Machine.execPowerOnReset s
  | .externalReset level => Sys2Proof.Machine.execExternalReset level s
  | .watchdog => Sys2Proof.Machine.execWatchdog s
  | .pcieReset down => Sys2Proof.Machine.execPcieReset down s
  | .d3hot => Sys2Proof.Machine.execD3hot s
  | .suppliesGood => Sys2Proof.Machine.execSuppliesGood s
  | .supplyTimeout => Sys2Proof.Machine.execSupplyTimeout s
  | .supplyRetry => Sys2Proof.Machine.execSupplyRetry s
  | .pllLocked => Sys2Proof.Machine.execPllLocked s
  | .flashDescriptorRead seqA seqB => Sys2Proof.Machine.execFlashDescriptorRead seqA seqB s
  | .imageSetAuthenticated setA setB => Sys2Proof.Machine.execImageSetAuthenticated setA setB s
  | .spokePowerSwitch => Sys2Proof.Machine.execSpokePowerSwitch s
  | .spokeLinkTrained spoke => Sys2Proof.Machine.execSpokeLinkTrained spoke s
  | .spokeTrainTimeout spoke => Sys2Proof.Machine.execSpokeTrainTimeout spoke s
  | .spokeLoaded spoke => Sys2Proof.Machine.execSpokeLoaded spoke s
  | .railAtTarget spoke rail => Sys2Proof.Machine.execRailAtTarget spoke rail s
  | .prechargeTimeout spoke rail => Sys2Proof.Machine.execPrechargeTimeout spoke rail s
  | .selftestDone loads spokes device => Sys2Proof.Machine.execSelftestDone loads spokes device s
  | .refclkFail deviation => Sys2Proof.Machine.execRefclkFail deviation s
  | .thermal die temp => Sys2Proof.Machine.execThermal die temp s
  | .hubFault => Sys2Proof.Machine.execHubFault s
  | .safe => Sys2Proof.Machine.execSafe s
  | .safeClear => Sys2Proof.Machine.execSafeClear s
  | .park => Sys2Proof.Machine.execPark s
  | .autoPark => Sys2Proof.Machine.execAutoPark s
  | .parked => Sys2Proof.Machine.execParked s
  | .restart => Sys2Proof.Machine.execRestart s
  | .selftest => Sys2Proof.Machine.execSelftest s
  | .spokeReset spoke => Sys2Proof.Machine.execSpokeReset spoke s
  | .wake saving => Sys2Proof.Machine.execWake saving s
  | .parkTimerExpiry saving => Sys2Proof.Machine.execParkTimerExpiry saving s
  | .heartbeatWake saving => Sys2Proof.Machine.execHeartbeatWake saving s
  | .wakeDelayDone => Sys2Proof.Machine.execWakeDelayDone s
  | .idnHostAbi value => Sys2Proof.Machine.execIdnHostAbi value s
  | .armBallLow => Sys2Proof.Machine.execArmBallLow s
  | .spokeDeclaresLinkLost spoke => Sys2Proof.Machine.execSpokeDeclaresLinkLost spoke s
  | .linkLost spoke => Sys2Proof.Machine.execLinkLost spoke s
  | .ackTimeout spoke side => Sys2Proof.Machine.execAckTimeout spoke side s
  | .retrainingDone spoke => Sys2Proof.Machine.execRetrainingDone spoke s
  | .retrainTimeout spoke => Sys2Proof.Machine.execRetrainTimeout spoke s
  | .resume spoke hdr => Sys2Proof.Machine.execResume spoke hdr s
  | .nak spoke side hdr => Sys2Proof.Machine.execNak spoke side hdr s
  | .frameBadCrc spoke side => Sys2Proof.Machine.execFrameBadCrc spoke side s
  | .idle spoke side hdr => Sys2Proof.Machine.execIdle spoke side hdr s
  | .ptsync spoke side hdr sent echo => Sys2Proof.Machine.execPtsync spoke side hdr sent echo s
  | .ptadj spoke hdr eff plus => Sys2Proof.Machine.execPtadj spoke hdr eff plus s
  | .ptAdjustment => Sys2Proof.Machine.execPtAdjustment s
  | .ptCheck spoke offset => Sys2Proof.Machine.execPtCheck spoke offset s
  | .sched spoke hdr entry => Sys2Proof.Machine.execSched spoke hdr entry s
  | .feed spoke hdr event => Sys2Proof.Machine.execFeed spoke hdr event s
  | .int spoke hdr slot level => Sys2Proof.Machine.execInt spoke hdr slot level s
  | .cmd spoke hdr cmd => Sys2Proof.Machine.execCmd spoke hdr cmd s
  | .resp spoke hdr off value => Sys2Proof.Machine.execResp spoke hdr off value s
  | .data spoke side hdr data => Sys2Proof.Machine.execData spoke side hdr data s
  | .lanePowerUp => Sys2Proof.Machine.execLanePowerUp s
  | .geometryCycleStart => Sys2Proof.Machine.execGeometryCycleStart s
  | .cycleEvaluationDone => Sys2Proof.Machine.execCycleEvaluationDone s
  | .missGraceExpiry outlet => Sys2Proof.Machine.execMissGraceExpiry outlet s
  | .prefetchWalk => Sys2Proof.Machine.execPrefetchWalk s
  | .decisionReport => Sys2Proof.Machine.execDecisionReport s
  | .markHoldExpiry tileE tileN => Sys2Proof.Machine.execMarkHoldExpiry tileE tileN s
  | .wbIdle tileE tileN => Sys2Proof.Machine.execWbIdle tileE tileN s
  | .wbMaxAge tileE tileN => Sys2Proof.Machine.execWbMaxAge tileE tileN s
  | .tileWriteBack tileE tileN => Sys2Proof.Machine.execTileWriteBack tileE tileN s
  | .casCompletion result => Sys2Proof.Machine.execCasCompletion result s
  | .invalidateTimeout tileE tileN => Sys2Proof.Machine.execInvalidateTimeout tileE tileN s
  | .doorbellPoll => Sys2Proof.Machine.execDoorbellPoll s
  | .doorbellReadComplete result => Sys2Proof.Machine.execDoorbellReadComplete result s
  | .descriptorArrival ring result => Sys2Proof.Machine.execDescriptorArrival ring result s
  | .bufferReadDone ring index result => Sys2Proof.Machine.execBufferReadDone ring index result s
  | .moderationTimer ring => Sys2Proof.Machine.execModerationTimer ring s
  | .msixUnmask change => Sys2Proof.Machine.execMsixUnmask change s
  | .ringStart ring => Sys2Proof.Machine.execRingStart ring s
  | .ringStop ring => Sys2Proof.Machine.execRingStop ring s
  | .ringStopped ring => Sys2Proof.Machine.execRingStopped ring s
  | .ringReset ring => Sys2Proof.Machine.execRingReset ring s
  | .hifCfgWrite value requester => Sys2Proof.Machine.execHifCfgWrite value requester s
  | .nop ring => Sys2Proof.Machine.execNop ring s
  | .pose ring => Sys2Proof.Machine.execPose ring s
  | .timeCorr ring => Sys2Proof.Machine.execTimeCorr ring s
  | .tableLoad ring => Sys2Proof.Machine.execTableLoad ring s
  | .tableCommit ring => Sys2Proof.Machine.execTableCommit ring s
  | .tableChecksDone => Sys2Proof.Machine.execTableChecksDone s
  | .fieldSet ring => Sys2Proof.Machine.execFieldSet ring s
  | .rateTable ring => Sys2Proof.Machine.execRateTable ring s
  | .tilePush ring => Sys2Proof.Machine.execTilePush ring s
  | .tileRequest ring => Sys2Proof.Machine.execTileRequest ring s
  | .tileInvalidate ring => Sys2Proof.Machine.execTileInvalidate ring s
  | .wbBuffer ring => Sys2Proof.Machine.execWbBuffer ring s
  | .arm ring => Sys2Proof.Machine.execArm ring s
  | .disarm ring => Sys2Proof.Machine.execDisarm ring s
  | .proof ring => Sys2Proof.Machine.execProof ring s
  | .outletForce ring => Sys2Proof.Machine.execOutletForce ring s
  | .loopSetpoint ring => Sys2Proof.Machine.execLoopSetpoint ring s
  | .loopMode ring => Sys2Proof.Machine.execLoopMode ring s
  | .loopCoeff ring => Sys2Proof.Machine.execLoopCoeff ring s
  | .loopCommandTimeout ring index => Sys2Proof.Machine.execLoopCommandTimeout ring index s
  | .gnssBuffer ring => Sys2Proof.Machine.execGnssBuffer ring s
  | .canSend ring => Sys2Proof.Machine.execCanSend ring s
  | .canAbort ring => Sys2Proof.Machine.execCanAbort ring s
  | .canBuffer ring => Sys2Proof.Machine.execCanBuffer ring s
  | .logRead ring => Sys2Proof.Machine.execLogRead ring s
  | .logFreeze ring => Sys2Proof.Machine.execLogFreeze ring s
  | .logRelease ring => Sys2Proof.Machine.execLogRelease ring s
  | .fwBegin ring => Sys2Proof.Machine.execFwBegin ring s
  | .fwChunk ring => Sys2Proof.Machine.execFwChunk ring s
  | .fwCommit ring defaults role => Sys2Proof.Machine.execFwCommit ring defaults role s
  | .flashWriteDone good => Sys2Proof.Machine.execFlashWriteDone good s
  | .fwActivate ring => Sys2Proof.Machine.execFwActivate ring s
  | .healthBuffer ring => Sys2Proof.Machine.execHealthBuffer ring s
  | .healthNow ring => Sys2Proof.Machine.execHealthNow ring s
  | .tdmAttach ring => Sys2Proof.Machine.execTdmAttach ring s
  | .tdmDetach ring => Sys2Proof.Machine.execTdmDetach ring s
  | .tdmYield ring => Sys2Proof.Machine.execTdmYield ring s
  | .tdmBuffer ring => Sys2Proof.Machine.execTdmBuffer ring s
  | .sbRole ring => Sys2Proof.Machine.execSbRole ring s
  | .sbProbe ring => Sys2Proof.Machine.execSbProbe ring s
  | .sbBuffer ring => Sys2Proof.Machine.execSbBuffer ring s
  | .entryStart spoke chan => Sys2Proof.Machine.execEntryStart spoke chan s
  | .entryEnd spoke chan => Sys2Proof.Machine.execEntryEnd spoke chan s
  | .windowStart spoke chan => Sys2Proof.Machine.execWindowStart spoke chan s
  | .windowEnd spoke chan => Sys2Proof.Machine.execWindowEnd spoke chan s
  | .slipLimitExpiry spoke chan => Sys2Proof.Machine.execSlipLimitExpiry spoke chan s
  | .peakIReached spoke chan => Sys2Proof.Machine.execPeakIReached spoke chan s
  | .boostTmaxExpiry spoke chan => Sys2Proof.Machine.execBoostTmaxExpiry spoke chan s
  | .peakTExpiry spoke chan => Sys2Proof.Machine.execPeakTExpiry spoke chan s
  | .chopThreshold spoke chan above => Sys2Proof.Machine.execChopThreshold spoke chan above s
  | .recovered spoke chan => Sys2Proof.Machine.execRecovered spoke chan s
  | .endOfTravel spoke chan samples => Sys2Proof.Machine.execEndOfTravel spoke chan samples s
  | .decayKink spoke chan emf => Sys2Proof.Machine.execDecayKink spoke chan emf s
  | .offWinExpiry spoke chan => Sys2Proof.Machine.execOffWinExpiry spoke chan s
  | .clampEvent spoke rail => Sys2Proof.Machine.execClampEvent spoke rail s
  | .openLoadOn spoke chan => Sys2Proof.Machine.execOpenLoadOn spoke chan s
  | .openLoadOff spoke chan found => Sys2Proof.Machine.execOpenLoadOff spoke chan found s
  | .shortToBattery spoke chan => Sys2Proof.Machine.execShortToBattery spoke chan s
  | .shortToGround spoke chan => Sys2Proof.Machine.execShortToGround spoke chan s
  | .overcurrent spoke chan => Sys2Proof.Machine.execOvercurrent spoke chan s
  | .overtemperature spoke chan => Sys2Proof.Machine.execOvertemperature spoke chan s
  | .overtempCooled spoke chan => Sys2Proof.Machine.execOvertempCooled spoke chan s
  | .highSideOvercurrent spoke cas => Sys2Proof.Machine.execHighSideOvercurrent spoke cas s
  | .boostFailure spoke => Sys2Proof.Machine.execBoostFailure spoke s
  | .retryEnd spoke chan => Sys2Proof.Machine.execRetryEnd spoke chan s
  | .channelDisabledClear spoke chan => Sys2Proof.Machine.execChannelDisabledClear spoke chan s
  | .cassetteDisabledClear spoke cas => Sys2Proof.Machine.execCassetteDisabledClear spoke cas s
  | .casOverload spoke cas means => Sys2Proof.Machine.execCasOverload spoke cas means s
  | .outOfSupply spoke high => Sys2Proof.Machine.execOutOfSupply spoke high s
  | .supplyRecovery spoke high => Sys2Proof.Machine.execSupplyRecovery spoke high s
  | .loopTrigger spoke loop => Sys2Proof.Machine.execLoopTrigger spoke loop s
  | .triggerTimeout spoke loop => Sys2Proof.Machine.execTriggerTimeout spoke loop s
  | .conversionDone spoke ain code => Sys2Proof.Machine.execConversionDone spoke ain code s
  | .sampleComputed spoke loop => Sys2Proof.Machine.execSampleComputed spoke loop s
  | .pulseEdge spoke input width => Sys2Proof.Machine.execPulseEdge spoke input width s
  | .encoderEdge spoke enc lines width => Sys2Proof.Machine.execEncoderEdge spoke enc lines width s
  | .spiPoll spoke port => Sys2Proof.Machine.execSpiPoll spoke port s
  | .spiFrameDone spoke port bytes => Sys2Proof.Machine.execSpiFrameDone spoke port bytes s
  | .pwmEnable spoke pair on => Sys2Proof.Machine.execPwmEnable spoke pair on s
  | .periodStart spoke pair => Sys2Proof.Machine.execPeriodStart spoke pair s
  | .midPeriodUpdate spoke pair => Sys2Proof.Machine.execMidPeriodUpdate spoke pair s
  | .compareMatch spoke pair cmp => Sys2Proof.Machine.execCompareMatch spoke pair cmp s
  | .deadTimeEnd spoke pair => Sys2Proof.Machine.execDeadTimeEnd spoke pair s
  | .nodeCrossing spoke pair at_ => Sys2Proof.Machine.execNodeCrossing spoke pair at_ s
  | .dtMaxExpiry spoke pair => Sys2Proof.Machine.execDtMaxExpiry spoke pair s
  | .bootstrapRefresh spoke pair => Sys2Proof.Machine.execBootstrapRefresh spoke pair s
  | .trip spoke input => Sys2Proof.Machine.execTrip spoke input s
  | .clear spoke pair => Sys2Proof.Machine.execClear spoke pair s
  | .sclkCheck spoke ppm => Sys2Proof.Machine.execSclkCheck spoke ppm s
  | .agcUpdate spoke large total => Sys2Proof.Machine.execAgcUpdate spoke large total s
  | .acquisitionDetection spoke sys prn doppler => Sys2Proof.Machine.execAcquisitionDetection spoke sys prn doppler s
  | .lockAchieved spoke chan doppler => Sys2Proof.Machine.execLockAchieved spoke chan doppler s
  | .pullInTimeout spoke chan => Sys2Proof.Machine.execPullInTimeout spoke chan s
  | .lossOfLock spoke chan doppler cn0 low fail => Sys2Proof.Machine.execLossOfLock spoke chan doppler cn0 low fail s
  | .sidePeakShift spoke chan late tap prompt lasting => Sys2Proof.Machine.execSidePeakShift spoke chan late tap prompt lasting s
  | .notchLock spoke notch freq db => Sys2Proof.Machine.execNotchLock spoke notch freq db s
  | .notchRelease spoke notch db lasting => Sys2Proof.Machine.execNotchRelease spoke notch db lasting s
  | .jiEvaluation spoke level => Sys2Proof.Machine.execJiEvaluation spoke level s
  | .epoch meas => Sys2Proof.Machine.execEpoch meas s
  | .epochRecord => Sys2Proof.Machine.execEpochRecord s
  | .timePulse => Sys2Proof.Machine.execTimePulse s
  | .pulseEnd => Sys2Proof.Machine.execPulseEnd s
  | .autoHoldExpiry => Sys2Proof.Machine.execAutoHoldExpiry s
  | .canEnable ctl => Sys2Proof.Machine.execCanEnable ctl s
  | .canDisable ctl => Sys2Proof.Machine.execCanDisable ctl s
  | .haltClear ctl => Sys2Proof.Machine.execHaltClear ctl s
  | .busIntegration ctl => Sys2Proof.Machine.execBusIntegration ctl s
  | .frameValid ctl frame stamp => Sys2Proof.Machine.execFrameValid ctl frame stamp s
  | .protocolException ctl => Sys2Proof.Machine.execProtocolException ctl s
  | .arbitration ctl => Sys2Proof.Machine.execArbitration ctl s
  | .frameTransmitted ctl stamp delay => Sys2Proof.Machine.execFrameTransmitted ctl stamp delay s
  | .attemptFailed ctl err data field eights delay => Sys2Proof.Machine.execAttemptFailed ctl err data field eights delay s
  | .busOffRecovery ctl => Sys2Proof.Machine.execBusOffRecovery ctl s
  | .recover ctl => Sys2Proof.Machine.execRecover ctl s
  | .filterWord2Write ctl elem value => Sys2Proof.Machine.execFilterWord2Write ctl elem value s
  | .summaryPeriod ctl => Sys2Proof.Machine.execSummaryPeriod ctl s
  | .cadenceSend => Sys2Proof.Machine.execCadenceSend s
  | .cadence frame stamp => Sys2Proof.Machine.execCadence frame stamp s
  | .conflictEnd => Sys2Proof.Machine.execConflictEnd s
  | .leaderLost => Sys2Proof.Machine.execLeaderLost s
  | .poseBroadcast frame stamp => Sys2Proof.Machine.execPoseBroadcast frame stamp s
  | .posePartsTimeout => Sys2Proof.Machine.execPosePartsTimeout s
  | .edge frame stamp => Sys2Proof.Machine.execEdge frame stamp s
  | .edgeKeepalive follower => Sys2Proof.Machine.execEdgeKeepalive follower s
  | .plannerLost => Sys2Proof.Machine.execPlannerLost s
  | .state frame stamp => Sys2Proof.Machine.execState frame stamp s
  | .stateKeepalive => Sys2Proof.Machine.execStateKeepalive s
  | .followerLost follower => Sys2Proof.Machine.execFollowerLost follower s
  | .probe frame stamp => Sys2Proof.Machine.execProbe frame stamp s
  | .duplicate frame stamp => Sys2Proof.Machine.execDuplicate frame stamp s
  | .probeWindowEnd => Sys2Proof.Machine.execProbeWindowEnd s
  | .sourceSignalChange die src level => Sys2Proof.Machine.execSourceSignalChange die src level s
  | .interruptTake die core act => Sys2Proof.Machine.execInterruptTake die core act s
  | .eoi die core by_ nothing_ => Sys2Proof.Machine.execEoi die core by_ nothing_ s
  | .nudgeRaise die core index by_ => Sys2Proof.Machine.execNudgeRaise die core index by_ s
  | .nudgeLower die core index by_ => Sys2Proof.Machine.execNudgeLower die core index by_ s
  | .pendingWordWrite die word value edges by_ => Sys2Proof.Machine.execPendingWordWrite die word value edges by_ s
  | .configurationWrite die reg value by_ => Sys2Proof.Machine.execConfigurationWrite die reg value by_ s
  | .logbookEvent event => Sys2Proof.Machine.execLogbookEvent event s
  | .recordStored => Sys2Proof.Machine.execRecordStored s
  | .scanDone => Sys2Proof.Machine.execScanDone s
  | .colophonSave => Sys2Proof.Machine.execColophonSave s
  | .powerFailWarning below => Sys2Proof.Machine.execPowerFailWarning below s
  | .freezeTimeout => Sys2Proof.Machine.execFreezeTimeout s
  | .erase value => Sys2Proof.Machine.execErase value s
  | .eraseDone => Sys2Proof.Machine.execEraseDone s
  | .leakTimerExpiry cls inst => Sys2Proof.Machine.execLeakTimerExpiry cls inst s
  | .hltClear cls inst => Sys2Proof.Machine.execHltClear cls inst s
  | .replan => Sys2Proof.Machine.execReplan s
  | .marginApply => Sys2Proof.Machine.execMarginApply s
  | .derateCheck spoke means => Sys2Proof.Machine.execDerateCheck spoke means s
  | .heartbeatSlot readback => Sys2Proof.Machine.execHeartbeatSlot readback s
  | .heartbeat good slotTime flags number last => Sys2Proof.Machine.execHeartbeat good slotTime flags number last s
  | .partnerPeriodEnd => Sys2Proof.Machine.execPartnerPeriodEnd s
  | .outputsQuiet => Sys2Proof.Machine.execOutputsQuiet s
  | .quietTimeout cas => Sys2Proof.Machine.execQuietTimeout cas s
  | .digest good start digest => Sys2Proof.Machine.execDigest good start digest s
  | .tandemFeed good events => Sys2Proof.Machine.execTandemFeed good events s
  | .loopstate good loops => Sys2Proof.Machine.execLoopstate good loops s
  | .wbdone good tileE tileN cycle => Sys2Proof.Machine.execWbdone good tileE tileN cycle s
  | .yield_ good start cause => Sys2Proof.Machine.execYield good start cause s
  | .yieldTimeout => Sys2Proof.Machine.execYieldTimeout s
  | .attach good data => Sys2Proof.Machine.execAttach good data s
  | .attachTimeout => Sys2Proof.Machine.execAttachTimeout s
  | .xfer good block last data => Sys2Proof.Machine.execXfer good block last data s
  | .xferAck good block => Sys2Proof.Machine.execXferAck good block s
  | .xferResend => Sys2Proof.Machine.execXferResend s
  | .detach good start => Sys2Proof.Machine.execDetach good start s
  | .tandemLinkDown => Sys2Proof.Machine.execTandemLinkDown s
  | .foreignDrive cas => Sys2Proof.Machine.execForeignDrive cas s
  | .loopbackStart value => Sys2Proof.Machine.execLoopbackStart value s
  | .loopbackStop => Sys2Proof.Machine.execLoopbackStop s
  | .loopbackDone found => Sys2Proof.Machine.execLoopbackDone found s
  | .pcieLoopback => Sys2Proof.Machine.execPcieLoopback s
  | .boundaryScanInstruction inst scan => Sys2Proof.Machine.execBoundaryScanInstruction inst scan s
  | .registerWrite addr size value by_ => Sys2Proof.Machine.execRegisterWrite addr size value by_ s
  | .d0Entry => Sys2Proof.Machine.execD0Entry s
  | .completionTimeout req => Sys2Proof.Machine.execCompletionTimeout req s
  | .arbitrationLost ctl => Sys2Proof.Machine.execArbitrationLost ctl s
  | .receiveError ctl err data steps => Sys2Proof.Machine.execReceiveError ctl err data steps s
  | .chopPeriod spoke chan => Sys2Proof.Machine.execChopPeriod spoke chan s
  | .referenceEdge spoke pair => Sys2Proof.Machine.execReferenceEdge spoke pair s
  | .slewDone => Sys2Proof.Machine.execSlewDone s
  | .aoClockFail => Sys2Proof.Machine.execAoClockFail s
  | .vbatAoLoss at_ => Sys2Proof.Machine.execVbatAoLoss at_ s
  | .powerGoodLoss spoke => Sys2Proof.Machine.execPowerGoodLoss spoke s
  | .monitorMeasurement die meas => Sys2Proof.Machine.execMonitorMeasurement die meas s
  | .heartbeatPulse => Sys2Proof.Machine.execHeartbeatPulse s
  | .postWakePulse => Sys2Proof.Machine.execPostWakePulse s
  | .tandemLinkDownTimeout => Sys2Proof.Machine.execTandemLinkDownTimeout s
  | .attachFrameSend => Sys2Proof.Machine.execAttachFrameSend s
  | .probeFrameSend => Sys2Proof.Machine.execProbeFrameSend s
  | .registerRead addr size => Sys2Proof.Machine.execRegisterRead addr size s

end Sys2Proof.Machine
end

