-- ==== Sys2Proof/Safety.lean ====
section
/-! DEFINITION. What counts as a command carried out, and the invariant of a sound state, in the terms the statements use. -/
namespace Sys2Proof.Machine

/-- The command is carried out: `exec` answers a next state that has the same commands waiting and meets P. -/
def Completes (c : Instr) (s : State) (P : State → Prop) : Prop :=
  ∃ t, exec c s = .next t ∧ t.pending = s.pending ∧ P t

/-- The command is carried out, and where no buffer word is upset (R42, log entry 99) the next state meets P. Said of commands whose effect
crosses a protection boundary: what a failed check does there is said by `CompletionsAreWritten`. -/
def Delivers (c : Instr) (s : State) (P : State → Prop) : Prop := Completes c s fun t => s.dev.ecc = [] → P t

/-- Both byte memories are in canonical form: addresses strictly rising, no entry equal to what an unlisted address reads as. -/
def State.memOk (s : State) : Prop := Memory.wf s.mem.staging = true ∧ Memory.wf s.mem.fwSet = true

/-- A run of k steps that ends in a next state stopped for no fault and no refusal. -/
def RunsTo (k : Nat) (s t : State) : Prop :=
  match k with
  | 0 => t = s
  | n + 1 => ∃ u, step s = .next u ∧ RunsTo n u t

/-- The make-ready states from which a safe-state cause enters SAFE at once (R52, R76). -/
def canEnterSafe (d : Dev) : Prop :=
  d.pwr.state ≠ .cold ∧ d.pwr.state ≠ .boot ∧ d.pwr.state ≠ .parked ∧ d.pwr.state ≠ .safe

/-- The frame with header h is the one that side of link k expects next (R24). -/
def inSequence (k : Nat) (side : Side) (h : LinkHdr) (d : Dev) : Prop := h.seq % 64 = (linkEnd k side d).expect

/-- Descriptor x is the one ring i starts next (R109), and it has the opcode. -/
def Starts (i op : Nat) (x : InDesc) (d : Dev) : Prop := i < 32 ∧ nextDesc i d = some x ∧ x.opcode = op

/-- The commands that can change the byte memories: the resets that clear the hub, the table staging writes and the firmware ring. -/
def touchesMemory : Instr → Bool
  | .powerOnReset => true
  | .externalReset _ => true
  | .watchdog => true
  | .restart => true
  | .vbatAoLoss _ => true
  | .registerWrite .. => true
  | .tableLoad _ => true
  | .fwBegin _ => true
  | .fwChunk _ => true
  | .fwCommit .. => true
  | .flashWriteDone _ => true
  | .fwActivate _ => true
  | _ => false

/-- A part of the device, as `Dev` names them. -/
inductive Part where
  | chip | pt | free | regs | ecc | out | pins | pwr | links | pcie | host | hic | sic | log | health | spokes | eng | time | can | sox | tdm | lb
deriving DecidableEq, Repr

/-- Two devices have the same part; the register file goes with the bits of it that hardware has set this tick (R9). -/
def Part.same (p : Part) (a b : Dev) : Prop :=
  match p with
  | .chip => a.chip = b.chip
  | .pt => a.pt = b.pt ∧ a.ticks = b.ticks
  | .free => a.free = b.free
  | .regs => a.regs = b.regs ∧ a.marks = b.marks
  | .ecc => a.ecc = b.ecc
  | .out => a.out = b.out
  | .pins => a.pins = b.pins
  | .pwr => a.pwr = b.pwr
  | .links => a.links = b.links
  | .pcie => a.pcie = b.pcie
  | .host => a.host = b.host
  | .hic => a.hic = b.hic
  | .sic => a.sic = b.sic
  | .log => a.log = b.log
  | .health => a.health = b.health
  | .spokes => a.spokes = b.spokes
  | .eng => a.eng = b.eng
  | .time => a.time = b.time
  | .can => a.can = b.can
  | .sox => a.sox = b.sox
  | .tdm => a.tdm = b.tdm
  | .lb => a.lb = b.lb

/-- Every part of the device but those listed is the same. -/
def Keeps (ps : List Part) (a b : Dev) : Prop := ∀ p : Part, p ∉ ps → p.same a b

/-- The parts that a failed ECC check, or a corrected one, may change beside (R43 to R45). -/
def upsetParts : List Part := [.ecc, .free, .regs, .log, .health, .out, .pcie, .host, .links, .eng, .can, .sox, .tdm]

/-- Where the command answers a next state, it leaves every part of the device but those listed as it was; where a buffer word is upset, every
part but those and what its failed check changes. -/
def ChangesOnly (ps : List Part) (c : Instr) (s : State) : Prop :=
  ∀ t, exec c s = .next t → (s.dev.ecc = [] → Keeps ps s.dev t.dev) ∧ Keeps (ps ++ upsetParts) s.dev t.dev

/-- Where the command answers a next state, the state of every spoke but k and every register outside the window of spoke k (R537) are as they were. -/
def KeepsOtherSpokes (k : Nat) (c : Instr) (s : State) : Prop :=
  ∀ t, exec c s = .next t → (∀ j, j ≠ k → getSpoke j t.dev = getSpoke j s.dev) ∧
    ∀ off dflt, off < spk k ∨ spk k + 0x4000 ≤ off → kget t.dev.regs off dflt = kget s.dev.regs off dflt

/-- CAN-B receives f and the Soxaek engine accepts it as a frame of a class (R396 to R398): addressed to this device, its checks pass, its
COUNTER differs from the last one of its source and class, and in restricted service it is a CADENCE (log entry 143). -/
def soxAccepts (cls : Nat) (f : CanFrame) (d : Dev) : Prop :=
  f.ide = true ∧ soxClass f.id = cls ∧ cls ≤ 5 ∧ (cls = 0 ∨ pstate d ≠ .restricted) ∧ canCut 1 d = false ∧ canSees 1 d = true ∧ isSet (F.CAN_CFG.FD_EN 1) d = true ∧
  (soxDest f.id = soxAddr d ∨ soxDest f.id = 63) ∧ (4 ≤ cls → soxSrc f.id = soxAddr d) ∧ soxGood cls f d = true ∧
  ∀ e, (d.sox.rxCount.find? fun e => e.1 == soxSrc f.id * 64 + cls) = some e → e.2 ≠ leAt f.data (classLen cls - 3) 1 % 16

end Sys2Proof.Machine
end

