-- ==== Sys2Proof/WellFormed.lean ====
section
/-! DEFINITION. Which commands are well-formed: every unit number within what the largest part has, every field within its width. A command
that names a spoke the variant at hand lacks is well-formed and acts on nothing; `exec` needs no well-formed command. -/
namespace Sys2Proof

/-- What makes a command ill-formed. -/
inductive IllFormed where
  /-- A spoke number outside 1 to 7 (R1). -/
  | spoke (n : Nat)
  /-- A channel number above 63 (R1). -/
  | channel (n : Nat)
  /-- A baseband channel number above 23 (R334). -/
  | gnssChannel (n : Nat)
  /-- A cassette number above 7 (R1). -/
  | cassette (n : Nat)
  /-- A device-wide cassette number above 55 (R2). -/
  | deviceCassette (n : Nat)
  /-- A loop number above 23. -/
  | loop (n : Nat)
  /-- A PWM pair above 11. -/
  | pair (n : Nat)
  /-- A trip input above 3. -/
  | tripInput (n : Nat)
  /-- A pulse input above 7. -/
  | pulseInput (n : Nat)
  /-- An encoder above 2. -/
  | encoder (n : Nat)
  /-- An SPI port above 1. -/
  | spiPort (n : Nat)
  /-- A compare unit above 3. -/
  | compare (n : Nat)
  /-- A notch above 2. -/
  | notch (n : Nat)
  /-- An analog input above 15. -/
  | analogInput (n : Nat)
  /-- A ring above 31. -/
  | ring (n : Nat)
  /-- A CAN controller above 3. -/
  | controller (n : Nat)
  /-- An extended filter element above 63. -/
  | filterElement (n : Nat)
  /-- A section-bus address above 62. -/
  | follower (n : Nat)
  /-- A die number above 7. -/
  | die (n : Nat)
  /-- A core the die lacks. -/
  | core (n : Nat)
  /-- A nudge above 15. -/
  | nudge (n : Nat)
  /-- An interrupt source the die lacks. -/
  | source (n : Nat)
  /-- A word of pending bits the die lacks. -/
  | interruptWord (n : Nat)
  /-- A configuration register the die lacks. -/
  | configRegister (n : Nat)
  /-- A health class above 18. -/
  | healthClass (n : Nat)
  /-- An outlet above 2047. -/
  | outlet (n : Nat)
  /-- A forwarding slot above 63. -/
  | slot (n : Nat)
  /-- An address outside BAR0, BAR2 and the configuration space (log entry 120). -/
  | registerAddress (n : Nat)
  /-- A CAN error code of more than 3 bits. -/
  | errorCode (n : Nat)
  /-- A satellite system above 1 or a number above 63. -/
  | satellite (n : Nat)
  /-- An ACK or SEQ of more than 6 bits (R17). -/
  | linkNumber (n : Nat)
  /-- A field of a SCHED or FEED payload wider than its bits (R20, R23). -/
  | payloadField (n : Nat)
  /-- A CAN identifier wider than its format (R378). -/
  | identifier (n : Nat)
  /-- A DLC above 15 or more than 64 data bytes (R378). -/
  | frameLength (n : Nat)
  /-- An MSI-X vector above 63. -/
  | vector (n : Nat)
  /-- A severity of more than 3 bits (R452). -/
  | severity (n : Nat)
deriving DecidableEq, Repr

/-- A number below its bound, or the name of what is wrong with it. -/
def okBelow (n bound : Nat) (e : Nat → IllFormed) : List IllFormed := if n < bound then [] else [e n]

def okSpoke (k : Nat) : List IllFormed := if 1 ≤ k ∧ k ≤ 7 then [] else [.spoke k]

/-- ACK and SEQ have 6 bits each (R17). -/
def okHdr (h : LinkHdr) : List IllFormed := okBelow h.ack 64 .linkNumber ++ okBelow h.seq 64 .linkNumber

/-- The fields of a SCHED payload fit their bits (R20). -/
def okSched (e : SchedP) : List IllFormed :=
  okBelow e.start (2 ^ 32) .payloadField ++ okBelow e.finish (2 ^ 32) .payloadField ++ okBelow e.chan 64 .channel ++
    okBelow e.duty 65536 .payloadField ++ okBelow e.freq 128 .payloadField ++ okBelow e.slot 8 .payloadField

/-- The fields of a FEED payload fit their bits (R23). -/
def okFeed (f : FeedP) : List IllFormed :=
  okBelow f.evtPt (2 ^ 32) .payloadField ++ okBelow f.delay 65536 .payloadField ++ okBelow f.chan 64 .channel ++
    okBelow f.slipUs 65536 .payloadField

/-- A frame's identifier has 11 bits, or 29 in the extended format; its data fit a frame. -/
def okFrame (f : CanFrame) : List IllFormed :=
  okBelow f.id (if f.ide then 2 ^ 29 else 2 ^ 11) .identifier ++ okBelow f.dlc 16 .frameLength ++ okBelow f.data.length 65 .frameLength

/-- A CMD frame's window offset, or its loop. -/
def okCmd (c : CmdP) : List IllFormed :=
  match c with
  | .regWrite off _ _ => okBelow off 0x4000 .registerAddress
  | .regRead off => okBelow off 0x4000 .registerAddress
  | .loop l ring _ _ => okBelow l 24 .loop ++ okBelow ring 32 .ring
  | .resume => []

def okMsix (m : MsixChange) : List IllFormed :=
  match m with
  | .vector v _ => okBelow v 64 .vector
  | .enable _ => []
  | .functionMask _ => []
  | .linkUp => []

def okLog (e : LogEvt) : List IllFormed := okBelow e.sev 8 .severity ++ okBelow e.die 8 .die

def okReq (r : HostReq) : List IllFormed :=
  match r with
  | .descriptor ring => okBelow ring 32 .ring
  | .buffer ring _ => okBelow ring 32 .ring
  | .doorbell => []
  | .atomic => []

/-- A reference-load test is of a channel (R530). -/
def okRef (x : RefMeas) : List IllFormed := okBelow x.chan 64 .channel

def okFound (f : LbFound) : List IllFormed :=
  match f with
  | .drive tests => tests.flatMap okRef
  | _ => []

def okMeas (m : DieMeas) : List IllFormed :=
  match m with
  | .onResistance n _ _ _ => okBelow n 64 .channel
  | .casTemp c _ => okBelow c 8 .cassette
  | _ => []

/-- Everything wrong with a command; none for a well-formed one. -/
def Instr.check (c : Instr) : List IllFormed :=
  match c with
  | .externalReset _ => []
  | .pcieReset _ => []
  | .flashDescriptorRead _ _ => []
  | .imageSetAuthenticated _ _ => []
  | .spokeLinkTrained spoke => okSpoke spoke
  | .spokeTrainTimeout spoke => okSpoke spoke
  | .spokeLoaded spoke => okSpoke spoke
  | .railAtTarget spoke _ => okSpoke spoke
  | .prechargeTimeout spoke _ => okSpoke spoke
  | .selftestDone loads spokes _ => loads.flatMap (fun x => okSpoke x.1 ++ x.2.flatMap okRef) ++ spokes.flatMap fun x => okSpoke x.1
  | .refclkFail _ => []
  | .thermal die _ => okBelow die 8 .die
  | .spokeReset spoke => okSpoke spoke
  | .wake _ => []
  | .parkTimerExpiry _ => []
  | .heartbeatWake _ => []
  | .idnHostAbi _ => []
  | .spokeDeclaresLinkLost spoke => okSpoke spoke
  | .linkLost spoke => okSpoke spoke
  | .ackTimeout spoke _ => okSpoke spoke
  | .retrainingDone spoke => okSpoke spoke
  | .retrainTimeout spoke => okSpoke spoke
  | .resume spoke hdr => okSpoke spoke ++ okHdr hdr
  | .nak spoke _ hdr => okSpoke spoke ++ okHdr hdr
  | .frameBadCrc spoke _ => okSpoke spoke
  | .idle spoke _ hdr => okSpoke spoke ++ okHdr hdr
  | .ptsync spoke _ hdr _ _ => okSpoke spoke ++ okHdr hdr
  | .ptadj spoke hdr _ _ => okSpoke spoke ++ okHdr hdr
  | .ptCheck spoke _ => okSpoke spoke
  | .sched spoke hdr entry => okSpoke spoke ++ okHdr hdr ++ okSched entry
  | .feed spoke hdr event => okSpoke spoke ++ okHdr hdr ++ okFeed event
  | .int spoke hdr slot _ => okSpoke spoke ++ okHdr hdr ++ okBelow slot 64 .slot
  | .cmd spoke hdr c => okSpoke spoke ++ okHdr hdr ++ okCmd c
  | .resp spoke hdr off _ => okSpoke spoke ++ okHdr hdr ++ okBelow off 0x40000 .registerAddress
  | .data spoke _ hdr _ => okSpoke spoke ++ okHdr hdr
  | .missGraceExpiry outlet => okBelow outlet 2048 .outlet
  | .markHoldExpiry _ _ => []
  | .wbIdle _ _ => []
  | .wbMaxAge _ _ => []
  | .tileWriteBack _ _ => []
  | .casCompletion _ => []
  | .invalidateTimeout _ _ => []
  | .doorbellReadComplete _ => []
  | .descriptorArrival ring _ => okBelow ring 32 .ring
  | .bufferReadDone ring _ _ => okBelow ring 32 .ring
  | .moderationTimer ring => okBelow ring 32 .ring
  | .msixUnmask change => okMsix change
  | .ringStart ring => okBelow ring 32 .ring
  | .ringStop ring => okBelow ring 32 .ring
  | .ringStopped ring => okBelow ring 32 .ring
  | .ringReset ring => okBelow ring 32 .ring
  | .hifCfgWrite _ _ => []
  | .nop ring => okBelow ring 32 .ring
  | .pose ring => okBelow ring 32 .ring
  | .timeCorr ring => okBelow ring 32 .ring
  | .tableLoad ring => okBelow ring 32 .ring
  | .tableCommit ring => okBelow ring 32 .ring
  | .fieldSet ring => okBelow ring 32 .ring
  | .rateTable ring => okBelow ring 32 .ring
  | .tilePush ring => okBelow ring 32 .ring
  | .tileRequest ring => okBelow ring 32 .ring
  | .tileInvalidate ring => okBelow ring 32 .ring
  | .wbBuffer ring => okBelow ring 32 .ring
  | .arm ring => okBelow ring 32 .ring
  | .disarm ring => okBelow ring 32 .ring
  | .proof ring => okBelow ring 32 .ring
  | .outletForce ring => okBelow ring 32 .ring
  | .loopSetpoint ring => okBelow ring 32 .ring
  | .loopMode ring => okBelow ring 32 .ring
  | .loopCoeff ring => okBelow ring 32 .ring
  | .loopCommandTimeout ring _ => okBelow ring 32 .ring
  | .gnssBuffer ring => okBelow ring 32 .ring
  | .canSend ring => okBelow ring 32 .ring
  | .canAbort ring => okBelow ring 32 .ring
  | .canBuffer ring => okBelow ring 32 .ring
  | .logRead ring => okBelow ring 32 .ring
  | .logFreeze ring => okBelow ring 32 .ring
  | .logRelease ring => okBelow ring 32 .ring
  | .fwBegin ring => okBelow ring 32 .ring
  | .fwChunk ring => okBelow ring 32 .ring
  | .fwCommit ring _ _ => okBelow ring 32 .ring
  | .flashWriteDone _ => []
  | .fwActivate ring => okBelow ring 32 .ring
  | .healthBuffer ring => okBelow ring 32 .ring
  | .healthNow ring => okBelow ring 32 .ring
  | .tdmAttach ring => okBelow ring 32 .ring
  | .tdmDetach ring => okBelow ring 32 .ring
  | .tdmYield ring => okBelow ring 32 .ring
  | .tdmBuffer ring => okBelow ring 32 .ring
  | .sbRole ring => okBelow ring 32 .ring
  | .sbProbe ring => okBelow ring 32 .ring
  | .sbBuffer ring => okBelow ring 32 .ring
  | .entryStart spoke chan => okSpoke spoke ++ okBelow chan 64 .channel
  | .entryEnd spoke chan => okSpoke spoke ++ okBelow chan 64 .channel
  | .windowStart spoke chan => okSpoke spoke ++ okBelow chan 64 .channel
  | .windowEnd spoke chan => okSpoke spoke ++ okBelow chan 64 .channel
  | .slipLimitExpiry spoke chan => okSpoke spoke ++ okBelow chan 64 .channel
  | .peakIReached spoke chan => okSpoke spoke ++ okBelow chan 64 .channel
  | .boostTmaxExpiry spoke chan => okSpoke spoke ++ okBelow chan 64 .channel
  | .peakTExpiry spoke chan => okSpoke spoke ++ okBelow chan 64 .channel
  | .chopThreshold spoke chan _ => okSpoke spoke ++ okBelow chan 64 .channel
  | .recovered spoke chan => okSpoke spoke ++ okBelow chan 64 .channel
  | .endOfTravel spoke chan _ => okSpoke spoke ++ okBelow chan 64 .channel
  | .decayKink spoke chan _ => okSpoke spoke ++ okBelow chan 64 .channel
  | .offWinExpiry spoke chan => okSpoke spoke ++ okBelow chan 64 .channel
  | .clampEvent spoke _ => okSpoke spoke
  | .openLoadOn spoke chan => okSpoke spoke ++ okBelow chan 64 .channel
  | .openLoadOff spoke chan _ => okSpoke spoke ++ okBelow chan 64 .channel
  | .shortToBattery spoke chan => okSpoke spoke ++ okBelow chan 64 .channel
  | .shortToGround spoke chan => okSpoke spoke ++ okBelow chan 64 .channel
  | .overcurrent spoke chan => okSpoke spoke ++ okBelow chan 64 .channel
  | .overtemperature spoke chan => okSpoke spoke ++ okBelow chan 64 .channel
  | .overtempCooled spoke chan => okSpoke spoke ++ okBelow chan 64 .channel
  | .highSideOvercurrent spoke cas => okSpoke spoke ++ okBelow cas 8 .cassette
  | .boostFailure spoke => okSpoke spoke
  | .retryEnd spoke chan => okSpoke spoke ++ okBelow chan 64 .channel
  | .channelDisabledClear spoke chan => okSpoke spoke ++ okBelow chan 64 .channel
  | .cassetteDisabledClear spoke cas => okSpoke spoke ++ okBelow cas 8 .cassette
  | .casOverload spoke cas _ => okSpoke spoke ++ okBelow cas 8 .cassette
  | .outOfSupply spoke _ => okSpoke spoke
  | .supplyRecovery spoke _ => okSpoke spoke
  | .loopTrigger spoke loop => okSpoke spoke ++ okBelow loop 24 .loop
  | .triggerTimeout spoke loop => okSpoke spoke ++ okBelow loop 24 .loop
  | .conversionDone spoke ain _ => okSpoke spoke ++ okBelow ain 16 .analogInput
  | .sampleComputed spoke loop => okSpoke spoke ++ okBelow loop 24 .loop
  | .pulseEdge spoke input _ => okSpoke spoke ++ okBelow input 8 .pulseInput
  | .encoderEdge spoke enc _ _ => okSpoke spoke ++ okBelow enc 3 .encoder
  | .spiPoll spoke port => okSpoke spoke ++ okBelow port 2 .spiPort
  | .spiFrameDone spoke port _ => okSpoke spoke ++ okBelow port 2 .spiPort
  | .pwmEnable spoke pair _ => okSpoke spoke ++ okBelow pair 12 .pair
  | .periodStart spoke pair => okSpoke spoke ++ okBelow pair 12 .pair
  | .midPeriodUpdate spoke pair => okSpoke spoke ++ okBelow pair 12 .pair
  | .compareMatch spoke pair cmp => okSpoke spoke ++ okBelow pair 12 .pair ++ okBelow cmp 4 .compare
  | .deadTimeEnd spoke pair => okSpoke spoke ++ okBelow pair 12 .pair
  | .nodeCrossing spoke pair _ => okSpoke spoke ++ okBelow pair 12 .pair
  | .dtMaxExpiry spoke pair => okSpoke spoke ++ okBelow pair 12 .pair
  | .bootstrapRefresh spoke pair => okSpoke spoke ++ okBelow pair 12 .pair
  | .trip spoke input => okSpoke spoke ++ okBelow input 4 .tripInput
  | .clear spoke pair => okSpoke spoke ++ okBelow pair 12 .pair
  | .sclkCheck spoke _ => okSpoke spoke
  | .agcUpdate spoke _ _ => okSpoke spoke
  | .acquisitionDetection spoke sys prn _ => okSpoke spoke ++ okBelow sys 2 .satellite ++ okBelow prn 64 .satellite
  | .lockAchieved spoke chan _ => okSpoke spoke ++ okBelow chan 24 .gnssChannel
  | .pullInTimeout spoke chan => okSpoke spoke ++ okBelow chan 24 .gnssChannel
  | .lossOfLock spoke chan _ _ _ _ => okSpoke spoke ++ okBelow chan 24 .gnssChannel
  | .sidePeakShift spoke chan _ _ _ _ => okSpoke spoke ++ okBelow chan 24 .gnssChannel
  | .notchLock spoke notch _ _ => okSpoke spoke ++ okBelow notch 3 .notch
  | .notchRelease spoke notch _ _ => okSpoke spoke ++ okBelow notch 3 .notch
  | .jiEvaluation spoke _ => okSpoke spoke
  | .epoch _ => []
  | .canEnable ctl => okBelow ctl 4 .controller
  | .canDisable ctl => okBelow ctl 4 .controller
  | .haltClear ctl => okBelow ctl 4 .controller
  | .busIntegration ctl => okBelow ctl 4 .controller
  | .frameValid ctl frame _ => okBelow ctl 4 .controller ++ okFrame frame
  | .protocolException ctl => okBelow ctl 4 .controller
  | .arbitration ctl => okBelow ctl 4 .controller
  | .frameTransmitted ctl _ _ => okBelow ctl 4 .controller
  | .attemptFailed ctl err _ _ _ _ => okBelow ctl 4 .controller ++ okBelow err 8 .errorCode
  | .busOffRecovery ctl => okBelow ctl 4 .controller
  | .recover ctl => okBelow ctl 4 .controller
  | .filterWord2Write ctl elem _ => okBelow ctl 4 .controller ++ okBelow elem 64 .filterElement
  | .summaryPeriod ctl => okBelow ctl 4 .controller
  | .cadence frame _ => okFrame frame
  | .poseBroadcast frame _ => okFrame frame
  | .edge frame _ => okFrame frame
  | .edgeKeepalive follower => okBelow follower 63 .follower
  | .state frame _ => okFrame frame
  | .followerLost follower => okBelow follower 63 .follower
  | .probe frame _ => okFrame frame
  | .duplicate frame _ => okFrame frame
  | .sourceSignalChange die src _ => okBelow die 8 .die ++ okBelow src (if die = 0 then 1024 else 256) .source
  | .interruptTake die core _ => okBelow die 8 .die ++ okBelow core (if die = 0 then 4 else 1) .core
  | .eoi die core _ _ => okBelow die 8 .die ++ okBelow core (if die = 0 then 4 else 1) .core
  | .nudgeRaise die core index _ => okBelow die 8 .die ++ okBelow core (if die = 0 then 4 else 1) .core ++ okBelow index 16 .nudge
  | .nudgeLower die core index _ => okBelow die 8 .die ++ okBelow core (if die = 0 then 4 else 1) .core ++ okBelow index 16 .nudge
  | .pendingWordWrite die word _ _ _ => okBelow die 8 .die ++ okBelow word (if die = 0 then 32 else 8) .interruptWord
  | .configurationWrite die reg _ _ => okBelow die 8 .die ++ okBelow reg (if die = 0 then 512 else 128) .configRegister
  | .logbookEvent event => okLog event
  | .powerFailWarning _ => []
  | .erase _ => []
  | .leakTimerExpiry cls _ => okBelow cls 19 .healthClass
  | .hltClear cls _ => okBelow cls 19 .healthClass
  | .derateCheck spoke _ => okSpoke spoke
  | .heartbeatSlot _ => []
  | .heartbeat _ _ _ _ _ => []
  | .quietTimeout cas => okBelow cas 56 .deviceCassette
  | .digest _ _ _ => []
  | .tandemFeed _ _ => []
  | .loopstate _ _ => []
  | .wbdone _ _ _ _ => []
  | .yield_ _ _ _ => []
  | .attach _ _ => []
  | .xfer _ _ _ _ => []
  | .xferAck _ _ => []
  | .detach _ _ => []
  | .foreignDrive cas => okBelow cas 56 .deviceCassette
  | .loopbackStart _ => []
  | .loopbackDone found => okFound found
  | .boundaryScanInstruction _ _ => []
  | .registerWrite addr _ _ _ => okBelow addr 0x46000 .registerAddress
  | .completionTimeout req => okReq req
  | .arbitrationLost ctl => okBelow ctl 4 .controller
  | .receiveError ctl err _ _ => okBelow ctl 4 .controller ++ okBelow err 8 .errorCode
  | .chopPeriod spoke chan => okSpoke spoke ++ okBelow chan 64 .channel
  | .referenceEdge spoke pair => okSpoke spoke ++ okBelow pair 12 .pair
  | .vbatAoLoss _ => []
  | .powerGoodLoss spoke => okSpoke spoke
  | .monitorMeasurement die meas => okBelow die 8 .die ++ okMeas meas
  | .registerRead addr _ => okBelow addr 0x46000 .registerAddress
  | .powerOnReset => []
  | .watchdog => []
  | .d3hot => []
  | .suppliesGood => []
  | .supplyTimeout => []
  | .supplyRetry => []
  | .pllLocked => []
  | .spokePowerSwitch => []
  | .hubFault => []
  | .safe => []
  | .safeClear => []
  | .park => []
  | .autoPark => []
  | .parked => []
  | .restart => []
  | .selftest => []
  | .wakeDelayDone => []
  | .armBallLow => []
  | .ptAdjustment => []
  | .lanePowerUp => []
  | .geometryCycleStart => []
  | .cycleEvaluationDone => []
  | .prefetchWalk => []
  | .decisionReport => []
  | .doorbellPoll => []
  | .tableChecksDone => []
  | .epochRecord => []
  | .timePulse => []
  | .pulseEnd => []
  | .autoHoldExpiry => []
  | .cadenceSend => []
  | .conflictEnd => []
  | .leaderLost => []
  | .posePartsTimeout => []
  | .plannerLost => []
  | .stateKeepalive => []
  | .probeWindowEnd => []
  | .recordStored => []
  | .scanDone => []
  | .colophonSave => []
  | .freezeTimeout => []
  | .eraseDone => []
  | .replan => []
  | .marginApply => []
  | .partnerPeriodEnd => []
  | .outputsQuiet => []
  | .yieldTimeout => []
  | .attachTimeout => []
  | .xferResend => []
  | .tandemLinkDown => []
  | .loopbackStop => []
  | .pcieLoopback => []
  | .d0Entry => []
  | .slewDone => []
  | .aoClockFail => []
  | .heartbeatPulse => []
  | .postWakePulse => []
  | .tandemLinkDownTimeout => []
  | .attachFrameSend => []
  | .probeFrameSend => []

/-- A command is well-formed. -/
def Instr.wellFormed (c : Instr) : Bool := c.check.isEmpty

end Sys2Proof
end

