-- ==== Sys2Proof/Certificates/Slice0/Obligations.lean ====
section
/-! DEFINITION. The statements about the block, for the provers. -/
open Sys2Proof Sys2Proof.Machine

/-! ### Make-ready (02_make_ready_and_parked.md) -/

/-- R85, R466, R467, R543: a power-on and an external reset leave COLD with PT 0, the byte memories empty, nothing of the engine, the controllers and
the tandem unit, and name themselves in PWR_CAUSE.RESET; COLD begins to count once RESET_N is high, and R53: at a time 40 to 60 µs after that
PWR_EN goes high, the first attempt of 20 ms for the supplies. -/
def Obligations.ColdResetsClearTheDevice : Prop :=
  ∀ s : State,
    Completes .powerOnReset s (fun t => t.mem = {} ∧ t.dev.pwr.state = .cold ∧ t.dev.pt = 0 ∧ t.dev.eng = {} ∧ t.dev.can = [] ∧
      t.dev.tdm = {} ∧ t.dev.time = {} ∧ t.dev.chip = s.dev.chip ∧ getF F.PWR_CAUSE.RESET t.dev = 1 ∧
      t.dev.pins.pwrEn = false ∧ t.dev.pwr.powerFrom = if s.dev.pins.resetN then some 0 else none) ∧
    Completes (.externalReset false) s (fun t => t.mem = {} ∧ t.dev.pwr.state = .cold ∧ t.dev.pt = 0 ∧ t.dev.eng = {} ∧
      t.dev.can = [] ∧ t.dev.chip = s.dev.chip ∧ getF F.PWR_CAUSE.RESET t.dev = 2 ∧ t.dev.pins.pwrEn = false ∧
      t.dev.pins.resetN = false ∧ t.dev.pwr.powerFrom = none) ∧
    (s.dev.pins.resetN = false →
      Completes (.externalReset true) s (fun t => t.mem = s.mem ∧ t.dev.pins.resetN = true ∧
        t.dev.pins.pwrEn = s.dev.pins.pwrEn ∧ t.dev.regs = s.dev.regs ∧
        t.dev.pwr.powerFrom = if s.dev.pins.vbatAo then some s.dev.pt else none)) ∧
    (∀ p, s.pending = [] → s.dev.pins.vbatAo = true → s.dev.pins.resetN = true → s.dev.pwr.park ≠ .saved → s.dev.pt + 2 < 2 ^ 64 →
      s.dev.pwr.powerFrom = some p → s.dev.pwr.powerAt = none → p + 10000 ≤ s.dev.pt →
      ∃ t q, step s = .next t ∧ t.dev.pwr.powerAt = some q ∧ p + 10000 ≤ q ∧ q ≤ p + 15000 ∧ t.dev.pins.pwrEn = s.dev.pins.pwrEn) ∧
    (∀ q, s.pending = [] → s.dev.pins.vbatAo = true → s.dev.pins.resetN = true → s.dev.pwr.park ≠ .saved → s.dev.pt + 2 < 2 ^ 64 →
      s.dev.pins.testMode = false → s.dev.pwr.powerAt = some q → q ≤ s.dev.pt →
      ∃ t, step s = .next t ∧ t.dev.pins.pwrEn = true ∧ t.dev.pwr.powerAt = none ∧ t.dev.pwr.attempts = 1 ∧
        t.dev.pwr.pgDeadline = some (t.dev.pt + 5000000))

/-- R51, R85, R136, R543: a watchdog or restart reset starts again from IMAGES, from flash or from the image store, with the byte memories
empty and PT, the logbook of a restart and the part kept; a RESTART elsewhere is refused; a PCIe reset clears the endpoint and the
epoch and keeps PT. -/
def Obligations.HubResetsStartFromImages : Prop :=
  ∀ s : State,
    (s.dev.pwr.state ≠ .cold → s.dev.pwr.state ≠ .parked →
      Completes .watchdog s (fun t => t.mem = {} ∧ t.dev.pwr.state = .images ∧ t.dev.pwr.fromStore = false ∧
        getF F.PWR_CAUSE.RESET t.dev = 4 ∧ t.dev.eng = {} ∧ t.dev.chip = s.dev.chip)) ∧
    (s.dev.pwr.state = .ready ∨ s.dev.pwr.state = .restricted →
      Completes .restart s (fun t => t.mem = {} ∧ t.dev.pwr.state = .images ∧ t.dev.pwr.fromStore = true ∧
        getF F.PWR_CAUSE.RESET t.dev = 8 ∧ t.dev.eng = {} ∧ t.dev.chip = s.dev.chip)) ∧
    (s.dev.pwr.state ≠ .ready → s.dev.pwr.state ≠ .restricted →
      exec .restart s = .next { s with dev := raise F.PWR_ARM.CMD_REFUSED s.dev }) ∧
    ∀ down, Completes (.pcieReset down) s (fun t => t.mem = s.mem ∧ t.dev.pcie = { linkUp := !down } ∧
      getF F.HIF_EPOCH.EPOCH t.dev = 0 ∧ isSet F.HIF_STATUS.ATOMIC_ACTIVE t.dev = false)

/-- R48, R49, R53: the supply attempts. Good supplies end the wait; a failed attempt takes PWR_EN low and is repeated after 1 s, but the third
leaves the sequencer in COLD; a retry drives PWR_EN high again. With the supplies good, PLL lock leaves COLD for BOOT and the flash
descriptors leave BOOT for IMAGES when no safe-state cause is held. -/
def Obligations.SuppliesAndBootComplete : Prop :=
  ∀ s : State,
    (s.dev.pins.pwrEn = true → s.dev.pwr.pgDeadline ≠ none →
      Completes .suppliesGood s (fun t => t.dev.pwr.suppliesGood = true ∧ t.dev.pwr.pgDeadline = none ∧ t.mem = s.mem)) ∧
    (∀ p, s.dev.pwr.pgDeadline = some p → p ≤ s.dev.pt → s.dev.pwr.suppliesGood = false → s.dev.pwr.attempts < 3 →
      Completes .supplyTimeout s (fun t => t.dev.pins.pwrEn = false ∧ t.dev.pwr.retryAt = some (s.dev.pt + 250000000) ∧
        t.dev.pwr.state = s.dev.pwr.state ∧ t.dev.regs = s.dev.regs)) ∧
    (∀ p, s.dev.pwr.pgDeadline = some p → p ≤ s.dev.pt → s.dev.pwr.suppliesGood = false → 3 ≤ s.dev.pwr.attempts →
      Completes .supplyTimeout s (fun t => t.dev.pins.pwrEn = false ∧ t.dev.pwr.retryAt = none ∧ t.dev.pwr.state = .cold ∧
        t.dev.regs = s.dev.regs)) ∧
    (∀ p, s.dev.pwr.retryAt = some p → p ≤ s.dev.pt →
      Completes .supplyRetry s (fun t => t.dev.pins.pwrEn = true ∧ t.dev.pwr.retryAt = none ∧
        t.dev.pwr.attempts = s.dev.pwr.attempts + 1 ∧ t.dev.pwr.pgDeadline = some (s.dev.pt + 5000000) ∧ t.dev.regs = s.dev.regs)) ∧
    (s.dev.pwr.suppliesGood = true → s.dev.pwr.state = .cold →
      exec .pllLocked s = .next { s with dev := setState .boot s.dev }) ∧
    (∀ a b, s.dev.pwr.state = .boot → getF F.PWR_CAUSE.SAFE s.dev = 0 →
      Completes (.flashDescriptorRead a b) s (fun t => t.dev.pwr.state = .images ∧ t.dev.pwr.seqA = a ∧ t.dev.pwr.seqB = b ∧
        t.dev.regs = s.dev.regs))

/-- R53, R55, R56, R541: in IMAGES the set with the higher sequence number is taken if it passes, else the other; where none passes the device
waits with IMG_WAIT, and a restart takes the image store. IDN_HOST_ABI keeps a nonzero generation; in IMAGES the check of it waits, before and
after it runs at once and sets or clears ABI_ACCEPTED and the restricted cause. -/
def Obligations.ImageSetsAndAbiComplete : Prop :=
  ∀ s : State,
    (∀ a b x, s.dev.pwr.state = .images → isSet F.PWR_STATE.IMG_WAIT s.dev = false → s.dev.pwr.fromStore = false →
      s.dev.pwr.seqB < s.dev.pwr.seqA → acceptedSet a s.dev = some x →
      Completes (.imageSetAuthenticated a b) s (fun t => t.dev.pwr.state = .spokes ∧ t.dev.pwr.store = x ∧
        t.dev.pwr.manifest = x.manifest ∧ t.dev.pwr.nextSpoke = 1)) ∧
    (∀ a b x, s.dev.pwr.state = .images → isSet F.PWR_STATE.IMG_WAIT s.dev = false → s.dev.pwr.fromStore = false →
      s.dev.pwr.seqA < s.dev.pwr.seqB → acceptedSet b s.dev = some x →
      Completes (.imageSetAuthenticated a b) s (fun t => t.dev.pwr.state = .spokes ∧ t.dev.pwr.store = x ∧
        t.dev.pwr.manifest = x.manifest ∧ t.dev.pwr.nextSpoke = 1)) ∧
    (∀ a b x, s.dev.pwr.state = .images → isSet F.PWR_STATE.IMG_WAIT s.dev = false → s.dev.pwr.fromStore = false →
      s.dev.pwr.seqB < s.dev.pwr.seqA → acceptedSet a s.dev = none → acceptedSet b s.dev = some x →
      Completes (.imageSetAuthenticated a b) s (fun t => t.dev.pwr.state = .spokes ∧ t.dev.pwr.store = x)) ∧
    (∀ a b, s.dev.pwr.state = .images → isSet F.PWR_STATE.IMG_WAIT s.dev = false → s.dev.pwr.fromStore = false →
      s.dev.pwr.seqB < s.dev.pwr.seqA → acceptedSet a s.dev = none → acceptedSet b s.dev = none →
      exec (.imageSetAuthenticated a b) s = .next { s with dev := raise F.PWR_STATE.IMG_WAIT s.dev }) ∧
    (∀ a b, s.dev.pwr.state = .images → isSet F.PWR_STATE.IMG_WAIT s.dev = false → s.dev.pwr.fromStore = true →
      s.dev.pwr.storeValid = true →
      Completes (.imageSetAuthenticated a b) s (fun t => t.dev.pwr.state = .spokes ∧ t.dev.pwr.store = s.dev.pwr.store ∧
        t.dev.pwr.manifest = s.dev.pwr.store.manifest)) ∧
    (∀ v : Word, v.toNat % 65536 ≠ 0 → s.dev.pwr.state = .images →
      Completes (.idnHostAbi v) s (fun t => t.dev.pwr.abiPending = true ∧ getF F.IDN_HOST_ABI.ABI t.dev = v.toNat % 65536 ∧
        t.dev.pwr.state = .images)) ∧
    (∀ v : Word, v.toNat % 65536 ≠ 0 → s.dev.pwr.state ∉ [.images, .ready, .armed, .restricted] →
      Completes (.idnHostAbi v) s (fun t => getF F.IDN_HOST_ABI.ABI t.dev = v.toNat % 65536 ∧ t.dev.pwr.state = s.dev.pwr.state ∧
        isSet F.PWR_STATE.ABI_ACCEPTED t.dev = (s.dev.pwr.manifest.any fun e =>
          manMatches s.dev e && decide (e.abiMin ≤ v.toNat % 65536) && decide (v.toNat % 65536 ≤ e.abiMax)) ∧
        isSet F.PWR_CAUSE.ABI t.dev = !isSet F.PWR_STATE.ABI_ACCEPTED t.dev))

/-- R53, R54, R58, R59, R62, R63, R85, R479, R530: A spoke that is off and not isolated gets its power in its slot, an isolated one stays off, and
with the last spoke the state LINK begins; a link that trains in time is up, and otherwise the spoke is isolated; a spoke that has loaded runs; a
boost rail that has reached its target ends its precharge, and one that has not by the time limit sets PRECHARGE_FAIL. Self-test starts from READY
only, ends in READY, isolates the spoke of a channel that fails its reference-load test, and a test that fails outside the spokes ends in SAFE;
SPOKE_RESET of an isolated spoke in every state of a running hub but ARMED, and of another spoke in READY, RESTRICTED or SAFE, powers the spoke again,
with 100 µs for its link to train; it is refused in ARMED and for a spoke the part does not have. -/
def Obligations.SpokesAreBroughtUpAndReset : Prop :=
  (∀ s : State,
     (s.dev.pwr.state = .spokes → s.dev.pwr.slotAt + 25000 * (s.dev.pwr.nextSpoke - 1) ≤ s.dev.pt →
       s.dev.pwr.nextSpoke < nSpokes s.dev → isIsolated s.dev.pwr.nextSpoke s.dev = false →
       s.dev.pwr.spokeOn.contains s.dev.pwr.nextSpoke = false →
       Completes .spokePowerSwitch s (fun t => t.dev.pwr.nextSpoke = s.dev.pwr.nextSpoke + 1 ∧ t.dev.pwr.state = .spokes ∧
         t.dev.pwr.spokeOn = s.dev.pwr.spokeOn ++ [s.dev.pwr.nextSpoke] ∧
         kget t.dev.pwr.trainBy s.dev.pwr.nextSpoke 0 = s.dev.pt + 25000 ∧ t.dev.regs = s.dev.regs)) ∧
     (s.dev.pwr.state = .spokes → s.dev.pwr.slotAt + 25000 * (s.dev.pwr.nextSpoke - 1) ≤ s.dev.pt →
       s.dev.pwr.nextSpoke < nSpokes s.dev → isIsolated s.dev.pwr.nextSpoke s.dev = true →
       exec .spokePowerSwitch s = .next { s with dev := { s.dev with pwr := { s.dev.pwr with nextSpoke := s.dev.pwr.nextSpoke + 1 } } }) ∧
     (s.dev.pwr.state = .spokes → s.dev.pwr.slotAt + 25000 * (s.dev.pwr.nextSpoke - 1) ≤ s.dev.pt →
       s.dev.pwr.nextSpoke = nSpokes s.dev → isIsolated s.dev.pwr.nextSpoke s.dev = false →
       s.dev.pwr.spokeOn.contains s.dev.pwr.nextSpoke = false → spokeRuns s.dev.pwr.nextSpoke s.dev = false →
       Completes .spokePowerSwitch s (fun t => t.dev.pwr.state = .link ∧
         t.dev.pwr.spokeOn = s.dev.pwr.spokeOn ++ [s.dev.pwr.nextSpoke] ∧
         kget t.dev.pwr.trainBy s.dev.pwr.nextSpoke 0 = s.dev.pt + 25000)) ∧
     (∀ k e, hasSpoke k s.dev = true → (s.dev.pwr.trainBy.find? fun e => e.1 == k) = some e → s.dev.pt ≤ e.2 →
       Completes (.spokeLinkTrained k) s (fun t => bitOf F.PWR_LINK_STATUS.LINK_UP (k - 1) t.dev = true ∧
         t.dev.pwr.trainBy = kdel s.dev.pwr.trainBy k ∧ t.dev.pwr.state = s.dev.pwr.state)) ∧
     (∀ k e, hasSpoke k s.dev = true → (s.dev.pwr.trainBy.find? fun e => e.1 == k) = some e → e.2 < s.dev.pt →
       isIsolated k s.dev = false → s.dev.pwr.state = .spokes →
       Completes (.spokeTrainTimeout k) s (fun t => isIsolated k t.dev = true ∧ t.dev.pwr.state = .spokes ∧
         t.dev.pwr.spokeOn.contains k = false)) ∧
     (∀ k, hasSpoke k s.dev = true → (getLink k s.dev).up = true → s.dev.pwr.spokeOn.contains k = true →
       spokeRuns k s.dev = false → s.dev.pwr.state = .spokes →
       Completes (.spokeLoaded k) s (fun t => spokeRuns k t.dev = true ∧ t.dev.pwr.state = .spokes)) ∧
     (∀ k rail, hasSpoke k s.dev = true → (s.dev.pwr.prechargeBy.any fun e => e.1 == k) = true →
       2 * getF (F.DRV_BOOST_CFG.TARGET k) s.dev ≤ rail →
       Completes (.railAtTarget k rail) s (fun t => bitOf F.PWR_STATE.PRECHARGED (k - 1) t.dev = true ∧
         (getSpoke k t.dev).boost.rail = rail ∧ (getSpoke k t.dev).boost.charging = false)) ∧
     (∀ k rail e, hasSpoke k s.dev = true → (s.dev.pwr.prechargeBy.find? fun e => e.1 == k) = some e → e.2 ≤ s.dev.pt →
       Completes (.prechargeTimeout k rail) s (fun t => bitOf F.PWR_STATE.PRECHARGE_FAIL (k - 1) t.dev = true ∧
         (getSpoke k t.dev).boost.rail = rail ∧ (getSpoke k t.dev).boost.charging = false))) ∧
  (∀ s : State,
     (s.dev.pwr.state = .ready → Completes .selftest s (fun t => t.dev.pwr.state = .selftest ∧ t.dev.pwr.testing = true ∧
       t.dev.regs = s.dev.regs)) ∧
     (s.dev.pwr.state ≠ .ready → exec .selftest s = .next { s with dev := raise F.PWR_ARM.CMD_REFUSED s.dev }) ∧
     (s.dev.pwr.state = .selftest → getF F.PWR_CAUSE.FW_COMBO s.dev = 0 → getF F.PWR_CAUSE.ABI s.dev = 0 →
       Completes (.selftestDone [] [] none) s (fun t => t.dev.pwr.state = .ready ∧ t.dev.pwr.reachedReady = true)) ∧
     (∀ n, s.dev.pwr.state = .selftest →
       Completes (.selftestDone [] [] (some n)) s (fun t => t.dev.pwr.state = .safe ∧ t.dev.pwr.testing = false)) ∧
     (∀ k tests, s.dev.pwr.state = .selftest → getF F.PWR_CAUSE.FW_COMBO s.dev = 0 → getF F.PWR_CAUSE.ABI s.dev = 0 →
       hasSpoke k s.dev = true → s.dev.pwr.spokeOn.contains k = true → isIsolated k s.dev = false →
       Completes (.selftestDone [(k, tests)] [] none) s (fun t => t.dev.pwr.state = .ready ∧
         isIsolated k t.dev = tests.any fun x => refStep x != 0)) ∧
     (∀ k, hasSpoke k s.dev = true → s.dev.pwr.state = .ready ∨ s.dev.pwr.state = .restricted ∨ s.dev.pwr.state = .safe ∨
         (isIsolated k s.dev = true ∧ s.dev.pwr.state ∉ [.armed, .cold, .parked]) →
       Completes (.spokeReset k) s (fun t => t.dev.pwr.spokeOn.contains k = true ∧ spokeRuns k t.dev = false ∧
         kget t.dev.pwr.trainBy k 0 = s.dev.pt + 25000 ∧ t.dev.pwr.state = s.dev.pwr.state)) ∧
     (∀ k, s.dev.pwr.state = .armed ∨ hasSpoke k s.dev = false →
       exec (.spokeReset k) s = .next { s with dev := raise F.PWR_ARM.CMD_REFUSED s.dev }))

/-- R38, R52, R76, R52: A hub fault, the SAFE command, a reference clock that is off by more than 1 % and a die above 155 °C enter SAFE from any state
that has an exit to it, each setting its cause bit, with self-test, precharge and parked entry given up; a deviation of the reference within 1 % ends
that condition, and a failed 32.768 kHz clock is noted. In SAFE itself a fault of the hub sets its cause bit and nothing else; in COLD, BOOT and
PARKED the cause is held too, to act once that state is left. -/
def Obligations.SafeCausesEnterSafe : Prop :=
  (∀ s : State,
     (canEnterSafe s.dev → ∀ c ∈ [(Instr.hubFault, 5), (.safe, 0)],
       Completes c.1 s (fun t => t.dev.pwr.state = .safe ∧ bitOf F.PWR_CAUSE.SAFE c.2 t.dev = true ∧ t.dev.pwr.testing = false ∧
         t.dev.pwr.prechargeBy = [] ∧ t.dev.pwr.park = .awake ∧ t.mem = s.mem)) ∧
     (canEnterSafe s.dev → ∀ dev : Int, 100 < dev.natAbs →
       Completes (.refclkFail dev) s (fun t => t.dev.pwr.state = .safe ∧ bitOf F.PWR_CAUSE.SAFE 1 t.dev = true ∧
         t.dev.pwr.testing = false ∧ t.dev.pwr.prechargeBy = [] ∧ t.dev.pwr.park = .awake ∧ t.dev.pwr.persistRef = true)) ∧
     (∀ dev : Int, dev.natAbs ≤ 100 →
       exec (.refclkFail dev) s = .next { s with dev := { s.dev with pwr := { s.dev.pwr with persistRef := false } } }) ∧
     (canEnterSafe s.dev → ∀ die temp, 155 < temp → (die = 0 ∨ hasSpoke die s.dev = true) →
       Completes (.thermal die temp) s (fun t => t.dev.pwr.state = .safe ∧ bitOf F.PWR_CAUSE.SAFE 4 t.dev = true ∧
         t.dev.pwr.testing = false ∧ t.dev.pwr.prechargeBy = [] ∧ t.dev.pwr.park = .awake ∧ die ∈ t.dev.pwr.hotDies)) ∧
     exec .aoClockFail s = .next { s with dev := { s.dev with pwr := { s.dev.pwr with aoFail := true } } }) ∧
  (∀ s : State,
     (s.dev.pwr.state = .safe → exec .hubFault s = .next { s with dev := bitF F.PWR_CAUSE.SAFE 5 true s.dev }) ∧
     (s.dev.pwr.state = .cold ∨ s.dev.pwr.state = .boot ∨ s.dev.pwr.state = .parked →
       Completes .hubFault s (fun t => t.dev.pwr = { s.dev.pwr with heldSafe := true } ∧ bitOf F.PWR_CAUSE.SAFE 5 t.dev = true ∧
         t.dev.regs = (bitF F.PWR_CAUSE.SAFE 5 true s.dev).regs)))

/-- R77, R78, R72, R73: SAFE is left by SAFE_CLEAR only while no cause bit is set: to READY, or to SPOKES where make-ready had not reached READY; with
a cause bit set the command is refused by name, outside SAFE refused. The ARM ball going low leaves ARMED for READY, sets ARM_DROP, and descriptors
that waited to arm complete. -/
def Obligations.SafeAndArmedAreLeft : Prop :=
  (∀ s : State,
     (s.dev.pwr.state = .safe → getF F.PWR_CAUSE.SAFE s.dev = 0 → s.dev.pwr.reachedReady = true →
       getF F.PWR_CAUSE.FW_COMBO s.dev = 0 → getF F.PWR_CAUSE.ABI s.dev = 0 →
       Completes .safeClear s (fun t => t.dev.pwr.state = .ready)) ∧
     (s.dev.pwr.state = .safe → getF F.PWR_CAUSE.SAFE s.dev = 0 → s.dev.pwr.reachedReady = false → s.dev.pwr.manifest ≠ [] →
       Completes .safeClear s (fun t => t.dev.pwr.state = .spokes ∧ t.dev.pwr.nextSpoke = 1)) ∧
     (s.dev.pwr.state = .safe → getF F.PWR_CAUSE.SAFE s.dev ≠ 0 →
       exec .safeClear s = .next { s with dev := raise F.PWR_ARM.SAFE_CLEAR_REFUSED s.dev }) ∧
     (s.dev.pwr.state ≠ .safe → exec .safeClear s = .next { s with dev := raise F.PWR_ARM.CMD_REFUSED s.dev })) ∧
  (∀ s : State,
     (s.dev.pwr.state = .armed → Completes .armBallLow s (fun t => t.dev.pwr.state = .ready ∧ t.dev.pins.arm = false ∧
       getF F.PWR_ARM.ARM_DROP t.dev = 1 ∧ t.dev.pwr.armAccepted = [])) ∧
     (s.dev.pwr.state ≠ .armed → Completes .armBallLow s (fun t => t.dev.pwr.state = s.dev.pwr.state ∧ t.dev.pins.arm = false ∧
       t.dev.pwr.armAccepted = [])))

/-- R39, R79, R80, R81, R82, R83: PARK begins parked entry in READY and RESTRICTED unless the 32.768 kHz clock failed, and the inactive WAKE ball
begins it after PARK_DELAY; when the steps of parked entry are done, 1 ms after it began, the state is PARKED with PWR_EN low. An enabled wake source
wakes a parked device, whose PWR_EN goes high within 5 µs; before step 4 of parked entry it ends the entry, from step 4 on it is latched and acts when
PWR_EN has been low for 1 ms. -/
def Obligations.ParkingAndWaking : Prop :=
  (∀ s : State,
     (s.dev.pwr.state = .ready ∨ s.dev.pwr.state = .restricted → s.dev.pwr.aoFail = false → s.dev.pwr.park = .awake →
       exec .park s = .next { s with dev := { s.dev with pwr :=
         { s.dev.pwr with park := .entering, parkPrior := s.dev.pwr.state, parkAt := s.dev.pt, wakeLatched := none } } }) ∧
     (s.dev.pwr.state = .ready ∨ s.dev.pwr.state = .armed ∨ s.dev.pwr.state = .restricted → s.dev.pwr.aoFail = true →
       exec .park s = .next { s with dev := raise F.PWR_ARM.PARK_REFUSED s.dev }) ∧
     (s.dev.pwr.state = .ready → s.dev.pwr.aoFail = false → s.dev.pwr.park = .awake → getF F.PWR_PARK_CFG.PARK_DELAY s.dev ≠ 0 →
       wakeActive s.dev = false → s.dev.pwr.wakeIdle + 250000000 * getF F.PWR_PARK_CFG.PARK_DELAY s.dev ≤ s.dev.pt →
       Completes .autoPark s (fun t => t.dev.pwr.park = .entering ∧ t.dev.pwr.state = .ready ∧ t.dev.regs = s.dev.regs)) ∧
     (s.dev.pwr.park = .entering → s.dev.pwr.parkAt + 250000 ≤ s.dev.pt →
       Completes .parked s (fun t => t.dev.pwr.state = .parked ∧ t.dev.pwr.park = .saved ∧ t.dev.pins.pwrEn = false ∧
         t.dev.pwr.suppliesGood = false))) ∧
  (∀ s : State,
     (isSet F.PWR_PARK_CFG.WAKE_EN s.dev = true → s.dev.pwr.park = .entering →
       Completes (.wake false) s (fun t => t.dev.pwr.park = .awake ∧ getF F.PWR_ARM.PARK_ABORTED t.dev = 1)) ∧
     (isSet F.PWR_PARK_CFG.WAKE_EN s.dev = true → s.dev.pwr.park = .entering → s.dev.pwr.wakeLatched = none →
       Completes (.wake true) s (fun t => t.dev.pwr.park = .entering ∧ t.dev.pwr.wakeLatched = some 1)) ∧
     (isSet F.PWR_PARK_CFG.WAKE_EN s.dev = true → s.dev.pwr.park = .saved → s.dev.pwr.wakeDelay = none → 250000 ≤ s.dev.pwr.parkTicks →
       Completes (.wake true) s (fun t => t.dev.pwr.park = .waking ∧ t.dev.pwr.wakeSource = 1 ∧ (∃ q, t.dev.pwr.powerAt = some q ∧ t.dev.pt ≤ q ∧ q ≤ t.dev.pt + 1250))) ∧
     (isSet F.PWR_PARK_CFG.WAKE_EN s.dev = true → s.dev.pwr.park = .saved → s.dev.pwr.wakeDelay = none → s.dev.pwr.parkTicks < 250000 →
       Completes (.wake true) s (fun t => t.dev.pwr.park = .saved ∧ t.dev.pins.pwrEn = s.dev.pins.pwrEn ∧
         t.dev.pwr.wakeLatched = some 1 ∧ t.dev.pwr.wakeDelay = some 250000)) ∧
     (isSet F.PWR_PARK_CFG.TIMER_EN s.dev = true → getF F.PWR_PARK_TIMER.SECONDS s.dev ≠ 0 →
       250000000 * getF F.PWR_PARK_TIMER.SECONDS s.dev ≤ s.dev.pwr.parkTicks → s.dev.pwr.park = .saved →
       s.dev.pwr.wakeDelay = none →
       Completes (.parkTimerExpiry true) s (fun t => t.dev.pwr.park = .waking ∧ t.dev.pwr.wakeSource = 2 ∧ (∃ q, t.dev.pwr.powerAt = some q ∧ t.dev.pt ≤ q ∧ q ≤ t.dev.pt + 1250))) ∧
     (isSet F.PWR_PARK_CFG.HEARTBEAT_EN s.dev = true → s.dev.pwr.park = .saved → s.dev.pwr.wakeDelay = none →
       250000 ≤ s.dev.pwr.parkTicks →
       Completes (.heartbeatWake true) s (fun t => t.dev.pwr.park = .waking ∧ t.dev.pwr.wakeSource = 3 ∧ (∃ q, t.dev.pwr.powerAt = some q ∧ t.dev.pt ≤ q ∧ q ≤ t.dev.pt + 1250))) ∧
     (∀ p, s.dev.pwr.wakeDelay = some p → p ≤ s.dev.pwr.parkTicks → s.dev.pwr.park = .saved →
       Completes .wakeDelayDone s (fun t => t.dev.pwr.park = .waking ∧ (∃ q, t.dev.pwr.powerAt = some q ∧ t.dev.pt ≤ q ∧ q ≤ t.dev.pt + 1250) ∧
         t.dev.pwr.wakeSource = s.dev.pwr.wakeLatched.getD 0)))

/-! ### Spoke links, package time and geometry cycles (01_hub_and_spokes.md, R208 to R210) -/

/-- R24: of a sequenced frame that is not the one expected, the receiver takes the ACK and nothing else: the frame itself is discarded, whatever
its type. -/
def Obligations.FrameOutOfSequenceIsDiscarded : Prop :=
  ∀ (s : State) (k : Nat) (h : LinkHdr), hasSpoke k s.dev = true →
    (¬ inSequence k .spoke h s.dev → ∀ e c x a b p, ∀ i ∈ [Instr.sched k h e, .cmd k h c, .data k .spoke h x, .ptadj k h a b,
        .ptsync k .spoke h a p, .resume k h],
      exec i s = .next { s with dev := hearFrame k .spoke h.ack s.dev }) ∧
    (¬ inSequence k .hub h s.dev → ∀ e j l o v x a p, ∀ i ∈ [Instr.feed k h e, .int k h j l, .resp k h o v, .data k .hub h x,
        .ptsync k .hub h a p],
      exec i s = .next { s with dev := hearFrame k .hub h.ack s.dev })

/-- R18, R29, R35, R18, R29, R32, R94, R200, R440, R537: Frames of a link that arrive in sequence do what they ask: RESP ends a read with the value it
carries, PTADJ adds an adjustment, a DATA frame stores the bad-frame count of the spoke at the hub or a registration stream at the spoke, RESUME ends
the off state, and a CMD frame with RESUME does the same. What frames of a link do beyond R35's: FEED joins the events the next cycle start takes, INT
gives a slot its level at the hub, a CMD reads a register and answers with RESP, writes nothing at a reserved offset, or unloads a loop; a PTSYNC
echoed to the hub ends the exchange with the spoke's PT within one tick. -/
def Obligations.LinkFramesTakeEffect : Prop :=
  (∀ (s : State) (k : Nat) (h : LinkHdr), hasSpoke k s.dev = true →
     (inSequence k .hub h s.dev → ∀ off v, (getLink k s.dev).reads.contains off = true →
       Completes (.resp k h off v) s (fun t => t.dev.out = s.dev.out ++ [.readDone off v] ∧ t.dev.regs = s.dev.regs ∧
         t.dev.spokes = s.dev.spokes)) ∧
     (inSequence k .hub h s.dev → ∀ n,
       Completes (.data k .hub h (.rxBad n)) s (fun t => getF (F.SPK_LINK_COUNT.SPOKE_RX_BAD k) t.dev = min n 65535 ∧
         t.dev.spokes = s.dev.spokes)) ∧
     (inSequence k .spoke h s.dev → ∀ i v p,
       Completes (.data k .spoke h (.stream i v p)) s (fun t => kget (getCtl k t.dev).streams i {} = { value := v, pt := p } ∧
         t.dev.regs = s.dev.regs)) ∧
     (inSequence k .spoke h s.dev → ∀ eff plus,
       Completes (.ptadj k h eff plus) s (fun t => (getLink k t.dev).adjs = (getLink k s.dev).adjs ++ [(eff, plus)] ∧
         t.dev.regs = s.dev.regs ∧ t.dev.spokes = s.dev.spokes)) ∧
     (inSequence k .spoke h s.dev → ∀ i ∈ [Instr.resume k h, .cmd k h .resume],
       Completes i s (fun t => (getLink k t.dev).spokeOff = false ∧ t.mem = s.mem ∧ t.dev.eng = s.dev.eng))) ∧
  (∀ (s : State) (k : Nat) (h : LinkHdr), hasSpoke k s.dev = true →
     (inSequence k .hub h s.dev → ∀ (e : FeedP) o, s.dev.sox.role.role ≠ 3 → findOutlet (globalCh k e.chan) s.dev = some o →
       Delivers (.feed k h e) s (fun t => (∃ x, t.dev.eng.feeds = s.dev.eng.feeds ++ [x] ∧ x.outlet = o ∧ x.event = e.event ∧
         x.at_ = extendPt s.dev.pt e.evtPt ∧ x.delay = e.delay) ∧ (e.late = true → getF F.REG_STATUS.LATE t.dev = 1) ∧
         (e.late = false → t.dev.regs = s.dev.regs) ∧ t.dev.spokes = s.dev.spokes)) ∧
     (inSequence k .hub h s.dev → ∀ j level,
       Completes (.int k h j level) s (fun t => srcBit Ctl.hub.rawReg (576 + 64 * (k - 1) + j % 64) t.dev = level ∧
         t.dev.spokes = s.dev.spokes ∧ t.dev.log = s.dev.log)) ∧
     (inSequence k .spoke h s.dev → ∀ off,
       Completes (.cmd k h (.regRead off)) s (fun t => t.dev.regs = s.dev.regs ∧ ∃ v,
         Payload.resp (spk k + off % 0x4000) v ∈ (linkEnd k .spoke t.dev).waiting)) ∧
     (inSequence k .spoke h s.dev → ∀ off v by_, regFind (spk k + off % 0x4000) = none →
       Completes (.cmd k h (.regWrite off v by_)) s (fun t => t.dev.regs = s.dev.regs ∧ t.dev.spokes = s.dev.spokes)) ∧
     (inSequence k .spoke h s.dev → ∀ l ring index, l < 24 → s.dev.pwr.state ≠ .restricted → loopMode k l s.dev = 0 → (loopBlock k l s.dev).isSome = true →
       Delivers (.cmd k h (.loop l ring index .unload)) s (fun t => loopBlock k l t.dev = none ∧ loopMode k l t.dev = 0)) ∧
     (inSequence k .hub h s.dev → ∀ sent e, (getLink k s.dev).syncSent ≠ none →
       Completes (.ptsync k .hub h sent (some e)) s (fun t => (getLink k t.dev).syncSent = none ∧ (getLink k t.dev).ptOff.natAbs ≤ 1 ∧
         t.dev.pt = s.dev.pt)))

/-- R19, R24, R17, R18, R24: A bad frame is counted at its receiver, and the first of a gap makes it send NAK; a frame that no ACK covers within 400
ns and a NAK make the sender replay what its buffer holds, the oldest first, but for a frame replayed 8 times, with which the link is lost; IDLE
carries an ACK only. A slot of a lane carries a NAK that is due, else the next frame of a replay, else, while the replay buffer holds fewer than 32
frames, the first of those that wait, with the next SEQ; a full buffer holds it, and a slot with nothing to carry carries IDLE. A SCHED frame has the
bits of R20, a FEED frame those of R23. -/
def Obligations.LinkErrorsAndRetry : Prop :=
  (∀ (s : State) (k : Nat), hasSpoke k s.dev = true →
     ((linkEnd k .hub s.dev).nakSent = false →
       Completes (.frameBadCrc k .hub) s (fun t => (linkEnd k .hub t.dev).nakDue = true ∧ (linkEnd k .hub t.dev).nakSent = true ∧
         getF (F.SPK_LINK_COUNT.HUB_RX_BAD k) t.dev = min 65535 (getF (F.SPK_LINK_COUNT.HUB_RX_BAD k) s.dev + 1))) ∧
     ((linkEnd k .hub s.dev).nakSent = true →
       Completes (.frameBadCrc k .hub) s (fun t => t.dev.out = s.dev.out ∧ t.dev.links = s.dev.links ∧
         getF (F.SPK_LINK_COUNT.HUB_RX_BAD k) t.dev = min 65535 (getF (F.SPK_LINK_COUNT.HUB_RX_BAD k) s.dev + 1))) ∧
     Completes (.frameBadCrc k .spoke) s (fun t => (getLink k t.dev).rxBad = min 65535 ((getLink k s.dev).rxBad + 1) ∧
       (linkEnd k .spoke t.dev).nakSent = true ∧
       (linkEnd k .spoke t.dev).waiting = enqueue (.data (.rxBad (min 65535 ((getLink k s.dev).rxBad + 1)))) (linkEnd k .spoke s.dev).waiting) ∧
     (∀ side, ackOverdue s.dev.pt (linkEnd k side s.dev) = true → replaysSpent (linkEnd k side s.dev) = false →
       exec (.ackTimeout k side) s = .next { s with dev := updEnd k side (fun e => { e with resend := e.replay.map (·.seq) }) s.dev }) ∧
     (∀ side, ackOverdue s.dev.pt (linkEnd k side s.dev) = false → exec (.ackTimeout k side) s = .next s) ∧
     (ackOverdue s.dev.pt (linkEnd k .hub s.dev) = true → replaysSpent (linkEnd k .hub s.dev) = true → (getLink k s.dev).up = true →
       linkLooped k s.dev = false → (getInst 7 (k - 1) s.dev).lasting = true →
       Completes (.ackTimeout k .hub) s (fun t => (getLink k t.dev).up = false ∧ (getLink k t.dev).lostAt = some s.dev.pt ∧
         bitOf F.PWR_LINK_STATUS.LINK_LOST (k - 1) t.dev = true)) ∧
     (ackOverdue s.dev.pt (linkEnd k .spoke s.dev) = true → replaysSpent (linkEnd k .spoke s.dev) = true →
       Completes (.ackTimeout k .spoke) s (fun t => (getLink k t.dev).spokeOff = true)) ∧
     (∀ side (h : LinkHdr), replaysSpent (takeAck h.ack (linkEnd k side s.dev)) = false →
       Completes (.nak k side h) s (fun t => linkEnd k side t.dev = { takeAck h.ack (linkEnd k side s.dev) with
         lastValid := s.dev.pt, resend := (takeAck h.ack (linkEnd k side s.dev)).replay.map (·.seq) })) ∧
     (∀ side h, exec (.idle k side h) s = .next { s with dev := hearFrame k side h.ack s.dev })) ∧
  (∀ (d : Dev) (k : Nat) (side : Side),
     ((linkEnd k side d).nakDue = true →
       (laneSlot k side d).out = d.out ++ [.linkFrame k side (frameBytes (ackOf (linkEnd k side d)) (linkEnd k side d).nextSeq 0x1 0)] ∧
       (linkEnd k side (laneSlot k side d)).nakDue = false ∧
       (linkEnd k side (laneSlot k side d)).replay = (linkEnd k side d).replay) ∧
     (∀ f rest, (linkEnd k side d).nakDue = false → (linkEnd k side d).resend = f.seq :: rest →
       ((linkEnd k side d).replay.find? fun g => g.seq == f.seq) = some f →
       (laneSlot k side d).out = d.out ++
         [.linkFrame k side (frameBytes (ackOf (linkEnd k side d)) f.seq (typeCode f.payload) f.bits)] ∧
       (linkEnd k side (laneSlot k side d)).resend = rest) ∧
     (∀ p ws, (linkEnd k side d).nakDue = false → (linkEnd k side d).resend = [] → (linkEnd k side d).waiting = p :: ws →
       (linkEnd k side d).replay.length < 32 → d.ecc = [] →
       (linkEnd k side (laneSlot k side d)).waiting = ws ∧
       (linkEnd k side (laneSlot k side d)).nextSeq = ((linkEnd k side d).nextSeq + 1) % 64 ∧
       (linkEnd k side (laneSlot k side d)).replay.length = (linkEnd k side d).replay.length + 1 ∧
       (∀ e, p = .sched e → (laneSlot k side d).out = d.out ++
         [.linkFrame k side (frameBytes (ackOf (linkEnd k side d)) (linkEnd k side d).nextSeq 0x4 (schedBits e))]) ∧
       (∀ f, p = .feed f → (laneSlot k side d).out = d.out ++
         [.linkFrame k side (frameBytes (ackOf (linkEnd k side d)) (linkEnd k side d).nextSeq 0x8 (feedBits f))])) ∧
     ((linkEnd k side d).nakDue = false → (linkEnd k side d).resend = [] → 32 ≤ (linkEnd k side d).replay.length →
       laneSlot k side d = { d with out := d.out ++ [.linkFrame k side (frameBytes (ackOf (linkEnd k side d)) (linkEnd k side d).nextSeq 0x0 0)] }) ∧
     ((linkEnd k side d).nakDue = false → (linkEnd k side d).resend = [] → (linkEnd k side d).waiting = [] →
       laneSlot k side d = { d with out := d.out ++ [.linkFrame k side (frameBytes (ackOf (linkEnd k side d)) (linkEnd k side d).nextSeq 0x0 0)] }))

/-- R24, R24, R240, R459 to R461: The replay buffer of each side never holds more than 32 frames: a slot of the lane, an ACK and a replay keep it so.
The frames of a replay buffer carry consecutive SEQ values modulo 64, and a slot of the lane and an ACK keep it so. The queue of a boost switch stays
in order of key, then channel number, when a rise is put into it. Never more than 64 entries wait in the galley: an event that coalesces, enters,
displaces a less severe one or is dropped keeps it so. -/
def Obligations.QueuesKeepOrderAndBounds : Prop :=
  (∀ (d : Dev) (k : Nat) (side : Side), (linkEnd k side d).replay.length ≤ 32 →
     (linkEnd k side (laneSlot k side d)).replay.length ≤ 32 ∧ (∀ a, (takeAck a (linkEnd k side d)).replay.length ≤ 32) ∧
     (linkEnd k side (replayAll k side d)).replay.length ≤ 32) ∧
  (∀ (d : Dev) (k : Nat) (side : Side) (first : Nat),
     ((linkEnd k side d).replay.map (·.seq) = (List.range (linkEnd k side d).replay.length).map fun i => (first + i) % 64) →
     (linkEnd k side d).nextSeq = (first + (linkEnd k side d).replay.length) % 64 →
       ((linkEnd k side (laneSlot k side d)).replay.map (·.seq) =
         (List.range (linkEnd k side (laneSlot k side d)).replay.length).map fun i => (first + i) % 64) ∧
       (linkEnd k side (laneSlot k side d)).nextSeq = (first + (linkEnd k side (laneSlot k side d)).replay.length) % 64 ∧
       (∀ a, ∃ later, (takeAck a (linkEnd k side d)).replay.map (·.seq) =
         (List.range (takeAck a (linkEnd k side d)).replay.length).map fun i => (later + i) % 64)) ∧
  (∀ (q : List Rise) (r : Rise), q.Pairwise (fun a b => riseAhead b a = false) →
     (insertRise r q).Pairwise (fun a b => riseAhead b a = false) ∧ (insertRise r q).length = q.length + 1) ∧
  (∀ (e : LogEntry) (d : Dev), e.sev < 8 → (galleyWaiting d).length ≤ 64 → (galleyWaiting (enterGalley e d)).length ≤ 64)

/-- R26 to R28, R54, R478: a spoke that runs declares its link lost and holds its outputs off; the hub declares a link lost, counts it and notes it in
the status, each after 1 µs without a valid frame or when a frame replayed 8 times stays without ACK; retraining makes it good again, with an INT frame for every slot and RESUME to follow them; a link that did not retrain within 100 µs isolates its spoke. -/
def Obligations.LinkLossAndRecovery : Prop :=
  ∀ (s : State) (k : Nat), hasSpoke k s.dev = true →
    ((getLink k s.dev).spokeOff = false → spokeRuns k s.dev = true → linkLooped k s.dev = false →
      linkDead (linkEnd k .spoke s.dev) s.dev = true →
      Completes (.spokeDeclaresLinkLost k) s (fun t => (getLink k t.dev).spokeOff = true ∧ t.dev.pwr = s.dev.pwr)) ∧
    (linkDead (linkEnd k .spoke s.dev) s.dev = false → exec (.spokeDeclaresLinkLost k) s = .next s) ∧
    (linkDead (linkEnd k .hub s.dev) s.dev = false → exec (.linkLost k) s = .next s) ∧
    ((getLink k s.dev).up = true → linkLooped k s.dev = false → linkDead (linkEnd k .hub s.dev) s.dev = true →
      (getInst 7 (k - 1) s.dev).lasting = true →
      Completes (.linkLost k) s (fun t => (getLink k t.dev).up = false ∧ (getLink k t.dev).lostAt = some s.dev.pt ∧
        bitOf F.PWR_LINK_STATUS.LINK_UP (k - 1) t.dev = false ∧ bitOf F.PWR_LINK_STATUS.LINK_LOST (k - 1) t.dev = true)) ∧
    ((getLink k s.dev).lostAt ≠ none → isIsolated k s.dev = false →
      Completes (.retrainingDone k) s (fun t => (getLink k t.dev).up = true ∧ (getLink k t.dev).lostAt = none ∧
        bitOf F.PWR_LINK_STATUS.LINK_UP (k - 1) t.dev = true ∧ (getLink k t.dev).resumeDue = true ∧
        ∀ j, j < 64 → Payload.int j ((getIrq (.spoke k) s.dev).slots.contains j) ∈ (linkEnd k .spoke t.dev).waiting)) ∧
    (∀ p, (getLink k s.dev).lostAt = some p → p + 25000 ≤ s.dev.pt → isIsolated k s.dev = false → s.dev.pwr.state = .ready →
      Delivers (.retrainTimeout k) s (fun t => isIsolated k t.dev = true ∧ t.dev.pwr.spokeOn.contains k = false))

/-- R33, R34, R36: a PT check finds a spoke within 1 tick and changes nothing but its offset, or up to 16 ticks off and sets PT_MISMATCH; a larger offset loses the
link. An adjustment that no die holds due changes no PT. A PTSYNC that arrives at a spoke is echoed with the spoke's receive tick. -/
def Obligations.PackageTimeCommands : Prop :=
  ∀ (s : State) (k : Nat), hasSpoke k s.dev = true → (getLink k s.dev).up = true → linkLooped k s.dev = false →
    (∀ off : Int, off.natAbs ≤ 1 →
      exec (.ptCheck k off) s = .next { s with dev := updLink k (fun l => { l with ptOff := off }) s.dev }) ∧
    (∀ off : Int, 1 < off.natAbs → off.natAbs ≤ 16 →
      Completes (.ptCheck k off) s (fun t => bitOf F.PWR_LINK_STATUS.PT_MISMATCH (k - 1) t.dev = true ∧
        (getLink k t.dev).adjLeft = -off ∧ (getLink k t.dev).up = true)) ∧
    (∀ off : Int, 16 < off.natAbs →
      exec (.ptCheck k off) s = .next { s with dev := linkLost k (updLink k (fun l => { l with ptOff := off }) s.dev) }) ∧
    (∀ off : Int, 16 < off.natAbs → (getInst 7 (k - 1) s.dev).lasting = true →
      Completes (.ptCheck k off) s (fun t => (getLink k t.dev).up = false ∧
        bitOf F.PWR_LINK_STATUS.LINK_LOST (k - 1) t.dev = true)) ∧
    (∀ h sent echo, inSequence k .spoke h s.dev →
      Completes (.ptsync k .spoke h sent echo) s (fun t => (getLink k t.dev).echoed = some (spokePt k s.dev) ∧
        .ptsync (spokePt k s.dev) (some (spokePt k s.dev)) ∈ (linkEnd k .spoke t.dev).waiting ∧ t.dev.pt = s.dev.pt)) ∧
    (∀ plus, s.dev.time.adjs = [(s.dev.pt, plus)] →
      Completes .ptAdjustment s (fun t => t.dev.pt = (s.dev.pt + if plus then 1 else 0) % 2 ^ 64 ∧ t.dev.time.adjs = [] ∧
        t.dev.time.holds = s.dev.time.holds + if plus then 0 else 1))

/-- R40, R41, R208 to R210, R194, R183, R212: The lanes are powered before the cycle start; a cycle starts at an instant of the grid and its
evaluation runs until it is done; a start while the evaluation still runs is an overrun, and a second one is skipped. An episode of misses passes its
grace once; the prefetch walk of a cycle with a pose sets the next one a period later; a due report is written between two copies of its sequence
number, the first before it and the second after it. -/
def Obligations.EngineCycleCommands : Prop :=
  (∀ s : State, engineRuns s.dev = true →
     (∀ c, gridReached (cyclePeriod s.dev) (cyclePeriod s.dev - 1000) s.dev.pt = some c →
       exec .lanePowerUp s = .next { s with dev := { s.dev with eng := { s.dev.eng with lanesOn := true, cacheOn := true } } }) ∧
     (∀ c, gridReached (cyclePeriod s.dev) 0 s.dev.pt = some c → s.dev.eng.lastGrid ≠ some c → s.dev.eng.evaluating = false →
       Delivers .geometryCycleStart s (fun t => t.dev.eng.cycleStart = c ∧ t.dev.eng.prevCycle = s.dev.eng.cycleStart ∧
         t.dev.eng.lastGrid = some c ∧ t.dev.eng.evaluating = true)) ∧
     (∀ c, gridReached (cyclePeriod s.dev) 0 s.dev.pt = some c → s.dev.eng.lastGrid ≠ some c → s.dev.eng.evaluating = true →
       s.dev.eng.lateCycle = false → (getInst 12 0 s.dev).lasting = true →
       Completes .geometryCycleStart s (fun t => t.dev.eng.cycleStart = s.dev.eng.cycleStart ∧ t.dev.eng.lateCycle = true ∧
         isSet F.REG_STATUS.OVERRUN t.dev = true ∧
         getF F.REG_CYCLE_STATS.OVERRUNS t.dev = min 65535 (getF F.REG_CYCLE_STATS.OVERRUNS s.dev + 1))) ∧
     (∀ c, gridReached (cyclePeriod s.dev) 0 s.dev.pt = some c → s.dev.eng.lastGrid ≠ some c → s.dev.eng.evaluating = true →
       s.dev.eng.lateCycle = true →
       Completes .geometryCycleStart s (fun t => t.dev.eng.cycleStart = s.dev.eng.cycleStart ∧ t.dev.eng.lastGrid = some c ∧
         getF F.REG_CYCLE_STATS.SKIPPED t.dev = min 65535 (getF F.REG_CYCLE_STATS.SKIPPED s.dev + 1))) ∧
     (s.dev.eng.evaluating = true → s.dev.eng.lateCycle = false →
       Completes .cycleEvaluationDone s (fun t => t.dev.eng.evaluating = false ∧ t.dev.eng.lanesOn = inLead s.dev ∧
         t.dev.eng.cycleStart = s.dev.eng.cycleStart ∧ getF F.REG_CYCLE_TIME.LAST t.dev ≤ getF F.REG_CYCLE_TIME.MAX t.dev))) ∧
  (∀ s : State,
     (∀ o m, o < 2048 → (getOut o s.dev).missAt = some m → (getOut o s.dev).expired = false →
       m + 250000 * getF F.REG_THRESH.MISS_GRACE s.dev ≤ s.dev.pt →
       Completes (.missGraceExpiry o) s (fun t => (getOut o t.dev).expired = true ∧ getF F.REG_STATUS.MISS_EXPIRED t.dev = 1)) ∧
     (∀ p, s.dev.eng.cycleAt = some s.dev.pt → s.dev.eng.nextWalk ≤ s.dev.eng.cycleStart → s.dev.eng.pose = some p →
       Delivers .prefetchWalk s (fun t => t.dev.eng.nextWalk = s.dev.eng.cycleStart + 250000 * getF F.REG_PREFETCH.PERIOD s.dev ∧
         t.dev.pt = s.dev.pt)) ∧
     (s.dev.eng.reportDue = true → isSet F.REG_REPORT_CFG.EN s.dev = true → reportBase s.dev ≠ 0 →
       Delivers .decisionReport s (fun t => t.dev.eng.reportDue = false ∧ t.dev.regs = s.dev.regs ∧
         t.dev.eng.reportSeq = (s.dev.eng.reportSeq + 1) % 2 ^ 32 ∧
         ∃ body, t.dev.out = s.dev.out ++
           [.hostWrite (reportBase s.dev) (leBytes 4 t.dev.eng.reportSeq), .hostWrite (reportBase s.dev + 4) body,
             .hostWrite (reportBase s.dev + 8288) (leBytes 4 t.dev.eng.reportSeq)])))

/-! ### Channel drive and cassette scheduling (06_channel_drive.md, 07_cassette_scheduling_and_valve_timing.md) -/

/-- R21, R22, R219, R224, R21: An entry that arrives in sequence for an enabled, outlet-owned channel that has none becomes its pending entry, with
its times extended to 64 bits; one for a channel of another owner, an odd bonded channel or with the drive disabled is discarded and counted. Bits
[31:0] of a PT extend to the 64-bit PT with these bits that lies nearest: at most 2^31 away. -/
def Obligations.EntriesArrive : Prop :=
  (∀ (s : State) (k : Nat) (h : LinkHdr) (e : SchedP), hasSpoke k s.dev = true → inSequence k .spoke h s.dev →
     (isSet (F.DRV_STATUS.DRIVE_EN k) s.dev = true → getF (F.DRV_CH_CFG.OWNER k e.chan) s.dev = 1 →
       isSet (F.DRV_CH_CFG.BOND_ODD k e.chan) s.dev = false → isSet (F.DRV_CH_STATUS.DISABLED k e.chan) s.dev = false →
       (getChan k e.chan s.dev).running = none → spokePt k s.dev ≤ extendPt (spokePt k s.dev) e.start →
       Completes (.sched k h e) s (fun t => t.dev.regs = s.dev.regs ∧ (getChan k e.chan t.dev).running = none ∧
         (getChan k e.chan t.dev).pending = some
           { start := extendPt (spokePt k s.dev) e.start
             finish := max (extendPt (spokePt k s.dev) e.start) (extendPt (spokePt k s.dev) e.finish)
             duty := e.duty, freq := e.freq, slot := e.slot })) ∧
     (isStoker s.dev = false → isSet (F.DRV_STATUS.DRIVE_EN k) s.dev = false ∨ getF (F.DRV_CH_CFG.OWNER k e.chan) s.dev ≠ 1 ∨
         isSet (F.DRV_CH_CFG.BOND_ODD k e.chan) s.dev = true →
       Completes (.sched k h e) s (fun t => t.dev.spokes = s.dev.spokes ∧
         getF (F.DRV_STATUS.DISCARDED k) t.dev = min 255 (getF (F.DRV_STATUS.DISCARDED k) s.dev + 1)))) ∧
  (∀ p v : Nat, 2 ^ 31 ≤ p →
     extendPt p v % 2 ^ 32 = v % 2 ^ 32 ∧ extendPt p v ≤ p + 2 ^ 31 ∧ p ≤ extendPt p v + 2 ^ 31)

/-- R226, R227: a pending entry starts at its START, but one whose END has come too starts nothing; the running entry ends at its END; inside it each grid instant begins its window once, and
the end of an interval on is taken. -/
def Obligations.EntryDelivery : Prop :=
  ∀ (s : State) (k n : Nat), hasSpoke k s.dev = true → n < 64 →
    (∀ e, (getChan k n s.dev).pending = some e → e.start ≤ spokePt k s.dev → spokePt k s.dev < e.finish →
      (getChan k n s.dev).running = none → (getChan k n s.dev).phase = .idle →
      Completes (.entryStart k n) s (fun t => (getChan k n t.dev).pending = none ∧
        ∃ r, (getChan k n t.dev).running = some r ∧ r.start = e.start ∧ r.finish = e.finish)) ∧
    (∀ e, (getChan k n s.dev).pending = some e → e.start ≤ spokePt k s.dev → e.finish ≤ spokePt k s.dev →
      (getChan k n s.dev).running = none →
      Completes (.entryStart k n) s (fun t => (getChan k n t.dev).pending = none ∧ (getChan k n t.dev).running = none ∧
        t.dev.regs = s.dev.regs ∧ t.dev.links = s.dev.links)) ∧
    (∀ e, (getChan k n s.dev).running = some e → e.ended = false → e.finish ≤ spokePt k s.dev →
      Completes (.entryEnd k n) s (fun t => ∀ r, (getChan k n t.dev).running = some r → r.ended = true ∧ r.finish = e.finish)) ∧
    (∀ e g, (getChan k n s.dev).running = some e → e.freq ≠ 0 → e.ended = false → spokePt k s.dev < e.finish →
      (getChan k n s.dev).waitRec = false → isProp k n s.dev = false → gridLe e.freq e.slot (spokePt k s.dev) = some g →
      e.start ≤ g → (∀ l, e.lastG = some l → l < g) →
      ((getChan k n s.dev).opening = none → conducts (getChan k n s.dev) = false) →
      Completes (.windowStart k n) s (fun t => ∃ r, (getChan k n t.dev).running = some r ∧ r.lastG = some g)) ∧
    (∀ e stop, (getChan k n s.dev).running = some e → (getChan k n s.dev).onEnd = some stop → stop ≤ spokePt k s.dev →
      e.freq ≠ 0 → isProp k n s.dev = false →
      Completes (.windowEnd k n) s (fun t => (getChan k n t.dev).onEnd = none))

/-- R220 to R222, R242, R245, R218, R220, R232 to R234, R215 to R217, R26, R487: The phases of an opening. A rise that reaches PEAK_I goes to dwell
with the low side open; BOOST_TMAX ends a boost rise; PEAK_T ends the peak; above the upper threshold the low side opens, below the lower one it
closes; a rise that waited SLIP_LIMIT starts as a slow peak, or leaves its queue where its entry's END has come. A recovered channel with no entry is
idle; a chopping period of a channel in regulation closes its low side and aims within FS_I. The boost switch and the battery switch of a cassette are
never both closed. With its drive enabled a channel of its own whose low side opens in dwell or hold freewheels in slow decay; closed again it draws
from the battery unless a rise holds the cassette. A spoke that declares its link lost opens every low side, every freewheel switch and both switches
of every cassette. -/
def Obligations.PhasesOfAnOpening : Prop :=
  (∀ (s : State) (k n : Nat), hasSpoke k s.dev = true → n < 64 →
     (∀ o, (getChan k n s.dev).phase = .rise → (getChan k n s.dev).opening = some o → o.slow = true →
       Completes (.peakIReached k n) s (fun t => (getChan k n t.dev).phase = .dwell ∧ (getChan k n t.dev).lowClosed = false ∧
         (getChan k n t.dev).opening = some o ∧ t.dev.regs = s.dev.regs)) ∧
     (∀ o, (getChan k n s.dev).phase = .rise → (getChan k n s.dev).opening = some o → o.slow = false →
       o.peak + boostTmax k n s.dev ≤ spokePt k s.dev → (getCas k (cassetteOf n) s.dev).queue = [] →
       Completes (.boostTmaxExpiry k n) s (fun t => (getChan k n t.dev).phase = .dwell ∧
         getF (F.DRV_CH_STATUS.PEAK_TIMEOUT k n) t.dev = 1)) ∧
     (∀ o, (getChan k n s.dev).phase = .dwell → (getChan k n s.dev).opening = some o → o.reported = true →
       o.peak + peakT k n s.dev ≤ spokePt k s.dev →
       Completes (.peakTExpiry k n) s (fun t => (getChan k n t.dev).phase = .hold ∧ t.dev.regs = s.dev.regs ∧
         (getChan k n t.dev).opening = some o)) ∧
     (∀ above, (getChan k n s.dev).phase ≠ .dwell → (getChan k n s.dev).phase ≠ .hold →
       exec (.chopThreshold k n above) s = .next s) ∧
     ((getChan k n s.dev).phase = .dwell ∨ (getChan k n s.dev).phase = .hold →
       Completes (.chopThreshold k n true) s (fun t => (getChan k n t.dev).lowClosed = false ∧ t.dev.regs = s.dev.regs)) ∧
     ((getChan k n s.dev).phase = .dwell ∨ (getChan k n s.dev).phase = .hold → (getChan k n s.dev).lowClosed = false →
       (getChan k n s.dev).closedAt = none →
       Completes (.chopThreshold k n false) s (fun t => (getChan k n t.dev).lowClosed = true ∧
         (getChan k n t.dev).closedAt = some (spokePt k s.dev) ∧ t.dev.regs = s.dev.regs)) ∧
     (∀ r, ((getCas k (cassetteOf n) s.dev).queue.find? fun r => r.chan == n) = some r →
       r.key + slipLimit k s.dev ≤ spokePt k s.dev → entryOver k n s.dev = false →
       Completes (.slipLimitExpiry k n) s (fun t => (getChan k n t.dev).phase = .rise ∧
         (getChan k n t.dev).opening = some { sched := r.sched, peak := spokePt k s.dev, slow := true, late := r.late } ∧
         ∀ x ∈ (getCas k (cassetteOf n) t.dev).queue, x.chan ≠ n)) ∧
     (∀ r, ((getCas k (cassetteOf n) s.dev).queue.find? fun r => r.chan == n) = some r →
       r.key + slipLimit k s.dev ≤ spokePt k s.dev → entryOver k n s.dev = true →
       Completes (.slipLimitExpiry k n) s (fun t => t.dev.regs = s.dev.regs ∧ (getChan k n t.dev).phase = (getChan k n s.dev).phase ∧
         ∀ x ∈ (getCas k (cassetteOf n) t.dev).queue, x.chan ≠ n))) ∧
  (∀ (s : State) (k n : Nat), hasSpoke k s.dev = true → n < 64 →
     ((getChan k n s.dev).phase = .off → (getChan k n s.dev).running = none →
       Completes (.recovered k n) s (fun t => (getChan k n t.dev).phase = .idle ∧ (getChan k n t.dev).running = none)) ∧
     ((getChan k n s.dev).phase = .regulation →
       Completes (.chopPeriod k n) s (fun t => (getChan k n t.dev).phase = .regulation ∧ (getChan k n t.dev).lowClosed = true ∧
         (getChan k n t.dev).target ≤ fullScale k n s.dev))) ∧
  (∀ (s : State) (k n : Nat), hasSpoke k s.dev = true → n < 64 →
     (boostSwitch k (cassetteOf n) s.dev = true → batterySwitch k (cassetteOf n) s.dev = false) ∧
     ((getChan k n s.dev).phase = .dwell ∨ (getChan k n s.dev).phase = .hold → isSet (F.DRV_CH_CFG.BOND_ODD k n) s.dev = false →
       isSet (F.DRV_STATUS.DRIVE_EN k) s.dev = true →
       Completes (.chopThreshold k n true) s (fun t => lowSide k n t.dev = false ∧ freewheel k n t.dev = true ∧
         pathOf k n t.dev = .slowDecay)) ∧
     ((getChan k n s.dev).phase = .dwell ∨ (getChan k n s.dev).phase = .hold → isSet (F.DRV_CH_CFG.BOND_ODD k n) s.dev = false →
       (getChan k n s.dev).lowClosed = false → (getChan k n s.dev).closedAt = none → casHeld k (cassetteOf n) s.dev = false →
       (getCas k (cassetteOf n) s.dev).serving = none → isSet (F.DRV_STATUS.DRIVE_EN k) s.dev = true →
       Completes (.chopThreshold k n false) s (fun t => freewheel k n t.dev = false ∧ pathOf k n t.dev = .battery)) ∧
     (isSet (F.DRV_STATUS.DRIVE_EN k) s.dev = false → lowSide k n s.dev = false ∧ freewheel k n s.dev = false) ∧
     ((getLink k s.dev).spokeOff = false → spokeRuns k s.dev = true → linkLooped k s.dev = false →
       linkDead (linkEnd k .spoke s.dev) s.dev = true →
       Completes (.spokeDeclaresLinkLost k) s (fun t => (∀ m, m < 64 → lowSide k m t.dev = false ∧ freewheel k m t.dev = false) ∧
         ∀ c, boostSwitch k c t.dev = false ∧ batterySwitch k c t.dev = false)))

/-- R250 to R254, R258: an end of travel that the slopes of the rise show lies between BLANK and PEAK_T, and it or the one a dwell interval showed
reports the opening and clears the counts of openings without travel; a decay kink within OFF_WIN, or the end of that window, ends the
closing, and only the latter, with the detector on, counts as without a kink. -/
def Obligations.ArmatureDetection : Prop :=
  ∀ (s : State) (k n : Nat), hasSpoke k s.dev = true → n < 64 →
    (∀ o xs a, riseTravel k n o xs s.dev = some a →
      o.peak + 2500 * getF (F.DRV_DET_CFG.BLANK k (tplOf k n s.dev)) s.dev ≤ a ∧ a ≤ o.peak + peakT k n s.dev) ∧
    (∀ o xs a, (getChan k n s.dev).opening = some o → o.reported = false → detOn k n s.dev = true →
      ((getChan k n s.dev).phase = .rise ∧ riseTravel k n o xs s.dev = some a) ∨
        ((getChan k n s.dev).phase = .dwell ∧ (getChan k n s.dev).slopes.found = some a) →
      Completes (.endOfTravel k n xs) s (fun t => (getChan k n t.dev).opening = some { o with travel := true, reported := true } ∧
        getF (F.DRV_CH_TRAVEL.MISS_ON k n) t.dev = 0 ∧ getF (F.DRV_CH_TRAVEL.NO_MOTION k n) t.dev = 0 ∧
        getF (F.DRV_CH_TRAVEL.NO_TRAVEL k n) t.dev = 0 ∧ getF (F.DRV_CH_TRAVEL.STUCK k n) t.dev = 0)) ∧
    (∀ cl from_ xs a, (getChan k n s.dev).closing = some cl → cl.offEvent = true → detOn k n s.dev = true →
      watchedFrom cl = some from_ → kinkOf k n from_ xs s.dev = some a → a < cl.start + offWin k n s.dev →
      Completes (.decayKink k n xs) s (fun t => (getChan k n t.dev).closing = none ∧ (getChan k n t.dev).noKink = false ∧
        getF (F.DRV_CH_TRAVEL.STUCK k n) t.dev = 0)) ∧
    (∀ cl, (getChan k n s.dev).closing = some cl → cl.offEvent = true → cl.start + offWin k n s.dev ≤ spokePt k s.dev →
      Completes (.offWinExpiry k n) s (fun t => (getChan k n t.dev).closing = none ∧
        (getChan k n t.dev).noKink = (detOn k n s.dev || (getChan k n s.dev).noKink)))

/-- R228 to R230, R236, R545, R514, R515: While SBOOST is powered the rail is what the clamp events say, a clamp event above 80 V is counted and
noted; a boost failure is noted and the converter stops. Out of supply every switch of the spoke is held open and the event counted once; at recovery
the mark is cleared; a spoke that loses power good holds its switches open until its supplies are good again. -/
def Obligations.BoostRailAndSupplies : Prop :=
  (∀ (s : State) (k : Nat), hasSpoke k s.dev = true →
     (∀ rail, sboostOn k s.dev = true → Completes (.clampEvent k rail) s (fun t => (getSpoke k t.dev).boost.rail = rail)) ∧
     (∀ rail, sboostOn k s.dev = false → exec (.clampEvent k rail) s = .next s) ∧
     (∀ rail, sboostOn k s.dev = true → 320 < rail → (getSpoke k s.dev).boost.clamping = false →
       Completes (.clampEvent k rail) s (fun t => (getSpoke k t.dev).boost.clamping = true ∧
         getF (F.DRV_BOOST_STATUS.CLAMPED k) t.dev = 1)) ∧
     Completes (.boostFailure k) s (fun t => (getSpoke k t.dev).boost.charging = false ∧
       getF (F.DRV_BOOST_STATUS.BOOST_FAIL k) t.dev = 1)) ∧
  (∀ (s : State) (k : Nat), hasSpoke k s.dev = true →
     (outOfSupply k s.dev = false →
       Completes (.outOfSupply k false) s (fun t => getF (F.SPK_SUPPLY.UV k) t.dev = 1 ∧ heldOpen k t.dev = true ∧
         (getSpoke k t.dev).boost.charging = false ∧
         getF (F.SPK_SUPPLY.OUTS k) t.dev = min 65535 (getF (F.SPK_SUPPLY.OUTS k) s.dev + 1))) ∧
     (outOfSupply k s.dev = false →
       Completes (.outOfSupply k true) s (fun t => getF (F.SPK_SUPPLY.OV k) t.dev = 1 ∧ heldOpen k t.dev = true)) ∧
     (isSet (F.SPK_SUPPLY.UV k) s.dev = true → isSet (F.SPK_SUPPLY.OV k) s.dev = false →
       Completes (.supplyRecovery k false) s (fun t => getF (F.SPK_SUPPLY.UV k) t.dev = 0 ∧ outOfSupply k t.dev = false)) ∧
     (s.dev.pwr.lowSpokes.contains k = false →
       Completes (.powerGoodLoss k) s (fun t => t.dev.pwr.lowSpokes.contains k = true ∧ heldOpen k t.dev = true)))

/-- R236, R237, R69, R237, R238, R247, R475: A fault of a conducting channel sets its flag, ends the opening and starts RETRY of the channel or its
pair; a short to ground at a channel that is off and an overcurrent of the high side open the whole cassette. RETRY ends at its time; a channel that
has cooled may conduct; a clear of DISABLED is taken when no diagnosis shows a fault and nothing has set a flag in this tick, and discarded in
RESTRICTED; a hundredth mean above 4.00 A sets OVERLOAD. -/
def Obligations.ChannelFaultsAndTheirEnd : Prop :=
  (∀ (s : State) (k n : Nat), hasSpoke k s.dev = true → n < 64 →
     (conducts (getChan k (leadOf k n s.dev) s.dev) = true →
       Completes (.openLoadOn k n) s (fun t => getF (F.DRV_CH_STATUS.OPEN k n) t.dev = 1 ∧
         (getChan k (leadOf k n s.dev) t.dev).opening = none) ∧
       Completes (.shortToBattery k n) s (fun t => getF (F.DRV_CH_STATUS.SHORT_BAT k n) t.dev = 1 ∧
         (getChan k (leadOf k n s.dev) t.dev).opening = none) ∧
       Completes (.overcurrent k n) s (fun t => getF (F.DRV_CH_STATUS.OVERCURRENT k n) t.dev = 1 ∧
         (getChan k (leadOf k n s.dev) t.dev).opening = none)) ∧
     Completes (.overtemperature k n) s (fun t => getF (F.DRV_CH_STATUS.OVERTEMP k n) t.dev = 1 ∧ (getChan k n t.dev).hot = true) ∧
     (conducts (getChan k (leadOf k n s.dev) s.dev) = false →
       (batterySwitch k (cassetteOf n) s.dev = true → Completes (.openLoadOff k n true) s (fun t => (getChan k n t.dev).diagOpen = true ∧ (getChan k n t.dev).diagGnd = false)) ∧
       Completes (.openLoadOff k n false) s (fun t => (getChan k n t.dev).diagOpen = false ∧ (getChan k n t.dev).diagGnd = false ∧
         t.dev.regs = s.dev.regs) ∧
       Completes (.shortToGround k n) s (fun t => getF (F.DRV_CH_STATUS.SHORT_GND k n) t.dev = 1 ∧
         getF (F.DRV_CAS_STATUS.SHORT_GND k (cassetteOf n)) t.dev = 1 ∧ (getChan k n t.dev).diagGnd = true)) ∧
     (∀ c, c < 8 → Completes (.highSideOvercurrent k c) s (fun t => getF (F.DRV_CAS_STATUS.HS_OC k c) t.dev = 1 ∧
       (getCas k c t.dev).queue = [] ∧ (getCas k c t.dev).serving = none))) ∧
  (∀ (s : State) (k n : Nat), hasSpoke k s.dev = true → n < 64 →
     (∀ r, (getChan k n s.dev).retryEnd = some r → r ≤ spokePt k s.dev →
       Completes (.retryEnd k n) s (fun t => (getChan k n t.dev).retryEnd = none)) ∧
     ((getChan k n s.dev).hot = true →
       Completes (.overtempCooled k n) s (fun t => (getChan k n t.dev).hot = false)) ∧
     (isSet (F.DRV_CH_STATUS.DISABLED k n) s.dev = true →
       (pairOf k n s.dev).any (fun m => (getChan k m s.dev).diagOpen || (getChan k m s.dev).diagGnd) = false →
       s.dev.pwr.state ≠ .restricted → s.dev.marks = [] →
       Completes (.channelDisabledClear k n) s (fun t => getF (F.DRV_CH_STATUS.DISABLED k n) t.dev = 0)) ∧
     (∀ c, c < 8 → isSet (F.DRV_CAS_STATUS.DISABLED k c) s.dev = true →
       (casChans c).any (fun n => (getChan k n s.dev).diagGnd) = false →
       s.dev.pwr.state ≠ .restricted → s.dev.marks = [] →
       Completes (.cassetteDisabledClear k c) s (fun t => getF (F.DRV_CAS_STATUS.DISABLED k c) t.dev = 0)) ∧
     (∀ c, c < 8 → s.dev.pwr.state = .restricted → exec (.cassetteDisabledClear k c) s = .next s ∧ exec (.channelDisabledClear k n) s = .next s) ∧
     (∀ c i, c < 8 → (getCas k c s.dev).meanAt + 250000 ≤ spokePt k s.dev → spokePt k s.dev < (getCas k c s.dev).meanAt + 500000 →
       (400 < i → (getCas k c s.dev).overRun = 99 →
         Completes (.casOverload k c [i]) s (fun t => getF (F.DRV_CAS_SCHED.OVERLOAD k c) t.dev = 1 ∧ (getCas k c t.dev).overRun = 0 ∧
           (getCas k c t.dev).mean = i)) ∧
       (400 < i → (getCas k c s.dev).overRun < 99 →
         Completes (.casOverload k c [i]) s (fun t => t.dev.regs = s.dev.regs ∧
           (getCas k c t.dev).overRun = (getCas k c s.dev).overRun + 1)) ∧
       (i ≤ 400 → Completes (.casOverload k c [i]) s (fun t => t.dev.regs = s.dev.regs ∧ (getCas k c t.dev).overRun = 0))))

/-! ### Control loops and their inputs (08_control_loops.md) -/

/-- R265 to R268: a timer trigger of a loop that waits for nothing latches its sample; a trigger while the last sample is not computed is an overrun; a compare-triggered
loop without a match for 10 ms reports RATE_RANGE; when the lanes have computed a sample they are free for the next. -/
def Obligations.LoopSampling : Prop :=
  ∀ (s : State) (k l : Nat), hasSpoke k s.dev = true → l < 24 →
    (∀ b g, loopBlock k l s.dev = some b → gridReached b.period 0 (spokePt k s.dev) = some g → b.trigCmp = false →
      (getLoop k l s.dev).trigAt = none → loopMode k l s.dev ≠ 0 → (getLoop k l s.dev).latched = none →
      (getLoop k l s.dev).result = none → (getLoop k l s.dev).cmds = [] →
      Completes (.loopTrigger k l) s (fun t => (getLoop k l t.dev).latched = some (spokePt k s.dev) ∧
        (getLoop k l t.dev).lastTrig = some (spokePt k s.dev) ∧ (getLoop k l t.dev).result = none)) ∧
    (∀ b g, loopBlock k l s.dev = some b → gridReached b.period 0 (spokePt k s.dev) = some g → b.trigCmp = false →
      (getLoop k l s.dev).trigAt = none → loopMode k l s.dev ≠ 0 → (getLoop k l s.dev).latched ≠ none →
      (getLoop k l s.dev).result = none →
      Completes (.loopTrigger k l) s (fun t => getF (F.CTL_STATUS.OVERRUN k) t.dev = 1)) ∧
    (∀ b, loopBlock k l s.dev = some b → b.trigCmp = true → loopMode k l s.dev ≠ 0 →
      (getLoop k l s.dev).trigAt.getD (getLoop k l s.dev).since + 2500000 ≤ spokePt k s.dev →
      exec (.triggerTimeout k l) s = .next { s with dev := raise (F.CTL_LOOP_STATUS.RATE_RANGE k l) s.dev }) ∧
    (∀ b start u, loopBlock k l s.dev = some b → (getCtl k s.dev).lane = some (l, start) →
      start + laneTicks b ≤ spokePt k s.dev → (getLoop k l s.dev).latched = some u → loopMode k l s.dev ≠ 0 →
      (getLoop k l s.dev).cmds = [] →
      Completes (.sampleComputed k l) s (fun t => (getLoop k l t.dev).result ≠ none ∧
        (getCtl k t.dev).lane ≠ some (l, start)))

/-- R266: a conversion that ran its time stores its code, limited to 12 bits, and an enabled input with nothing waiting on its ADC does so periodically; R273: an
active edge that passes the filter is noted; R275: an SPI port that is due sends its frame, a good frame is valid from then on, a
bad check code counts as an error; R274: an encoder edge in quadrature mode leaves its lines noted. -/
def Obligations.SpokeInputCommands : Prop :=
  ∀ (s : State) (k : Nat), hasSpoke k s.dev = true →
    (∀ a code, a < 16 → adcQueue k (adcOf a) s.dev = [] → bitOf (F.ADC_EN.AIN k) a s.dev = true →
      exec (.conversionDone k a code) s = .next { s with dev := setF (F.ADC_AIN_VAL.CODE k a) (min code 4095) s.dev }) ∧
    (∀ a code st, a < 16 → adcQueue k (adcOf a) s.dev = [{ ain := a, owner := none, start := some st }] →
      st + 125 ≤ spokePt k s.dev →
      Completes (.conversionDone k a code) s (fun t => getF (F.ADC_AIN_VAL.CODE k a) t.dev = min code 4095 ∧
        adcQueue k (adcOf a) t.dev = [])) ∧
    (∀ p w, p < 8 → bitOf (F.ADC_EN.PULSE k) p s.dev = true → passesFilter (getF (F.ADC_PULSE_CFG.FILTER k p) s.dev) w = true →
      Completes (.pulseEdge k p w) s (fun t => t.dev.regs = s.dev.regs ∧
        (kget (getCtl k t.dev).pulses p {}).edges.head? = some (spokePt k s.dev))) ∧
    (∀ e lines w, e < 3 → bitOf (F.ADC_EN.ENC k) e s.dev = true → isHall k e s.dev = false →
      passesFilter (getF (F.ADC_ENC_CFG.FILTER k e) s.dev) w = true →
      Completes (.encoderEdge k e lines w) s (fun t => (getEnc k e t.dev).lines = lines % 8 ∧ (getEnc k e t.dev).seen = true)) ∧
    (∀ p, p < 2 → bitOf (F.ADC_EN.SPI k) p s.dev = true → (getSpi k p s.dev).lastPoll = none →
      Completes (.spiPoll k p) s (fun t => (getSpi k p t.dev).busy = true ∧ t.dev.regs = s.dev.regs ∧
        t.dev.out = s.dev.out ++ [.spiFrame k p (spiTx k p s.dev)])) ∧
    (∀ p bytes, p < 2 → (getSpi k p s.dev).busy = true → bytes.length = getF (F.ADC_SPI_CFG.LEN k p) s.dev →
      isSet (F.ADC_SPI_CFG.CRC_EN k p) s.dev = false →
      Completes (.spiFrameDone k p bytes) s (fun t => (getSpi k p t.dev).busy = false ∧
        (getSpi k p t.dev).validAt = some (spokePt k s.dev) ∧ t.dev.regs = s.dev.regs)) ∧
    (∀ p bytes, p < 2 → (getSpi k p s.dev).busy = true → bytes.length = getF (F.ADC_SPI_CFG.LEN k p) s.dev →
      isSet (F.ADC_SPI_CFG.CRC_EN k p) s.dev = true →
      crc8 (bytes.take (bytes.length - 1)) ≠ leAt bytes (bytes.length - 1) 1 →
      Completes (.spiFrameDone k p bytes) s (fun t => (getSpi k p t.dev).busy = false ∧
        getF (F.ADC_SPI_STATUS.CRC_ERR k p) t.dev = 1 ∧ (getSpi k p t.dev).validAt = (getSpi k p s.dev).validAt))

/-! ### Motor PWM (09_motor_pwm.md) -/

/-- R69, R309, R320, R324, R69, R325 to R329: EN is set where the period is legal for the dead time and the shortest pulse, refused with CFG_LOCKED
where it is not, and cleared, with the counter stopped, unless a loop holds the pair; in restricted service the command changes nothing (R69). A trip
input that becomes active is seen at once, or after its filter; a latched pair is cleared by CLEAR only while no selected trip input is active, and
not in restricted service. -/
def Obligations.PwmEnableAndTrips : Prop :=
  (∀ (s : State) (k p : Nat), hasSpoke k s.dev = true → p < 12 →
     (∀ on, s.dev.pwr.state = .restricted → exec (.pwmEnable k p on) s = .next s) ∧
     (s.dev.pwr.state ≠ .restricted → isSet (F.PWM_CFG.EN k p) s.dev = true → (getPair k p s.dev).claim = none →
       Completes (.pwmEnable k p false) s (fun t => getF (F.PWM_CFG.EN k p) t.dev = 0 ∧ (getPair k p t.dev).started = false)) ∧
     (s.dev.pwr.state ≠ .restricted → isSet (F.PWM_CFG.EN k p) s.dev = true → (getPair k p s.dev).claim ≠ none →
       exec (.pwmEnable k p false) s = .next { s with dev := raise (F.PWM_STATUS.CFG_LOCKED k p) s.dev }) ∧
     (s.dev.pwr.state ≠ .restricted → isSet (F.PWM_CFG.EN k p) s.dev = false → (rget (R.PWM_CFG k p) s.dev).toNat / 1024 % 4 ≠ 3 →
       periodLegal (periodTicks k p s.dev) (deadMax (isSet (F.PWM_CFG.DT_MODE k p) s.dev) (rget (R.PWM_DT k p) s.dev)
         (rget (R.PWM_ADT k p) s.dev)) (getF (F.PWM_PULSE.MIN_PULSE k p) s.dev) = true →
       Completes (.pwmEnable k p true) s (fun t => getF (F.PWM_CFG.EN k p) t.dev = 1)) ∧
     (s.dev.pwr.state ≠ .restricted → isSet (F.PWM_CFG.EN k p) s.dev = false → (rget (R.PWM_CFG k p) s.dev).toNat / 1024 % 4 ≠ 3 →
       periodLegal (periodTicks k p s.dev) (deadMax (isSet (F.PWM_CFG.DT_MODE k p) s.dev) (rget (R.PWM_DT k p) s.dev)
         (rget (R.PWM_ADT k p) s.dev)) (getF (F.PWM_PULSE.MIN_PULSE k p) s.dev) = false →
       exec (.pwmEnable k p true) s = .next { s with dev := raise (F.PWM_STATUS.CFG_LOCKED k p) s.dev })) ∧
  (∀ (s : State) (k : Nat), hasSpoke k s.dev = true →
     (∀ i, i < 4 → bitOf (F.PWM_TRIP_STATUS.LEVEL k) i s.dev = false → 0 < tripFilter k i s.dev → kget (getCtl k s.dev).tripIn i 0 = 0 →
       Completes (.trip k i) s (fun t => t.dev.regs = s.dev.regs ∧ kget (getCtl k t.dev).tripIn i 0 = spokePt k s.dev + 1)) ∧
     (∀ i, i < 4 → bitOf (F.PWM_TRIP_STATUS.LEVEL k) i s.dev = false → tripFilter k i s.dev = 0 →
       Completes (.trip k i) s (fun t => bitOf (F.PWM_TRIP_STATUS.LEVEL k) i t.dev = true ∧
         bitOf (F.PWM_TRIP_STATUS.SEEN k) i t.dev = true)) ∧
     (∀ p, p < 12 → s.dev.pwr.state ≠ .restricted → isSet (F.PWM_STATUS.LATCHED k p) s.dev = true → tripActive k p s.dev = false →
       Completes (.clear k p) s (fun t => getF (F.PWM_STATUS.LATCHED k p) t.dev = 0 ∧ getF (F.PWM_STATUS.TRIP_CNT k p) t.dev = 0)) ∧
     (∀ p, p < 12 → s.dev.pwr.state ≠ .restricted → isSet (F.PWM_STATUS.LATCHED k p) s.dev = true → tripActive k p s.dev = true →
       exec (.clear k p) s = .next { s with dev := raise (F.PWM_STATUS.CLEAR_REFUSED k p) s.dev }) ∧
     (∀ p, p < 12 → s.dev.pwr.state = .restricted → exec (.clear k p) s = .next s))

/-- R308, R312, R313, R315 to R318, R322: the period start begins a period and takes the requested waveform, the outputs of a loop that are due in this tick among it; with UPD its middle takes it too; an edge of the reference that is reached is
used up; the opposite switch turns on when its dead time ends; a node crossing gives the on-edge of an adaptive dead time, and without
one the longest dead time ends it; a high switch that has been on too long asks for a refresh. -/
def Obligations.PwmPeriodAndDeadTime : Prop :=
  ∀ (s : State) (k p : Nat), hasSpoke k s.dev = true → p < 12 →
    (∀ g, isSet (F.PWM_CFG.EN k p) s.dev = true → (getPair k p s.dev).started = false →
      gridReached (periodTicks k p s.dev) (getF (F.PWM_PHASE.PHASE k p) s.dev % max 1 (periodTicks k p s.dev)) (spokePt k s.dev) = some g →
      Completes (.periodStart k p) s (fun t => (getPair k p t.dev).started = true ∧ (getPair k p t.dev).perStart = g ∧
        (getPair k p t.dev).active = (getPair k p (writeDue k s.dev)).shadow)) ∧
    (isSet (F.PWM_CFG.EN k p) s.dev = true → isSet (F.PWM_CFG.UPD k p) s.dev = true → (getPair k p s.dev).started = true →
      spokePt k s.dev = (getPair k p s.dev).perStart + periodTicks k p s.dev / 2 →
      Completes (.midPeriodUpdate k p) s (fun t =>
        (getPair k p t.dev).active = (getPair k p (writeDue k s.dev)).shadow ∧ (getPair k p t.dev).started = true ∧
        (getPair k p t.dev).perStart = (getPair k p s.dev).perStart)) ∧
    (∀ r, (getPair k p s.dev).riseAt = some r → (getPair k p s.dev).fallAt = none → r / 32 ≤ spokePt k s.dev →
      Completes (.referenceEdge k p) s (fun t => (getPair k p t.dev).riseAt = none ∧ (getPair k p t.dev).refHigh = true ∧
        t.dev.regs = s.dev.regs)) ∧
    (∀ z f, (getPair k p s.dev).dt = some z → z.on = some f → f / 32 ≤ spokePt k s.dev →
      Completes (.deadTimeEnd k p) s (fun t => (getPair k p t.dev).dt = none ∧
        (if z.high then (getPair k p t.dev).high else (getPair k p t.dev).low) = true)) ∧
    (∀ z at_, (getPair k p s.dev).dt = some z → z.on = none → z.off + wordField (getPair k p s.dev).adtReg 16 14 < at_ →
      Completes (.nodeCrossing k p at_) s (fun t => getF (F.PWM_STATUS.NO_CROSS k p) t.dev = 1 ∧
        (getPair k p t.dev).dt = some { z with on := some (z.off + wordField (getPair k p s.dev).adtReg 16 14) })) ∧
    (∀ z at_, (getPair k p s.dev).dt = some z → z.on = none → at_ ≤ z.off + wordField (getPair k p s.dev).adtReg 16 14 →
      Completes (.nodeCrossing k p at_) s (fun t => (getPair k p t.dev).dt =
        some { z with on := some (adaptiveOn (getPair k p s.dev) z.off (max z.off at_)) } ∧ t.dev.regs = s.dev.regs)) ∧
    (∀ z, (getPair k p s.dev).dt = some z → z.on = none →
      (z.off + wordField (getPair k p s.dev).adtReg 16 14) / 32 ≤ spokePt k s.dev →
      Completes (.dtMaxExpiry k p) s (fun t => (getPair k p t.dev).dt = none ∧ getF (F.PWM_STATUS.NO_CROSS k p) t.dev = 1)) ∧
    (∀ h, (getPair k p s.dev).highSince = some h → getF (F.PWM_REFRESH.REFRESH_INT k p) s.dev ≠ 0 →
      h + 250 * getF (F.PWM_REFRESH.REFRESH_INT k p) s.dev ≤ spokePt k s.dev →
      exec (.bootstrapRefresh k p) s = .next { s with dev := updPair k p (fun x => { x with refreshDue := true }) s.dev }) ∧
    (∀ i m, i < 4 → matchNow k p i s.dev = some m → (getPair k p s.dev).started = true →
      m < (getPair k p s.dev).perStart + periodTicks k p s.dev → ((getPair k p s.dev).cmps.getD i 0).toNat.testBit 18 = true →
      Completes (.compareMatch k p i) s (fun t => ∃ c ∈ adcQueue k (adcOf (wordField ((getPair k p s.dev).cmps.getD i 0) 20 4)) t.dev,
        c.ain = wordField ((getPair k p s.dev).cmps.getD i 0) 20 4 ∧ c.owner = none))

/-! ### GNSS basebands and the time unit (10_gnss_baseband.md) -/

/-- R334 to R345: a measured sample clock is stored and a deviation above 1 ppm marks it bad; the lowest idle channel takes a detected satellite, locks, gives up after
1 s, and returns to idle when lock is lost, with the satellite searched first; notches lock and release; the jamming indicator is
stored. -/
def Obligations.BasebandCommands : Prop :=
  ∀ (s : State) (k : Nat), hasSpoke k s.dev = true →
    (∀ ppm : Int, gnssOn k s.dev = true → -32768 ≤ ppm → ppm ≤ 32767 →
      Completes (.sclkCheck k (some ppm)) s (fun t => getF (F.GNB_SCLK.PPM k) t.dev = toBits 16 ppm ∧
        (getF (F.GNB_STATUS.SCLK_BAD k) t.dev = 1 ↔ 100 < ppm.natAbs) ∧
        (100 < ppm.natAbs → getF (F.GNB_STATUS.SCLK_SEEN k) t.dev = 1))) ∧
    (∀ large total, gnssOn k s.dev = true → total ≠ 0 → isSet (F.GNB_CFG.AGC_POL k) s.dev = false →
      Completes (.agcUpdate k large total) s (fun t =>
        (getF (F.GNB_JAM.AGC_TARGET k) s.dev * total < large * 256 →
          getF (F.GNB_STATUS.AGC k) t.dev ≤ getF (F.GNB_STATUS.AGC k) s.dev) ∧
        (large * 256 < getF (F.GNB_JAM.AGC_TARGET k) s.dev * total →
          getF (F.GNB_STATUS.AGC k) s.dev ≤ getF (F.GNB_STATUS.AGC k) t.dev))) ∧
    (∀ sys prn dop c, gnssOn k s.dev = true → isSet (F.GNB_STATUS.SCLK_BAD k) s.dev = false →
      (searchOrder k s.dev).contains (sys, prn) = true → inSearch k sys prn dop s.dev = true →
      (gnssChans.find? fun c => chState k c s.dev == 0) = some c →
      Completes (.acquisitionDetection k sys prn dop) s (fun t => chState k c t.dev = 1 ∧ getF (F.GNB_CH.PRN k c) t.dev = prn % 64 ∧
        (getGch k c t.dev).since = spokePt k s.dev)) ∧
    (∀ c dop, c < 24 → chState k c s.dev = 1 → spokePt k s.dev ≤ (getGch k c s.dev).since + 250000000 →
      Completes (.lockAchieved k c dop) s (fun t => chState k c t.dev = 2 ∧ (getGch k c t.dev).slip = true)) ∧
    (∀ c, c < 24 → chState k c s.dev = 1 → (getGch k c s.dev).since + 250000000 ≤ spokePt k s.dev →
      Completes (.pullInTimeout k c) s (fun t => chState k c t.dev = 0 ∧ getGch k c t.dev = {})) ∧
    (∀ c dop cn0 low fail, c < 24 → chState k c s.dev = 2 →
      (cn0 < 10 * getF (F.GNB_TRACK.DROP k) s.dev ∧ 250000000 ≤ low) ∨ 50000000 ≤ fail →
      Completes (.lossOfLock k c dop cn0 low fail) s (fun t => chState k c t.dev = 0 ∧
        (getGnss k t.dev).hints = ⟨getF (F.GNB_CH.SYSTEM k c) s.dev, getF (F.GNB_CH.PRN k c) s.dev, dop,
          some (spokePt k s.dev + 1250000000)⟩ :: (getGnss k s.dev).hints)) ∧
    (∀ c late tap prompt lasting, c < 24 → chState k c s.dev = 2 → getF (F.GNB_CH.SYSTEM k c) s.dev = 1 → prompt < tap →
      25000000 ≤ lasting →
      Completes (.sidePeakShift k c late tap prompt lasting) s (fun t => (getGch k c t.dev).slip = true ∧
        (getGch k c t.dev).shift = (getGch k c s.dev).shift + (if late then 32768 else -32768) ∧ t.dev.regs = s.dev.regs)) ∧
    (∀ i f db, i < 3 → gnssOn k s.dev = true → notchMode k i s.dev = 1 → (getGnss k s.dev).locks.contains i = false →
      getF (F.GNB_NOTCH_CFG.TH k) s.dev < db →
      (∀ j ∈ [0, 1, 2], j ≠ i → holdsBin k j s.dev = true → binOf (signedOf 16 (getF (F.GNB_NOTCH.LIVE_F k j) s.dev)) ≠ binOf f) →
      Completes (.notchLock k i f db) s (fun t => getF (F.GNB_NOTCH.LIVE_F k i) t.dev = toBits 16 f ∧
        (getGnss k t.dev).locks = i :: (getGnss k s.dev).locks)) ∧
    (∀ i (db : Int) lasting, i < 3 → notchMode k i s.dev = 1 → db + 3 < getF (F.GNB_NOTCH_CFG.TH k) s.dev → 25000000 ≤ lasting →
      Completes (.notchRelease k i db lasting) s (fun t => getF (F.GNB_NOTCH.LIVE_F k i) t.dev = 0 ∧
        (getGnss k t.dev).locks.contains i = false)) ∧
    (∀ e : Int, gnssOn k s.dev = true →
      Completes (.jiEvaluation k e) s (fun t => getF (F.GNB_STATUS.JI k) t.dev ≤ 15 ∧ (getGnss k t.dev).hiRun ≤ 15))

/-- R346 to R350, R352, R356 to R361, R352: An epoch instant that is due is latched with the field time it had, and its record is used up when it is
placed. A finished slew clears SLEWING; the pulse rises in the tick that reaches its whole second where it may, waits while the pulse before it is
high, and falls WIDTH ms later; a step acts in the tick that reaches a whole second; AUTO_HOLD seconds without a correction enter holdover. Over n
ticks with rate y of 10⁻¹² the field time grows by n · 4 ns · (1 − y · 10⁻¹²), exactly, so the growth over consecutive spans adds up. -/
def Obligations.EpochsAndTimeUnit : Prop :=
  (∀ s : State,
     (∀ meas pt ft, epochDue s.dev = some (pt, ft) →
       Completes (.epoch meas) s (fun t => t.dev.time.lastEpoch = some pt ∧ t.dev.time.lastEpochFt = ft ∧ t.dev.time.epoch ≠ none ∧
         t.dev.pt = s.dev.pt)) ∧
     (∀ e, s.dev.time.epoch = some e →
       Delivers .epochRecord s (fun t => t.dev.time.epoch = none ∧ t.dev.time.epochSeq = (s.dev.time.epochSeq + 1) % 2 ^ 32))) ∧
  (∀ s : State,
     (isSet F.TIM_STATUS.SLEWING s.dev = true → s.dev.time.slew = 0 →
       Completes .slewDone s (fun t => getF F.TIM_STATUS.SLEWING t.dev = 0 ∧ t.dev.time.ft = s.dev.time.ft)) ∧
     (pulseOpen s.dev = true → s.dev.time.lastPulse < wholeSec (pulseFt s.dev) → s.dev.time.pulseRise = none →
       pulseFt s.dev - wholeSec (pulseFt s.dev) * ftSec < tickAdvance s.dev → wholeSec s.dev.time.ft ≤ s.dev.time.lastBound →
       Completes .timePulse s (fun t => t.dev.pins.timePulse = true ∧ t.dev.time.pulseRise = some s.dev.pt ∧
         wholeSec (pulseFt s.dev) ≤ t.dev.time.lastPulse ∧ t.dev.time.unstep = 0 ∧
         (s.dev.time.unstep = 0 → t.dev.time.lastPulse = wholeSec (pulseFt s.dev)) ∧ t.dev.regs = s.dev.regs)) ∧
     (pulseOpen s.dev = true → s.dev.time.lastPulse < wholeSec (pulseFt s.dev) → s.dev.time.pulseRise ≠ none →
       wholeSec s.dev.time.ft ≤ s.dev.time.lastBound →
       Completes .timePulse s (fun t => t.dev.time.pulseWait = true ∧ t.dev.pins = s.dev.pins ∧
         t.dev.time.lastPulse = s.dev.time.lastPulse ∧ t.dev.regs = s.dev.regs)) ∧
     (∀ v, ftValid s.dev = true → s.dev.time.lastBound < wholeSec s.dev.time.ft →
       s.dev.time.ft - wholeSec s.dev.time.ft * ftSec < tickAdvance s.dev → s.dev.time.step = some v →
       Completes .timePulse s (fun t => t.dev.time.ft = s.dev.time.ft + v ∧ t.dev.time.step = none ∧
         getF F.TIM_STATUS.STEPPED t.dev = 1 ∧ getF F.TIM_STATUS.STEP_PENDING t.dev = 0)) ∧
     (∀ r, s.dev.time.pulseRise = some r → r + 250000 * getF F.TIM_CFG.WIDTH s.dev ≤ s.dev.pt →
       Completes .pulseEnd s (fun t => t.dev.pins.timePulse = false ∧ t.dev.time.pulseRise = none ∧ t.dev.regs = s.dev.regs)) ∧
     (getF F.TIM_CFG.AUTO_HOLD s.dev ≠ 0 → ftValid s.dev = true → isSet F.TIM_STATUS.HOLDOVER s.dev = false →
       s.dev.time.lastCorr + 250000000 * getF F.TIM_CFG.AUTO_HOLD s.dev ≤ s.dev.pt →
       Completes .autoHoldExpiry s (fun t => getF F.TIM_STATUS.HOLDOVER t.dev = 1 ∧ getF F.TIM_STATUS.HOLD_ENTERED t.dev = 1 ∧
         t.dev.time.slew = 0 ∧ t.dev.time.step = none))) ∧
  (∀ (y n m : Int), ftTicks y (n + m) = ftTicks y n + ftTicks y m ∧ 10 ^ 12 * ftTicks y n = n * 4 * ftNs * (10 ^ 12 - y))

/-! ### Host rings (03_host_rings.md, R70 to R72) -/

/-- R86, R97, R98, R100: with a place among the 32 reads that may be outstanding, a poll that is due reads the change word; an epoch mismatch ends it, an unchanged word ends it without reading the tails, a changed word makes the tails be read; in D3hot the poll under way ends with its read, and a
failed read ends it with DB_READ_ERR. -/
def Obligations.DoorbellPolling : Prop :=
  ∀ s : State,
    (s.dev.host.readWait = [] → s.dev.host.reads.length < 32 → anyRunning s.dev = true → hostReachable s.dev = true → s.dev.host.polling = false → s.dev.host.nextPoll ≤ s.dev.pt →
      Completes .doorbellPoll s (fun t => t.dev.host.polling = true ∧ t.dev.out = s.dev.out ++ [.hostRead (dbBase s.dev + 128) 4] ∧
        t.dev.host.nextPoll = s.dev.pt + 25 * getF F.HIF_CFG.DB_PERIOD s.dev ∧ t.dev.regs = s.dev.regs)) ∧
    (∀ bs, s.dev.host.readWait = [] → s.dev.host.polling = true → s.dev.pcie.d3hot = false → s.dev.host.readingTails = false →
      leAt bs 2 2 ≠ getF F.HIF_EPOCH.EPOCH s.dev →
      Completes (.doorbellReadComplete (.ok bs)) s (fun t => t.dev.host.polling = false ∧ t.dev.out = s.dev.out ∧
        getF F.HIF_STATUS.EPOCH_MISMATCH t.dev = 1)) ∧
    (∀ bs, s.dev.host.readWait = [] → s.dev.host.reads.length < 32 → s.dev.host.polling = true → s.dev.pcie.d3hot = false →
      s.dev.host.readingTails = false → leAt bs 2 2 = getF F.HIF_EPOCH.EPOCH s.dev →
      leAt bs 0 2 ≠ s.dev.host.lastChange ∨ s.dev.host.startedSince = true →
      Completes (.doorbellReadComplete (.ok bs)) s (fun t => t.dev.host.readingTails = true ∧ t.dev.host.changeSeen = leAt bs 0 2 ∧
        t.dev.out = s.dev.out ++ [.hostRead (dbBase s.dev) 128])) ∧
    (∀ r, s.dev.host.readWait = [] → s.dev.host.polling = true → s.dev.pcie.d3hot = true →
      Completes (.doorbellReadComplete r) s (fun t => t.dev.host.polling = false ∧ t.dev.out = s.dev.out ∧ t.dev.regs = s.dev.regs)) ∧
    (∀ r, s.dev.host.polling = true → s.dev.pcie.d3hot = false → r = .unsupported ∨ r = .abort ∨ r = .poisoned → s.dev.host.failedPolls < 2 →
      Completes (.doorbellReadComplete r) s (fun t => t.dev.host.polling = false ∧
        t.dev.host.failedPolls = s.dev.host.failedPolls + 1 ∧ getF F.HIF_STATUS.DB_READ_ERR t.dev = 1)) ∧
    (s.dev.host.polling = true → s.dev.host.failedPolls < 2 →
      Completes (.completionTimeout .doorbell) s (fun t => t.dev.host.polling = false ∧
        getF F.HIF_STATUS.DB_READ_ERR t.dev = 1))

/-- R86, R101, R106, R108, R112, R134: a descriptor that arrives is counted in HEAD and completes at once where a check of stage one fails; a failed read, or one that never completes, puts the ring into
ERROR with its cause; a buffer that arrives whole frees its reads' places and makes its descriptor ready, with a failed check it completes BAD_CRC. -/
def Obligations.DescriptorsAndBuffersArrive : Prop :=
  ∀ (s : State) (i : Nat), i < 32 → ringLive i s.dev = true →
    (∀ bs, (getRing i s.dev).head < (getRing i s.dev).issued → inFlight i (getRing i s.dev).head s.dev = none →
      leAt bs 60 4 ≠ crc32c (bs.take 60) →
      Delivers (.descriptorArrival i (.ok bs)) s (fun t => (getRing i t.dev).head = (getRing i s.dev).head + 1 ∧
        inFlight i (getRing i s.dev).head t.dev = none ∧ getF (F.HIF_RING_STATUS.BAD_CRC_SEEN i) t.dev = 1)) ∧
    (∀ bs, (getRing i s.dev).head < (getRing i s.dev).issued → inFlight i (getRing i s.dev).head s.dev = none →
      leAt bs 60 4 = crc32c (bs.take 60) → leAt bs 2 2 = (getRing i s.dev).head % 65536 → leAt bs 0 1 = 0 → leAt bs 1 1 < 4 →
      leAt bs 59 1 = 0 → leAt bs 8 8 = 0 → leAt bs 16 4 = 0 → leAt bs 20 4 = 0 → overMask ((bs.drop 24).take 35) [] = false →
      s.dev.pwr.state ≠ .restricted →
      Delivers (.descriptorArrival i (.ok bs)) s (fun t => (getRing i t.dev).head = (getRing i s.dev).head + 1 ∧
        inFlight i (getRing i s.dev).head t.dev = some (parseDesc (getRing i s.dev).head s.dev.host.fetchCount bs))) ∧
    (∀ r, (getRing i s.dev).head < (getRing i s.dev).issued → r = .unsupported ∨ r = .abort →
      Completes (.descriptorArrival i r) s (fun t => ringState i t.dev = .error ∧
        getF (F.HIF_RING_STATUS.ERR_CAUSE i) t.dev = 1)) ∧
    ((getRing i s.dev).head < (getRing i s.dev).issued →
      Completes (.completionTimeout (.descriptor i)) s (fun t => ringState i t.dev = .error ∧
        getF (F.HIF_RING_STATUS.ERR_CAUSE i) t.dev = 2)) ∧
    (∀ x bs, inFlight i x.index s.dev = some x → x.stage = .reading → bs.length = x.len → x.opcode ≠ 0x30 → crc32c bs = x.bufCrc →
      exec (.bufferReadDone i x.index (.ok bs)) s =
        .next { s with dev := updDesc i x.index (fun x => { x with stage := .ready, buf := bs }) (readsEnded (.buffer i x.index) s.dev) }) ∧
    (∀ x bs, inFlight i x.index s.dev = some x → x.stage = .reading → bs.length = x.len → x.opcode ≠ 0x30 → crc32c bs ≠ x.bufCrc →
      Delivers (.bufferReadDone i x.index (.ok bs)) s (fun t => inFlight i x.index t.dev = none ∧
        ringState i t.dev = ringState i s.dev)) ∧
    (∀ x, inFlight i x.index s.dev = some x → x.stage = .reading →
      Completes (.completionTimeout (.buffer i x.index)) s (fun t => ringState i t.dev = .error ∧
        getF (F.HIF_RING_STATUS.ERR_CAUSE i) t.dev = 7))

/-- R121 to R127, R42 to R45, R134: A completion is 32 bytes at its entry of the completion queue, with the phase of its round, followed by the
progress entry; output data goes before it; the descriptor is in flight no more. What a failed ECC check of a buffer word does at its crossing. A
completion is withheld and its ring enters ERROR with cause COMPLETION_ECC; a corrected word is counted and goes on; a schedule entry is withdrawn,
its slot carrying IDLE, and its outlet taken as off; a channel event goes as ENDED_NO_TRAVEL with DELAY 0xFFFF; a galley entry is dropped and counted.
-/
def Obligations.CompletionsAreWritten : Prop :=
  (∀ (d : Dev) (i index status detail : Nat) (x : InDesc), ringLive i d = true → inFlight i index d = some x → x.stage ≠ .done →
     getF (F.HIF_RING_MOD.MSIX_EN i) d = 0 → d.ecc = [] →
     inFlight i index (complete i index status detail [] d) = none ∧
     (getRing i (complete i index status detail [] d)).cqTail = ((getRing i d).cqTail + 1) % 2 ^ 32 ∧
     (complete i index status detail [] d).out = d.out ++
       [.hostWrite (cqBase i d + 32 * ((getRing i d).cqTail % ringEntries i d))
         (completionBytes x ((getRing i d).cqTail / ringEntries i d % 2 == 0) status detail d.pt []),
        .hostWrite (progBase d + 4 * (32 + i)) (leBytes 4 (((getRing i d).cqTail + 1) % 2 ^ 32))] ∧
     (completionBytes x ((getRing i d).cqTail / ringEntries i d % 2 == 0) status detail d.pt []).length = 32 ∧
     (complete i index status detail [] d).regs = d.regs) ∧
  (∀ (d : Dev) (u : Upset),
     (∀ i index status detail x, i < 32 → ringLive i d = true → inFlight i index d = some x → x.stage ≠ .done → upsetAt 8 i d = some u →
       u.fixable = false →
       ringState i (complete i index status detail [] d) = .error ∧
       getF (F.HIF_RING_STATUS.ERR_CAUSE i) (complete i index status detail [] d) = 5 ∧
       inFlight i index (complete i index status detail [] d) = some x ∧ (complete i index status detail [] d).out = d.out) ∧
     (∀ i index status detail x, i < 32 → ringLive i d = true → inFlight i index d = some x → x.stage ≠ .done → upsetAt 8 i d = some u →
       u.fixable = true → upsetAt 18 i d = none →
       inFlight i index (complete i index status detail [] d) = none ∧
       (getRing i (complete i index status detail [] d)).cqTail = ((getRing i d).cqTail + 1) % 2 ^ 32 ∧
       (getInst 18 0 (complete i index status detail [] d)).events = min 65535 ((getInst 18 0 d).events + 1)) ∧
     (∀ k e ws o, (linkEnd k .hub d).nakDue = false → (linkEnd k .hub d).resend = [] → (linkEnd k .hub d).waiting = .sched e :: ws →
       (linkEnd k .hub d).replay.length < 32 → upsetAt 3 k d = some u → u.fixable = false →
       findOutlet (globalCh k e.chan) d = some o →
       (laneSlot k .hub d).out = d.out ++ [.linkFrame k .hub (frameBytes (ackOf (linkEnd k .hub d)) (linkEnd k .hub d).nextSeq 0x0 0)] ∧
       (linkEnd k .hub (laneSlot k .hub d)).waiting = ws ∧
       (getOut o (laneSlot k .hub d)).entryOn = false ∧ (getOut o (laneSlot k .hub d)).planOn = false) ∧
     (∀ k f ws, (linkEnd k .spoke d).nakDue = false → (linkEnd k .spoke d).resend = [] → (linkEnd k .spoke d).waiting = .feed f :: ws →
       (linkEnd k .spoke d).replay.length < 32 → upsetAt 5 k d = some u → u.fixable = false →
       (laneSlot k .spoke d).out = d.out ++ [.linkFrame k .spoke (frameBytes (ackOf (linkEnd k .spoke d)) (linkEnd k .spoke d).nextSeq 0x0 0)] ∧
       (linkEnd k .spoke (laneSlot k .spoke d)).waiting = enqueue (.feed { f with event := .endedNoTravel, delay := 0xFFFF }) ws) ∧
     (∀ e rest, d.log.galley = e :: rest → mayStore d = true → upsetAt 12 0 d = some u → u.fixable = false →
       (storeHead d).log.galley = rest ∧ (storeHead d).log.store = d.log.store ∧
       isSet F.LOG_STATUS.GALLEY_DROP_SEEN (storeHead d) = true))

/-- R69, R128, R131 to R135: START of a ring that may start writes its progress entries and sets RUNNING, else is refused; STOP begins stopping and a ring with nothing left is STOPPED;
RESET of a STOPPED or ERROR ring discards its descriptors without completions, clears ERR_CAUSE and ERR_SEQ and leaves it STOPPED,
and in any other state sets START_REFUSED and changes nothing; the completions not yet signalled keep their moderation through START and RESET; in
restricted service the three act on the permitted rings only; the moderation time sends the message that waits. -/
def Obligations.RingCommands : Prop :=
  ∀ (s : State) (i : Nat), i < 32 →
    (s.dev.pwr.state = .restricted → classRestricted (ringClass i s.dev) = false →
      exec (.ringStart i) s = .next s ∧ exec (.ringStop i) s = .next s ∧ exec (.ringReset i) s = .next s) ∧
    ((s.dev.pwr.state = .restricted → classRestricted (ringClass i s.dev) = true) →
      startRefused i s.dev = false →
      Delivers (.ringStart i) s (fun t => ringState i t.dev = .running ∧ 
        getRing i t.dev = keepModeration (getRing i s.dev) ∧ t.dev.host.startedSince = true)) ∧
    ((s.dev.pwr.state = .restricted → classRestricted (ringClass i s.dev) = true) →
      startRefused i s.dev = true →
      exec (.ringStart i) s = .next { s with dev := raise (F.HIF_RING_STATUS.START_REFUSED i) s.dev }) ∧
    ((s.dev.pwr.state = .restricted → classRestricted (ringClass i s.dev) = true) →
      ringState i s.dev = .running → ringClass i s.dev ≠ 8 → (getRing i s.dev).inflight = [] →
      exec (.ringStop i) s = .next { s with dev := setRingState i .stopping s.dev }) ∧
    ((s.dev.pwr.state = .restricted → classRestricted (ringClass i s.dev) = true) →
      ringState i s.dev ≠ .running →
      exec (.ringStop i) s = .next { s with dev := raise (F.HIF_RING_STATUS.START_REFUSED i) s.dev }) ∧
    (ringState i s.dev = .stopping → (getRing i s.dev).inflight = [] → (getRing i s.dev).issued = (getRing i s.dev).head →
      exec (.ringStopped i) s = .next { s with dev := setRingState i .stopped s.dev }) ∧
    ((s.dev.pwr.state = .restricted → classRestricted (ringClass i s.dev) = true) →
      (ringState i s.dev = .error ∨ ringState i s.dev = .stopped) →
      Completes (.ringReset i) s (fun t => ringState i t.dev = .stopped ∧ getRing i t.dev = keepModeration (getRing i s.dev) ∧
        getF (F.HIF_RING_STATUS.ERR_CAUSE i) t.dev = 0 ∧ getF (F.HIF_RING_STATUS.ERR_SEQ i) t.dev = 0 ∧ (s.dev.host.readWait = [] → t.dev.out = s.dev.out))) ∧
    ((s.dev.pwr.state = .restricted → classRestricted (ringClass i s.dev) = true) →
      (ringState i s.dev = .running ∨ ringState i s.dev = .stopping) →
      exec (.ringReset i) s = .next { s with dev := raise (F.HIF_RING_STATUS.START_REFUSED i) s.dev }) ∧
    (∀ p, (getRing i s.dev).oldest = some p → (getRing i s.dev).modTime ≠ 0 → p + 250 * (getRing i s.dev).modTime ≤ s.dev.pt →
      isSet (F.HIF_RING_MOD.MSIX_EN i) s.dev = true →
      Completes (.moderationTimer i) s (fun t => (getRing i t.dev).oldest = none ∧ (getRing i t.dev).unsignalled = 0 ∧
        t.dev.regs = s.dev.regs))

/-- R89, R90, R137, R437: D3hot disarms and is left by D0; a write of HIF_CFG sets the poll period where it is legal and the atomic state with the requester bit; a change
at the MSI-X side stands in the PCIe state; a withdrawn compare-and-swap and a failed one are the same for the ring engine. -/
def Obligations.EndpointCommands : Prop :=
  ∀ s : State,
    (Completes .d3hot s (fun t => t.dev.pcie.d3hot = true ∧ t.dev.pwr.state ≠ .armed)) ∧
    (Completes .d0Entry s (fun t => t.dev.pcie.d3hot = false ∧ t.dev.regs = s.dev.regs)) ∧
    (s.dev.pcie.d3hot = true → 0 < getF F.HIF_CFG.DB_PERIOD s.dev →
      Completes .d0Entry s (fun t => s.dev.pt < t.dev.host.nextPoll ∧
        t.dev.host.nextPoll ≤ max s.dev.host.nextPoll (s.dev.pt + 25 * getF F.HIF_CFG.DB_PERIOD s.dev))) ∧
    (∀ (v : Word) req, 5 ≤ v.toNat % 1024 → v.toNat % 1024 ≤ 1000 →
      Completes (.hifCfgWrite v req) s (fun t => getF F.HIF_CFG.DB_PERIOD t.dev = v.toNat % 1024 ∧ t.dev.pcie.atomicReq = req ∧
        (getF F.HIF_STATUS.ATOMIC_ACTIVE t.dev = 1 ↔ (v.toNat.testBit 10 = true ∧ req = true)))) ∧
    (∀ v, v < 64 → Completes (.msixUnmask (.vector v false)) s (fun t => v ∈ t.dev.pcie.unmasked)) ∧
    (∀ v, v < 64 → Completes (.msixUnmask (.vector v true)) s (fun t => v ∉ t.dev.pcie.unmasked)) ∧
    (∀ on, Completes (.msixUnmask (.enable on)) s (fun t => t.dev.pcie.msixEnable = on)) ∧
    (∀ on, Completes (.msixUnmask (.functionMask on)) s (fun t => t.dev.pcie.funcMask = on)) ∧
    (Completes (.msixUnmask .linkUp) s (fun t => t.dev.pcie.linkUp = true))

/-- R110 to R116: the opcodes whose effect is at once. NOP completes; ARM completes when the device is armed already, with the refusal code when it may not arm, and else waits; DISARM likewise;
HEALTH_NOW schedules a re-plan; LOG_FREEZE freezes the store and LOG_RELEASE ends that; FW_BEGIN opens a session on an empty staged set; TABLE_LOAD writes the staging area. -/
def Obligations.DescriptorsActAtOnce : Prop :=
  ∀ (s : State) (i : Nat) (x : InDesc),
    (Starts i 0x00 x s.dev → exec (.nop i) s = .next { s with dev := complete i x.index stOk 0 [] s.dev }) ∧
    (Starts i 0x50 x s.dev → isArmed s.dev = true → exec (.arm i) s = .next { s with dev := complete i x.index stOk 1 [] s.dev }) ∧
    (Starts i 0x50 x s.dev → isArmed s.dev = false → armRefusal s.dev.eng.table.isSome s.dev = 0 →
      Completes (.arm i) s (fun t => (i, x.index) ∈ t.dev.pwr.armAccepted ∧ t.dev.regs = s.dev.regs)) ∧
    (Starts i 0x50 x s.dev → isArmed s.dev = false → armRefusal s.dev.eng.table.isSome s.dev ≠ 0 →
      Delivers (.arm i) s (fun t => inFlight i x.index t.dev = none ∧
        getF F.PWR_ARM.REFUSE t.dev = armRefusal s.dev.eng.table.isSome s.dev)) ∧
    (Starts i 0x51 x s.dev → isArmed s.dev = true →
      Completes (.disarm i) s (fun t => (i, x.index) ∈ t.dev.pwr.disarmWait ∧ t.dev.regs = s.dev.regs)) ∧
    (Starts i 0x51 x s.dev → isArmed s.dev = false → exec (.disarm i) s = .next { s with dev := complete i x.index stOk 1 [] s.dev }) ∧
    (Starts i 0xC1 x s.dev → Delivers (.healthNow i) s (fun t => t.dev.health.nowPending = true ∧ inFlight i x.index t.dev = none)) ∧
    (Starts i 0xA0 x s.dev → s.dev.log.erasing = false →
      Delivers (.logRead i) s (fun t => inFlight i x.index t.dev = none ∧ t.dev.log = s.dev.log)) ∧
    (Starts i 0xA1 x s.dev → s.dev.log.frozen = none → s.dev.log.erasing = false →
      Delivers (.logFreeze i) s (fun t => t.dev.log.frozen = some (s.dev.pt + 250000000 * getF F.LOG_CFG.FREEZE_TO s.dev) ∧
        inFlight i x.index t.dev = none)) ∧
    (Starts i 0xA2 x s.dev → Delivers (.logRelease i) s (fun t => t.dev.log.frozen = none ∧ inFlight i x.index t.dev = none)) ∧
    (Starts i 0xB0 x s.dev → s.dev.host.fwOpen = false →
      Delivers (.fwBegin i) s (fun t => t.dev.host.fwOpen = true ∧ t.dev.host.fwLength = paramAt x 24 4 ∧ t.mem.fwSet = [] ∧
        t.mem.staging = s.mem.staging ∧ inFlight i x.index t.dev = none)) ∧
    (Starts i 0x20 x s.dev →
      Delivers (.tableLoad i) s (fun t => getF F.REG_TABLE_STATUS.STAGED_DIRTY t.dev = 1 ∧ inFlight i x.index t.dev = none ∧
        memReadBytes t.mem.staging (paramAt x 24 4) x.buf.length = x.buf ∧
        (∀ a, a < paramAt x 24 4 ∨ paramAt x 24 4 + x.buf.length ≤ a → memRead t.mem.staging a = memRead s.mem.staging a) ∧
        t.mem.fwSet = s.mem.fwSet))

/-- R113, R143, R148, R175, R178, R185, R195, R196, R294: the opcodes that wait. A buffer with nothing to put into it waits; what takes effect at a cycle start is held for it; a loop command
waits 10 ms for its spoke and a timeout then completes it; a commit starts its checks. -/
def Obligations.DescriptorsWait : Prop :=
  ∀ (s : State) (i : Nat) (x : InDesc),
    (Starts i 0x31 x s.dev → exec (.tileRequest i) s = .next { s with dev := holdDesc i x s.dev }) ∧
    (Starts i 0x40 x s.dev → exec (.wbBuffer i) s = .next { s with dev := holdDesc i x s.dev }) ∧
    (Starts i 0x70 x s.dev → exec (.gnssBuffer i) s = .next { s with dev := holdDesc i x s.dev }) ∧
    (Starts i 0x90 x s.dev → (getCan (ringInstance i s.dev) s.dev).rx = [] →
      exec (.canBuffer i) s = .next { s with dev := holdDesc i x s.dev }) ∧
    (Starts i 0xC0 x s.dev → s.dev.health.held = none → exec (.healthBuffer i) s = .next { s with dev := holdDesc i x s.dev }) ∧
    (Starts i 0xD3 x s.dev → s.dev.tdm.events = [] → exec (.tdmBuffer i) s = .next { s with dev := holdDesc i x s.dev }) ∧
    (Starts i 0xE2 x s.dev → s.dev.sox.events = [] → exec (.sbBuffer i) s = .next { s with dev := holdDesc i x s.dev }) ∧
    (Starts i 0x22 x s.dev → isArmed s.dev = false → exec (.fieldSet i) s = .next { s with dev := awaitCycle i x s.dev }) ∧
    (Starts i 0x22 x s.dev → isArmed s.dev = true → exec (.fieldSet i) s = .next { s with dev := complete i x.index stBusy 0 [] s.dev }) ∧
    (Starts i 0x23 x s.dev → exec (.rateTable i) s = .next { s with dev := awaitCycle i x s.dev }) ∧
    (Starts i 0x30 x s.dev → pushCheck x s.dev = 0 → exec (.tilePush i) s = .next { s with dev := awaitCycle i x s.dev }) ∧
    (Starts i 0x32 x s.dev → exec (.tileInvalidate i) s = .next { s with dev := awaitCycle i x s.dev }) ∧
    (Starts i 0x52 x s.dev → exec (.proof i) s = .next { s with dev := awaitCycle i x s.dev }) ∧
    (Starts i 0x53 x s.dev → ((List.range (x.len / 8)).any fun j => forceBad x j s.dev) = false →
      exec (.outletForce i) s = .next { s with dev := awaitCycle i x s.dev }) ∧
    (∀ c ∈ [(Instr.loopSetpoint i, 0x60), (.loopMode i, 0x61), (.loopCoeff i, 0x62)], Starts i c.2 x s.dev →
      Completes c.1 s (fun t => t.dev.regs = s.dev.regs ∧ t.dev.spokes = s.dev.spokes ∧
        ∀ y ∈ (getRing i t.dev).inflight, y.index = x.index → y.stage = .waiting ∧ y.aux = s.dev.pt + 2500000)) ∧
    (i < 32 → inFlight i x.index s.dev = some x → ringClass i s.dev = 6 → x.stage = .waiting → x.aux ≤ s.dev.pt →
      exec (.loopCommandTimeout i x.index) s = .next { s with dev := complete i x.index stTimeout 0 [] s.dev }) ∧
    (Starts i 0x21 x s.dev → isArmed s.dev = false →
      Completes (.tableCommit i) s (fun t => t.dev.eng.commit = some ({}, paramBits x 24 0 1 == 1, i, x.index, false) ∧
        t.dev.regs = s.dev.regs)) ∧
    (Starts i 0x21 x s.dev → isArmed s.dev = true → exec (.tableCommit i) s = .next { s with dev := complete i x.index stBusy 0 [] s.dev })

/-- R109: the descriptor a ring starts next is in flight on a ring that acts, is ready, and nothing in flight before it is left when it carries FENCE. -/
def Obligations.StartOrderKeepsFences : Prop :=
  ∀ (i : Nat) (d : Dev) (x : InDesc), nextDesc i d = some x →
    ringLive i d = true ∧ x ∈ (getRing i d).inflight ∧ x.stage = .ready ∧
    (x.fence = true → ∃ y rest, (getRing i d).inflight = y :: rest ∧ y.index = x.index) ∧
    (∀ y ∈ (getRing i d).inflight, y.stage = .waiting → y.opcode ≠ 0x21)

/-! ### Poses, tables, decisions and tiles (04_implement_and_pose.md, 05_registration_decisions.md) -/

/-- R149, R150, R155, R156, R354, R355, R148, R149: A newer pose without a record is taken; a SET of field time within the last second makes it valid.
The checks of a commit end with the table parsed from the staging area and kept for the next cycle start, or with the code of the first check that
fails and the table as it was; arming meanwhile ends it BUSY. -/
def Obligations.PosesTimesAndTables : Prop :=
  (∀ (s : State) (i : Nat) (x : InDesc),
     (Starts i 0x10 x s.dev → x.len = 0 → (poseOf x.param (paramBits x 56 0 1 == 1)).tag ≤ s.dev.pt →
       (∀ n, s.dev.eng.newestTag = some n → n < (poseOf x.param (paramBits x 56 0 1 == 1)).tag) →
       Delivers (.pose i) s (fun t => t.dev.eng.pose = some (poseOf x.param (paramBits x 56 0 1 == 1)) ∧
         t.dev.eng.newestTag = some (poseOf x.param (paramBits x 56 0 1 == 1)).tag ∧ t.dev.eng.coeffs = s.dev.eng.coeffs ∧
         inFlight i x.index t.dev = none)) ∧
     (Starts i 0x11 x s.dev → paramBits x 24 0 2 = 0 → (signedOf 32 (paramAt x 44 4)).natAbs ≤ 200000000 →
       0 ≤ signedOf 64 (paramAt x 36 8) → paramAt x 28 8 ≤ s.dev.pt → s.dev.pt ≤ paramAt x 28 8 + 250000000 →
       Delivers (.timeCorr i) s (fun t => getF F.TIM_STATUS.VALID t.dev = 1 ∧ getF F.TIM_STATUS.HOLDOVER t.dev = 0 ∧
         t.dev.time.slew = 0 ∧ t.dev.time.step = none ∧ t.dev.time.lastCorr = s.dev.pt ∧ inFlight i x.index t.dev = none))) ∧
  (∀ (s : State) (tb : Table) (keep : Bool) (i j : Nat) (x : InDesc), s.dev.eng.commit = some (tb, keep, i, j, false) →
     ringLive i s.dev = true → inFlight i j s.dev = some x → x.stage ≠ .done →
     (isArmed s.dev = false → (commitCheck s.mem.staging s.dev).1 = 0 →
       Delivers .tableChecksDone s (fun t => t.dev.eng.commit = some (parseTable s.mem.staging, keep, i, j, true) ∧
         t.dev.eng.table = s.dev.eng.table ∧ t.dev.regs = s.dev.regs)) ∧
     (isArmed s.dev = false → (commitCheck s.mem.staging s.dev).1 ≠ 0 →
       Delivers .tableChecksDone s (fun t => t.dev.eng.commit = none ∧ t.dev.eng.table = s.dev.eng.table ∧
         inFlight i j t.dev = none)) ∧
     (isArmed s.dev = true →
       Delivers .tableChecksDone s (fun t => t.dev.eng.commit = none ∧ t.dev.eng.table = s.dev.eng.table ∧
         inFlight i j t.dev = none)))

/-- R86, R89, R185, R201 to R207: marks held long enough are let go; the write-back of a dirty tile falls due by idleness or age; a due tile is written with its increments into a fetched buffer, in requests of at most 256 bytes; an
invalidation that could not write its tile drops it and notes the loss; a failed compare-and-swap ends the use of that operation, one whose merge was given up as well. -/
def Obligations.TileTimersAndWriteBack : Prop :=
  ∀ (s : State) (e n : Int) (u : Tile), findTile 0 e n s.dev = some u →
    (u.fresh ≠ [] → u.lastMark + 125000000 * getF F.REG_CFG.MARK_HOLD s.dev ≤ s.dev.pt → u.markOnly = false →
      Completes (.markHoldExpiry e n) s (fun t => (findTile 0 e n t.dev).map (·.fresh) = some [] ∧
        (findTile 0 e n t.dev).map (·.cells) = some u.cells ∧ t.dev.regs = s.dev.regs)) ∧
    (isDirty u = true → u.markOnly = false → u.lastRef + 250000 * getF F.REG_WB.IDLE s.dev ≤ s.dev.pt →
      Completes (.wbIdle e n) s (fun t => findTile 0 e n t.dev = some { u with wbDue := true } ∧ t.dev.regs = s.dev.regs)) ∧
    (∀ o, isDirty u = true → u.oldest = some o → o + 2500000 * getF F.REG_WB.MAX_AGE s.dev ≤ s.dev.pt →
      Completes (.wbMaxAge e n) s (fun t => findTile 0 e n t.dev = some { u with wbDue := true } ∧ t.dev.regs = s.dev.regs)) ∧
    (∀ i x, dueTile e n s.dev = some u → s.dev.eng.writing = none → isStoker s.dev = false →
      waitingBuffer 4 0x40 none s.dev = some (i, x) → isSet F.REG_CFG.MERGE s.dev = false →
      Delivers (.tileWriteBack e n) s (fun t => inFlight i x.index t.dev = none ∧
        ∀ w ∈ splitWrite x.addr (max 128 (min 256 s.dev.pcie.mps)) (tileBytes u (getF F.REG_CFG.APPLICATOR_ID s.dev) u.incr s.dev), w ∈ t.dev.out)) ∧
    (dueTile e n s.dev = some u → s.dev.eng.writing = none → isStoker s.dev = false →
      waitingBuffer 4 0x40 none s.dev = none → exec (.tileWriteBack e n) s = .next { s with dev := noBuf 4 none s.dev }) ∧
    (lateTile e n s.dev = some u → u.dropFor = [] →
      Delivers (.invalidateTimeout e n) s (fun t => (∀ x ∈ t.dev.eng.tiles, sameTile u x = false) ∧
        getF F.REG_STATUS.MARK_LOST t.dev = 1)) ∧
    (∀ w, s.dev.eng.writing = some w → s.dev.eng.casStale = 0 → ∀ c ∈ [Instr.casCompletion .abort, .completionTimeout .atomic],
      Completes c s (fun t => t.dev.eng.writing = none ∧ t.dev.eng.casWithdrawn = true ∧ getF F.HIF_STATUS.ATOMIC_FAIL t.dev = 1 ∧
        getF F.HIF_STATUS.ATOMIC_ACTIVE t.dev = 0)) ∧
    (s.dev.eng.casStale ≠ 0 → ∀ c ∈ [Instr.casCompletion .abort, .completionTimeout .atomic],
      Completes c s (fun t => t.dev.eng.writing = s.dev.eng.writing ∧ t.dev.eng.casStale = s.dev.eng.casStale - 1 ∧
        t.dev.eng.casWithdrawn = true ∧ getF F.HIF_STATUS.ATOMIC_FAIL t.dev = 1 ∧ getF F.HIF_STATUS.ATOMIC_ACTIVE t.dev = 0)) ∧
    (∀ w bs, s.dev.eng.writing = some w → s.dev.eng.casStale = 0 → sameTile u (tileKey w) = true → leAt bs 0 8 ≠ w.expect → w.tries < 7 →
      atomicsOpen s.dev = true →
      Delivers (.casCompletion (.ok bs)) s (fun t => t.dev.eng.writing = some { w with tries := w.tries + 1, expect := leAt bs 0 8 } ∧
        t.dev.out = s.dev.out ++ [.cas (u.home + 8 * w.word) (leAt bs 0 8) (addWord (leAt bs 0 8) w.snap w.word)] ∧
        t.dev.regs = s.dev.regs))

/-! ### CAN controllers (11_can_controllers.md) -/

/-- R69, R368, R370, R372, R387, R388: the bus state of a controller. EN starts it with its counters at 0, EN 0 empties it; 11 recessive bits let it join; HALT is cleared only with legal timing; a protocol exception makes it
wait; it leaves bus-off after 128 idle periods when it may, or when RECOVER asked for it.
In restricted service the register writes among these change nothing. -/
def Obligations.CanBusState : Prop :=
  ∀ (s : State) (c : Nat), c < 4 →
    (∀ i ∈ [Instr.canEnable c, .canDisable c, .haltClear c, .recover c], s.dev.pwr.state = .restricted → exec i s = .next s) ∧
    (s.dev.pwr.state ≠ .restricted → isSet (F.CAN_CFG.EN c) s.dev = false →
      Completes (.canEnable c) s (fun t => getF (F.CAN_CFG.EN c) t.dev = 1 ∧ (getCan c t.dev).tec = 0 ∧ (getCan c t.dev).rec_ = 0 ∧
        (getCan c t.dev).busOff = false)) ∧
    (s.dev.pwr.state ≠ .restricted → isSet (F.CAN_CFG.EN c) s.dev = true →
      Delivers (.canDisable c) s (fun t => getF (F.CAN_CFG.EN c) t.dev = 0 ∧ (getCan c t.dev).joined = false ∧
        (getCan c t.dev).fifo = [] ∧ (getCan c t.dev).rx = [] ∧ ∀ b ∈ (getCan c t.dev).bufs, b.2.nd = false ∧ b.2.rec_ = [])) ∧
    (s.dev.pwr.state ≠ .restricted → isSet (F.CAN_CFG.HALT c) s.dev = true → timingLegal c s.dev = true →
      exec (.haltClear c) s = .next { s with dev := setF (F.CAN_CFG.HALT c) 0 s.dev }) ∧
    (s.dev.pwr.state ≠ .restricted → isSet (F.CAN_CFG.HALT c) s.dev = true → timingLegal c s.dev = false →
      exec (.haltClear c) s = .next { s with dev := raise (F.CAN_STATUS.TIMING_BAD c) s.dev }) ∧
    (s.dev.pwr.state ≠ .parked → s.dev.pwr.state ≠ .cold → isSet (F.CAN_CFG.EN c) s.dev = true → isSet (F.CAN_CFG.HALT c) s.dev = false →
      exec (.busIntegration c) s = .next { s with dev := updCan c (fun x => { x with joined := true, excWait := false, haltAt := none }) s.dev }) ∧
    (canSees c s.dev = true → (getCan c s.dev).onBus = .none → isSet (F.CAN_CFG.FD_EN c) s.dev = false →
      Completes (.protocolException c) s (fun t => (getCan c t.dev).excWait = true ∧ canSees c t.dev = false ∧
        getF (F.CAN_STATUS.EXC_SEEN c) t.dev = 1)) ∧
    (s.dev.pwr.state ≠ .restricted → (getCan c s.dev).busOff = true →
      exec (.recover c) s = .next { s with dev := updCan c (fun x => { x with recover := true }) s.dev }) ∧
    ((getCan c s.dev).busOff = true → (getCan c s.dev).recover = true →
      exec (.busOffRecovery c) s =
        .next { s with dev := updCan c (fun x => { x with busOff := false, recover := false, tec := 0, rec_ := 0 }) s.dev }) ∧
    ((getCan c s.dev).busOff = true → (getCan c s.dev).recover = false → isSet (F.CAN_CFG.BO_AUTO c) s.dev = false →
      exec (.busOffRecovery c) s = .next s)

/-- R384 to R387, R399, R384: Transmission. A CAN_SEND that may be sent enters the FIFO and waits; the highest-ranked candidate is offered when the
bus is idle; a frame that was sent completes OK and lowers TEC; a failed attempt is noted, raises TEC by 8 and frees the bus; lost arbitration frees
it too; CAN_ABORT withdraws every frame it selects that is not on the bus. The key of a base frame with a remote or extended one of the same base
identifier ranks the base frame first, and a lower identifier of one kind ranks first. -/
def Obligations.CanTransmission : Prop :=
  (∀ (s : State) (c i : Nat) (x : InDesc), c < 4 →
     (Starts i 0x80 x s.dev → ringInstance i s.dev = c → c ≠ 1 → (sendFrameOf x).fdf = false → isSet (F.CAN_CFG.LISTEN c) s.dev = false →
       (getCan c s.dev).fifo.length < 32 →
       Completes (.canSend i) s (fun t => t.dev.regs = s.dev.regs ∧ (getCan c t.dev).fifo.length = (getCan c s.dev).fifo.length + 1 ∧
         ((getCan c t.dev).fifo.getLast?.map fun e => (e.from_, e.frame)) = some (.send i x.index, sendFrameOf x))) ∧
     (Starts i 0x80 x s.dev → ringInstance i s.dev = c → c ≠ 1 → (sendFrameOf x).fdf = false → isSet (F.CAN_CFG.LISTEN c) s.dev = true →
       exec (.canSend i) s = .next { s with dev := complete i x.index stBusy 0 [] s.dev }) ∧
     (∀ e, canSees c s.dev = true → canListen c s.dev = false → isSet (F.CAN_CFG.HALT c) s.dev = false → (getCan c s.dev).onBus = .none →
       (getCan c s.dev).fifo.head? = some e → (getCan c s.dev).summary = none → (getCan c s.dev).sox = [] →
       Delivers (.arbitration c) s (fun t => (getCan c t.dev).onBus = .fifo ∧ t.dev.regs = s.dev.regs ∧
         (getCan c t.dev).fifo = (if e.ownRetry then e else { e with retry := getF (F.CAN_CFG.RETRY c) s.dev }) :: (getCan c s.dev).fifo.drop 1)) ∧
     (∀ e stamp delay, (getCan c s.dev).onBus = .fifo → (getCan c s.dev).fifo = [e] → e.from_ = .send i x.index →
       ringLive i s.dev = true → (∀ y, inFlight i x.index s.dev = some y → y.stage ≠ .done) → canLooped c s.dev = false →
       Delivers (.frameTransmitted c stamp delay) s (fun t => (getCan c t.dev).fifo = [] ∧ (getCan c t.dev).onBus = .none ∧
         inFlight i x.index t.dev = none ∧ (getCan c t.dev).tec = (getCan c s.dev).tec - 1)) ∧
     (∀ e err field delay, (getCan c s.dev).onBus = .fifo → (getCan c s.dev).fifo = [e] → e.from_ = .send i x.index → e.single = false →
       e.retry = 0 → e.abort = false → (getCan c s.dev).tec ≤ 200 → pstate s.dev ≠ .restricted →
       Delivers (.attemptFailed c err false field 1 delay) s (fun t => (getCan c t.dev).onBus = .none ∧
         (getCan c t.dev).tec = (getCan c s.dev).tec + 8 ∧ getF (F.CAN_ERR.ERR c) t.dev = err % 8 ∧
         (getCan c t.dev).fifo = [{ e with attempts := e.attempts + 1, lastErr := err % 8 }])) ∧
     (∀ e, (getCan c s.dev).onBus = .fifo → (getCan c s.dev).fifo = [e] → e.abort = false →
       (pstate s.dev ≠ .restricted →
         Completes (.arbitrationLost c) s (fun t => (getCan c t.dev).onBus = .none ∧ (getCan c t.dev).fifo = [e] ∧ t.dev.regs = s.dev.regs)) ∧
       (pstate s.dev = .restricted → e.from_ = .send i x.index → ringLive i s.dev = true → (∀ y, inFlight i x.index s.dev = some y → y.stage ≠ .done) →
         Delivers (.arbitrationLost c) s (fun t => (getCan c t.dev).onBus = .none ∧ (getCan c t.dev).fifo = [] ∧ inFlight i x.index t.dev = none))) ∧
     (Starts i 0x81 x s.dev → ringInstance i s.dev = c → paramBits x 32 0 2 = 0 → (getCan c s.dev).onBus ≠ .fifo →
       Delivers (.canAbort i) s (fun t => (getCan c t.dev).fifo = [] ∧ inFlight i x.index t.dev = none))) ∧
  ((∀ a b, a < 2048 → b < 2048 → (canKey a false < canKey b false ↔ a < b)) ∧
   (∀ a b, a < 2 ^ 29 → b < 2 ^ 29 → (canKey a true < canKey b true ↔ a < b)) ∧
   (∀ a b, a < 2048 → b < 2 ^ 29 → b / 2 ^ 18 = a → canKey a false < canKey b true))

/-- R69, R369, R375 to R382, R387, R391, R392: Reception. A frame no element names goes to the receive FIFO, in arrival order, unless its kind is
dropped; an error in a received frame is noted and raises the counters as ISO 11898-1 says; word 2 of an extended element takes with it the words held
before. A summary that is due at a cycle start waits to be sent and carries the section-state word in its last four bytes. -/
def Obligations.CanReception : Prop :=
  (∀ (s : State) (c : Nat), c < 4 →
     (∀ f stamp, c ≠ 1 → canSees c s.dev = true → canCut c s.dev = false → f.rtr = false → f.fdf = false → filterFrame c f s.dev = none →
       (cfgAt c stamp s.dev).getLsbD (if f.ide then 7 else 6) = false → (getCan c s.dev).rx = [] →
       (getCan c s.dev).rec_ = 0 → waitingBuffer 9 0x90 (some c) s.dev = none →
       Delivers (.frameValid c f stamp) s (fun t => (getCan c t.dev).rx = [frameRecord f stamp 255 false (getCan c s.dev).lost] ∧
         (getCan c t.dev).lost = 0)) ∧
     (∀ err steps, canSees c s.dev = true → (getCan c s.dev).onBus = .none → (getCan c s.dev).tec + 8 * steps.tecEights ≤ 255 →
       Completes (.receiveError c err false steps) s (fun t =>
         (getCan c t.dev).rec_ = (getCan c s.dev).rec_ + (if steps.one then 1 else 0) + 8 * steps.recEights ∧
         (getCan c t.dev).tec = (getCan c s.dev).tec + 8 * steps.tecEights ∧ getF (F.CAN_ERR.ERR c) t.dev = err % 8)) ∧
     (∀ j (v : Word), j < 64 → s.dev.pwr.state = .restricted → exec (.filterWord2Write c j v) s = .next s) ∧
     (∀ j (v : Word), j < 64 → s.dev.pwr.state ≠ .restricted → (getCan c s.dev).held = [] →
       Completes (.filterWord2Write c j v) s (fun t => rget (R.CAN_EXT_FILT c j 2) t.dev = v &&& 0x3FF ∧ (getCan c t.dev).held = []))) ∧
  (∀ (s : State) (c : Nat), c < 4 → sumOn c s.dev = true → getF (F.CAN_SUM_CFG.PERIOD c) s.dev ≠ 0 → (getCan c s.dev).sumDue = none →
     s.dev.eng.cycleAt = some s.dev.pt → (getCan c s.dev).onBus ≠ .summary →
     Completes (.summaryPeriod c) s (fun t => (getCan c t.dev).sumAt = some s.dev.pt ∧ (getCan c t.dev).lastV = some (summaryV c s.dev) ∧
       ((getCan c t.dev).summary.map fun e => e.frame.data.drop 4) = some (leBytes 4 (summaryV c s.dev)) ∧ t.dev.regs = s.dev.regs))

/-! ### Firmware, logbook, health, interrupts (03_host_rings.md, 13_interrupts.md to 15_health_and_tandem.md) -/

/-- R117 to R120: FW_CHUNK places its bytes in the staged set and nowhere else; a commit whose checks pass puts the set into the image store and closes the session, one
whose stream is not laid out as images closes it; FW_CHUNK, FW_COMMIT and FW_ACTIVATE without their session or commit complete ABORTED; the end of the flash write
places the set under the next sequence number, a failed one closes the session; FW_ACTIVATE restarts from IMAGES. -/
def Obligations.FirmwareCommands : Prop :=
  ∀ (s : State) (i : Nat) (x : InDesc),
    (Starts i 0xB1 x s.dev → s.dev.host.fwOpen = true → paramAt x 24 4 + x.len ≤ s.dev.host.fwLength →
      Delivers (.fwChunk i) s (fun t => memReadBytes t.mem.fwSet (paramAt x 24 4) x.buf.length = x.buf ∧
        (∀ a, a < paramAt x 24 4 ∨ paramAt x 24 4 + x.buf.length ≤ a → memRead t.mem.fwSet a = memRead s.mem.fwSet a) ∧
        t.mem.staging = s.mem.staging ∧ inFlight i x.index t.dev = none ∧ t.dev.regs = s.dev.regs)) ∧
    (Starts i 0xB1 x s.dev → s.dev.host.fwOpen = false →
      exec (.fwChunk i) s = .next { s with dev := complete i x.index stAborted 0 [] s.dev }) ∧
    (∀ defs role, Starts i 0xB2 x s.dev → s.dev.host.fwOpen = false →
      exec (.fwCommit i defs role) s = .next { s with dev := complete i x.index stAborted 0 [] s.dev }) ∧
    (∀ defs role set, Starts i 0xB2 x s.dev → s.dev.host.fwOpen = true → s.dev.host.flashCommit = none →
      (parseSet s.dev.chip (stagedBytes s)).map (fun z => if z.images.any (·.kind == 5) then { z with defaults := defs, role := role } else z) = some set →
      commitDetail (some set) s.dev.chip = 0 → paramBits x 24 0 1 = 0 → paramBits x 24 1 1 = 0 →
      Delivers (.fwCommit i defs role) s (fun t => t.dev.host.fwOpen = false ∧ t.dev.host.fwCommitted = true ∧ t.dev.pwr.storeValid = true ∧
        t.dev.pwr.store = set ∧ inFlight i x.index t.dev = none ∧ t.mem = s.mem)) ∧
    (∀ defs role, Starts i 0xB2 x s.dev → s.dev.host.fwOpen = true → s.dev.host.flashCommit = none →
      (∀ set, parseSet s.dev.chip (stagedBytes s) = some set →
        layoutOk set = false ∨ ∃ v ∈ set.images, imageDetail v s.dev.chip ≠ 0) →
      Delivers (.fwCommit i defs role) s (fun t => t.dev.host.fwOpen = false ∧ t.dev.pwr = s.dev.pwr ∧ inFlight i x.index t.dev = none ∧
        t.mem = s.mem)) ∧
    (∀ j, s.dev.host.flashCommit = some (i, j, false) →
      Delivers (.flashWriteDone true) s (fun t => t.dev.host.flashCommit = none ∧ t.dev.host.fwOpen = false ∧ t.dev.pwr.storeValid = true ∧
        t.dev.pwr.store.seq = max s.dev.pwr.seqA s.dev.pwr.seqB + 1 ∧ t.mem = s.mem) ∧
      Delivers (.flashWriteDone false) s (fun t => t.dev.host.flashCommit = none ∧ t.dev.host.fwOpen = false ∧ t.dev.pwr = s.dev.pwr ∧
        t.mem = s.mem)) ∧
    (Starts i 0xB3 x s.dev → s.dev.host.fwCommitted = true → isArmed s.dev = false →
      Delivers (.fwActivate i) s (fun t => t.mem = {} ∧ t.dev.pwr.state = .images ∧ t.dev.pwr.fromStore = true ∧
        t.dev.pwr.store = s.dev.pwr.store ∧ t.dev.chip = s.dev.chip)) ∧
    (Starts i 0xB3 x s.dev → s.dev.host.fwCommitted = false →
      exec (.fwActivate i) s = .next { s with dev := complete i x.index stAborted 0 [] s.dev })

/-- R453 to R470, R516: an event enters the galley, as a repeat where the youngest entry is the same event; the galley head goes into a slot of the store with the next
sequence number; an erase that has passed the scan ends with its record, behind the entries that waited; scan, colophon, freeze and erase end as the rules say; a power-fail warning stops the logbook, and the loss of VBAT_AO is a power-on reset. -/
def Obligations.LogbookCommands : Prop :=
  ∀ s : State,
    (∀ ev : LogEvt, s.dev.log.galley = [] →
      Completes (.logbookEvent ev) s (fun t => t.dev.regs = s.dev.regs ∧ ∃ x, t.dev.log.galley = [x] ∧ x.code = ev.code ∧ x.sev = ev.sev % 8 ∧
        x.die = ev.die ∧ x.block = ev.block ∧ x.index = ev.index ∧ x.p0 = ev.p0 % 2 ^ 32 ∧ x.p1 = ev.p1 % 2 ^ 32 ∧ x.p2 = ev.p2 % 2 ^ 32 ∧
        x.opTime = s.dev.pwr.opTime ∧ x.repeat_ = 0)) ∧
    (∀ (ev : LogEvt) g y, s.dev.log.galley = g ++ [y] → (mayStore s.dev = false ∨ g ≠ []) → y.code = ev.code → y.die = ev.die → y.block = ev.block → y.index = ev.index →
      y.repeat_ < 255 →
      Completes (.logbookEvent ev) s (fun t => t.dev.regs = s.dev.regs ∧ t.dev.log.galley = g ++ [{ y with repeat_ := y.repeat_ + 1 }])) ∧
    (∀ (ev : LogEvt) y, s.dev.log.galley = [y] → mayStore s.dev = true →
      Completes (.logbookEvent ev) s (fun t => t.dev.regs = s.dev.regs ∧ ∃ x, t.dev.log.galley = [y, x] ∧ x.code = ev.code ∧ x.repeat_ = 0)) ∧
    (∀ e rest slot, s.dev.log.galley = e :: rest → mayStore s.dev = true → s.dev.log.dropped = [] → chooseSlot e.sev s.dev = some slot →
      Delivers .recordStored s (fun t => t.dev.log.galley = rest ∧
        kget t.dev.log.store slot none = some { entry := e, seq := getF F.LOG_NEXT_SEQ.SEQ s.dev, crc := recordCrc e (getF F.LOG_NEXT_SEQ.SEQ s.dev) } ∧
        getF F.LOG_NEXT_SEQ.SEQ t.dev = (getF F.LOG_NEXT_SEQ.SEQ s.dev + 1) % 2 ^ 32 ∧
        ∀ j, j ≠ slot → kget t.dev.log.store j none = kget s.dev.log.store j none)) ∧
    (s.dev.log.scanned = false → s.dev.pwr.suppliesGood = true →
      Completes .scanDone s (fun t => t.dev.log.scanned = true ∧ getF F.LOG_STATUS.SCANNED t.dev = 1 ∧ t.dev.log.store = s.dev.log.store)) ∧
    (s.dev.log.scanned = true → s.dev.log.stopped = false → s.dev.log.nextSave ≤ s.dev.pwr.opTime →
      Completes .colophonSave s (fun t => t.dev.log.nextSave = s.dev.pwr.opTime + 60 ∧ t.dev.log.newerB = !s.dev.log.newerB ∧
        t.dev.log.store = s.dev.log.store ∧ t.dev.regs = s.dev.regs)) ∧
    (∀ p, s.dev.log.frozen = some p → p ≤ s.dev.pt →
      Completes .freezeTimeout s (fun t => t.dev.log.frozen = none ∧ getF F.LOG_STATUS.FREEZE_TIMEOUT t.dev = 1)) ∧
    (∀ v, v % 65536 = 0xE4A5 → isArmed s.dev = false → s.dev.log.frozen = none → s.dev.log.erasing = false → s.dev.log.stopped = false →
      Completes (.erase v) s (fun t => t.dev.log.erasing = true ∧ t.dev.log.store = s.dev.log.store ∧ t.dev.regs = s.dev.regs)) ∧
    (∀ v, v % 65536 ≠ 0xE4A5 ∨ isArmed s.dev = true ∨ s.dev.log.frozen ≠ none ∨ s.dev.log.erasing = true ∨ s.dev.log.stopped = true →
      exec (.erase v) s = .next { s with dev := raise F.LOG_STATUS.ERASE_REFUSED s.dev }) ∧
    (s.dev.log.erasing = true → s.dev.log.scanned = true → (∀ e ∈ s.dev.log.store, e.1 < 4096) →
      (s.dev.log.dropped = [] → s.dev.log.galley = [] →
        Completes .eraseDone s (fun t => t.dev.log.erasing = false ∧ ∃ r, t.dev.log.store = [(0, some r)] ∧ r.entry.code = 0x0802 ∧
          r.entry.p0 = s.dev.log.erased + ((heldRecords s.dev).filter fun e => recordValid e.2).length)) ∧
      (s.dev.log.galley ≠ [] → Completes .eraseDone s (fun t => t.dev.log.erasing = false ∧ t.dev.log.store = []))) ∧
    (s.dev.log.erasing = false ∨ s.dev.log.scanned = false → exec .eraseDone s = .next s) ∧
    (s.dev.log.stopped = false →
      Completes (.powerFailWarning true) s (fun t => t.dev.log.stopped = true ∧ t.dev.log.erasing = false ∧ t.dev.pins.aoWarn = true)) ∧
    (s.dev.log.stopped = false → s.dev.log.galley = [] →
      Completes (.powerFailWarning true) s (fun t => t.dev.regs = s.dev.regs ∧
        (s.dev.log.erasing = false → t.dev.log.store = s.dev.log.store) ∧
        (s.dev.log.erasing = true → t.dev.log.store = s.dev.log.store.filter (fun e => decide (s.dev.log.erasePos ≤ e.1))))) ∧
    (∀ e rest slot, s.dev.log.galley = e :: rest → mayStore s.dev = true → s.dev.log.dropped = [] → chooseSlot e.sev s.dev = some slot →
      Delivers (.powerFailWarning true) s (fun t => t.dev.log.galley = rest ∧
        kget t.dev.log.store slot none = some { entry := e, seq := getF F.LOG_NEXT_SEQ.SEQ s.dev, crc := recordCrc e (getF F.LOG_NEXT_SEQ.SEQ s.dev) })) ∧
    exec (.powerFailWarning false) s = .next { s with dev := { s.dev with pins := { s.dev.pins with aoWarn := false } } } ∧
    (∀ p, Completes (.vbatAoLoss p) s (fun t => t.mem = {} ∧ t.dev.pwr.state = .cold ∧ t.dev.pins.vbatAo = false ∧ t.dev.pins.pwrEn = false ∧
      getF F.PWR_CAUSE.RESET t.dev = 1 ∧ t.dev.chip = s.dev.chip))

/-- R473 to R485: a leak timer that runs out takes one from its count and starts again, with LEAK as of the last event of the class, while it is not 0; a clear is taken for the classes it may clear and refused
for others; samples enter the monitors of a unit with power, a capacitance, an ESR and an efficiency as their quotients, either neighbour of an inexact one; a re-plan that is due starts a new interval; margins go to the running spokes; the derating check compares the cassettes with I_d. -/
def Obligations.HealthCommands : Prop :=
  ∀ s : State,
    (∀ cls i p, cls < 19 → hasInst cls i s.dev = true → (getInst cls i s.dev).lasting = false → (getInst cls i s.dev).leakAt = some p →
      p ≤ s.dev.pt →
      Completes (.leakTimerExpiry cls i) s (fun t => t.dev.regs = s.dev.regs ∧ getInst cls i t.dev =
        { getInst cls i s.dev with
          c := (getInst cls i s.dev).c - 1
          leakAt := if (getInst cls i s.dev).c - 1 = 0 then none else some (p + 250000000 * kget s.dev.health.leaks cls 0) })) ∧
    (∀ cls i, cls = 8 ∨ (10 ≤ cls ∧ cls ≤ 18) → hasInst cls i s.dev = true →
      Completes (.hltClear cls i) s (fun t => getInst cls i t.dev = {} ∧ t.dev.regs = s.dev.regs)) ∧
    (∀ cls i, cls ≠ 8 → cls < 10 ∨ 18 < cls →
      exec (.hltClear cls i) s = .next { s with dev := raise F.HLT_STATUS.CLEAR_REFUSED s.dev }) ∧
    (∀ k a b c e, k ≠ 0 → sboostOn k s.dev = false → ∀ m ∈ [DieMeas.boostCap a b, .boostEsr a b, .recovery a b c e],
      exec (.monitorMeasurement k m) s = .next s) ∧
    (∀ k ticks mv ma v1 v2 nh ilim, k ≠ 0 → dieRuns k s.dev = true → sboostOn k s.dev = true → 0 < mv → 0 < ma → 0 < nh →
      (chargesAlone k s.dev = true →
        ilim = (if s.dev.pwr.prechargeBy.any (fun e => e.1 == k) then getF F.PWR_PRECHARGE.ILIM s.dev else getF (F.DRV_BOOST_CFG.ILIM k) s.dev) →
        8 * ilim * ticks < 65535 * mv →
        Completes (.monitorMeasurement k (.boostCap ticks mv)) s (fun t => t.dev.regs = s.dev.regs ∧ ∃ v, (getMon k t.dev).boostC = some v ∧
          v * mv < 8 * ilim * ticks + mv ∧ 8 * ilim * ticks < (v + 1) * mv)) ∧
      (chargesAlone k s.dev = false → exec (.monitorMeasurement k (.boostCap ticks mv)) s = .next s) ∧
      (1000 * mv < 65535 * ma →
        Completes (.monitorMeasurement k (.boostEsr mv ma)) s (fun t => t.dev.regs = s.dev.regs ∧ ∃ v, (getMon k t.dev).boostEsr = some v ∧
          v * ma < 1000 * mv + ma ∧ 1000 * mv < (v + 1) * ma)) ∧
      (∀ c, (getMon k s.dev).boostC = some c → 25600 * c * (v2 * v2 - v1 * v1) < 255 * (nh * ma * ma) →
        Completes (.monitorMeasurement k (.recovery v1 v2 ma nh)) s (fun t => t.dev.regs = s.dev.regs ∧ ∃ v, (getMon k t.dev).eta = some v ∧
          v * (nh * ma * ma) < 25600 * c * (v2 * v2 - v1 * v1) + nh * ma * ma ∧
          25600 * c * (v2 * v2 - v1 * v1) < (v + 1) * (nh * ma * ma)))) ∧
    (∀ k v, hasSpoke k s.dev = true → dieRuns k s.dev = true → v < 1024 →
      Completes (.monitorMeasurement k (.margin v)) s (fun t => getF (F.SHL_MARGIN.LAST k) t.dev = v ∧
        getF (F.SHL_MARGIN.LEAST k) t.dev ≤ v ∧ (v < 50 → getF (F.SHL_STATUS.MARGIN_LOW k) t.dev = 1))) ∧
    (dieRuns 0 s.dev = true → s.dev.health.lastReplan + 36000 ≤ s.dev.pwr.opTime →
      Delivers .replan s (fun t => t.dev.health.seq = (s.dev.health.seq + 1) % 2 ^ 32 ∧ t.dev.health.lastReplan = s.dev.pwr.opTime ∧
        t.dev.health.mon = [] ∧ t.dev.health.marginDue = true)) ∧
    (dieRuns 0 s.dev = true → s.dev.pwr.opTime < s.dev.health.lastReplan + 36000 → s.dev.health.nowPending = true →
      Delivers .replan s (fun t => t.dev.health.seq = (s.dev.health.seq + 1) % 2 ^ 32 ∧ t.dev.health.nowPending = false ∧
        t.dev.health.lastReplan = s.dev.health.lastReplan ∧ t.dev.health.mon = [])) ∧
    (s.dev.health.marginDue = true → isSet F.HLT_CFG.APPLY s.dev = true → isArmed s.dev = false →
      Completes .marginApply s (fun t => t.dev.health.marginDue = false ∧ ∀ k n, hasSpoke k s.dev = true → dieRuns k s.dev = true →
        isIsolated k s.dev = false → (s.dev.health.slips.find? fun e => e.1 == k) = some (k, n) → n < 2048 →
        getF (F.DRV_SCHED_CFG.SLIP_LIMIT k) t.dev = n)) ∧
    (∀ k (means : List Nat), hasSpoke k s.dev = true → dieRuns k s.dev = true →
      10 * getF (F.SHL_ILIM.I_D k) s.dev < (means.take 8).foldl (· + ·) 0 →
      Completes (.derateCheck k means) s (fun t => getF (F.SHL_STATUS.DERATE_OVER k) t.dev = 1 ∧ getF (F.SHL_STATUS.DERATE_SEEN k) t.dev = 1)) ∧
    (∀ k (means : List Nat), hasSpoke k s.dev = true → dieRuns k s.dev = true →
      (means.take 8).foldl (· + ·) 0 ≤ 10 * getF (F.SHL_ILIM.I_D k) s.dev →
      exec (.derateCheck k means) s = .next { s with dev := setF (F.SHL_STATUS.DERATE_OVER k) 0 s.dev })

/-- R40, R426 to R436, R439, R444: a source signal shows in its raw bit, and an active edge of an edge-sensed source sets its pending bit; a core that runs takes the eligible level above its running
one, a core without work waits or is power-gated, and returns from it by EOI; nudges are core firmware's to raise and lower; a pending word takes the value for edge-sensed sources with the edges of the same clock, and leaves level-sensed ones;
a configuration write is taken where it is legal for the writer. -/
def Obligations.InterruptCommands : Prop :=
  ∀ s : State,
    (∀ src level, 128 ≤ src → src < 160 →
      Delivers (.sourceSignalChange 0 src level) s (fun t => srcBit Ctl.hub.rawReg src t.dev = level ∧ t.dev.pins = s.dev.pins ∧
        (s.dev.pwr.state ≠ .cold → s.dev.pwr.state ≠ .parked → halfSense (srcHalf .hub src s.dev) = 1 → srcBit Ctl.hub.rawReg src s.dev = false → level = true →
          srcBit Ctl.hub.pendReg src t.dev = true))) ∧
    (∀ level, Delivers (.sourceSignalChange 0 224 level) s (fun t => srcBit Ctl.hub.rawReg 224 t.dev = level ∧
      (t.dev.pins.wake = isSet F.PWR_PARK_CFG.WAKE_POL s.dev ↔ level = true))) ∧
    (∀ k level, hasSpoke k s.dev = true → s.dev.pwr.spokeOn.contains k = true →
      Delivers (.sourceSignalChange k 0 level) s (fun t => srcBit (Ctl.spoke k).rawReg 0 t.dev = level)) ∧
    (∀ core, core < 4 → coreRun .hub core s.dev = .running → runPrio .hub core s.dev < takenLevel .hub core s.dev →
      Completes (.interruptTake 0 core .none) s (fun t => runPrio .hub core t.dev = takenLevel .hub core s.dev ∧ t.dev.regs = s.dev.regs)) ∧
    (∀ core, core < 4 → irqLine .hub core s.dev = false →
      Completes (.interruptTake 0 core .wait) s (fun t => coreRun .hub core t.dev = .waiting ∧ t.dev.regs = s.dev.regs ∧
        t.dev.hic.coreStacks = s.dev.hic.coreStacks)) ∧
    (∀ core, core < 4 → wakeEligible .hub core s.dev = false →
      Completes (.interruptTake 0 core .gate) s (fun t => coreRun .hub core t.dev = .gated ∧ t.dev.regs = s.dev.regs ∧
        t.dev.hic.coreStacks = s.dev.hic.coreStacks)) ∧
    (∀ core lvl rest, core < 4 → kget s.dev.hic.coreStacks core [] = lvl :: rest →
      Completes (.eoi 0 core (.hubFw core) false) s (fun t => kget t.dev.hic.coreStacks core [] = rest ∧ t.dev.regs = s.dev.regs)) ∧
    (∀ core nothing_, core < 4 → kget s.dev.hic.coreStacks core [] = [] →
      exec (.eoi 0 core (.hubFw core) nothing_) s = .next { s with dev := raise F.HIC_STATUS.EOI_UNDERFLOW s.dev }) ∧
    (∀ core nothing_, core < 4 → exec (.eoi 0 core .host nothing_) s = .next { s with dev := raise F.HIC_STATUS.CFG_DISCARDED s.dev }) ∧
    (∀ core i by_, core < 4 → i < 16 →
      Completes (.nudgeRaise 0 core i (.hubFw by_)) s (fun t => srcBit Ctl.hub.pendReg (32 * core + 16 + i) t.dev = true) ∧
      Completes (.nudgeLower 0 core i (.hubFw by_)) s (fun t => srcBit Ctl.hub.pendReg (32 * core + 16 + i) t.dev = false)) ∧
    (∀ w b (value edges : Word), 5 ≤ w → w < 32 → b < 32 →
      Completes (.pendingWordWrite 0 w value edges .host) s (fun t => srcBit Ctl.hub.pendReg (32 * w + b) t.dev =
        if halfSense (srcHalf .hub (32 * w + b) s.dev) = 0 then srcBit Ctl.hub.pendReg (32 * w + b) s.dev
        else value.toNat.testBit b || edges.toNat.testBit b ||
          (srcBit Ctl.hub.pendReg (32 * w + b) s.dev && (marksOf (Ctl.hub.pendReg w).off s.dev).testBit b))) ∧
    (∀ m (value : Word), 80 ≤ m → m < 512 → halfLegal .hub (value.toNat % 65536) = true → halfLegal .hub (value.toNat / 65536) = true →
      halfOut (value.toNat % 65536) = true → halfOut (value.toNat / 65536) = true →
      Completes (.configurationWrite 0 m value .host) s (fun t => rget (R.HIC_CFG m) t.dev = value)) ∧
    (∀ m (value : Word), m < 80 →
      Completes (.configurationWrite 0 m value .host) s (fun t => rget (R.HIC_CFG m) t.dev = rget (R.HIC_CFG m) s.dev ∧
        getF F.HIC_STATUS.CFG_DISCARDED t.dev = 1))

/-! ### Section bus (12_section_bus.md) -/

/-- R400 to R406: SB_ROLE with a record that breaks R401 completes BAD_LENGTH, while armed BUSY, and else waits for the next cycle start; SB_PROBE starts a probe, which sends three frames at
least 10 ms apart and ends 20 ms after the last with the duplicate it found. A leader sends a CADENCE at each grid instant of its period. -/
def Obligations.RolesAndProbes : Prop :=
  ∀ (s : State) (i : Nat) (x : InDesc),
    (Starts i 0xE0 x s.dev → soxAddr s.dev = 63 ∨ x.len ≠ 32 ∨ roleBad x.buf s.dev = true →
      exec (.sbRole i) s = .next { s with dev := complete i x.index stBadLength 0 [] s.dev }) ∧
    (Starts i 0xE0 x s.dev → soxAddr s.dev ≠ 63 → x.len = 32 → roleBad x.buf s.dev = false → isArmed s.dev = true →
      exec (.sbRole i) s = .next { s with dev := complete i x.index stBusy 0 [] s.dev }) ∧
    (Starts i 0xE0 x s.dev → soxAddr s.dev ≠ 63 → x.len = 32 → roleBad x.buf s.dev = false → isArmed s.dev = false → canBReady s.dev = true →
      s.dev.sox.newRole = none → s.dev.sox.probe = none → isSet F.CAN_SB_STATUS.PROBED s.dev = true →
      Completes (.sbRole i) s (fun t => t.dev.sox.newRole = some (parseRole x.buf, some (i, x.index)) ∧ t.dev.sox.role = s.dev.sox.role ∧
        t.dev.regs = s.dev.regs)) ∧
    (Starts i 0xE1 x s.dev → soxAddr s.dev = 63 → exec (.sbProbe i) s = .next { s with dev := complete i x.index stBadLength 0 [] s.dev }) ∧
    (Starts i 0xE1 x s.dev → soxAddr s.dev ≠ 63 → s.dev.sox.newRole = none → s.dev.sox.probe = none →
      Delivers (.sbProbe i) s (fun t => t.dev.regs = s.dev.regs ∧ ∃ p, t.dev.sox.probe = some p ∧ p.sent = 1 ∧ p.lastAt = s.dev.pt ∧
        p.nonce.length = 8 ∧ p.desc = some (i, x.index))) ∧
    (∀ p, s.dev.sox.probe = some p → p.sent < 3 → p.lastAt + ms 10 ≤ s.dev.pt →
      Delivers .probeFrameSend s (fun t => t.dev.sox.probe = some { p with sent := p.sent + 1, lastAt := s.dev.pt } ∧ t.dev.regs = s.dev.regs)) ∧
    (∀ p, s.dev.sox.probe = some p → 3 ≤ p.sent → p.lastAt + ms 20 ≤ s.dev.pt → p.dup = true →
      Delivers .probeWindowEnd s (fun t => t.dev.sox.probe = none ∧ getF F.CAN_SB_STATUS.DUP_ADDR t.dev = 1 ∧
        getF F.CAN_SB_STATUS.DUP_SEEN t.dev = 1)) ∧
    (∀ p, s.dev.sox.probe = some p → 3 ≤ p.sent → p.lastAt + ms 20 ≤ s.dev.pt → p.dup = false → p.acked ≠ 0 →
      Delivers .probeWindowEnd s (fun t => t.dev.sox.probe = none ∧ getF F.CAN_SB_STATUS.DUP_ADDR t.dev = 0 ∧
        getF F.CAN_SB_STATUS.PROBED t.dev = 1)) ∧
    (∀ g, s.dev.sox.role.role = 1 → gridReached (us s.dev.sox.role.cadPeriod) 0 s.dev.pt = some g → s.dev.sox.cadLast ≠ some g →
      s.dev.sox.conflicts = [] → s.dev.pwr.state ≠ .restricted →
      Delivers .cadenceSend s (fun t => t.dev.sox.cadLast = some g ∧ t.dev.sox.cadSeq = (s.dev.sox.cadSeq + 1) % 256 ∧
        (getCan 1 t.dev).sox.length + (getCan 1 t.dev).soxWait.length = (getCan 1 s.dev).sox.length + (getCan 1 s.dev).soxWait.length + 1 ∧
        t.dev.regs = s.dev.regs))

/-- R403, R404, R407, R413 to R421: what an accepted frame of each class does. A CADENCE of another leader is a conflict; one of the own leader is stamped and ends LEADER_LOST; a broadcast pose is
taken; an EDGE frame of the planner keeps PLANNER_OK, and its END for a channel without an entry is counted; a STATE frame brings its follower into force; PROBE and DUPLICATE
frames of the own address with the nonces R404 names mark the probe. -/
def Obligations.AcceptedFramesAct : Prop :=
  ∀ (s : State) (f : CanFrame) (stamp : Nat),
    (soxAccepts 0 f s.dev → s.dev.sox.role.role = 1 →
      Delivers (.cadence f stamp) s (fun t => kget t.dev.sox.conflicts (soxSrc f.id) 0 = s.dev.pt ∧
        (∀ a, a ≠ soxSrc f.id → kget t.dev.sox.conflicts a 0 = kget s.dev.sox.conflicts a 0) ∧ getF F.CAN_SB_STATUS.CONFLICT t.dev = 1 ∧
        getF F.CAN_SB_STATUS.CONFLICT_SEEN t.dev = 1)) ∧
    (soxAccepts 0 f s.dev → s.dev.sox.role.role = 2 → soxSrc f.id = s.dev.sox.role.leader →
      Delivers (.cadence f stamp) s (fun t => t.dev.sox.stamped = some (leAt f.data 8 1, stamp) ∧ t.dev.sox.cadAt = s.dev.pt ∧
        t.dev.sox.cadUs = leAt f.data 10 2 ∧ getF F.TIM_IMPL_STATUS.LEADER_LOST t.dev = 0)) ∧
    (soxAccepts 3 f s.dev → soxSrc f.id = s.dev.sox.role.leader → soxSpec f.id = 0 →
      (poseOf (leBytes 8 (ownPt (leAt f.data 0 8) s.dev) ++ (f.data.drop 8).take 24) ((leAt f.data 32 1).testBit 0)).tag ≤ s.dev.pt →
      s.dev.eng.newestTag = none →
      Delivers (.poseBroadcast f stamp) s (fun t => t.dev.eng.pose =
        some (poseOf (leBytes 8 (ownPt (leAt f.data 0 8) s.dev) ++ (f.data.drop 8).take 24) ((leAt f.data 32 1).testBit 0)) ∧
        t.dev.eng.table = s.dev.eng.table)) ∧
    (soxAccepts 1 f s.dev → soxSrc f.id = s.dev.sox.role.planner → leAt f.data 4 1 % 16 = 0 →
      Delivers (.edge f stamp) s (fun t => t.dev.sox.edgeAt = some s.dev.pt ∧ getF F.CAN_SB_STATUS.PLANNER_OK t.dev = 1 ∧
        t.dev.spokes = s.dev.spokes)) ∧
    (soxAccepts 1 f s.dev → soxSrc f.id = s.dev.sox.role.planner → leAt f.data 4 1 % 16 = 1 → (parseEdge f.data 0).action = 2 →
      (parseEdge f.data 0).chan ≠ 511 → hasSpoke (spokeOf (parseEdge f.data 0).chan) s.dev = true →
      runningEntry (spokeOf (parseEdge f.data 0).chan) (localOf (parseEdge f.data 0).chan) s.dev = none →
      Delivers (.edge f stamp) s (fun t => t.dev.sox.edgeAt = some s.dev.pt ∧ t.dev.spokes = s.dev.spokes ∧
        getF F.CAN_SB_COUNT.BAD_ENTRY t.dev = min 255 (getF F.CAN_SB_COUNT.BAD_ENTRY s.dev + 1))) ∧
    (∀ i, soxAccepts 2 f s.dev → followerIndex (soxSrc f.id) s.dev = some i → i < 15 →
      Delivers (.state f stamp) s (fun t => kget t.dev.sox.lastState (soxSrc f.id) 0 = s.dev.pt ∧ bitOf F.CAN_SB_PRESENT.IN_FORCE i t.dev = true)) ∧
    (∀ p, soxAccepts 4 f s.dev → s.dev.sox.probe = some p → p.nonce ≠ f.data.take 8 →
      Delivers (.probe f stamp) s (fun t => t.dev.sox.probe = some { p with dup := true } ∧ t.dev.sox.role = s.dev.sox.role)) ∧
    (∀ p, soxAccepts 5 f s.dev → s.dev.sox.probe = some p → p.nonce = f.data.take 8 →
      Delivers (.duplicate f stamp) s (fun t => t.dev.sox.probe = some { p with dup := true } ∧ t.dev.sox.role = s.dev.sox.role))

/-- R403, R411, R413, R417 to R421: the timers of the section bus. The conflict with each address ends LOSS_N periods after its last CADENCE, and the flag with the last; a follower that hears no CADENCE is in holdover with LEADER_LOST, a host-less one that hears no EDGE frame loses its
planner, and a planner its follower; pose parts that stay out are given up; EDGE and STATE keepalives go out. -/
def Obligations.SectionBusTimers : Prop :=
  ∀ s : State,
    ((∀ c ∈ s.dev.sox.conflicts, c.2 + us (s.dev.sox.role.lossN * s.dev.sox.role.cadPeriod) ≤ s.dev.pt) →
      Completes .conflictEnd s (fun t => t.dev.sox.conflicts = [] ∧ getF F.CAN_SB_STATUS.CONFLICT t.dev = 0)) ∧
    (∀ c ∈ s.dev.sox.conflicts, s.dev.pt < c.2 + us (s.dev.sox.role.lossN * s.dev.sox.role.cadPeriod) →
      Completes .conflictEnd s (fun t => c ∈ t.dev.sox.conflicts ∧ t.dev.regs = s.dev.regs)) ∧
    (isFollower s.dev = true → isSet F.TIM_IMPL_STATUS.LEADER_LOST s.dev = false →
      s.dev.sox.cadAt + us (s.dev.sox.role.lossN * s.dev.sox.cadUs) ≤ s.dev.pt →
      Delivers .leaderLost s (fun t => getF F.TIM_IMPL_STATUS.LEADER_LOST t.dev = 1 ∧ getF F.TIM_IMPL_STATUS.STATE t.dev = 4 ∧
        getF F.CAN_SB_STATUS.LEADER_LOST_SEEN t.dev = 1 ∧ t.dev.sox.o = s.dev.sox.o)) ∧
    (∀ p, s.dev.sox.poses = [p] → p.at_ + ms 5 ≤ s.dev.pt →
      Completes .posePartsTimeout s (fun t => t.dev.sox.poses = [] ∧
        getF F.CAN_SB_COUNT.MISSED t.dev = min 255 (getF F.CAN_SB_COUNT.MISSED s.dev + 1))) ∧
    (∀ a, a < 64 → (followerIndex a s.dev).isSome = true → s.dev.eng.proof = false → kget s.dev.sox.edgeSent a 0 + ms 20 ≤ s.dev.pt →
      Delivers (.edgeKeepalive a) s (fun t => kget t.dev.sox.edgeSent a 0 = s.dev.pt ∧ t.dev.regs = s.dev.regs)) ∧
    (∀ p, s.dev.sox.edgeAt = some p → s.dev.sox.role.role = 3 → p + ms 50 ≤ s.dev.pt →
      Delivers .plannerLost s (fun t => t.dev.sox.edgeAt = none ∧ t.dev.sox.edgeArm = false ∧ getF F.CAN_SB_STATUS.PLANNER_OK t.dev = 0 ∧
        getF F.CAN_SB_STATUS.PLANNER_LOST_SEEN t.dev = 1)) ∧
    (s.dev.sox.role.role = 3 → s.dev.pwr.state ≠ .restricted → s.dev.sox.stateAt + ms 20 ≤ s.dev.pt →
      Delivers .stateKeepalive s (fun t => t.dev.sox.stateAt = s.dev.pt ∧ t.dev.sox.feedLost = false ∧ t.dev.sox.feeds = s.dev.sox.feeds.drop 6 ∧
        t.dev.regs = s.dev.regs)) ∧
    (∀ a i, a < 64 → followerIndex a s.dev = some i → i < 15 → bitOf F.CAN_SB_PRESENT.IN_FORCE i s.dev = true →
      kget s.dev.sox.lastState a 0 + ms 50 ≤ s.dev.pt →
      Delivers (.followerLost a) s (fun t => bitOf F.CAN_SB_PRESENT.IN_FORCE i t.dev = false ∧ getF F.CAN_SB_STATUS.FOLLOWER_LOST_SEEN t.dev = 1))

/-! ### Tandem operation (15_health_and_tandem.md) -/

/-- R492 to R500: heartbeats and the takeover. An attached package pulses and sends a heartbeat once in its slot; the partner's heartbeat is noted; a period without one counts as missed, and after the fifth an
armed stoker in SYNC takes over; quiet outputs make it captain, a cassette that stays driven blocks it; a YIELD starts the takeover at once, and a yield that nobody takes ends after 20 ms; after a wake TDM_HB pulses;
drive seen at a cassette that is open enters SAFE. -/
def Obligations.HeartbeatsAndTakeover : Prop :=
  ∀ s : State,
    (∀ g readback, isAttached s.dev = true → gridReached (us 100) (ownSlot s.dev) (implNow s.dev) = some g → s.dev.tdm.lastPulse ≠ some g →
      isStoker s.dev = true →
      Delivers (.heartbeatSlot readback) s (fun t => t.dev.tdm.hbNumber = (s.dev.tdm.hbNumber + 1) % 65536 ∧ t.dev.tdm.lastPulse = some g ∧
        (getF F.TDM_STATUS.HB_FAULT t.dev = 0 ↔ readback = true) ∧ OutEvent.hbPulse ∈ t.dev.out ∧ tdmState t.dev = tdmState s.dev)) ∧
    (∀ a flags number last, isAttached s.dev = true → s.dev.tdm.yielding = none →
      Delivers (.heartbeat true a flags number last) s (fun t => getF F.TDM_PARTNER.FLAGS t.dev = flags % 32 ∧
        t.dev.tdm.hbLast = number % 65536 ∧ t.dev.tdm.hbAcked = last % 65536 ∧ t.dev.tdm.lastHb = s.dev.pt ∧
        getF F.TDM_STATUS.LINK_UP t.dev = 1 ∧ tdmState t.dev = tdmState s.dev)) ∧
    (isAttached s.dev = true → inPartnerSlot s.dev = true →
      exec .heartbeatPulse s = .next { s with dev := { s.dev with tdm := { s.dev.tdm with byLine := true } } }) ∧
    (∀ g, isAttached s.dev = true → gridReached (us 100) (partnerSlot s.dev + us 10) (implNow s.dev) = some g → s.dev.tdm.judged ≠ some g →
      s.dev.tdm.byFrame = false → s.dev.tdm.byLine = false → s.dev.tdm.missed < 4 →
      Delivers .partnerPeriodEnd s (fun t => t.dev.tdm.missed = s.dev.tdm.missed + 1 ∧ t.dev.tdm.judged = some g ∧ t.dev.regs = s.dev.regs)) ∧
    (∀ g, tdmState s.dev = 3 → gridReached (us 100) (partnerSlot s.dev + us 10) (implNow s.dev) = some g → s.dev.tdm.judged ≠ some g →
      s.dev.tdm.byFrame = false → s.dev.tdm.byLine = false → s.dev.tdm.missed = 4 → isArmed s.dev = true →
      isSet F.TDM_STATUS.SYNC s.dev = true →
      Delivers .partnerPeriodEnd s (fun t => tdmState t.dev = 4 ∧ t.dev.tdm.takeover = some { cause := 1, at_ := s.dev.pt })) ∧
    (∀ tk, s.dev.tdm.takeover = some tk → tdmState s.dev = 4 → s.dev.pt ≤ tk.at_ + ms 10 →
      Delivers .outputsQuiet s (fun t => tdmState t.dev = 2 ∧ t.dev.tdm.takeover = none ∧ getF F.TDM_STATUS.TAKEOVER_SEEN t.dev = 1)) ∧
    (∀ tk g, s.dev.tdm.takeover = some tk → tdmState s.dev = 4 → tk.at_ + ms 10 ≤ s.dev.pt → g < 8 * nSpokes s.dev →
      Delivers (.quietTimeout g) s (fun t => tdmState t.dev = 3 ∧ t.dev.tdm.takeover = none ∧ getF F.TDM_STATUS.BLOCKED_SEEN t.dev = 1 ∧
        getF F.TDM_STATUS.SYNC t.dev = 0)) ∧
    (∀ a b, tdmState s.dev = 3 → isArmed s.dev = true → isSet F.TDM_STATUS.SYNC s.dev = true →
      Delivers (.yield_ true a b) s (fun t => tdmState t.dev = 4 ∧ t.dev.tdm.takeover = some { cause := 2, at_ := s.dev.pt } ∧
        getF F.TDM_STATUS.YIELD_SEEN t.dev = 1)) ∧
    (∀ p, s.dev.tdm.yielding = some (p, none) → p + ms 20 ≤ s.dev.pt →
      exec .yieldTimeout s = .next { s with dev := { s.dev with tdm := { s.dev.tdm with yielding := none, resumeNext := true } } }) ∧
    (∀ e, s.dev.tdm.pulseEnd = some e → s.dev.pt ≤ e → s.dev.tdm.lastPulse = none → isAttached s.dev = false → s.dev.pwr.state ≠ .restricted →
      Completes .postWakePulse s (fun t => t.dev.out = s.dev.out ++ [.hbPulse] ∧ t.dev.tdm.lastPulse = some s.dev.pt ∧ t.dev.regs = s.dev.regs)) ∧
    (∀ e, s.dev.tdm.pulseEnd = some e → e < s.dev.pt →
      exec .postWakePulse s = .next { s with dev := { s.dev with tdm := { s.dev.tdm with pulseEnd := none } } }) ∧
    (∀ g, g < 8 * nSpokes s.dev → isAttached s.dev = true → isSet (F.DRV_STATUS.DRIVE_EN (g / 8 + 1)) s.dev = true →
      casOpen (g / 8 + 1) (g % 8) s.dev = true → canEnterSafe s.dev →
      Delivers (.foreignDrive g) s (fun t => t.dev.pwr.state = .safe ∧ getF F.TDM_STATUS.FOREIGN_SEEN t.dev = 1))

/-- R489, R494, R490: What a stoker takes from its captain: a digest is compared with its own or held until it has one, forwarded events join those
the next cycle start takes, LOOPSTATE gives a loop its outputs, WBDONE clears the increments of the cycles it covers. A tandem frame with a bad CRC or
a reserved TYPE is an event of class 17 and nothing else, whatever its type; the link goes down 500 µs after its last frame, and 100 ms later SYNC is
lost. -/
def Obligations.TandemLinkAndStoker : Prop :=
  (∀ s : State, isStoker s.dev = true →
     (∀ c g, s.dev.tdm.own = [] →
       Delivers (.digest true c g) s (fun t => t.dev.tdm.theirs = (c, g) :: s.dev.tdm.theirs.take 1 ∧ t.dev.tdm.diverging = s.dev.tdm.diverging)) ∧
     (∀ c g, s.dev.tdm.own = [(c, g)] →
       Delivers (.digest true c g) s (fun t => t.dev.tdm.diverging = false ∧ getF F.TDM_COUNT.DIVERGED t.dev = getF F.TDM_COUNT.DIVERGED s.dev)) ∧
     (∀ c g g', s.dev.tdm.own = [(c, g')] → g ≠ g' →
       Delivers (.digest true c g) s (fun t => t.dev.tdm.diverging = true ∧ getF F.TDM_STATUS.DIVERGE_SEEN t.dev = 1 ∧
         getF F.TDM_COUNT.DIVERGED t.dev = min 65535 (getF F.TDM_COUNT.DIVERGED s.dev + 1))) ∧
     (∀ x : TdmFeed, s.dev.tdm.attach = none → x.outlet < (outlets s.dev).length →
       Delivers (.tandemFeed true [x]) s (fun t => ∃ h, t.dev.eng.feeds = s.dev.eng.feeds ++ [h] ∧ h.outlet = x.outlet ∧ h.at_ = ownPt x.impl s.dev ∧
         h.event = x.feed.event ∧ h.delay = x.feed.delay)) ∧
     (∀ (x : TdmLoop) b, hasSpoke x.spoke s.dev = true → loopBlock x.spoke x.loop s.dev = some b → drives b = true →
       Delivers (.loopstate true [x]) s (fun t => (getLoop x.spoke x.loop t.dev).u = x.outs.map (·.1) ∧
         (getLoop x.spoke x.loop t.dev).z = x.outs.map (·.2) ∧ t.dev.eng = s.dev.eng)) ∧
     (∀ e n c u, findTile 0 e n s.dev = some u → (∀ m ∈ u.marks, m.1 ≤ ownPt c s.dev) →
       Delivers (.wbdone true e n c) s (fun t => (findTile 0 e n t.dev).map (fun x => (x.incr, x.oldest, x.marks)) = some ([], none, []) ∧
         t.dev.spokes = s.dev.spokes))) ∧
  (∀ s : State,
     (∀ a b c d e n block last data fs ls p, ∀ i ∈ [Instr.heartbeat false a b c d, .digest false a b, .tandemFeed false fs, .loopstate false ls, .wbdone false e n a,
         .yield_ false a b, .attach false p, .xfer false block last data, .xferAck false block, .detach false a],
       exec i s = .next { s with dev := healthReport 17 0 s.dev }) ∧
     (isSet F.TDM_STATUS.LINK_UP s.dev = true → s.dev.tdm.lastFrame + us 500 ≤ s.dev.pt →
       Delivers .tandemLinkDown s (fun t => getF F.TDM_STATUS.LINK_UP t.dev = 0 ∧ getF F.TDM_STATUS.LINK_LOST_SEEN t.dev = 1 ∧
         t.dev.tdm.downAt = some s.dev.pt)) ∧
     (∀ p, s.dev.tdm.downAt = some p → s.dev.tdm.downSaid = false → p + ms 100 ≤ s.dev.pt →
       Delivers .tandemLinkDownTimeout s (fun t => t.dev.tdm.downSaid = true ∧ getF F.TDM_STATUS.SYNC t.dev = 0)))

/-- R500 to R503: TDM_ATTACH of a detached package starts attaching and sends its ATTACH frame, again each ms until the partner's arrives, for 100 ms at most; an attached package sends one too and fails the first check; the partner's frame passes the checks or ends the attachment; the blocks of the snapshot are
acknowledged one by one and sent again until they are; TDM_YIELD and TDM_DETACH take effect at a cycle start, as does the partner's DETACH. -/
def Obligations.AttachAndDetach : Prop :=
  ∀ (s : State) (i : Nat) (x : InDesc),
    (Starts i 0xD0 x s.dev → tdmState s.dev = 0 → s.dev.tdm.attach = none →
      Delivers (.tdmAttach i) s (fun t => tdmState t.dev = 1 ∧ ∃ a, t.dev.tdm.attach = some a ∧ a.role = paramBits x 24 0 1 ∧
        a.addr = paramBits x 25 0 6 ∧ a.desc = (i, x.index) ∧ a.begun = s.dev.pt ∧ a.sentAt = s.dev.pt ∧ a.passed = false)) ∧
    (Starts i 0xD0 x s.dev → isAttached s.dev = true → s.dev.tdm.attach = none →
      Delivers (.tdmAttach i) s (fun t => tdmState t.dev = tdmState s.dev ∧ ∃ a, t.dev.tdm.attach = some a ∧ a.desc = (i, x.index) ∧
        a.begun = s.dev.pt ∧ a.sentAt = s.dev.pt ∧ a.passed = false)) ∧
    (∀ a p, s.dev.tdm.attach = some a → isAttached s.dev = true → attachCheck a p s.dev = 1) ∧
    (Starts i 0xD1 x s.dev → s.dev.tdm.detachAt = none →
      Delivers (.tdmDetach i) s (fun t => t.dev.tdm.detachAt =
        some ((s.dev.pt / cyclePeriod s.dev + 1) * cyclePeriod s.dev, some (i, x.index)) ∧ t.dev.regs = s.dev.regs)) ∧
    (Starts i 0xD2 x s.dev → isCaptain s.dev = true → (getF F.TDM_PARTNER.FLAGS s.dev).testBit 1 = true →
      (getF F.TDM_PARTNER.FLAGS s.dev).testBit 2 = true → s.dev.tdm.yielding = none → s.dev.tdm.yieldNext = none →
      Delivers (.tdmYield i) s (fun t => t.dev.tdm.yieldNext = some (i, x.index) ∧ t.dev.regs = s.dev.regs)) ∧
    (Starts i 0xD2 x s.dev → isCaptain s.dev = false →
      exec (.tdmYield i) s = .next { s with dev := complete i x.index stBusy 0 [] s.dev }) ∧
    (∀ a, s.dev.tdm.attach = some a → a.passed = true → exec .attachFrameSend s = .next s) ∧
    (∀ a, s.dev.tdm.attach = some a → a.passed = false → a.sentAt + ms 1 ≤ s.dev.pt →
      Delivers .attachFrameSend s (fun t => t.dev.tdm.attach = some { a with sentAt := s.dev.pt } ∧ t.dev.regs = s.dev.regs ∧
        ∃ x bs, t.dev.out = s.dev.out ++ [.tandem s.dev.tdm.seq (.attach x) (tdmBytes 7 s.dev.tdm.seq bs)])) ∧
    (∀ a, s.dev.tdm.attach = some a → a.passed = false → a.begun + ms 100 ≤ s.dev.pt →
      Delivers .attachTimeout s (fun t => t.dev.tdm.attach = none ∧ tdmState t.dev = if tdmState s.dev = 1 then 0 else tdmState s.dev)) ∧
    (∀ a p, s.dev.tdm.attach = some a → a.passed = false → attachCheck a p s.dev = 0 →
      Delivers (.attach true p) s (fun t => t.dev.tdm.attach = some { a with passed := true } ∧ tdmState t.dev = tdmState s.dev)) ∧
    (∀ a p, s.dev.tdm.attach = some a → a.passed = false → attachCheck a p s.dev ≠ 0 →
      Delivers (.attach true p) s (fun t => t.dev.tdm.attach = none ∧ tdmState t.dev = if tdmState s.dev = 1 then 0 else tdmState s.dev)) ∧
    (∀ a last data, s.dev.tdm.attach = some a → a.role = 1 → a.passed = true → a.allIn = false →
      Delivers (.xfer true a.next last data) s (fun t => t.dev.tdm.attach =
        some { a with next := a.next + 1, received := a.received ++ data, allIn := last })) ∧
    (∀ a, s.dev.tdm.attach = some a → a.role = 0 → a.taken = true → a.sent ≠ none → a.next + 1 < a.blocks.length →
      Delivers (.xferAck true a.next) s (fun t => t.dev.tdm.attach = some { a with next := a.next + 1, sent := some s.dev.pt, tries := 1 })) ∧
    (∀ a p, s.dev.tdm.attach = some a → a.sent = some p → p + us 50 ≤ s.dev.pt → a.tries < 9 → a.next < a.blocks.length →
      Delivers .xferResend s (fun t => t.dev.tdm.attach = some { a with sent := some s.dev.pt, tries := a.tries + 1 } ∧
        t.dev.regs = s.dev.regs)) ∧
    (∀ c, tdmState s.dev ≠ 0 → s.dev.tdm.detachAt = none →
      Delivers (.detach true c) s (fun t => t.dev.tdm.detachAt = some (ownPt c s.dev, none)))

/-! ### Loop-back, test access and register access (16_registers.md to 18, R526 to R539) -/

/-- R526 to R529, R533 to R535: a loop-back whose conditions hold begins, one outside READY is refused with the reason, STOP and completion end it with what the run found; a PCIe loop-back lasts until the link goes down; an instruction of the test access port is
loaded, and one that holds the outputs disarms; a scan shifts out the IDCODE or the covered balls' levels and loads the boundary cells, which drive the balls they cover in both directions
while an instruction holds the outputs. -/
def Obligations.LoopbackCommands : Prop :=
  ∀ s : State,
    (∀ v : Word, s.dev.pwr.state ≠ .restricted → v.getLsbD 30 = false → wordField v 0 4 ≠ 3 →
      lbRefuse { target := wordField v 0 4, depth := wordField v 4 2, spoke := wordField v 6 3, inst := wordField v 9 7, at_ := s.dev.pt } false s.dev = 0 →
      Completes (.loopbackStart v) s (fun t => t.dev.lb = some { target := wordField v 0 4, depth := wordField v 4 2, spoke := wordField v 6 3
                                                                 inst := wordField v 9 7, at_ := s.dev.pt } ∧
        getF F.PWR_LB_STATUS.STATE t.dev = 1)) ∧
    (∀ v : Word, s.dev.pwr.state ≠ .restricted → s.dev.pwr.state ≠ .ready → v.getLsbD 30 = false →
      Completes (.loopbackStart v) s (fun t => t.dev.lb = s.dev.lb ∧ getF F.PWR_LB_STATUS.REFUSED t.dev = 1 ∧
        getF F.PWR_LB_STATUS.REFUSE t.dev = 1)) ∧
    (∀ v : Word, s.dev.pwr.state = .restricted → exec (.loopbackStart v) s = .next s) ∧
    (∀ r, s.dev.lb = some r → s.dev.pwr.state ≠ .restricted → (rget R.PWR_LB_CTL s.dev).getLsbD 31 = false →
      Completes .loopbackStop s (fun t => t.dev.lb = none ∧ getF F.PWR_LB_STATUS.STATE t.dev = 0)) ∧
    (∀ r found x, s.dev.lb = some r → (lbResult r found (lbMeasures r found s.dev)).1 = some x →
      Completes (.loopbackDone found) s (fun t => t.dev.lb = none ∧ getF F.PWR_LB_STATUS.STATE t.dev = (if x.2.2 then 2 else 3) ∧
        getF F.PWR_LB_STATUS.ERRORS t.dev = min 65535 x.1 ∧ getF F.PWR_LB_RESULT.VALUE t.dev = toBits 32 x.2.1)) ∧
    (∀ r found, s.dev.lb = some r → (lbResult r found (lbMeasures r found s.dev)).1 = none → exec (.loopbackDone found) s = .next s) ∧
    (∀ r bad, s.dev.lb = some r → r.target = 1 →
      Completes (.loopbackDone (.link bad)) s (fun t => t.dev.lb = none ∧ getF F.PWR_LB_STATUS.STATE t.dev = (if bad = 0 then 2 else 3) ∧
        getF F.PWR_LB_STATUS.ERRORS t.dev = min 65535 bad)) ∧
    (s.dev.pcie.linkUp = true →
      exec .pcieLoopback s = .next { s with dev := { s.dev with pcie := { s.dev.pcie with loopback := true } } }) ∧
    (s.dev.pcie.linkUp = false → exec .pcieLoopback s = .next s) ∧
    (∀ inst scan, Delivers (.boundaryScanInstruction inst scan) s (fun t => t.dev.pins.tap = inst ∧ t.dev.pins.arm = s.dev.pins.arm)) ∧
    (∀ inst ∈ [TapInst.extest, .extestPulse, .extestTrain, .clamp], ∀ scan, s.dev.pwr.state = .armed → armHigh s.dev = true →
      Delivers (.boundaryScanInstruction inst scan) s (fun t => t.dev.pwr.state = .ready ∧ getF F.PWR_ARM.ARM_DROP t.dev = 1)) ∧
    (∀ ones, Delivers (.boundaryScanInstruction .idcode (some ones)) s (fun t => ∃ w, t.dev.out.getLast? = some (.scanOut (.idcode w)) ∧
        w = match s.dev.chip.variant with | .yn2 => 0x1A7E2A6F | .yn4 => 0x1A7E4A6F | .yn8 => 0x1A7E8A6F)) ∧
    (∀ inst ∈ [TapInst.sample, .extest, .extestPulse, .extestTrain], ∀ ones,
      Delivers (.boundaryScanInstruction inst (some ones)) s (fun t => t.dev.pins.cells = (coveredBalls s.dev).filter ones.contains ∧
        ∃ levels, t.dev.out.getLast? = some (.scanOut (.boundary levels)) ∧ levels.map (·.1) = coveredBalls s.dev)) ∧
    (tapHolds s.dev = true → ∀ b, (coverage b = .both → ballDrive b s.dev = .level (s.dev.pins.cells.contains b)) ∧
      (coverage b = .observe ∨ coverage b = .acObserve ∨ coverage b = .comparator ∨ coverage b = .none → ballDrive b s.dev = .released))

/-- R29, R69, R86, R87, R537 to R540: register accesses by the host. A read or write that is not one aligned word is not carried out; reserved offsets read as 0 and take no write; windows of absent spokes likewise; a spoke's
register is read and written by a CMD frame, and reads 0xFFFFFFFF while its link is down; IDN_ID and the configuration space name the variant; a read-write word and the address and data words of the MSI-X table take the value; PWR_CMD gives its command. Where BAR2 and the
configuration space stand among the addresses is the model's choice (log entry 120). -/
def Obligations.RegisterAccess : Prop :=
  ∀ s : State, hubOn s.dev = true →
    (∀ a size v by_, a < 0x44000 → size ≠ 4 ∨ a % 4 ≠ 0 →
      exec (.registerWrite a size v by_) s = .next { s with dev := raise F.HIF_STATUS.BAD_ACCESS s.dev } ∧
      exec (.registerRead a size) s = .next { s with dev := { s.dev with out := s.dev.out ++ [.unsupported a] } }) ∧
    (∀ a v by_, a % 4 = 0 → a < 0x6000 → regFind a = none →
      exec (.registerWrite a 4 v by_) s = .next s ∧
      exec (.registerRead a 4) s = .next { s with dev := { s.dev with out := s.dev.out ++ [.readDone a 0] } }) ∧
    (∀ a k v by_, a % 4 = 0 → windowOf a = some k → hasSpoke k s.dev = false →
      exec (.registerWrite a 4 v by_) s = .next s ∧
      exec (.registerRead a 4) s = .next { s with dev := { s.dev with out := s.dev.out ++ [.readDone a 0] } }) ∧
    (∀ a k, a % 4 = 0 → windowOf a = some k → hasSpoke k s.dev = true → hubHeld a = false → windowDown k s.dev = true →
      exec (.registerRead a 4) s = .next { s with dev := { s.dev with out := s.dev.out ++ [.readDone a 0xFFFFFFFF] } } ∧
      ∀ v, exec (.registerWrite a 4 v .host) s = .next s) ∧
    (∀ a k v, a % 4 = 0 → windowOf a = some k → hasSpoke k s.dev = true → hubHeld a = false → windowDown k s.dev = false →
      Completes (.registerWrite a 4 v .host) s (fun t => t.dev.regs = s.dev.regs ∧
        Payload.cmd (.regWrite (windowOff a) v .host) ∈ (linkEnd k .hub t.dev).waiting) ∧
      Completes (.registerRead a 4) s (fun t => t.dev.out = s.dev.out ∧ a ∈ (getLink k t.dev).reads ∧
        Payload.cmd (.regRead (windowOff a)) ∈ (linkEnd k .hub t.dev).waiting)) ∧
    (∀ n v, n < 256 → n % 4 = 1 ∨ n % 4 = 2 →
      Completes (.registerWrite (0x40000 + 4 * n) 4 v .host) s (fun t => t.dev.regs = s.dev.regs ∧
        Completes (.registerRead (0x40000 + 4 * n) 4) t (fun u => u.dev.out = t.dev.out ++ [.readDone (0x40000 + 4 * n) v]))) ∧
    (∀ n v by_, 256 ≤ n → n < 4096 → exec (.registerWrite (0x40000 + 4 * n) 4 v by_) s = .next s) ∧
    (∃ v : Word, exec (.registerRead 0x44000 4) s = .next { s with dev := { s.dev with out := s.dev.out ++ [.readDone 0x44000 v] } } ∧
      v = match s.dev.chip.variant with | .yn2 => 0x59021F3C | .yn4 => 0x59041F3C | .yn8 => 0x59081F3C) ∧
    exec (.registerRead 0x44008 4) s = .next { s with dev := { s.dev with out := s.dev.out ++ [.readDone 0x44008 0x11800011] } } ∧
    (∃ v : Word, exec (.registerRead 0 4) s = .next { s with dev := { s.dev with out := s.dev.out ++ [.readDone 0 v] } } ∧
      v = match s.dev.chip.variant with | .yn2 => 0x59021F3C | .yn4 => 0x59041F3C | .yn8 => 0x59081F3C) ∧
    (∀ c v, c < 4 → s.dev.pwr.state ≠ .restricted →
      Delivers (.registerWrite (R.CAN_SUM_TPL c).off 4 v .host) s (fun t => rget (R.CAN_SUM_TPL c) t.dev = v ∧
        ∀ off dflt, off ≠ (R.CAN_SUM_TPL c).off → kget t.dev.regs off dflt = kget s.dev.regs off dflt)) ∧
    (∀ v : Word, ∀ c ∈ [(1, Instr.safe), (2, .safeClear), (3, .park), (4, .restart), (5, .selftest)], v.toNat % 256 = c.1 →
      exec (.registerWrite R.PWR_CMD.off 4 v .host) s = exec c.2 s)

/-! ### The block as a whole -/

/-- A step of a state with a command in front is exec of that command on the state with the queue's rest; on an empty queue one tick of package time
passes (log entry 6, the model's choice: the commands take no time of their own). -/
def Obligations.StepTakesTheFrontCommand : Prop :=
  (∀ (s : State) (c : Instr) (rest : List Instr), s.pending = c :: rest → step s = exec c { s with pending := rest }) ∧
  (∀ s : State, s.pending = [] → step s = .next { s with dev := tickDev s.dev })

/-- Every command whose operands pass the checks of WellFormed completes, whatever the state. No command puts a command into the queue or takes one out, so as many steps as commands wait empty it; and the commands that are no reset, no table
staging, no firmware ring operation and no register write leave every byte of both memories as it was. -/
def Obligations.CommandsKeepQueueAndMemory : Prop :=
  (∀ (c : Instr) (s t : State), exec c s = .next t → t.pending = s.pending) ∧
  (∀ (c : Instr) (s : State), c.check = [] → ∃ t, exec c s = .next t ∧ t.pending = s.pending) ∧
  (∀ s t : State, RunsTo s.pending.length s t → t.pending = []) ∧
  (∀ (c : Instr) (s t : State), touchesMemory c = false → exec c s = .next t →
    ∀ a, memRead t.mem.staging a = memRead s.mem.staging a ∧ memRead t.mem.fwSet a = memRead s.mem.fwSet a)

/-- R145, R117: every step keeps both byte memories in canonical form: addresses strictly rising, no entry equal to what an unlisted address reads as. -/
def Obligations.StepsKeepMemoryCanonical : Prop :=
  ∀ s t : State, s.memOk → step s = .next t → t.memOk

/-- R51, R85, R543: the state after reset: COLD, PT 0, nothing waiting, memories empty and canonical, PWR_CAUSE.RESET naming the power-on, every other
register but LOG_PCYC and HLT_PKG at its reset value, no ring started, no controller on the bus, outputs disarmed. The two words beside
PWR_CAUSE are the model's choice (log entry 4). -/
def Obligations.ResetState : Prop :=
  State.reset.memOk ∧ State.reset.pending = [] ∧ State.reset.mem = {} ∧ State.reset.dev.pwr.state = .cold ∧ State.reset.dev.pt = 0 ∧
  getF F.PWR_CAUSE.RESET State.reset.dev = 1 ∧ getF F.PWR_CAUSE.SAFE State.reset.dev = 0 ∧ isArmed State.reset.dev = false ∧
  (∀ off dflt, off ≠ R.PWR_CAUSE.off → off ≠ R.LOG_PCYC.off → off ≠ R.HLT_PKG.off → kget State.reset.dev.regs off dflt = dflt) ∧
  (∀ i, i < 32 → ringState i State.reset.dev = .stopped ∧ getRing i State.reset.dev = {}) ∧
  (∀ c, c < 4 → canState c State.reset.dev = 3) ∧ State.reset.dev.out = []

/-- R1, R12: a command about a spoke that the variant lacks finds nothing there to act on (log entry 112); one about a channel, cassette, pair, loop, ring or
controller beyond those any part has faults by name and nothing acts; a clear of a health instance the part lacks does nothing (log entry 147). -/
def Obligations.AbsentUnitsFault : Prop :=
  (∀ (s : State) (k : Nat), hasSpoke k s.dev = false →
    ∀ n h e f cmd side x i l o v samples db m, n < 2 → ∀ c ∈ [Instr.spokeLinkTrained k, .spokeTrainTimeout k, .spokeLoaded k,
        .spokeDeclaresLinkLost k, .linkLost k, .retrainingDone k, .retrainTimeout k, .resume k h, .ackTimeout k side, .nak k side h, .frameBadCrc k side,
        .idle k side h, .sched k h e, .feed k h f, .cmd k h cmd, .data k side h x, .int k h i l, .resp k h o v, .entryStart k n, .entryEnd k n,
        .windowStart k n, .windowEnd k n, .peakIReached k n, .boostTmaxExpiry k n, .peakTExpiry k n, .overcurrent k n, .endOfTravel k n samples, .boostFailure k,
        .loopTrigger k n, .sampleComputed k n, .periodStart k n, .referenceEdge k n, .trip k n, .clear k n, .pulseEdge k n v.toNat, .spiPoll k n,
        .notchRelease k n db m, .pullInTimeout k n],
      exec c s = .next s) ∧
  (∀ (s : State) (k n : Nat), hasSpoke k s.dev = true →
    (64 ≤ n → ∀ c ∈ [Instr.entryStart k n, .entryEnd k n, .windowStart k n, .windowEnd k n, .peakIReached k n, .boostTmaxExpiry k n,
        .peakTExpiry k n, .overcurrent k n], exec c s = .fault (.absentUnit n)) ∧
    (64 ≤ n → ∀ samples emf, exec (.endOfTravel k n samples) s = .fault (.absentUnit n) ∧ exec (.decayKink k n emf) s = .fault (.absentUnit n)) ∧
    (24 ≤ n → ∀ c ∈ [Instr.loopTrigger k n, .sampleComputed k n, .pullInTimeout k n], exec c s = .fault (.absentUnit n)) ∧
    (12 ≤ n → ∀ c ∈ [Instr.periodStart k n, .referenceEdge k n, .clear k n], exec c s = .fault (.absentUnit n))) ∧
  (∀ (s : State) (i : Nat), 32 ≤ i → ∀ c ∈ [Instr.nop i, .arm i, .disarm i, .pose i, .tableLoad i, .tableCommit i, .canSend i, .logRead i,
      .fwBegin i, .sbRole i, .tdmAttach i, .ringStart i, .ringStop i, .ringReset i, .ringStopped i, .moderationTimer i],
    exec c s = .fault (.absentUnit i)) ∧
  (∀ (s : State) (n : Nat), 4 ≤ n → ∀ c ∈ [Instr.canEnable n, .canDisable n, .haltClear n, .arbitration n, .recover n, .summaryPeriod n],
    exec c s = .fault (.absentUnit n)) ∧
  (∀ (s : State) (cls i : Nat), cls = 8 ∨ (10 ≤ cls ∧ cls ≤ 18) → hasInst cls i s.dev = false → exec (.hltClear cls i) s = .next s)

/-! ### Frames -/

/-- The frame of the commands that act on one spoke: where the command answers a next state, the parts of the device it is not listed with are as they were.
Commands of the inputs, the loops' triggers, the bridges' edges, the boost clamp and the GNSS channels change registers of their spoke's window and
the state of their spoke only; the phases of an opening may report by FEED; channel faults may report to health and logbook. -/
def Obligations.FramesOfSpokeCommands : Prop :=
  ∀ (s : State) (k n m : Nat) (i : Int) (b : Bool) (q : Nat) (ppm : Option Int) (bytes : List Byte) (ms : List Nat) (fail : Nat),
    (∀ c ∈ [Instr.triggerTimeout k n, .sclkCheck k ppm, .notchLock k n i m, .notchRelease k n i m, .chopThreshold k n b, .pulseEdge k n m,
        .bootstrapRefresh k n, .referenceEdge k n, .sidePeakShift k n b m q fail, .clampEvent k n, .conversionDone k n m, .encoderEdge k n m q,
        .spiFrameDone k n bytes, .deadTimeEnd k n, .acquisitionDetection k n m i, .lockAchieved k n i, .pullInTimeout k n, .lossOfLock k n i m q fail],
      ChangesOnly [.regs, .spokes] c s ∧ KeepsOtherSpokes k c s) ∧
    (∀ c ∈ [Instr.chopThreshold k n b, .pulseEdge k n m, .bootstrapRefresh k n, .sidePeakShift k n b m q fail],
      ChangesOnly [.spokes] c s) ∧
    (∀ c ∈ [Instr.slipLimitExpiry k n, .peakIReached k n, .boostTmaxExpiry k n, .endOfTravel k n ms, .decayKink k n ms, .offWinExpiry k n, .chopPeriod k n],
      ChangesOnly [.free, .regs, .links, .spokes] c s) ∧
    (∀ c ∈ [Instr.windowEnd k n, .peakTExpiry k n, .openLoadOn k n, .openLoadOff k n b, .shortToBattery k n, .shortToGround k n, .overcurrent k n,
        .overtemperature k n, .highSideOvercurrent k n, .boostFailure k, .casOverload k n ms, .outOfSupply k b],
      ChangesOnly [.free, .regs, .links, .log, .health, .spokes] c s) ∧
    ChangesOnly [.out, .spokes] (.spiPoll k n) s ∧ ChangesOnly [.regs, .health, .spokes] (.nodeCrossing k n m) s ∧
    (∀ c ∈ [Instr.dtMaxExpiry k n, .channelDisabledClear k n, .cassetteDisabledClear k n], ChangesOnly [.regs, .health, .spokes] c s) ∧
    (∀ c ∈ [Instr.recovered k n, .overtempCooled k n, .retryEnd k n, .supplyRecovery k b], ChangesOnly [.free, .regs, .links, .spokes] c s) ∧
    ChangesOnly [.free, .regs, .spokes] (.midPeriodUpdate k n) s ∧ ChangesOnly [.regs, .spokes] (.pwmEnable k n b) s ∧
    ChangesOnly [.regs, .health, .spokes] (.clear k n) s ∧ ChangesOnly [.regs, .log, .health, .spokes] (.trip k n) s ∧
    ChangesOnly [.free, .regs, .links, .log, .health, .spokes] (.windowStart k n) s ∧
    ChangesOnly [.free, .regs, .log, .health, .spokes] (.periodStart k n) s ∧
    ChangesOnly [.free, .regs, .pwr, .links, .log, .health, .spokes] (.powerGoodLoss k) s ∧
    ChangesOnly [.free, .regs, .out, .links, .pcie, .host, .log, .health, .spokes] (.entryStart k n) s ∧
    ChangesOnly [.free, .regs, .out, .links, .pcie, .host, .log, .health, .spokes] (.entryEnd k n) s ∧
    ChangesOnly [.regs, .pwr, .spokes] (.railAtTarget k m) s ∧
    ChangesOnly [.regs, .pwr, .log, .spokes] (.prechargeTimeout k m) s ∧
    ChangesOnly [.regs, .pwr, .links] (.spokeLinkTrained k) s ∧
    ChangesOnly [.free, .regs] (.agcUpdate k n m) s ∧
    ChangesOnly [.regs, .log, .health] (.derateCheck k ms) s

/-- The frame of the commands of the hub: links, controllers, logbook, health, interrupts and the engine's timers change the parts of the device
listed with them and no other. -/
def Obligations.FramesOfHubCommands : Prop :=
  (∀ (s : State) (a b c : Nat) (e n : Int) (h : LinkHdr) (w : Word) (on : Bool) (side : Side) (ev : LogEvt) (x : Agent) (ms : DieMeas) (echo : Option Nat) (found : LbFound) (act : CoreAct) (steps : IsoSteps),
     (∀ i ∈ [Instr.lanePowerUp, .wbIdle e n, .wbMaxAge e n], ChangesOnly [.eng] i s) ∧ ChangesOnly [.free, .eng] (.markHoldExpiry e n) s ∧
     (∀ i ∈ [Instr.idle a side h, .ptadj a h b on], ChangesOnly [.links] i s) ∧ ChangesOnly [.regs, .links] (.frameBadCrc a side) s ∧
     ChangesOnly [.out, .links] (.resp a h b w) s ∧ ChangesOnly [.pt, .links, .time] .ptAdjustment s ∧
     (∀ i ∈ [Instr.park, .selftest], ChangesOnly [.regs, .pwr] i s) ∧ (∀ i ∈ [Instr.supplyTimeout, .supplyRetry], ChangesOnly [.pins, .pwr] i s) ∧
     ChangesOnly [.pwr] .aoClockFail s ∧
     (∀ i ∈ [Instr.busIntegration a, .arbitration a, .busOffRecovery a, .recover a, .summaryPeriod a], ChangesOnly [.can] i s) ∧
     (∀ i ∈ [Instr.canEnable a, .protocolException a, .filterWord2Write a b w, .haltClear a], ChangesOnly [.regs, .can] i s) ∧
     (∀ i ∈ [Instr.conflictEnd, .posePartsTimeout], ChangesOnly [.regs, .sox] i s) ∧
     (∀ i ∈ [Instr.cadenceSend, .edgeKeepalive a, .stateKeepalive, .probeFrameSend], ChangesOnly [.free, .can, .sox] i s) ∧
     (∀ i ∈ [Instr.logbookEvent ev, .recordStored, .scanDone, .freezeTimeout, .erase a, .eraseDone, .colophonSave], ChangesOnly [.regs, .log] i s) ∧
     (∀ i ∈ [Instr.leakTimerExpiry a b, .hltClear a b, .marginApply], ChangesOnly [.regs, .health] i s) ∧
     ChangesOnly [.free, .regs, .pwr, .health] (.monitorMeasurement a ms) s ∧ ChangesOnly [.tdm] .heartbeatPulse s ∧
     ChangesOnly [.hic, .sic] (.interruptTake a b act) s ∧ ChangesOnly [.regs, .hic, .sic] (.eoi a b x on) s ∧
     (∀ i ∈ [Instr.nudgeRaise a b c x, .nudgeLower a b c x, .pendingWordWrite a b w w x, .configurationWrite a b w x],
       ChangesOnly [.regs, .out, .links, .pcie, .hic, .sic] i s) ∧
     ChangesOnly [.free, .links] (.ptsync a side h b echo) s ∧
     ChangesOnly [.regs, .out, .links, .pcie, .hic, .sic] (.int a h b on) s ∧
     ChangesOnly [.regs, .log, .eng] (.missGraceExpiry a) s ∧
     ChangesOnly [.out, .eng] .decisionReport s ∧
     ChangesOnly [.regs, .out, .pcie, .host, .eng] .tableChecksDone s ∧
     ChangesOnly [.regs, .out, .pcie, .host, .time] .epochRecord s ∧
     ChangesOnly [.free, .regs, .pins, .time] .slewDone s ∧
     ChangesOnly [.regs, .out, .pcie, .host, .can] (.canDisable a) s ∧
     ChangesOnly [.regs, .log, .health, .can] (.receiveError a b on steps) s ∧
     ChangesOnly [.regs, .out, .pcie, .host, .can, .sox] (.arbitrationLost a) s ∧
     (∀ i ∈ [Instr.plannerLost, .followerLost a, .probeWindowEnd],
       ChangesOnly [.regs, .out, .pcie, .host, .log, .health, .sox] i s) ∧
     ChangesOnly [.free, .regs, .out, .pcie, .host, .log, .health, .time, .sox] .leaderLost s ∧
     ChangesOnly [.free, .regs, .pins, .log] (.powerFailWarning on) s ∧
     ChangesOnly [.free, .regs, .out, .pcie, .host, .log, .health] .replan s ∧
     (∀ i ∈ [Instr.loopbackStart w, .loopbackStop],
       ChangesOnly [.free, .regs, .out, .links, .can, .lb] i s) ∧
     ChangesOnly [.free, .regs, .links, .can, .lb] (.loopbackDone found) s) ∧
  (∀ (s : State) (e f : Int) (a b k m : Nat) (r : ReadResult) (good last : Bool) (at_ : TdmAttach) (items : List XferItem) (evs : List TdmFeed)
      (loops : List TdmLoop),
      (∀ i ∈ [Instr.tileWriteBack e f, .casCompletion r],
        ChangesOnly [.regs, .out, .pcie, .host, .log, .eng, .tdm] i s) ∧
      ChangesOnly [.regs, .out, .pcie, .host, .log, .eng] (.invalidateTimeout e f) s ∧
      (∀ i ∈ [Instr.xferResend, .attachFrameSend], ChangesOnly [.free, .out, .tdm] i s) ∧
      ChangesOnly [.out, .pcie, .host, .tdm] .yieldTimeout s ∧
      (∀ i ∈ [Instr.attachTimeout, .tandemLinkDown, .tandemLinkDownTimeout],
        ChangesOnly [.regs, .out, .pcie, .host, .tdm] i s) ∧
      ChangesOnly [.regs, .out, .pcie, .host, .log, .tdm] (.quietTimeout k) s ∧
      ChangesOnly [.free, .regs, .out, .pcie, .host, .log, .health, .tdm] (.heartbeat good a b k m) s ∧
      (∀ i ∈ [Instr.partnerPeriodEnd, .digest good a b, .yield_ good a b, .attach good at_, .xfer good a last items, .detach good a],
        ChangesOnly [.regs, .out, .pcie, .host, .log, .health, .tdm] i s) ∧
      ChangesOnly [.free, .regs, .out, .pcie, .host, .log, .health, .tdm] (.xferAck good a) s ∧
      (∀ i ∈ [Instr.wbdone good e f a, .tandemFeed good evs],
        ChangesOnly [.regs, .out, .pcie, .host, .log, .health, .eng, .tdm] i s) ∧
      ChangesOnly [.regs, .out, .pcie, .host, .log, .health, .spokes, .tdm] (.loopstate good loops) s)

/-- The frame of the ring operations: an opcode changes its ring, what it issues at the boundary and the unit it names, and no other part of the device. -/
def Obligations.FramesOfRingOperations : Prop :=
  ∀ (s : State) (i m : Nat) (r : ReadResult) (chg : MsixChange) (w : Word) (on : Bool),
    (∀ c ∈ [Instr.tileRequest i, .wbBuffer i, .gnssBuffer i], ChangesOnly [.host] c s) ∧
    (∀ c ∈ [Instr.rateTable i, .tileInvalidate i, .proof i], ChangesOnly [.host, .eng] c s) ∧
    (∀ c ∈ [Instr.loopSetpoint i, .loopMode i, .loopCoeff i], ChangesOnly [.links, .host] c s) ∧
    ChangesOnly [.free, .out, .pcie, .host] (.logRead i) s ∧
    (∀ c ∈ [Instr.nop i, .fwBegin i, .fwChunk i, .moderationTimer i], ChangesOnly [.out, .pcie, .host] c s) ∧
    (∀ c ∈ [Instr.tableCommit i, .fieldSet i, .tilePush i, .outletForce i], ChangesOnly [.out, .pcie, .host, .eng] c s) ∧
    ChangesOnly [.regs, .out, .pcie, .host, .log] (.logFreeze i) s ∧ ChangesOnly [.out, .pcie, .host, .log] (.logRelease i) s ∧
    (∀ c ∈ [Instr.arm i, .disarm i], ChangesOnly [.regs, .out, .pwr, .pcie, .host] c s) ∧
    (∀ c ∈ [Instr.canSend i, .canAbort i, .canBuffer i], ChangesOnly [.regs, .out, .pcie, .host, .can] c s) ∧
    (∀ c ∈ [Instr.healthBuffer i, .healthNow i], ChangesOnly [.regs, .out, .pcie, .host, .health] c s) ∧
    (∀ c ∈ [Instr.tdmDetach i, .tdmYield i, .tdmBuffer i], ChangesOnly [.regs, .out, .pcie, .host, .tdm] c s) ∧
    (∀ c ∈ [Instr.sbRole i, .sbProbe i, .sbBuffer i], ChangesOnly [.free, .regs, .out, .pcie, .host, .can, .sox] c s) ∧
    ChangesOnly [.regs, .out, .pcie, .host] (.tableLoad i) s ∧ ChangesOnly [.regs] (.ringStopped i) s ∧
    ChangesOnly [.regs, .out, .host] (.ringStart i) s ∧
    ChangesOnly [.regs, .out, .pcie, .host, .can] (.ringStop i) s ∧
    ChangesOnly [.regs, .out, .pcie, .host, .log] (.bufferReadDone i m r) s ∧
    ChangesOnly [.out, .pcie, .host] (.loopCommandTimeout i m) s ∧
    ChangesOnly [.out, .pcie] (.msixUnmask chg) s ∧ ChangesOnly [.out, .pcie, .host] .d0Entry s ∧
    ChangesOnly [.regs, .pcie, .eng] (.hifCfgWrite w on) s ∧
    ChangesOnly [.free, .regs, .out, .pcie, .host, .tdm] (.tdmAttach i) s
end

