-- ==== Sys2Proof/Laws/Exec.lean ====
section
/-! SUPPORT. What `exec` is for each command: the meaning of that command. -/
namespace Sys2Proof.Machine
open Sys2Proof

@[simp] theorem exec_powerOnReset (s : State) :
  exec (.powerOnReset) s = execPowerOnReset s := rfl
@[simp] theorem exec_externalReset (level : Bool) (s : State) :
  exec (.externalReset level) s = execExternalReset level s := rfl
@[simp] theorem exec_watchdog (s : State) :
  exec (.watchdog) s = execWatchdog s := rfl
@[simp] theorem exec_pcieReset (down : Bool) (s : State) :
  exec (.pcieReset down) s = execPcieReset down s := rfl
@[simp] theorem exec_d3hot (s : State) :
  exec (.d3hot) s = execD3hot s := rfl
@[simp] theorem exec_suppliesGood (s : State) :
  exec (.suppliesGood) s = execSuppliesGood s := rfl
@[simp] theorem exec_supplyTimeout (s : State) :
  exec (.supplyTimeout) s = execSupplyTimeout s := rfl
@[simp] theorem exec_supplyRetry (s : State) :
  exec (.supplyRetry) s = execSupplyRetry s := rfl
@[simp] theorem exec_pllLocked (s : State) :
  exec (.pllLocked) s = execPllLocked s := rfl
@[simp] theorem exec_flashDescriptorRead (seqA seqB : Nat) (s : State) :
  exec (.flashDescriptorRead seqA seqB) s = execFlashDescriptorRead seqA seqB s := rfl
@[simp] theorem exec_imageSetAuthenticated (setA setB : FlashSet) (s : State) :
  exec (.imageSetAuthenticated setA setB) s = execImageSetAuthenticated setA setB s := rfl
@[simp] theorem exec_spokePowerSwitch (s : State) :
  exec (.spokePowerSwitch) s = execSpokePowerSwitch s := rfl
@[simp] theorem exec_spokeLinkTrained (spoke : Nat) (s : State) :
  exec (.spokeLinkTrained spoke) s = execSpokeLinkTrained spoke s := rfl
@[simp] theorem exec_spokeTrainTimeout (spoke : Nat) (s : State) :
  exec (.spokeTrainTimeout spoke) s = execSpokeTrainTimeout spoke s := rfl
@[simp] theorem exec_spokeLoaded (spoke : Nat) (s : State) :
  exec (.spokeLoaded spoke) s = execSpokeLoaded spoke s := rfl
@[simp] theorem exec_railAtTarget (spoke rail : Nat) (s : State) :
  exec (.railAtTarget spoke rail) s = execRailAtTarget spoke rail s := rfl
@[simp] theorem exec_prechargeTimeout (spoke rail : Nat) (s : State) :
  exec (.prechargeTimeout spoke rail) s = execPrechargeTimeout spoke rail s := rfl
@[simp] theorem exec_selftestDone (loads : List (Nat × List RefMeas)) (spokes : List (Nat × Nat)) (device : Option Nat) (s : State) :
  exec (.selftestDone loads spokes device) s = execSelftestDone loads spokes device s := rfl
@[simp] theorem exec_refclkFail (deviation : Int) (s : State) :
  exec (.refclkFail deviation) s = execRefclkFail deviation s := rfl
@[simp] theorem exec_thermal (die : Nat) (temp : Int) (s : State) :
  exec (.thermal die temp) s = execThermal die temp s := rfl
@[simp] theorem exec_hubFault (s : State) :
  exec (.hubFault) s = execHubFault s := rfl
@[simp] theorem exec_safe (s : State) :
  exec (.safe) s = execSafe s := rfl
@[simp] theorem exec_safeClear (s : State) :
  exec (.safeClear) s = execSafeClear s := rfl
@[simp] theorem exec_park (s : State) :
  exec (.park) s = execPark s := rfl
@[simp] theorem exec_autoPark (s : State) :
  exec (.autoPark) s = execAutoPark s := rfl
@[simp] theorem exec_parked (s : State) :
  exec (.parked) s = execParked s := rfl
@[simp] theorem exec_restart (s : State) :
  exec (.restart) s = execRestart s := rfl
@[simp] theorem exec_selftest (s : State) :
  exec (.selftest) s = execSelftest s := rfl
@[simp] theorem exec_spokeReset (spoke : Nat) (s : State) :
  exec (.spokeReset spoke) s = execSpokeReset spoke s := rfl
@[simp] theorem exec_wake (saving : Bool) (s : State) :
  exec (.wake saving) s = execWake saving s := rfl
@[simp] theorem exec_parkTimerExpiry (saving : Bool) (s : State) :
  exec (.parkTimerExpiry saving) s = execParkTimerExpiry saving s := rfl
@[simp] theorem exec_heartbeatWake (saving : Bool) (s : State) :
  exec (.heartbeatWake saving) s = execHeartbeatWake saving s := rfl
@[simp] theorem exec_wakeDelayDone (s : State) :
  exec (.wakeDelayDone) s = execWakeDelayDone s := rfl
@[simp] theorem exec_idnHostAbi (value : Word) (s : State) :
  exec (.idnHostAbi value) s = execIdnHostAbi value s := rfl
@[simp] theorem exec_armBallLow (s : State) :
  exec (.armBallLow) s = execArmBallLow s := rfl
@[simp] theorem exec_spokeDeclaresLinkLost (spoke : Nat) (s : State) :
  exec (.spokeDeclaresLinkLost spoke) s = execSpokeDeclaresLinkLost spoke s := rfl
@[simp] theorem exec_linkLost (spoke : Nat) (s : State) :
  exec (.linkLost spoke) s = execLinkLost spoke s := rfl
@[simp] theorem exec_ackTimeout (spoke : Nat) (side : Side) (s : State) :
  exec (.ackTimeout spoke side) s = execAckTimeout spoke side s := rfl
@[simp] theorem exec_retrainingDone (spoke : Nat) (s : State) :
  exec (.retrainingDone spoke) s = execRetrainingDone spoke s := rfl
@[simp] theorem exec_retrainTimeout (spoke : Nat) (s : State) :
  exec (.retrainTimeout spoke) s = execRetrainTimeout spoke s := rfl
@[simp] theorem exec_resume (spoke : Nat) (hdr : LinkHdr) (s : State) :
  exec (.resume spoke hdr) s = execResume spoke hdr s := rfl
@[simp] theorem exec_nak (spoke : Nat) (side : Side) (hdr : LinkHdr) (s : State) :
  exec (.nak spoke side hdr) s = execNak spoke side hdr s := rfl
@[simp] theorem exec_frameBadCrc (spoke : Nat) (side : Side) (s : State) :
  exec (.frameBadCrc spoke side) s = execFrameBadCrc spoke side s := rfl
@[simp] theorem exec_idle (spoke : Nat) (side : Side) (hdr : LinkHdr) (s : State) :
  exec (.idle spoke side hdr) s = execIdle spoke side hdr s := rfl
@[simp] theorem exec_ptsync (spoke : Nat) (side : Side) (hdr : LinkHdr) (sent : Nat) (echo : Option Nat) (s : State) :
  exec (.ptsync spoke side hdr sent echo) s = execPtsync spoke side hdr sent echo s := rfl
@[simp] theorem exec_ptadj (spoke : Nat) (hdr : LinkHdr) (eff : Nat) (plus : Bool) (s : State) :
  exec (.ptadj spoke hdr eff plus) s = execPtadj spoke hdr eff plus s := rfl
@[simp] theorem exec_ptAdjustment (s : State) :
  exec (.ptAdjustment) s = execPtAdjustment s := rfl
@[simp] theorem exec_ptCheck (spoke : Nat) (offset : Int) (s : State) :
  exec (.ptCheck spoke offset) s = execPtCheck spoke offset s := rfl
@[simp] theorem exec_sched (spoke : Nat) (hdr : LinkHdr) (entry : SchedP) (s : State) :
  exec (.sched spoke hdr entry) s = execSched spoke hdr entry s := rfl
@[simp] theorem exec_feed (spoke : Nat) (hdr : LinkHdr) (event : FeedP) (s : State) :
  exec (.feed spoke hdr event) s = execFeed spoke hdr event s := rfl
@[simp] theorem exec_int (spoke : Nat) (hdr : LinkHdr) (slot : Nat) (level : Bool) (s : State) :
  exec (.int spoke hdr slot level) s = execInt spoke hdr slot level s := rfl
@[simp] theorem exec_cmd (spoke : Nat) (hdr : LinkHdr) (cmd : CmdP) (s : State) :
  exec (.cmd spoke hdr cmd) s = execCmd spoke hdr cmd s := rfl
@[simp] theorem exec_resp (spoke : Nat) (hdr : LinkHdr) (off : Nat) (value : Word) (s : State) :
  exec (.resp spoke hdr off value) s = execResp spoke hdr off value s := rfl
@[simp] theorem exec_data (spoke : Nat) (side : Side) (hdr : LinkHdr) (data : DataP) (s : State) :
  exec (.data spoke side hdr data) s = execData spoke side hdr data s := rfl
@[simp] theorem exec_lanePowerUp (s : State) :
  exec (.lanePowerUp) s = execLanePowerUp s := rfl
@[simp] theorem exec_geometryCycleStart (s : State) :
  exec (.geometryCycleStart) s = execGeometryCycleStart s := rfl
@[simp] theorem exec_cycleEvaluationDone (s : State) :
  exec (.cycleEvaluationDone) s = execCycleEvaluationDone s := rfl
@[simp] theorem exec_missGraceExpiry (outlet : Nat) (s : State) :
  exec (.missGraceExpiry outlet) s = execMissGraceExpiry outlet s := rfl
@[simp] theorem exec_prefetchWalk (s : State) :
  exec (.prefetchWalk) s = execPrefetchWalk s := rfl
@[simp] theorem exec_decisionReport (s : State) :
  exec (.decisionReport) s = execDecisionReport s := rfl
@[simp] theorem exec_markHoldExpiry (tileE tileN : Int) (s : State) :
  exec (.markHoldExpiry tileE tileN) s = execMarkHoldExpiry tileE tileN s := rfl
@[simp] theorem exec_wbIdle (tileE tileN : Int) (s : State) :
  exec (.wbIdle tileE tileN) s = execWbIdle tileE tileN s := rfl
@[simp] theorem exec_wbMaxAge (tileE tileN : Int) (s : State) :
  exec (.wbMaxAge tileE tileN) s = execWbMaxAge tileE tileN s := rfl
@[simp] theorem exec_tileWriteBack (tileE tileN : Int) (s : State) :
  exec (.tileWriteBack tileE tileN) s = execTileWriteBack tileE tileN s := rfl
@[simp] theorem exec_casCompletion (result : ReadResult) (s : State) :
  exec (.casCompletion result) s = execCasCompletion result s := rfl
@[simp] theorem exec_invalidateTimeout (tileE tileN : Int) (s : State) :
  exec (.invalidateTimeout tileE tileN) s = execInvalidateTimeout tileE tileN s := rfl
@[simp] theorem exec_doorbellPoll (s : State) :
  exec (.doorbellPoll) s = execDoorbellPoll s := rfl
@[simp] theorem exec_doorbellReadComplete (result : ReadResult) (s : State) :
  exec (.doorbellReadComplete result) s = execDoorbellReadComplete result s := rfl
@[simp] theorem exec_descriptorArrival (ring : Nat) (result : ReadResult) (s : State) :
  exec (.descriptorArrival ring result) s = execDescriptorArrival ring result s := rfl
@[simp] theorem exec_bufferReadDone (ring index : Nat) (result : ReadResult) (s : State) :
  exec (.bufferReadDone ring index result) s = execBufferReadDone ring index result s := rfl
@[simp] theorem exec_moderationTimer (ring : Nat) (s : State) :
  exec (.moderationTimer ring) s = execModerationTimer ring s := rfl
@[simp] theorem exec_msixUnmask (change : MsixChange) (s : State) :
  exec (.msixUnmask change) s = execMsixUnmask change s := rfl
@[simp] theorem exec_ringStart (ring : Nat) (s : State) :
  exec (.ringStart ring) s = execRingStart ring s := rfl
@[simp] theorem exec_ringStop (ring : Nat) (s : State) :
  exec (.ringStop ring) s = execRingStop ring s := rfl
@[simp] theorem exec_ringStopped (ring : Nat) (s : State) :
  exec (.ringStopped ring) s = execRingStopped ring s := rfl
@[simp] theorem exec_ringReset (ring : Nat) (s : State) :
  exec (.ringReset ring) s = execRingReset ring s := rfl
@[simp] theorem exec_hifCfgWrite (value : Word) (requester : Bool) (s : State) :
  exec (.hifCfgWrite value requester) s = execHifCfgWrite value requester s := rfl
@[simp] theorem exec_nop (ring : Nat) (s : State) :
  exec (.nop ring) s = execNop ring s := rfl
@[simp] theorem exec_pose (ring : Nat) (s : State) :
  exec (.pose ring) s = execPose ring s := rfl
@[simp] theorem exec_timeCorr (ring : Nat) (s : State) :
  exec (.timeCorr ring) s = execTimeCorr ring s := rfl
@[simp] theorem exec_tableLoad (ring : Nat) (s : State) :
  exec (.tableLoad ring) s = execTableLoad ring s := rfl
@[simp] theorem exec_tableCommit (ring : Nat) (s : State) :
  exec (.tableCommit ring) s = execTableCommit ring s := rfl
@[simp] theorem exec_tableChecksDone (s : State) :
  exec (.tableChecksDone) s = execTableChecksDone s := rfl
@[simp] theorem exec_fieldSet (ring : Nat) (s : State) :
  exec (.fieldSet ring) s = execFieldSet ring s := rfl
@[simp] theorem exec_rateTable (ring : Nat) (s : State) :
  exec (.rateTable ring) s = execRateTable ring s := rfl
@[simp] theorem exec_tilePush (ring : Nat) (s : State) :
  exec (.tilePush ring) s = execTilePush ring s := rfl
@[simp] theorem exec_tileRequest (ring : Nat) (s : State) :
  exec (.tileRequest ring) s = execTileRequest ring s := rfl
@[simp] theorem exec_tileInvalidate (ring : Nat) (s : State) :
  exec (.tileInvalidate ring) s = execTileInvalidate ring s := rfl
@[simp] theorem exec_wbBuffer (ring : Nat) (s : State) :
  exec (.wbBuffer ring) s = execWbBuffer ring s := rfl
@[simp] theorem exec_arm (ring : Nat) (s : State) :
  exec (.arm ring) s = execArm ring s := rfl
@[simp] theorem exec_disarm (ring : Nat) (s : State) :
  exec (.disarm ring) s = execDisarm ring s := rfl
@[simp] theorem exec_proof (ring : Nat) (s : State) :
  exec (.proof ring) s = execProof ring s := rfl
@[simp] theorem exec_outletForce (ring : Nat) (s : State) :
  exec (.outletForce ring) s = execOutletForce ring s := rfl
@[simp] theorem exec_loopSetpoint (ring : Nat) (s : State) :
  exec (.loopSetpoint ring) s = execLoopSetpoint ring s := rfl
@[simp] theorem exec_loopMode (ring : Nat) (s : State) :
  exec (.loopMode ring) s = execLoopMode ring s := rfl
@[simp] theorem exec_loopCoeff (ring : Nat) (s : State) :
  exec (.loopCoeff ring) s = execLoopCoeff ring s := rfl
@[simp] theorem exec_loopCommandTimeout (ring index : Nat) (s : State) :
  exec (.loopCommandTimeout ring index) s = execLoopCommandTimeout ring index s := rfl
@[simp] theorem exec_gnssBuffer (ring : Nat) (s : State) :
  exec (.gnssBuffer ring) s = execGnssBuffer ring s := rfl
@[simp] theorem exec_canSend (ring : Nat) (s : State) :
  exec (.canSend ring) s = execCanSend ring s := rfl
@[simp] theorem exec_canAbort (ring : Nat) (s : State) :
  exec (.canAbort ring) s = execCanAbort ring s := rfl
@[simp] theorem exec_canBuffer (ring : Nat) (s : State) :
  exec (.canBuffer ring) s = execCanBuffer ring s := rfl
@[simp] theorem exec_logRead (ring : Nat) (s : State) :
  exec (.logRead ring) s = execLogRead ring s := rfl
@[simp] theorem exec_logFreeze (ring : Nat) (s : State) :
  exec (.logFreeze ring) s = execLogFreeze ring s := rfl
@[simp] theorem exec_logRelease (ring : Nat) (s : State) :
  exec (.logRelease ring) s = execLogRelease ring s := rfl
@[simp] theorem exec_fwBegin (ring : Nat) (s : State) :
  exec (.fwBegin ring) s = execFwBegin ring s := rfl
@[simp] theorem exec_fwChunk (ring : Nat) (s : State) :
  exec (.fwChunk ring) s = execFwChunk ring s := rfl
@[simp] theorem exec_fwCommit (ring : Nat) (defaults : List (Nat × Word)) (role : Option (List Byte)) (s : State) :
  exec (.fwCommit ring defaults role) s = execFwCommit ring defaults role s := rfl
@[simp] theorem exec_flashWriteDone (good : Bool) (s : State) :
  exec (.flashWriteDone good) s = execFlashWriteDone good s := rfl
@[simp] theorem exec_fwActivate (ring : Nat) (s : State) :
  exec (.fwActivate ring) s = execFwActivate ring s := rfl
@[simp] theorem exec_healthBuffer (ring : Nat) (s : State) :
  exec (.healthBuffer ring) s = execHealthBuffer ring s := rfl
@[simp] theorem exec_healthNow (ring : Nat) (s : State) :
  exec (.healthNow ring) s = execHealthNow ring s := rfl
@[simp] theorem exec_tdmAttach (ring : Nat) (s : State) :
  exec (.tdmAttach ring) s = execTdmAttach ring s := rfl
@[simp] theorem exec_tdmDetach (ring : Nat) (s : State) :
  exec (.tdmDetach ring) s = execTdmDetach ring s := rfl
@[simp] theorem exec_tdmYield (ring : Nat) (s : State) :
  exec (.tdmYield ring) s = execTdmYield ring s := rfl
@[simp] theorem exec_tdmBuffer (ring : Nat) (s : State) :
  exec (.tdmBuffer ring) s = execTdmBuffer ring s := rfl
@[simp] theorem exec_sbRole (ring : Nat) (s : State) :
  exec (.sbRole ring) s = execSbRole ring s := rfl
@[simp] theorem exec_sbProbe (ring : Nat) (s : State) :
  exec (.sbProbe ring) s = execSbProbe ring s := rfl
@[simp] theorem exec_sbBuffer (ring : Nat) (s : State) :
  exec (.sbBuffer ring) s = execSbBuffer ring s := rfl
@[simp] theorem exec_entryStart (spoke chan : Nat) (s : State) :
  exec (.entryStart spoke chan) s = execEntryStart spoke chan s := rfl
@[simp] theorem exec_entryEnd (spoke chan : Nat) (s : State) :
  exec (.entryEnd spoke chan) s = execEntryEnd spoke chan s := rfl
@[simp] theorem exec_windowStart (spoke chan : Nat) (s : State) :
  exec (.windowStart spoke chan) s = execWindowStart spoke chan s := rfl
@[simp] theorem exec_windowEnd (spoke chan : Nat) (s : State) :
  exec (.windowEnd spoke chan) s = execWindowEnd spoke chan s := rfl
@[simp] theorem exec_slipLimitExpiry (spoke chan : Nat) (s : State) :
  exec (.slipLimitExpiry spoke chan) s = execSlipLimitExpiry spoke chan s := rfl
@[simp] theorem exec_peakIReached (spoke chan : Nat) (s : State) :
  exec (.peakIReached spoke chan) s = execPeakIReached spoke chan s := rfl
@[simp] theorem exec_boostTmaxExpiry (spoke chan : Nat) (s : State) :
  exec (.boostTmaxExpiry spoke chan) s = execBoostTmaxExpiry spoke chan s := rfl
@[simp] theorem exec_peakTExpiry (spoke chan : Nat) (s : State) :
  exec (.peakTExpiry spoke chan) s = execPeakTExpiry spoke chan s := rfl
@[simp] theorem exec_chopThreshold (spoke chan : Nat) (above : Bool) (s : State) :
  exec (.chopThreshold spoke chan above) s = execChopThreshold spoke chan above s := rfl
@[simp] theorem exec_recovered (spoke chan : Nat) (s : State) :
  exec (.recovered spoke chan) s = execRecovered spoke chan s := rfl
@[simp] theorem exec_endOfTravel (spoke chan : Nat) (samples : List Nat) (s : State) :
  exec (.endOfTravel spoke chan samples) s = execEndOfTravel spoke chan samples s := rfl
@[simp] theorem exec_decayKink (spoke chan : Nat) (emf : List Nat) (s : State) :
  exec (.decayKink spoke chan emf) s = execDecayKink spoke chan emf s := rfl
@[simp] theorem exec_offWinExpiry (spoke chan : Nat) (s : State) :
  exec (.offWinExpiry spoke chan) s = execOffWinExpiry spoke chan s := rfl
@[simp] theorem exec_clampEvent (spoke rail : Nat) (s : State) :
  exec (.clampEvent spoke rail) s = execClampEvent spoke rail s := rfl
@[simp] theorem exec_openLoadOn (spoke chan : Nat) (s : State) :
  exec (.openLoadOn spoke chan) s = execOpenLoadOn spoke chan s := rfl
@[simp] theorem exec_openLoadOff (spoke chan : Nat) (found : Bool) (s : State) :
  exec (.openLoadOff spoke chan found) s = execOpenLoadOff spoke chan found s := rfl
@[simp] theorem exec_shortToBattery (spoke chan : Nat) (s : State) :
  exec (.shortToBattery spoke chan) s = execShortToBattery spoke chan s := rfl
@[simp] theorem exec_shortToGround (spoke chan : Nat) (s : State) :
  exec (.shortToGround spoke chan) s = execShortToGround spoke chan s := rfl
@[simp] theorem exec_overcurrent (spoke chan : Nat) (s : State) :
  exec (.overcurrent spoke chan) s = execOvercurrent spoke chan s := rfl
@[simp] theorem exec_overtemperature (spoke chan : Nat) (s : State) :
  exec (.overtemperature spoke chan) s = execOvertemperature spoke chan s := rfl
@[simp] theorem exec_overtempCooled (spoke chan : Nat) (s : State) :
  exec (.overtempCooled spoke chan) s = execOvertempCooled spoke chan s := rfl
@[simp] theorem exec_highSideOvercurrent (spoke cas : Nat) (s : State) :
  exec (.highSideOvercurrent spoke cas) s = execHighSideOvercurrent spoke cas s := rfl
@[simp] theorem exec_boostFailure (spoke : Nat) (s : State) :
  exec (.boostFailure spoke) s = execBoostFailure spoke s := rfl
@[simp] theorem exec_retryEnd (spoke chan : Nat) (s : State) :
  exec (.retryEnd spoke chan) s = execRetryEnd spoke chan s := rfl
@[simp] theorem exec_channelDisabledClear (spoke chan : Nat) (s : State) :
  exec (.channelDisabledClear spoke chan) s = execChannelDisabledClear spoke chan s := rfl
@[simp] theorem exec_cassetteDisabledClear (spoke cas : Nat) (s : State) :
  exec (.cassetteDisabledClear spoke cas) s = execCassetteDisabledClear spoke cas s := rfl
@[simp] theorem exec_casOverload (spoke cas : Nat) (means : List Nat) (s : State) :
  exec (.casOverload spoke cas means) s = execCasOverload spoke cas means s := rfl
@[simp] theorem exec_outOfSupply (spoke : Nat) (high : Bool) (s : State) :
  exec (.outOfSupply spoke high) s = execOutOfSupply spoke high s := rfl
@[simp] theorem exec_supplyRecovery (spoke : Nat) (high : Bool) (s : State) :
  exec (.supplyRecovery spoke high) s = execSupplyRecovery spoke high s := rfl
@[simp] theorem exec_loopTrigger (spoke loop : Nat) (s : State) :
  exec (.loopTrigger spoke loop) s = execLoopTrigger spoke loop s := rfl
@[simp] theorem exec_triggerTimeout (spoke loop : Nat) (s : State) :
  exec (.triggerTimeout spoke loop) s = execTriggerTimeout spoke loop s := rfl
@[simp] theorem exec_conversionDone (spoke ain code : Nat) (s : State) :
  exec (.conversionDone spoke ain code) s = execConversionDone spoke ain code s := rfl
@[simp] theorem exec_sampleComputed (spoke loop : Nat) (s : State) :
  exec (.sampleComputed spoke loop) s = execSampleComputed spoke loop s := rfl
@[simp] theorem exec_pulseEdge (spoke input width : Nat) (s : State) :
  exec (.pulseEdge spoke input width) s = execPulseEdge spoke input width s := rfl
@[simp] theorem exec_encoderEdge (spoke enc lines width : Nat) (s : State) :
  exec (.encoderEdge spoke enc lines width) s = execEncoderEdge spoke enc lines width s := rfl
@[simp] theorem exec_spiPoll (spoke port : Nat) (s : State) :
  exec (.spiPoll spoke port) s = execSpiPoll spoke port s := rfl
@[simp] theorem exec_spiFrameDone (spoke port : Nat) (bytes : List Byte) (s : State) :
  exec (.spiFrameDone spoke port bytes) s = execSpiFrameDone spoke port bytes s := rfl
@[simp] theorem exec_pwmEnable (spoke pair : Nat) (on : Bool) (s : State) :
  exec (.pwmEnable spoke pair on) s = execPwmEnable spoke pair on s := rfl
@[simp] theorem exec_periodStart (spoke pair : Nat) (s : State) :
  exec (.periodStart spoke pair) s = execPeriodStart spoke pair s := rfl
@[simp] theorem exec_midPeriodUpdate (spoke pair : Nat) (s : State) :
  exec (.midPeriodUpdate spoke pair) s = execMidPeriodUpdate spoke pair s := rfl
@[simp] theorem exec_compareMatch (spoke pair cmp : Nat) (s : State) :
  exec (.compareMatch spoke pair cmp) s = execCompareMatch spoke pair cmp s := rfl
@[simp] theorem exec_deadTimeEnd (spoke pair : Nat) (s : State) :
  exec (.deadTimeEnd spoke pair) s = execDeadTimeEnd spoke pair s := rfl
@[simp] theorem exec_nodeCrossing (spoke pair at_ : Nat) (s : State) :
  exec (.nodeCrossing spoke pair at_) s = execNodeCrossing spoke pair at_ s := rfl
@[simp] theorem exec_dtMaxExpiry (spoke pair : Nat) (s : State) :
  exec (.dtMaxExpiry spoke pair) s = execDtMaxExpiry spoke pair s := rfl
@[simp] theorem exec_bootstrapRefresh (spoke pair : Nat) (s : State) :
  exec (.bootstrapRefresh spoke pair) s = execBootstrapRefresh spoke pair s := rfl
@[simp] theorem exec_trip (spoke input : Nat) (s : State) :
  exec (.trip spoke input) s = execTrip spoke input s := rfl
@[simp] theorem exec_clear (spoke pair : Nat) (s : State) :
  exec (.clear spoke pair) s = execClear spoke pair s := rfl
@[simp] theorem exec_sclkCheck (spoke : Nat) (ppm : Option Int) (s : State) :
  exec (.sclkCheck spoke ppm) s = execSclkCheck spoke ppm s := rfl
@[simp] theorem exec_agcUpdate (spoke large total : Nat) (s : State) :
  exec (.agcUpdate spoke large total) s = execAgcUpdate spoke large total s := rfl
@[simp] theorem exec_acquisitionDetection (spoke sys prn : Nat) (doppler : Int) (s : State) :
  exec (.acquisitionDetection spoke sys prn doppler) s = execAcquisitionDetection spoke sys prn doppler s := rfl
@[simp] theorem exec_lockAchieved (spoke chan : Nat) (doppler : Int) (s : State) :
  exec (.lockAchieved spoke chan doppler) s = execLockAchieved spoke chan doppler s := rfl
@[simp] theorem exec_pullInTimeout (spoke chan : Nat) (s : State) :
  exec (.pullInTimeout spoke chan) s = execPullInTimeout spoke chan s := rfl
@[simp] theorem exec_lossOfLock (spoke chan : Nat) (doppler : Int) (cn0 low fail : Nat) (s : State) :
  exec (.lossOfLock spoke chan doppler cn0 low fail) s = execLossOfLock spoke chan doppler cn0 low fail s := rfl
@[simp] theorem exec_sidePeakShift (spoke chan : Nat) (late : Bool) (tap prompt lasting : Nat) (s : State) :
  exec (.sidePeakShift spoke chan late tap prompt lasting) s = execSidePeakShift spoke chan late tap prompt lasting s := rfl
@[simp] theorem exec_notchLock (spoke notch : Nat) (freq : Int) (db : Nat) (s : State) :
  exec (.notchLock spoke notch freq db) s = execNotchLock spoke notch freq db s := rfl
@[simp] theorem exec_notchRelease (spoke notch : Nat) (db : Int) (lasting : Nat) (s : State) :
  exec (.notchRelease spoke notch db lasting) s = execNotchRelease spoke notch db lasting s := rfl
@[simp] theorem exec_jiEvaluation (spoke : Nat) (level : Int) (s : State) :
  exec (.jiEvaluation spoke level) s = execJiEvaluation spoke level s := rfl
@[simp] theorem exec_epoch (meas : List (Nat × SpokeMeas)) (s : State) :
  exec (.epoch meas) s = execEpoch meas s := rfl
@[simp] theorem exec_epochRecord (s : State) :
  exec (.epochRecord) s = execEpochRecord s := rfl
@[simp] theorem exec_timePulse (s : State) :
  exec (.timePulse) s = execTimePulse s := rfl
@[simp] theorem exec_pulseEnd (s : State) :
  exec (.pulseEnd) s = execPulseEnd s := rfl
@[simp] theorem exec_autoHoldExpiry (s : State) :
  exec (.autoHoldExpiry) s = execAutoHoldExpiry s := rfl
@[simp] theorem exec_canEnable (ctl : Nat) (s : State) :
  exec (.canEnable ctl) s = execCanEnable ctl s := rfl
@[simp] theorem exec_canDisable (ctl : Nat) (s : State) :
  exec (.canDisable ctl) s = execCanDisable ctl s := rfl
@[simp] theorem exec_haltClear (ctl : Nat) (s : State) :
  exec (.haltClear ctl) s = execHaltClear ctl s := rfl
@[simp] theorem exec_busIntegration (ctl : Nat) (s : State) :
  exec (.busIntegration ctl) s = execBusIntegration ctl s := rfl
@[simp] theorem exec_frameValid (ctl : Nat) (frame : CanFrame) (stamp : Nat) (s : State) :
  exec (.frameValid ctl frame stamp) s = execFrameValid ctl frame stamp s := rfl
@[simp] theorem exec_protocolException (ctl : Nat) (s : State) :
  exec (.protocolException ctl) s = execProtocolException ctl s := rfl
@[simp] theorem exec_arbitration (ctl : Nat) (s : State) :
  exec (.arbitration ctl) s = execArbitration ctl s := rfl
@[simp] theorem exec_frameTransmitted (ctl stamp delay : Nat) (s : State) :
  exec (.frameTransmitted ctl stamp delay) s = execFrameTransmitted ctl stamp delay s := rfl
@[simp] theorem exec_attemptFailed (ctl err : Nat) (data : Bool) (field : CanField) (eights : Nat) (delay : Option Nat) (s : State) :
  exec (.attemptFailed ctl err data field eights delay) s = execAttemptFailed ctl err data field eights delay s := rfl
@[simp] theorem exec_busOffRecovery (ctl : Nat) (s : State) :
  exec (.busOffRecovery ctl) s = execBusOffRecovery ctl s := rfl
@[simp] theorem exec_recover (ctl : Nat) (s : State) :
  exec (.recover ctl) s = execRecover ctl s := rfl
@[simp] theorem exec_filterWord2Write (ctl elem : Nat) (value : Word) (s : State) :
  exec (.filterWord2Write ctl elem value) s = execFilterWord2Write ctl elem value s := rfl
@[simp] theorem exec_summaryPeriod (ctl : Nat) (s : State) :
  exec (.summaryPeriod ctl) s = execSummaryPeriod ctl s := rfl
@[simp] theorem exec_cadenceSend (s : State) :
  exec (.cadenceSend) s = execCadenceSend s := rfl
@[simp] theorem exec_cadence (frame : CanFrame) (stamp : Nat) (s : State) :
  exec (.cadence frame stamp) s = execCadence frame stamp s := rfl
@[simp] theorem exec_conflictEnd (s : State) :
  exec (.conflictEnd) s = execConflictEnd s := rfl
@[simp] theorem exec_leaderLost (s : State) :
  exec (.leaderLost) s = execLeaderLost s := rfl
@[simp] theorem exec_poseBroadcast (frame : CanFrame) (stamp : Nat) (s : State) :
  exec (.poseBroadcast frame stamp) s = execPoseBroadcast frame stamp s := rfl
@[simp] theorem exec_posePartsTimeout (s : State) :
  exec (.posePartsTimeout) s = execPosePartsTimeout s := rfl
@[simp] theorem exec_edge (frame : CanFrame) (stamp : Nat) (s : State) :
  exec (.edge frame stamp) s = execEdge frame stamp s := rfl
@[simp] theorem exec_edgeKeepalive (follower : Nat) (s : State) :
  exec (.edgeKeepalive follower) s = execEdgeKeepalive follower s := rfl
@[simp] theorem exec_plannerLost (s : State) :
  exec (.plannerLost) s = execPlannerLost s := rfl
@[simp] theorem exec_state (frame : CanFrame) (stamp : Nat) (s : State) :
  exec (.state frame stamp) s = execState frame stamp s := rfl
@[simp] theorem exec_stateKeepalive (s : State) :
  exec (.stateKeepalive) s = execStateKeepalive s := rfl
@[simp] theorem exec_followerLost (follower : Nat) (s : State) :
  exec (.followerLost follower) s = execFollowerLost follower s := rfl
@[simp] theorem exec_probe (frame : CanFrame) (stamp : Nat) (s : State) :
  exec (.probe frame stamp) s = execProbe frame stamp s := rfl
@[simp] theorem exec_duplicate (frame : CanFrame) (stamp : Nat) (s : State) :
  exec (.duplicate frame stamp) s = execDuplicate frame stamp s := rfl
@[simp] theorem exec_probeWindowEnd (s : State) :
  exec (.probeWindowEnd) s = execProbeWindowEnd s := rfl
@[simp] theorem exec_sourceSignalChange (die src : Nat) (level : Bool) (s : State) :
  exec (.sourceSignalChange die src level) s = execSourceSignalChange die src level s := rfl
@[simp] theorem exec_interruptTake (die core : Nat) (act : CoreAct) (s : State) :
  exec (.interruptTake die core act) s = execInterruptTake die core act s := rfl
@[simp] theorem exec_eoi (die core : Nat) (by_ : Agent) (nothing_ : Bool) (s : State) :
  exec (.eoi die core by_ nothing_) s = execEoi die core by_ nothing_ s := rfl
@[simp] theorem exec_nudgeRaise (die core index : Nat) (by_ : Agent) (s : State) :
  exec (.nudgeRaise die core index by_) s = execNudgeRaise die core index by_ s := rfl
@[simp] theorem exec_nudgeLower (die core index : Nat) (by_ : Agent) (s : State) :
  exec (.nudgeLower die core index by_) s = execNudgeLower die core index by_ s := rfl
@[simp] theorem exec_pendingWordWrite (die word : Nat) (value edges : Word) (by_ : Agent) (s : State) :
  exec (.pendingWordWrite die word value edges by_) s = execPendingWordWrite die word value edges by_ s := rfl
@[simp] theorem exec_configurationWrite (die reg : Nat) (value : Word) (by_ : Agent) (s : State) :
  exec (.configurationWrite die reg value by_) s = execConfigurationWrite die reg value by_ s := rfl
@[simp] theorem exec_logbookEvent (event : LogEvt) (s : State) :
  exec (.logbookEvent event) s = execLogbookEvent event s := rfl
@[simp] theorem exec_recordStored (s : State) :
  exec (.recordStored) s = execRecordStored s := rfl
@[simp] theorem exec_scanDone (s : State) :
  exec (.scanDone) s = execScanDone s := rfl
@[simp] theorem exec_colophonSave (s : State) :
  exec (.colophonSave) s = execColophonSave s := rfl
@[simp] theorem exec_powerFailWarning (below : Bool) (s : State) :
  exec (.powerFailWarning below) s = execPowerFailWarning below s := rfl
@[simp] theorem exec_freezeTimeout (s : State) :
  exec (.freezeTimeout) s = execFreezeTimeout s := rfl
@[simp] theorem exec_erase (value : Nat) (s : State) :
  exec (.erase value) s = execErase value s := rfl
@[simp] theorem exec_eraseDone (s : State) :
  exec (.eraseDone) s = execEraseDone s := rfl
@[simp] theorem exec_leakTimerExpiry (cls inst : Nat) (s : State) :
  exec (.leakTimerExpiry cls inst) s = execLeakTimerExpiry cls inst s := rfl
@[simp] theorem exec_hltClear (cls inst : Nat) (s : State) :
  exec (.hltClear cls inst) s = execHltClear cls inst s := rfl
@[simp] theorem exec_replan (s : State) :
  exec (.replan) s = execReplan s := rfl
@[simp] theorem exec_marginApply (s : State) :
  exec (.marginApply) s = execMarginApply s := rfl
@[simp] theorem exec_derateCheck (spoke : Nat) (means : List Nat) (s : State) :
  exec (.derateCheck spoke means) s = execDerateCheck spoke means s := rfl
@[simp] theorem exec_heartbeatSlot (readback : Bool) (s : State) :
  exec (.heartbeatSlot readback) s = execHeartbeatSlot readback s := rfl
@[simp] theorem exec_heartbeat (good : Bool) (slotTime flags number last : Nat) (s : State) :
  exec (.heartbeat good slotTime flags number last) s = execHeartbeat good slotTime flags number last s := rfl
@[simp] theorem exec_partnerPeriodEnd (s : State) :
  exec (.partnerPeriodEnd) s = execPartnerPeriodEnd s := rfl
@[simp] theorem exec_outputsQuiet (s : State) :
  exec (.outputsQuiet) s = execOutputsQuiet s := rfl
@[simp] theorem exec_quietTimeout (cas : Nat) (s : State) :
  exec (.quietTimeout cas) s = execQuietTimeout cas s := rfl
@[simp] theorem exec_digest (good : Bool) (start digest : Nat) (s : State) :
  exec (.digest good start digest) s = execDigest good start digest s := rfl
@[simp] theorem exec_tandemFeed (good : Bool) (events : List TdmFeed) (s : State) :
  exec (.tandemFeed good events) s = execTandemFeed good events s := rfl
@[simp] theorem exec_loopstate (good : Bool) (loops : List TdmLoop) (s : State) :
  exec (.loopstate good loops) s = execLoopstate good loops s := rfl
@[simp] theorem exec_wbdone (good : Bool) (tileE tileN : Int) (cycle : Nat) (s : State) :
  exec (.wbdone good tileE tileN cycle) s = execWbdone good tileE tileN cycle s := rfl
@[simp] theorem exec_yield_ (good : Bool) (start cause : Nat) (s : State) :
  exec (.yield_ good start cause) s = execYield good start cause s := rfl
@[simp] theorem exec_yieldTimeout (s : State) :
  exec (.yieldTimeout) s = execYieldTimeout s := rfl
@[simp] theorem exec_attach (good : Bool) (data : TdmAttach) (s : State) :
  exec (.attach good data) s = execAttach good data s := rfl
@[simp] theorem exec_attachTimeout (s : State) :
  exec (.attachTimeout) s = execAttachTimeout s := rfl
@[simp] theorem exec_xfer (good : Bool) (block : Nat) (last : Bool) (data : List XferItem) (s : State) :
  exec (.xfer good block last data) s = execXfer good block last data s := rfl
@[simp] theorem exec_xferAck (good : Bool) (block : Nat) (s : State) :
  exec (.xferAck good block) s = execXferAck good block s := rfl
@[simp] theorem exec_xferResend (s : State) :
  exec (.xferResend) s = execXferResend s := rfl
@[simp] theorem exec_detach (good : Bool) (start : Nat) (s : State) :
  exec (.detach good start) s = execDetach good start s := rfl
@[simp] theorem exec_tandemLinkDown (s : State) :
  exec (.tandemLinkDown) s = execTandemLinkDown s := rfl
@[simp] theorem exec_foreignDrive (cas : Nat) (s : State) :
  exec (.foreignDrive cas) s = execForeignDrive cas s := rfl
@[simp] theorem exec_loopbackStart (value : Word) (s : State) :
  exec (.loopbackStart value) s = execLoopbackStart value s := rfl
@[simp] theorem exec_loopbackStop (s : State) :
  exec (.loopbackStop) s = execLoopbackStop s := rfl
@[simp] theorem exec_loopbackDone (found : LbFound) (s : State) :
  exec (.loopbackDone found) s = execLoopbackDone found s := rfl
@[simp] theorem exec_pcieLoopback (s : State) :
  exec (.pcieLoopback) s = execPcieLoopback s := rfl
@[simp] theorem exec_boundaryScanInstruction (inst : TapInst) (scan : Option (List Ball)) (s : State) :
  exec (.boundaryScanInstruction inst scan) s = execBoundaryScanInstruction inst scan s := rfl
@[simp] theorem exec_registerWrite (addr size : Nat) (value : Word) (by_ : Agent) (s : State) :
  exec (.registerWrite addr size value by_) s = execRegisterWrite addr size value by_ s := rfl
@[simp] theorem exec_d0Entry (s : State) :
  exec (.d0Entry) s = execD0Entry s := rfl
@[simp] theorem exec_completionTimeout (req : HostReq) (s : State) :
  exec (.completionTimeout req) s = execCompletionTimeout req s := rfl
@[simp] theorem exec_arbitrationLost (ctl : Nat) (s : State) :
  exec (.arbitrationLost ctl) s = execArbitrationLost ctl s := rfl
@[simp] theorem exec_receiveError (ctl err : Nat) (data : Bool) (steps : IsoSteps) (s : State) :
  exec (.receiveError ctl err data steps) s = execReceiveError ctl err data steps s := rfl
@[simp] theorem exec_chopPeriod (spoke chan : Nat) (s : State) :
  exec (.chopPeriod spoke chan) s = execChopPeriod spoke chan s := rfl
@[simp] theorem exec_referenceEdge (spoke pair : Nat) (s : State) :
  exec (.referenceEdge spoke pair) s = execReferenceEdge spoke pair s := rfl
@[simp] theorem exec_slewDone (s : State) :
  exec (.slewDone) s = execSlewDone s := rfl
@[simp] theorem exec_aoClockFail (s : State) :
  exec (.aoClockFail) s = execAoClockFail s := rfl
@[simp] theorem exec_vbatAoLoss (at_ : LossPoint) (s : State) :
  exec (.vbatAoLoss at_) s = execVbatAoLoss at_ s := rfl
@[simp] theorem exec_powerGoodLoss (spoke : Nat) (s : State) :
  exec (.powerGoodLoss spoke) s = execPowerGoodLoss spoke s := rfl
@[simp] theorem exec_monitorMeasurement (die : Nat) (meas : DieMeas) (s : State) :
  exec (.monitorMeasurement die meas) s = execMonitorMeasurement die meas s := rfl
@[simp] theorem exec_heartbeatPulse (s : State) :
  exec (.heartbeatPulse) s = execHeartbeatPulse s := rfl
@[simp] theorem exec_postWakePulse (s : State) :
  exec (.postWakePulse) s = execPostWakePulse s := rfl
@[simp] theorem exec_tandemLinkDownTimeout (s : State) :
  exec (.tandemLinkDownTimeout) s = execTandemLinkDownTimeout s := rfl
@[simp] theorem exec_attachFrameSend (s : State) :
  exec (.attachFrameSend) s = execAttachFrameSend s := rfl
@[simp] theorem exec_probeFrameSend (s : State) :
  exec (.probeFrameSend) s = execProbeFrameSend s := rfl
@[simp] theorem exec_registerRead (addr size : Nat) (s : State) :
  exec (.registerRead addr size) s = execRegisterRead addr size s := rfl

end Sys2Proof.Machine
end

