-- ==== Sys2Proof/Laws/Ops.lean ====
section
/-! SUPPORT. Laws of the named operations: sparse tables, byte memories, register words and fields, repetition. -/
namespace Sys2Proof.Laws
open Sys2Proof.Machine

/-! ### Sparse tables -/

theorem kget_kins_same {α : Type} (m : KMap α) (k : Nat) (v e : α) : kget (kins m k v) k e = v := by
  induction m with
  | nil => simp [kins, kget]
  | cons x m ih =>
    obtain ⟨j, w⟩ := x
    unfold kins
    split
    · simp [kget]
    · split
      · simp [kget]
      · rename_i h1 h2
        have h3 : ¬ j = k := fun h => h2 h.symm
        simp [kget, h3, ih]

theorem kget_kins_other {α : Type} (m : KMap α) (k i : Nat) (v e : α) (h : i ≠ k) :
    kget (kins m k v) i e = kget m i e := by
  have hk : ¬ k = i := fun g => h g.symm
  induction m with
  | nil => simp [kins, kget, hk]
  | cons x m ih =>
    obtain ⟨j, w⟩ := x
    unfold kins
    split
    · simp [kget, hk]
    · split
      · rename_i h1 h2
        subst h2
        simp [kget, hk]
      · by_cases g : j = i
        · simp [kget, g]
        · simp [kget, g, ih]

theorem kget_kdel_same {α : Type} (m : KMap α) (k : Nat) (e : α) : kget (kdel m k) k e = e := by
  induction m with
  | nil => rfl
  | cons x m ih =>
    obtain ⟨j, w⟩ := x
    by_cases h : j = k
    · simpa [kdel, h] using ih
    · simpa [kdel, h, kget] using ih

theorem kget_kdel_other {α : Type} (m : KMap α) (k i : Nat) (e : α) (h : i ≠ k) : kget (kdel m k) i e = kget m i e := by
  induction m with
  | nil => rfl
  | cons x m ih =>
    obtain ⟨j, w⟩ := x
    by_cases g : j = k
    · subst g
      have hk : ¬ j = i := fun g => h g.symm
      simpa [kdel, kget, hk] using ih
    · by_cases g' : j = i
      · subst g'
        simp [kdel, kget, g]
      · simpa [kdel, g, kget, g'] using ih

/-- A read after a write at the same key gives the value written. -/
@[simp] theorem kget_kput_same {α : Type} [DecidableEq α] (m : KMap α) (k : Nat) (v e : α) : kget (kput m k v e) k e = v := by
  unfold kput
  split
  · rename_i h
    rw [kget_kdel_same, h]
  · exact kget_kins_same m k v e

/-- A write at one key leaves every other key alone. -/
theorem kget_kput_other {α : Type} [DecidableEq α] (m : KMap α) (k i : Nat) (v e e' : α) (h : i ≠ k) :
    kget (kput m k v e) i e' = kget m i e' := by
  unfold kput
  split
  · exact kget_kdel_other m k i e' h
  · exact kget_kins_other m k i v e' h

@[simp] theorem kget_kupd_same {α : Type} [DecidableEq α] (m : KMap α) (k : Nat) (e : α) (f : α → α) :
    kget (kupd m k e f) k e = f (kget m k e) := by simp [kupd]

theorem kget_kupd_other {α : Type} [DecidableEq α] (m : KMap α) (k i : Nat) (e e' : α) (f : α → α) (h : i ≠ k) :
    kget (kupd m k e f) i e' = kget m i e' := by simp [kupd, kget_kput_other, h]

/-! ### The canonical form -/

/-- A canonical table's tail is canonical and every key in it lies above the head's. -/
theorem kwf_cons {α : Type} [DecidableEq α] (e : α) (j : Nat) (v : α) (m : KMap α) :
    kwf e ((j, v) :: m) = true ↔ v ≠ e ∧ kwf e m = true ∧ ∀ x ∈ m, j < x.1 := by
  induction m generalizing j v with
  | nil => simp [kwf]
  | cons x m ih =>
    obtain ⟨i, w⟩ := x
    rw [kwf, Bool.and_eq_true, Bool.and_eq_true, ih]
    constructor
    · rintro ⟨⟨h1, h2⟩, h3, h4, h5⟩
      have h1 := of_decide_eq_true h1
      refine ⟨by simpa using h2, ⟨h3, h4, h5⟩, ?_⟩
      intro y hy
      rcases List.mem_cons.1 hy with rfl | hy
      · exact h1
      · exact lt_trans h1 (h5 y hy)
    · rintro ⟨h1, ⟨h3, h4, h5⟩, h6⟩
      exact ⟨⟨decide_eq_true (h6 _ (List.mem_cons_self ..)), by simpa using h1⟩, h3, h4, h5⟩

theorem kwf_filter {α : Type} [DecidableEq α] (e : α) (p : Nat × α → Bool) (m : KMap α) (h : kwf e m = true) :
    kwf e (m.filter p) = true := by
  induction m with
  | nil => rfl
  | cons x m ih =>
    obtain ⟨j, v⟩ := x
    obtain ⟨h1, h2, h3⟩ := (kwf_cons e j v m).1 h
    rw [List.filter_cons]
    split
    · exact (kwf_cons e j v _).2 ⟨h1, ih h2, fun y hy => h3 y (List.mem_filter.1 hy).1⟩
    · exact ih h2

theorem kins_mem {α : Type} (m : KMap α) (k : Nat) (v : α) (x : Nat × α) (h : x ∈ kins m k v) : x = (k, v) ∨ x ∈ m := by
  induction m with
  | nil => simpa [kins] using h
  | cons y m ih =>
    obtain ⟨j, w⟩ := y
    unfold kins at h
    split at h
    · rcases List.mem_cons.1 h with h | h
      · exact .inl h
      · exact .inr h
    · split at h
      · rcases List.mem_cons.1 h with h | h
        · exact .inl h
        · exact .inr (List.mem_cons_of_mem _ h)
      · rcases List.mem_cons.1 h with h | h
        · exact .inr (h ▸ List.mem_cons_self ..)
        · rcases ih h with h | h
          · exact .inl h
          · exact .inr (List.mem_cons_of_mem _ h)

theorem kwf_kins {α : Type} [DecidableEq α] (e : α) (m : KMap α) (k : Nat) (v : α) (hv : v ≠ e) (h : kwf e m = true) :
    kwf e (kins m k v) = true := by
  induction m with
  | nil => simp [kins, kwf, hv]
  | cons x m ih =>
    obtain ⟨j, w⟩ := x
    have hc := (kwf_cons e j w m).1 h
    unfold kins
    split
    · rename_i h1
      refine (kwf_cons e k v _).2 ⟨hv, h, ?_⟩
      intro y hy
      rcases List.mem_cons.1 hy with rfl | hy
      · exact h1
      · exact lt_trans h1 (hc.2.2 y hy)
    · split
      · rename_i h1 h2
        subst h2
        exact (kwf_cons e k v m).2 ⟨hv, hc.2⟩
      · rename_i h1 h2
        refine (kwf_cons e j w _).2 ⟨hc.1, ih hc.2.1, ?_⟩
        intro y hy
        rcases kins_mem m k v y hy with rfl | hy
        · change j < k
          omega
        · exact hc.2.2 y hy

/-- A write keeps the canonical form. -/
theorem kwf_kput {α : Type} [DecidableEq α] (e : α) (m : KMap α) (k : Nat) (v : α) (h : kwf e m = true) :
    kwf e (kput m k v e) = true := by
  unfold kput
  split
  · exact kwf_filter e _ m h
  · rename_i hv
    exact kwf_kins e m k v hv h

/-! ### Byte memories -/

@[simp] theorem memRead_memWrite_same (m : List Host.Cell) (a : Nat) (b : Byte) : memRead (memWrite m a b) a = b := by
  simp [memRead, memWrite]

theorem memRead_memWrite_other (m : List Host.Cell) (a c : Nat) (b : Byte) (h : c ≠ a) :
    memRead (memWrite m a b) c = memRead m c := kget_kput_other m a c b 0 0 h

theorem memWrite_wf (m : List Host.Cell) (a : Nat) (b : Byte) (h : Memory.wf m = true) : Memory.wf (memWrite m a b) = true :=
  kwf_kput 0 m a b h

/-- Writing bytes keeps the canonical form. -/
theorem memWriteBytes_wf (bs : List Byte) (m : List Host.Cell) (a : Nat) (h : Memory.wf m = true) :
    Memory.wf (memWriteBytes m a bs) = true := by
  induction bs generalizing m a with
  | nil => exact h
  | cons b bs ih => exact ih _ _ (memWrite_wf m a b h)

/-- Bytes outside the written range read as before. -/
theorem memWriteBytes_frame (bs : List Byte) (m : List Host.Cell) (a c : Nat) (h : c < a ∨ a + bs.length ≤ c) :
    memRead (memWriteBytes m a bs) c = memRead m c := by
  induction bs generalizing m a with
  | nil => rfl
  | cons b bs ih =>
    simp only [List.length_cons] at h
    rw [memWriteBytes, ih _ _ (by omega), memRead_memWrite_other _ _ _ _ (by omega)]

/-- Reading back what was written. -/
theorem memReadBytes_memWriteBytes (bs : List Byte) (m : List Host.Cell) (a : Nat) :
    memReadBytes (memWriteBytes m a bs) a bs.length = bs := by
  induction bs generalizing m a with
  | nil => rfl
  | cons b bs ih =>
    rw [List.length_cons, memReadBytes, memWriteBytes, memWriteBytes_frame _ _ _ _ (by omega), memRead_memWrite_same, ih]

/-! ### Numbers -/

theorem leBytes_length (n v : Nat) : (leBytes n v).length = n := by
  induction n generalizing v with
  | zero => rfl
  | succ n ih => simp [leBytes, ih]

/-- n little-endian bytes hold the value modulo 2^(8n) (R5). -/
theorem leVal_leBytes (n v : Nat) : leVal (leBytes n v) = v % 256 ^ n := by
  induction n generalizing v with
  | zero => simp [leBytes, leVal, Nat.mod_one]
  | succ n ih =>
    rw [leBytes, leVal, ih, pow_succ, mul_comm (256 ^ n), Nat.mod_mul]
    simp

/-! ### Register words and fields -/

theorem wordField_lt (w : Word) (lo len : Nat) : wordField w lo len < 2 ^ len := Nat.mod_lt _ (by positivity)

theorem wordPut_split (w lo len : Nat) :
    w = w % 2 ^ lo + 2 ^ lo * ((w >>> lo) % 2 ^ len + 2 ^ len * (w >>> lo / 2 ^ len)) := by
  rw [Nat.mod_add_div, Nat.shiftRight_eq_div_pow, Nat.mod_add_div]

theorem wordPut_toNat (w : Word) (lo len v : Nat) (h : lo + len ≤ 32) :
    (wordPut w lo len v).toNat = w.toNat % 2 ^ lo + 2 ^ lo * (v % 2 ^ len + 2 ^ len * (w.toNat >>> lo / 2 ^ len)) := by
  have e := wordPut_split w.toNat lo len
  have hw := w.isLt
  set a := w.toNat % 2 ^ lo with ha
  set f := (w.toNat >>> lo) % 2 ^ len with hf
  set b := w.toNat >>> lo / 2 ^ len with hb
  have hx : w.toNat - (wordField w lo len <<< lo) + ((v % 2 ^ len) <<< lo) = a + 2 ^ lo * (v % 2 ^ len + 2 ^ len * b) := by
    have : wordField w lo len = f := rfl
    rw [this, Nat.shiftLeft_eq, Nat.shiftLeft_eq, e]
    have h2 : 2 ^ lo * (f + 2 ^ len * b) = f * 2 ^ lo + 2 ^ lo * (2 ^ len * b) := by ring
    have h3 : 2 ^ lo * (v % 2 ^ len + 2 ^ len * b) = (v % 2 ^ len) * 2 ^ lo + 2 ^ lo * (2 ^ len * b) := by ring
    omega
  rw [wordPut, hx, BitVec.toNat_ofNat, Nat.mod_eq_of_lt]
  have h1 : a < 2 ^ lo := Nat.mod_lt _ (by positivity)
  have h4 : v % 2 ^ len < 2 ^ len := Nat.mod_lt _ (by positivity)
  have h5 : b < 2 ^ (32 - lo - len) := by
    rw [hb, Nat.shiftRight_eq_div_pow, Nat.div_div_eq_div_mul, ← pow_add, Nat.div_lt_iff_lt_mul (by positivity), ← pow_add]
    have : 32 - lo - len + (lo + len) = 32 := by omega
    rwa [this]
  have h6 : (v % 2 ^ len + 2 ^ len * b) + 1 ≤ 2 ^ len * 2 ^ (32 - lo - len) := by
    have h8 : b + 1 ≤ 2 ^ (32 - lo - len) := h5
    have := Nat.mul_le_mul_left (2 ^ len) h8
    nlinarith
  have h7 : 2 ^ lo * (2 ^ len * 2 ^ (32 - lo - len)) = 2 ^ 32 := by
    rw [← pow_add, ← pow_add]
    congr 1
    omega
  have := Nat.mul_le_mul_left (2 ^ lo) h6
  nlinarith

/-- A field reads what was put into it. -/
theorem wordField_wordPut_same (w : Word) (lo len v : Nat) (h : lo + len ≤ 32) :
    wordField (wordPut w lo len v) lo len = v % 2 ^ len := by
  rw [wordField, wordPut_toNat w lo len v h, Nat.shiftRight_eq_div_pow, Nat.add_mul_div_left _ _ (by positivity)]
  have h1 : w.toNat % 2 ^ lo / 2 ^ lo = 0 := Nat.div_eq_of_lt (Nat.mod_lt _ (by positivity))
  rw [h1, zero_add, Nat.add_mul_mod_self_left, Nat.mod_mod]

/-- A field that shares no bit with the one put reads as before. -/
theorem wordField_wordPut_disjoint (w : Word) (lo len v lo' len' : Nat) (h : lo + len ≤ 32)
    (g : lo' + len' ≤ lo ∨ lo + len ≤ lo') : wordField (wordPut w lo len v) lo' len' = wordField w lo' len' := by
  have e := wordPut_split w.toNat lo len
  have e2 := wordPut_toNat w lo len v h
  unfold wordField
  rw [e2]
  rcases g with g | g
  · obtain ⟨c, hc⟩ : ∃ c, lo = lo' + len' + c := ⟨lo - lo' - len', by omega⟩
    have key : ∀ q, ((w.toNat % 2 ^ lo + 2 ^ lo * q) >>> lo') % 2 ^ len' = ((w.toNat % 2 ^ lo) >>> lo') % 2 ^ len' := by
      intro q
      rw [Nat.shiftRight_eq_div_pow, Nat.shiftRight_eq_div_pow]
      have : 2 ^ lo * q = 2 ^ lo' * (2 ^ len' * (2 ^ c * q)) := by
        rw [hc, pow_add, pow_add]
        ring
      rw [this, Nat.add_mul_div_left _ _ (by positivity), Nat.add_mul_mod_self_left]
    rw [key, ← key (w.toNat >>> lo % 2 ^ len + 2 ^ len * (w.toNat >>> lo / 2 ^ len)), ← e]
  · obtain ⟨c, hc⟩ : ∃ c, lo' = lo + len + c := ⟨lo' - lo - len, by omega⟩
    have key : ∀ f, f < 2 ^ len →
        (w.toNat % 2 ^ lo + 2 ^ lo * (f + 2 ^ len * (w.toNat >>> lo / 2 ^ len))) >>> lo' = (w.toNat >>> lo / 2 ^ len) >>> c := by
      intro f hf
      rw [hc, Nat.shiftRight_eq_div_pow, Nat.shiftRight_eq_div_pow (w.toNat >>> lo / 2 ^ len), pow_add, pow_add,
        ← Nat.div_div_eq_div_mul, ← Nat.div_div_eq_div_mul, Nat.add_mul_div_left _ _ (by positivity),
        Nat.div_eq_of_lt (Nat.mod_lt _ (by positivity)), zero_add, Nat.add_mul_div_left _ _ (by positivity), Nat.div_eq_of_lt hf,
        zero_add]
    rw [key _ (Nat.mod_lt _ (by positivity)), ← key _ (Nat.mod_lt (w.toNat >>> lo) (by positivity)), ← e]

@[simp] theorem rget_rput_same (r : Reg) (w : Word) (d : Dev) : rget r (rput r w d) = w := by simp [rget, rput]

theorem rget_rput_other (r q : Reg) (w : Word) (d : Dev) (h : q.off ≠ r.off) : rget q (rput r w d) = rget q d := by
  simp [rget, rput, kget_kput_other, h]

/-- A field reads what it was set to, cut to its width. -/
theorem getF_setF_same (f : Fld) (v : Nat) (d : Dev) (h : f.lo + f.len ≤ 32) : getF f (setF f v d) = v % 2 ^ f.len := by
  simp [getF, setF, wordField_wordPut_same _ _ _ _ h]

/-- Setting a field leaves the fields of other registers alone. -/
theorem getF_setF_otherReg (f g : Fld) (v : Nat) (d : Dev) (h : g.reg.off ≠ f.reg.off) : getF g (setF f v d) = getF g d := by
  simp [getF, setF, rget_rput_other _ _ _ _ h]

/-- Setting a field leaves the other fields of its register alone. -/
theorem getF_setF_disjoint (f g : Fld) (v : Nat) (d : Dev) (hr : g.reg = f.reg) (h : f.lo + f.len ≤ 32)
    (hd : g.lo + g.len ≤ f.lo ∨ f.lo + f.len ≤ g.lo) : getF g (setF f v d) = getF g d := by
  simp [getF, setF, hr, wordField_wordPut_disjoint _ _ _ _ _ _ h hd]

/-! ### Repetition -/

@[simp] theorem eachD_nil {α : Type} (f : α → Dev → Dev) (d : Dev) : eachD [] f d = d := rfl

@[simp] theorem eachD_cons {α : Type} (x : α) (xs : List α) (f : α → Dev → Dev) (d : Dev) :
    eachD (x :: xs) f d = eachD xs f (f x d) := rfl

/-- What each step keeps, the repetition keeps. -/
theorem eachD_keeps {α β : Type} (p : Dev → β) (xs : List α) (f : α → Dev → Dev) (h : ∀ x d, p (f x d) = p d) (d : Dev) :
    p (eachD xs f d) = p d := by
  induction xs generalizing d with
  | nil => rfl
  | cons x xs ih => rw [eachD_cons, ih, h]

@[simp] theorem whenD_true (f : Dev → Dev) (d : Dev) : whenD true f d = f d := rfl
@[simp] theorem whenD_false (f : Dev → Dev) (d : Dev) : whenD false f d = d := rfl

theorem whenD_keeps {β : Type} (p : Dev → β) (c : Bool) (f : Dev → Dev) (h : ∀ d, p (f d) = p d) (d : Dev) :
    p (whenD c f d) = p d := by
  cases c <;> simp [h]

end Sys2Proof.Laws
end

