-- ==== Sys2Proof/Laws/State.lean ====
section
/-! SUPPORT. What each elementary update of the device leaves alone: one lemma for each update and each field. -/
namespace Sys2Proof.Laws
open Sys2Proof.Machine

/-! ### rput changes regs only -/

@[simp] theorem rput_chip (r : Reg) (w : Word) (d : Dev) : (rput r w d).chip = d.chip := rfl
@[simp] theorem rput_pt (r : Reg) (w : Word) (d : Dev) : (rput r w d).pt = d.pt := rfl
@[simp] theorem rput_free (r : Reg) (w : Word) (d : Dev) : (rput r w d).free = d.free := rfl
@[simp] theorem rput_marks (r : Reg) (w : Word) (d : Dev) : (rput r w d).marks = d.marks := rfl
@[simp] theorem rput_ecc (r : Reg) (w : Word) (d : Dev) : (rput r w d).ecc = d.ecc := rfl
@[simp] theorem rput_out (r : Reg) (w : Word) (d : Dev) : (rput r w d).out = d.out := rfl
@[simp] theorem rput_pins (r : Reg) (w : Word) (d : Dev) : (rput r w d).pins = d.pins := rfl
@[simp] theorem rput_pwr (r : Reg) (w : Word) (d : Dev) : (rput r w d).pwr = d.pwr := rfl
@[simp] theorem rput_links (r : Reg) (w : Word) (d : Dev) : (rput r w d).links = d.links := rfl
@[simp] theorem rput_pcie (r : Reg) (w : Word) (d : Dev) : (rput r w d).pcie = d.pcie := rfl
@[simp] theorem rput_host (r : Reg) (w : Word) (d : Dev) : (rput r w d).host = d.host := rfl
@[simp] theorem rput_hic (r : Reg) (w : Word) (d : Dev) : (rput r w d).hic = d.hic := rfl
@[simp] theorem rput_sic (r : Reg) (w : Word) (d : Dev) : (rput r w d).sic = d.sic := rfl
@[simp] theorem rput_log (r : Reg) (w : Word) (d : Dev) : (rput r w d).log = d.log := rfl
@[simp] theorem rput_health (r : Reg) (w : Word) (d : Dev) : (rput r w d).health = d.health := rfl
@[simp] theorem rput_spokes (r : Reg) (w : Word) (d : Dev) : (rput r w d).spokes = d.spokes := rfl
@[simp] theorem rput_eng (r : Reg) (w : Word) (d : Dev) : (rput r w d).eng = d.eng := rfl
@[simp] theorem rput_time (r : Reg) (w : Word) (d : Dev) : (rput r w d).time = d.time := rfl
@[simp] theorem rput_can (r : Reg) (w : Word) (d : Dev) : (rput r w d).can = d.can := rfl
@[simp] theorem rput_sox (r : Reg) (w : Word) (d : Dev) : (rput r w d).sox = d.sox := rfl
@[simp] theorem rput_tdm (r : Reg) (w : Word) (d : Dev) : (rput r w d).tdm = d.tdm := rfl
@[simp] theorem rput_lb (r : Reg) (w : Word) (d : Dev) : (rput r w d).lb = d.lb := rfl

/-! ### setF changes regs only -/

@[simp] theorem setF_chip (f : Fld) (v : Nat) (d : Dev) : (setF f v d).chip = d.chip := rfl
@[simp] theorem setF_pt (f : Fld) (v : Nat) (d : Dev) : (setF f v d).pt = d.pt := rfl
@[simp] theorem setF_free (f : Fld) (v : Nat) (d : Dev) : (setF f v d).free = d.free := rfl
@[simp] theorem setF_marks (f : Fld) (v : Nat) (d : Dev) : (setF f v d).marks = d.marks := rfl
@[simp] theorem setF_ecc (f : Fld) (v : Nat) (d : Dev) : (setF f v d).ecc = d.ecc := rfl
@[simp] theorem setF_out (f : Fld) (v : Nat) (d : Dev) : (setF f v d).out = d.out := rfl
@[simp] theorem setF_pins (f : Fld) (v : Nat) (d : Dev) : (setF f v d).pins = d.pins := rfl
@[simp] theorem setF_pwr (f : Fld) (v : Nat) (d : Dev) : (setF f v d).pwr = d.pwr := rfl
@[simp] theorem setF_links (f : Fld) (v : Nat) (d : Dev) : (setF f v d).links = d.links := rfl
@[simp] theorem setF_pcie (f : Fld) (v : Nat) (d : Dev) : (setF f v d).pcie = d.pcie := rfl
@[simp] theorem setF_host (f : Fld) (v : Nat) (d : Dev) : (setF f v d).host = d.host := rfl
@[simp] theorem setF_hic (f : Fld) (v : Nat) (d : Dev) : (setF f v d).hic = d.hic := rfl
@[simp] theorem setF_sic (f : Fld) (v : Nat) (d : Dev) : (setF f v d).sic = d.sic := rfl
@[simp] theorem setF_log (f : Fld) (v : Nat) (d : Dev) : (setF f v d).log = d.log := rfl
@[simp] theorem setF_health (f : Fld) (v : Nat) (d : Dev) : (setF f v d).health = d.health := rfl
@[simp] theorem setF_spokes (f : Fld) (v : Nat) (d : Dev) : (setF f v d).spokes = d.spokes := rfl
@[simp] theorem setF_eng (f : Fld) (v : Nat) (d : Dev) : (setF f v d).eng = d.eng := rfl
@[simp] theorem setF_time (f : Fld) (v : Nat) (d : Dev) : (setF f v d).time = d.time := rfl
@[simp] theorem setF_can (f : Fld) (v : Nat) (d : Dev) : (setF f v d).can = d.can := rfl
@[simp] theorem setF_sox (f : Fld) (v : Nat) (d : Dev) : (setF f v d).sox = d.sox := rfl
@[simp] theorem setF_tdm (f : Fld) (v : Nat) (d : Dev) : (setF f v d).tdm = d.tdm := rfl
@[simp] theorem setF_lb (f : Fld) (v : Nat) (d : Dev) : (setF f v d).lb = d.lb := rfl

/-! ### raise changes regs only -/

@[simp] theorem raise_chip (f : Fld) (d : Dev) : (raise f d).chip = d.chip := rfl
@[simp] theorem raise_pt (f : Fld) (d : Dev) : (raise f d).pt = d.pt := rfl
@[simp] theorem raise_free (f : Fld) (d : Dev) : (raise f d).free = d.free := rfl
@[simp] theorem raise_ecc (f : Fld) (d : Dev) : (raise f d).ecc = d.ecc := rfl
@[simp] theorem raise_out (f : Fld) (d : Dev) : (raise f d).out = d.out := rfl
@[simp] theorem raise_pins (f : Fld) (d : Dev) : (raise f d).pins = d.pins := rfl
@[simp] theorem raise_pwr (f : Fld) (d : Dev) : (raise f d).pwr = d.pwr := rfl
@[simp] theorem raise_links (f : Fld) (d : Dev) : (raise f d).links = d.links := rfl
@[simp] theorem raise_pcie (f : Fld) (d : Dev) : (raise f d).pcie = d.pcie := rfl
@[simp] theorem raise_host (f : Fld) (d : Dev) : (raise f d).host = d.host := rfl
@[simp] theorem raise_hic (f : Fld) (d : Dev) : (raise f d).hic = d.hic := rfl
@[simp] theorem raise_sic (f : Fld) (d : Dev) : (raise f d).sic = d.sic := rfl
@[simp] theorem raise_log (f : Fld) (d : Dev) : (raise f d).log = d.log := rfl
@[simp] theorem raise_health (f : Fld) (d : Dev) : (raise f d).health = d.health := rfl
@[simp] theorem raise_spokes (f : Fld) (d : Dev) : (raise f d).spokes = d.spokes := rfl
@[simp] theorem raise_eng (f : Fld) (d : Dev) : (raise f d).eng = d.eng := rfl
@[simp] theorem raise_time (f : Fld) (d : Dev) : (raise f d).time = d.time := rfl
@[simp] theorem raise_can (f : Fld) (d : Dev) : (raise f d).can = d.can := rfl
@[simp] theorem raise_sox (f : Fld) (d : Dev) : (raise f d).sox = d.sox := rfl
@[simp] theorem raise_tdm (f : Fld) (d : Dev) : (raise f d).tdm = d.tdm := rfl
@[simp] theorem raise_lb (f : Fld) (d : Dev) : (raise f d).lb = d.lb := rfl

/-! ### lower changes regs only -/

@[simp] theorem lower_chip (f : Fld) (d : Dev) : (lower f d).chip = d.chip := rfl
@[simp] theorem lower_pt (f : Fld) (d : Dev) : (lower f d).pt = d.pt := rfl
@[simp] theorem lower_free (f : Fld) (d : Dev) : (lower f d).free = d.free := rfl
@[simp] theorem lower_marks (f : Fld) (d : Dev) : (lower f d).marks = d.marks := rfl
@[simp] theorem lower_ecc (f : Fld) (d : Dev) : (lower f d).ecc = d.ecc := rfl
@[simp] theorem lower_out (f : Fld) (d : Dev) : (lower f d).out = d.out := rfl
@[simp] theorem lower_pins (f : Fld) (d : Dev) : (lower f d).pins = d.pins := rfl
@[simp] theorem lower_pwr (f : Fld) (d : Dev) : (lower f d).pwr = d.pwr := rfl
@[simp] theorem lower_links (f : Fld) (d : Dev) : (lower f d).links = d.links := rfl
@[simp] theorem lower_pcie (f : Fld) (d : Dev) : (lower f d).pcie = d.pcie := rfl
@[simp] theorem lower_host (f : Fld) (d : Dev) : (lower f d).host = d.host := rfl
@[simp] theorem lower_hic (f : Fld) (d : Dev) : (lower f d).hic = d.hic := rfl
@[simp] theorem lower_sic (f : Fld) (d : Dev) : (lower f d).sic = d.sic := rfl
@[simp] theorem lower_log (f : Fld) (d : Dev) : (lower f d).log = d.log := rfl
@[simp] theorem lower_health (f : Fld) (d : Dev) : (lower f d).health = d.health := rfl
@[simp] theorem lower_spokes (f : Fld) (d : Dev) : (lower f d).spokes = d.spokes := rfl
@[simp] theorem lower_eng (f : Fld) (d : Dev) : (lower f d).eng = d.eng := rfl
@[simp] theorem lower_time (f : Fld) (d : Dev) : (lower f d).time = d.time := rfl
@[simp] theorem lower_can (f : Fld) (d : Dev) : (lower f d).can = d.can := rfl
@[simp] theorem lower_sox (f : Fld) (d : Dev) : (lower f d).sox = d.sox := rfl
@[simp] theorem lower_tdm (f : Fld) (d : Dev) : (lower f d).tdm = d.tdm := rfl
@[simp] theorem lower_lb (f : Fld) (d : Dev) : (lower f d).lb = d.lb := rfl

/-! ### flag changes regs only -/

@[simp] theorem flag_chip (f : Fld) (b : Bool) (d : Dev) : (flag f b d).chip = d.chip := by cases b <;> rfl
@[simp] theorem flag_pt (f : Fld) (b : Bool) (d : Dev) : (flag f b d).pt = d.pt := by cases b <;> rfl
@[simp] theorem flag_free (f : Fld) (b : Bool) (d : Dev) : (flag f b d).free = d.free := by cases b <;> rfl
@[simp] theorem flag_ecc (f : Fld) (b : Bool) (d : Dev) : (flag f b d).ecc = d.ecc := by cases b <;> rfl
@[simp] theorem flag_out (f : Fld) (b : Bool) (d : Dev) : (flag f b d).out = d.out := by cases b <;> rfl
@[simp] theorem flag_pins (f : Fld) (b : Bool) (d : Dev) : (flag f b d).pins = d.pins := by cases b <;> rfl
@[simp] theorem flag_pwr (f : Fld) (b : Bool) (d : Dev) : (flag f b d).pwr = d.pwr := by cases b <;> rfl
@[simp] theorem flag_links (f : Fld) (b : Bool) (d : Dev) : (flag f b d).links = d.links := by cases b <;> rfl
@[simp] theorem flag_pcie (f : Fld) (b : Bool) (d : Dev) : (flag f b d).pcie = d.pcie := by cases b <;> rfl
@[simp] theorem flag_host (f : Fld) (b : Bool) (d : Dev) : (flag f b d).host = d.host := by cases b <;> rfl
@[simp] theorem flag_hic (f : Fld) (b : Bool) (d : Dev) : (flag f b d).hic = d.hic := by cases b <;> rfl
@[simp] theorem flag_sic (f : Fld) (b : Bool) (d : Dev) : (flag f b d).sic = d.sic := by cases b <;> rfl
@[simp] theorem flag_log (f : Fld) (b : Bool) (d : Dev) : (flag f b d).log = d.log := by cases b <;> rfl
@[simp] theorem flag_health (f : Fld) (b : Bool) (d : Dev) : (flag f b d).health = d.health := by cases b <;> rfl
@[simp] theorem flag_spokes (f : Fld) (b : Bool) (d : Dev) : (flag f b d).spokes = d.spokes := by cases b <;> rfl
@[simp] theorem flag_eng (f : Fld) (b : Bool) (d : Dev) : (flag f b d).eng = d.eng := by cases b <;> rfl
@[simp] theorem flag_time (f : Fld) (b : Bool) (d : Dev) : (flag f b d).time = d.time := by cases b <;> rfl
@[simp] theorem flag_can (f : Fld) (b : Bool) (d : Dev) : (flag f b d).can = d.can := by cases b <;> rfl
@[simp] theorem flag_sox (f : Fld) (b : Bool) (d : Dev) : (flag f b d).sox = d.sox := by cases b <;> rfl
@[simp] theorem flag_tdm (f : Fld) (b : Bool) (d : Dev) : (flag f b d).tdm = d.tdm := by cases b <;> rfl
@[simp] theorem flag_lb (f : Fld) (b : Bool) (d : Dev) : (flag f b d).lb = d.lb := by cases b <;> rfl

/-! ### countF changes regs only -/

@[simp] theorem countF_chip (f : Fld) (d : Dev) : (countF f d).chip = d.chip := rfl
@[simp] theorem countF_pt (f : Fld) (d : Dev) : (countF f d).pt = d.pt := rfl
@[simp] theorem countF_free (f : Fld) (d : Dev) : (countF f d).free = d.free := rfl
@[simp] theorem countF_marks (f : Fld) (d : Dev) : (countF f d).marks = d.marks := rfl
@[simp] theorem countF_ecc (f : Fld) (d : Dev) : (countF f d).ecc = d.ecc := rfl
@[simp] theorem countF_out (f : Fld) (d : Dev) : (countF f d).out = d.out := rfl
@[simp] theorem countF_pins (f : Fld) (d : Dev) : (countF f d).pins = d.pins := rfl
@[simp] theorem countF_pwr (f : Fld) (d : Dev) : (countF f d).pwr = d.pwr := rfl
@[simp] theorem countF_links (f : Fld) (d : Dev) : (countF f d).links = d.links := rfl
@[simp] theorem countF_pcie (f : Fld) (d : Dev) : (countF f d).pcie = d.pcie := rfl
@[simp] theorem countF_host (f : Fld) (d : Dev) : (countF f d).host = d.host := rfl
@[simp] theorem countF_hic (f : Fld) (d : Dev) : (countF f d).hic = d.hic := rfl
@[simp] theorem countF_sic (f : Fld) (d : Dev) : (countF f d).sic = d.sic := rfl
@[simp] theorem countF_log (f : Fld) (d : Dev) : (countF f d).log = d.log := rfl
@[simp] theorem countF_health (f : Fld) (d : Dev) : (countF f d).health = d.health := rfl
@[simp] theorem countF_spokes (f : Fld) (d : Dev) : (countF f d).spokes = d.spokes := rfl
@[simp] theorem countF_eng (f : Fld) (d : Dev) : (countF f d).eng = d.eng := rfl
@[simp] theorem countF_time (f : Fld) (d : Dev) : (countF f d).time = d.time := rfl
@[simp] theorem countF_can (f : Fld) (d : Dev) : (countF f d).can = d.can := rfl
@[simp] theorem countF_sox (f : Fld) (d : Dev) : (countF f d).sox = d.sox := rfl
@[simp] theorem countF_tdm (f : Fld) (d : Dev) : (countF f d).tdm = d.tdm := rfl
@[simp] theorem countF_lb (f : Fld) (d : Dev) : (countF f d).lb = d.lb := rfl

/-! ### bitF changes regs only -/

@[simp] theorem bitF_chip (f : Fld) (n : Nat) (b : Bool) (d : Dev) : (bitF f n b d).chip = d.chip := by cases b <;> rfl
@[simp] theorem bitF_pt (f : Fld) (n : Nat) (b : Bool) (d : Dev) : (bitF f n b d).pt = d.pt := by cases b <;> rfl
@[simp] theorem bitF_free (f : Fld) (n : Nat) (b : Bool) (d : Dev) : (bitF f n b d).free = d.free := by cases b <;> rfl
@[simp] theorem bitF_ecc (f : Fld) (n : Nat) (b : Bool) (d : Dev) : (bitF f n b d).ecc = d.ecc := by cases b <;> rfl
@[simp] theorem bitF_out (f : Fld) (n : Nat) (b : Bool) (d : Dev) : (bitF f n b d).out = d.out := by cases b <;> rfl
@[simp] theorem bitF_pins (f : Fld) (n : Nat) (b : Bool) (d : Dev) : (bitF f n b d).pins = d.pins := by cases b <;> rfl
@[simp] theorem bitF_pwr (f : Fld) (n : Nat) (b : Bool) (d : Dev) : (bitF f n b d).pwr = d.pwr := by cases b <;> rfl
@[simp] theorem bitF_links (f : Fld) (n : Nat) (b : Bool) (d : Dev) : (bitF f n b d).links = d.links := by cases b <;> rfl
@[simp] theorem bitF_pcie (f : Fld) (n : Nat) (b : Bool) (d : Dev) : (bitF f n b d).pcie = d.pcie := by cases b <;> rfl
@[simp] theorem bitF_host (f : Fld) (n : Nat) (b : Bool) (d : Dev) : (bitF f n b d).host = d.host := by cases b <;> rfl
@[simp] theorem bitF_hic (f : Fld) (n : Nat) (b : Bool) (d : Dev) : (bitF f n b d).hic = d.hic := by cases b <;> rfl
@[simp] theorem bitF_sic (f : Fld) (n : Nat) (b : Bool) (d : Dev) : (bitF f n b d).sic = d.sic := by cases b <;> rfl
@[simp] theorem bitF_log (f : Fld) (n : Nat) (b : Bool) (d : Dev) : (bitF f n b d).log = d.log := by cases b <;> rfl
@[simp] theorem bitF_health (f : Fld) (n : Nat) (b : Bool) (d : Dev) : (bitF f n b d).health = d.health := by cases b <;> rfl
@[simp] theorem bitF_spokes (f : Fld) (n : Nat) (b : Bool) (d : Dev) : (bitF f n b d).spokes = d.spokes := by cases b <;> rfl
@[simp] theorem bitF_eng (f : Fld) (n : Nat) (b : Bool) (d : Dev) : (bitF f n b d).eng = d.eng := by cases b <;> rfl
@[simp] theorem bitF_time (f : Fld) (n : Nat) (b : Bool) (d : Dev) : (bitF f n b d).time = d.time := by cases b <;> rfl
@[simp] theorem bitF_can (f : Fld) (n : Nat) (b : Bool) (d : Dev) : (bitF f n b d).can = d.can := by cases b <;> rfl
@[simp] theorem bitF_sox (f : Fld) (n : Nat) (b : Bool) (d : Dev) : (bitF f n b d).sox = d.sox := by cases b <;> rfl
@[simp] theorem bitF_tdm (f : Fld) (n : Nat) (b : Bool) (d : Dev) : (bitF f n b d).tdm = d.tdm := by cases b <;> rfl
@[simp] theorem bitF_lb (f : Fld) (n : Nat) (b : Bool) (d : Dev) : (bitF f n b d).lb = d.lb := by cases b <;> rfl

/-! ### updSpoke changes spokes only -/

@[simp] theorem updSpoke_chip (k : Nat) (f : Spoke → Spoke) (d : Dev) : (updSpoke k f d).chip = d.chip := rfl
@[simp] theorem updSpoke_pt (k : Nat) (f : Spoke → Spoke) (d : Dev) : (updSpoke k f d).pt = d.pt := rfl
@[simp] theorem updSpoke_free (k : Nat) (f : Spoke → Spoke) (d : Dev) : (updSpoke k f d).free = d.free := rfl
@[simp] theorem updSpoke_regs (k : Nat) (f : Spoke → Spoke) (d : Dev) : (updSpoke k f d).regs = d.regs := rfl
@[simp] theorem updSpoke_marks (k : Nat) (f : Spoke → Spoke) (d : Dev) : (updSpoke k f d).marks = d.marks := rfl
@[simp] theorem updSpoke_ecc (k : Nat) (f : Spoke → Spoke) (d : Dev) : (updSpoke k f d).ecc = d.ecc := rfl
@[simp] theorem updSpoke_out (k : Nat) (f : Spoke → Spoke) (d : Dev) : (updSpoke k f d).out = d.out := rfl
@[simp] theorem updSpoke_pins (k : Nat) (f : Spoke → Spoke) (d : Dev) : (updSpoke k f d).pins = d.pins := rfl
@[simp] theorem updSpoke_pwr (k : Nat) (f : Spoke → Spoke) (d : Dev) : (updSpoke k f d).pwr = d.pwr := rfl
@[simp] theorem updSpoke_links (k : Nat) (f : Spoke → Spoke) (d : Dev) : (updSpoke k f d).links = d.links := rfl
@[simp] theorem updSpoke_pcie (k : Nat) (f : Spoke → Spoke) (d : Dev) : (updSpoke k f d).pcie = d.pcie := rfl
@[simp] theorem updSpoke_host (k : Nat) (f : Spoke → Spoke) (d : Dev) : (updSpoke k f d).host = d.host := rfl
@[simp] theorem updSpoke_hic (k : Nat) (f : Spoke → Spoke) (d : Dev) : (updSpoke k f d).hic = d.hic := rfl
@[simp] theorem updSpoke_sic (k : Nat) (f : Spoke → Spoke) (d : Dev) : (updSpoke k f d).sic = d.sic := rfl
@[simp] theorem updSpoke_log (k : Nat) (f : Spoke → Spoke) (d : Dev) : (updSpoke k f d).log = d.log := rfl
@[simp] theorem updSpoke_health (k : Nat) (f : Spoke → Spoke) (d : Dev) : (updSpoke k f d).health = d.health := rfl
@[simp] theorem updSpoke_eng (k : Nat) (f : Spoke → Spoke) (d : Dev) : (updSpoke k f d).eng = d.eng := rfl
@[simp] theorem updSpoke_time (k : Nat) (f : Spoke → Spoke) (d : Dev) : (updSpoke k f d).time = d.time := rfl
@[simp] theorem updSpoke_can (k : Nat) (f : Spoke → Spoke) (d : Dev) : (updSpoke k f d).can = d.can := rfl
@[simp] theorem updSpoke_sox (k : Nat) (f : Spoke → Spoke) (d : Dev) : (updSpoke k f d).sox = d.sox := rfl
@[simp] theorem updSpoke_tdm (k : Nat) (f : Spoke → Spoke) (d : Dev) : (updSpoke k f d).tdm = d.tdm := rfl
@[simp] theorem updSpoke_lb (k : Nat) (f : Spoke → Spoke) (d : Dev) : (updSpoke k f d).lb = d.lb := rfl

/-! ### updLink changes links only -/

@[simp] theorem updLink_chip (k : Nat) (f : Link → Link) (d : Dev) : (updLink k f d).chip = d.chip := rfl
@[simp] theorem updLink_pt (k : Nat) (f : Link → Link) (d : Dev) : (updLink k f d).pt = d.pt := rfl
@[simp] theorem updLink_free (k : Nat) (f : Link → Link) (d : Dev) : (updLink k f d).free = d.free := rfl
@[simp] theorem updLink_regs (k : Nat) (f : Link → Link) (d : Dev) : (updLink k f d).regs = d.regs := rfl
@[simp] theorem updLink_marks (k : Nat) (f : Link → Link) (d : Dev) : (updLink k f d).marks = d.marks := rfl
@[simp] theorem updLink_ecc (k : Nat) (f : Link → Link) (d : Dev) : (updLink k f d).ecc = d.ecc := rfl
@[simp] theorem updLink_out (k : Nat) (f : Link → Link) (d : Dev) : (updLink k f d).out = d.out := rfl
@[simp] theorem updLink_pins (k : Nat) (f : Link → Link) (d : Dev) : (updLink k f d).pins = d.pins := rfl
@[simp] theorem updLink_pwr (k : Nat) (f : Link → Link) (d : Dev) : (updLink k f d).pwr = d.pwr := rfl
@[simp] theorem updLink_pcie (k : Nat) (f : Link → Link) (d : Dev) : (updLink k f d).pcie = d.pcie := rfl
@[simp] theorem updLink_host (k : Nat) (f : Link → Link) (d : Dev) : (updLink k f d).host = d.host := rfl
@[simp] theorem updLink_hic (k : Nat) (f : Link → Link) (d : Dev) : (updLink k f d).hic = d.hic := rfl
@[simp] theorem updLink_sic (k : Nat) (f : Link → Link) (d : Dev) : (updLink k f d).sic = d.sic := rfl
@[simp] theorem updLink_log (k : Nat) (f : Link → Link) (d : Dev) : (updLink k f d).log = d.log := rfl
@[simp] theorem updLink_health (k : Nat) (f : Link → Link) (d : Dev) : (updLink k f d).health = d.health := rfl
@[simp] theorem updLink_spokes (k : Nat) (f : Link → Link) (d : Dev) : (updLink k f d).spokes = d.spokes := rfl
@[simp] theorem updLink_eng (k : Nat) (f : Link → Link) (d : Dev) : (updLink k f d).eng = d.eng := rfl
@[simp] theorem updLink_time (k : Nat) (f : Link → Link) (d : Dev) : (updLink k f d).time = d.time := rfl
@[simp] theorem updLink_can (k : Nat) (f : Link → Link) (d : Dev) : (updLink k f d).can = d.can := rfl
@[simp] theorem updLink_sox (k : Nat) (f : Link → Link) (d : Dev) : (updLink k f d).sox = d.sox := rfl
@[simp] theorem updLink_tdm (k : Nat) (f : Link → Link) (d : Dev) : (updLink k f d).tdm = d.tdm := rfl
@[simp] theorem updLink_lb (k : Nat) (f : Link → Link) (d : Dev) : (updLink k f d).lb = d.lb := rfl

/-! ### updPwr changes pwr only -/

@[simp] theorem updPwr_chip (f : Pwr → Pwr) (d : Dev) : (updPwr f d).chip = d.chip := rfl
@[simp] theorem updPwr_pt (f : Pwr → Pwr) (d : Dev) : (updPwr f d).pt = d.pt := rfl
@[simp] theorem updPwr_free (f : Pwr → Pwr) (d : Dev) : (updPwr f d).free = d.free := rfl
@[simp] theorem updPwr_regs (f : Pwr → Pwr) (d : Dev) : (updPwr f d).regs = d.regs := rfl
@[simp] theorem updPwr_marks (f : Pwr → Pwr) (d : Dev) : (updPwr f d).marks = d.marks := rfl
@[simp] theorem updPwr_ecc (f : Pwr → Pwr) (d : Dev) : (updPwr f d).ecc = d.ecc := rfl
@[simp] theorem updPwr_out (f : Pwr → Pwr) (d : Dev) : (updPwr f d).out = d.out := rfl
@[simp] theorem updPwr_pins (f : Pwr → Pwr) (d : Dev) : (updPwr f d).pins = d.pins := rfl
@[simp] theorem updPwr_links (f : Pwr → Pwr) (d : Dev) : (updPwr f d).links = d.links := rfl
@[simp] theorem updPwr_pcie (f : Pwr → Pwr) (d : Dev) : (updPwr f d).pcie = d.pcie := rfl
@[simp] theorem updPwr_host (f : Pwr → Pwr) (d : Dev) : (updPwr f d).host = d.host := rfl
@[simp] theorem updPwr_hic (f : Pwr → Pwr) (d : Dev) : (updPwr f d).hic = d.hic := rfl
@[simp] theorem updPwr_sic (f : Pwr → Pwr) (d : Dev) : (updPwr f d).sic = d.sic := rfl
@[simp] theorem updPwr_log (f : Pwr → Pwr) (d : Dev) : (updPwr f d).log = d.log := rfl
@[simp] theorem updPwr_health (f : Pwr → Pwr) (d : Dev) : (updPwr f d).health = d.health := rfl
@[simp] theorem updPwr_spokes (f : Pwr → Pwr) (d : Dev) : (updPwr f d).spokes = d.spokes := rfl
@[simp] theorem updPwr_eng (f : Pwr → Pwr) (d : Dev) : (updPwr f d).eng = d.eng := rfl
@[simp] theorem updPwr_time (f : Pwr → Pwr) (d : Dev) : (updPwr f d).time = d.time := rfl
@[simp] theorem updPwr_can (f : Pwr → Pwr) (d : Dev) : (updPwr f d).can = d.can := rfl
@[simp] theorem updPwr_sox (f : Pwr → Pwr) (d : Dev) : (updPwr f d).sox = d.sox := rfl
@[simp] theorem updPwr_tdm (f : Pwr → Pwr) (d : Dev) : (updPwr f d).tdm = d.tdm := rfl
@[simp] theorem updPwr_lb (f : Pwr → Pwr) (d : Dev) : (updPwr f d).lb = d.lb := rfl

/-! ### setState changes pwr only -/

@[simp] theorem setState_chip (p : PwrState) (d : Dev) : (setState p d).chip = d.chip := rfl
@[simp] theorem setState_pt (p : PwrState) (d : Dev) : (setState p d).pt = d.pt := rfl
@[simp] theorem setState_free (p : PwrState) (d : Dev) : (setState p d).free = d.free := rfl
@[simp] theorem setState_regs (p : PwrState) (d : Dev) : (setState p d).regs = d.regs := rfl
@[simp] theorem setState_marks (p : PwrState) (d : Dev) : (setState p d).marks = d.marks := rfl
@[simp] theorem setState_ecc (p : PwrState) (d : Dev) : (setState p d).ecc = d.ecc := rfl
@[simp] theorem setState_out (p : PwrState) (d : Dev) : (setState p d).out = d.out := rfl
@[simp] theorem setState_pins (p : PwrState) (d : Dev) : (setState p d).pins = d.pins := rfl
@[simp] theorem setState_links (p : PwrState) (d : Dev) : (setState p d).links = d.links := rfl
@[simp] theorem setState_pcie (p : PwrState) (d : Dev) : (setState p d).pcie = d.pcie := rfl
@[simp] theorem setState_host (p : PwrState) (d : Dev) : (setState p d).host = d.host := rfl
@[simp] theorem setState_hic (p : PwrState) (d : Dev) : (setState p d).hic = d.hic := rfl
@[simp] theorem setState_sic (p : PwrState) (d : Dev) : (setState p d).sic = d.sic := rfl
@[simp] theorem setState_log (p : PwrState) (d : Dev) : (setState p d).log = d.log := rfl
@[simp] theorem setState_health (p : PwrState) (d : Dev) : (setState p d).health = d.health := rfl
@[simp] theorem setState_spokes (p : PwrState) (d : Dev) : (setState p d).spokes = d.spokes := rfl
@[simp] theorem setState_eng (p : PwrState) (d : Dev) : (setState p d).eng = d.eng := rfl
@[simp] theorem setState_time (p : PwrState) (d : Dev) : (setState p d).time = d.time := rfl
@[simp] theorem setState_can (p : PwrState) (d : Dev) : (setState p d).can = d.can := rfl
@[simp] theorem setState_sox (p : PwrState) (d : Dev) : (setState p d).sox = d.sox := rfl
@[simp] theorem setState_tdm (p : PwrState) (d : Dev) : (setState p d).tdm = d.tdm := rfl
@[simp] theorem setState_lb (p : PwrState) (d : Dev) : (setState p d).lb = d.lb := rfl

/-! ### updHost changes host only -/

@[simp] theorem updHost_chip (f : HostIf → HostIf) (d : Dev) : (updHost f d).chip = d.chip := rfl
@[simp] theorem updHost_pt (f : HostIf → HostIf) (d : Dev) : (updHost f d).pt = d.pt := rfl
@[simp] theorem updHost_free (f : HostIf → HostIf) (d : Dev) : (updHost f d).free = d.free := rfl
@[simp] theorem updHost_regs (f : HostIf → HostIf) (d : Dev) : (updHost f d).regs = d.regs := rfl
@[simp] theorem updHost_marks (f : HostIf → HostIf) (d : Dev) : (updHost f d).marks = d.marks := rfl
@[simp] theorem updHost_ecc (f : HostIf → HostIf) (d : Dev) : (updHost f d).ecc = d.ecc := rfl
@[simp] theorem updHost_out (f : HostIf → HostIf) (d : Dev) : (updHost f d).out = d.out := rfl
@[simp] theorem updHost_pins (f : HostIf → HostIf) (d : Dev) : (updHost f d).pins = d.pins := rfl
@[simp] theorem updHost_pwr (f : HostIf → HostIf) (d : Dev) : (updHost f d).pwr = d.pwr := rfl
@[simp] theorem updHost_links (f : HostIf → HostIf) (d : Dev) : (updHost f d).links = d.links := rfl
@[simp] theorem updHost_pcie (f : HostIf → HostIf) (d : Dev) : (updHost f d).pcie = d.pcie := rfl
@[simp] theorem updHost_hic (f : HostIf → HostIf) (d : Dev) : (updHost f d).hic = d.hic := rfl
@[simp] theorem updHost_sic (f : HostIf → HostIf) (d : Dev) : (updHost f d).sic = d.sic := rfl
@[simp] theorem updHost_log (f : HostIf → HostIf) (d : Dev) : (updHost f d).log = d.log := rfl
@[simp] theorem updHost_health (f : HostIf → HostIf) (d : Dev) : (updHost f d).health = d.health := rfl
@[simp] theorem updHost_spokes (f : HostIf → HostIf) (d : Dev) : (updHost f d).spokes = d.spokes := rfl
@[simp] theorem updHost_eng (f : HostIf → HostIf) (d : Dev) : (updHost f d).eng = d.eng := rfl
@[simp] theorem updHost_time (f : HostIf → HostIf) (d : Dev) : (updHost f d).time = d.time := rfl
@[simp] theorem updHost_can (f : HostIf → HostIf) (d : Dev) : (updHost f d).can = d.can := rfl
@[simp] theorem updHost_sox (f : HostIf → HostIf) (d : Dev) : (updHost f d).sox = d.sox := rfl
@[simp] theorem updHost_tdm (f : HostIf → HostIf) (d : Dev) : (updHost f d).tdm = d.tdm := rfl
@[simp] theorem updHost_lb (f : HostIf → HostIf) (d : Dev) : (updHost f d).lb = d.lb := rfl

/-! ### updRing changes host only -/

@[simp] theorem updRing_chip (i : Nat) (f : Ring → Ring) (d : Dev) : (updRing i f d).chip = d.chip := rfl
@[simp] theorem updRing_pt (i : Nat) (f : Ring → Ring) (d : Dev) : (updRing i f d).pt = d.pt := rfl
@[simp] theorem updRing_free (i : Nat) (f : Ring → Ring) (d : Dev) : (updRing i f d).free = d.free := rfl
@[simp] theorem updRing_regs (i : Nat) (f : Ring → Ring) (d : Dev) : (updRing i f d).regs = d.regs := rfl
@[simp] theorem updRing_marks (i : Nat) (f : Ring → Ring) (d : Dev) : (updRing i f d).marks = d.marks := rfl
@[simp] theorem updRing_ecc (i : Nat) (f : Ring → Ring) (d : Dev) : (updRing i f d).ecc = d.ecc := rfl
@[simp] theorem updRing_out (i : Nat) (f : Ring → Ring) (d : Dev) : (updRing i f d).out = d.out := rfl
@[simp] theorem updRing_pins (i : Nat) (f : Ring → Ring) (d : Dev) : (updRing i f d).pins = d.pins := rfl
@[simp] theorem updRing_pwr (i : Nat) (f : Ring → Ring) (d : Dev) : (updRing i f d).pwr = d.pwr := rfl
@[simp] theorem updRing_links (i : Nat) (f : Ring → Ring) (d : Dev) : (updRing i f d).links = d.links := rfl
@[simp] theorem updRing_pcie (i : Nat) (f : Ring → Ring) (d : Dev) : (updRing i f d).pcie = d.pcie := rfl
@[simp] theorem updRing_hic (i : Nat) (f : Ring → Ring) (d : Dev) : (updRing i f d).hic = d.hic := rfl
@[simp] theorem updRing_sic (i : Nat) (f : Ring → Ring) (d : Dev) : (updRing i f d).sic = d.sic := rfl
@[simp] theorem updRing_log (i : Nat) (f : Ring → Ring) (d : Dev) : (updRing i f d).log = d.log := rfl
@[simp] theorem updRing_health (i : Nat) (f : Ring → Ring) (d : Dev) : (updRing i f d).health = d.health := rfl
@[simp] theorem updRing_spokes (i : Nat) (f : Ring → Ring) (d : Dev) : (updRing i f d).spokes = d.spokes := rfl
@[simp] theorem updRing_eng (i : Nat) (f : Ring → Ring) (d : Dev) : (updRing i f d).eng = d.eng := rfl
@[simp] theorem updRing_time (i : Nat) (f : Ring → Ring) (d : Dev) : (updRing i f d).time = d.time := rfl
@[simp] theorem updRing_can (i : Nat) (f : Ring → Ring) (d : Dev) : (updRing i f d).can = d.can := rfl
@[simp] theorem updRing_sox (i : Nat) (f : Ring → Ring) (d : Dev) : (updRing i f d).sox = d.sox := rfl
@[simp] theorem updRing_tdm (i : Nat) (f : Ring → Ring) (d : Dev) : (updRing i f d).tdm = d.tdm := rfl
@[simp] theorem updRing_lb (i : Nat) (f : Ring → Ring) (d : Dev) : (updRing i f d).lb = d.lb := rfl

/-! ### updHealth changes health only -/

@[simp] theorem updHealth_chip (f : Health → Health) (d : Dev) : (updHealth f d).chip = d.chip := rfl
@[simp] theorem updHealth_pt (f : Health → Health) (d : Dev) : (updHealth f d).pt = d.pt := rfl
@[simp] theorem updHealth_free (f : Health → Health) (d : Dev) : (updHealth f d).free = d.free := rfl
@[simp] theorem updHealth_regs (f : Health → Health) (d : Dev) : (updHealth f d).regs = d.regs := rfl
@[simp] theorem updHealth_marks (f : Health → Health) (d : Dev) : (updHealth f d).marks = d.marks := rfl
@[simp] theorem updHealth_ecc (f : Health → Health) (d : Dev) : (updHealth f d).ecc = d.ecc := rfl
@[simp] theorem updHealth_out (f : Health → Health) (d : Dev) : (updHealth f d).out = d.out := rfl
@[simp] theorem updHealth_pins (f : Health → Health) (d : Dev) : (updHealth f d).pins = d.pins := rfl
@[simp] theorem updHealth_pwr (f : Health → Health) (d : Dev) : (updHealth f d).pwr = d.pwr := rfl
@[simp] theorem updHealth_links (f : Health → Health) (d : Dev) : (updHealth f d).links = d.links := rfl
@[simp] theorem updHealth_pcie (f : Health → Health) (d : Dev) : (updHealth f d).pcie = d.pcie := rfl
@[simp] theorem updHealth_host (f : Health → Health) (d : Dev) : (updHealth f d).host = d.host := rfl
@[simp] theorem updHealth_hic (f : Health → Health) (d : Dev) : (updHealth f d).hic = d.hic := rfl
@[simp] theorem updHealth_sic (f : Health → Health) (d : Dev) : (updHealth f d).sic = d.sic := rfl
@[simp] theorem updHealth_log (f : Health → Health) (d : Dev) : (updHealth f d).log = d.log := rfl
@[simp] theorem updHealth_spokes (f : Health → Health) (d : Dev) : (updHealth f d).spokes = d.spokes := rfl
@[simp] theorem updHealth_eng (f : Health → Health) (d : Dev) : (updHealth f d).eng = d.eng := rfl
@[simp] theorem updHealth_time (f : Health → Health) (d : Dev) : (updHealth f d).time = d.time := rfl
@[simp] theorem updHealth_can (f : Health → Health) (d : Dev) : (updHealth f d).can = d.can := rfl
@[simp] theorem updHealth_sox (f : Health → Health) (d : Dev) : (updHealth f d).sox = d.sox := rfl
@[simp] theorem updHealth_tdm (f : Health → Health) (d : Dev) : (updHealth f d).tdm = d.tdm := rfl
@[simp] theorem updHealth_lb (f : Health → Health) (d : Dev) : (updHealth f d).lb = d.lb := rfl

/-! ### updInst changes health only -/

@[simp] theorem updInst_chip (c i : Nat) (f : Inst → Inst) (d : Dev) : (updInst c i f d).chip = d.chip := rfl
@[simp] theorem updInst_pt (c i : Nat) (f : Inst → Inst) (d : Dev) : (updInst c i f d).pt = d.pt := rfl
@[simp] theorem updInst_free (c i : Nat) (f : Inst → Inst) (d : Dev) : (updInst c i f d).free = d.free := rfl
@[simp] theorem updInst_regs (c i : Nat) (f : Inst → Inst) (d : Dev) : (updInst c i f d).regs = d.regs := rfl
@[simp] theorem updInst_marks (c i : Nat) (f : Inst → Inst) (d : Dev) : (updInst c i f d).marks = d.marks := rfl
@[simp] theorem updInst_ecc (c i : Nat) (f : Inst → Inst) (d : Dev) : (updInst c i f d).ecc = d.ecc := rfl
@[simp] theorem updInst_out (c i : Nat) (f : Inst → Inst) (d : Dev) : (updInst c i f d).out = d.out := rfl
@[simp] theorem updInst_pins (c i : Nat) (f : Inst → Inst) (d : Dev) : (updInst c i f d).pins = d.pins := rfl
@[simp] theorem updInst_pwr (c i : Nat) (f : Inst → Inst) (d : Dev) : (updInst c i f d).pwr = d.pwr := rfl
@[simp] theorem updInst_links (c i : Nat) (f : Inst → Inst) (d : Dev) : (updInst c i f d).links = d.links := rfl
@[simp] theorem updInst_pcie (c i : Nat) (f : Inst → Inst) (d : Dev) : (updInst c i f d).pcie = d.pcie := rfl
@[simp] theorem updInst_host (c i : Nat) (f : Inst → Inst) (d : Dev) : (updInst c i f d).host = d.host := rfl
@[simp] theorem updInst_hic (c i : Nat) (f : Inst → Inst) (d : Dev) : (updInst c i f d).hic = d.hic := rfl
@[simp] theorem updInst_sic (c i : Nat) (f : Inst → Inst) (d : Dev) : (updInst c i f d).sic = d.sic := rfl
@[simp] theorem updInst_log (c i : Nat) (f : Inst → Inst) (d : Dev) : (updInst c i f d).log = d.log := rfl
@[simp] theorem updInst_spokes (c i : Nat) (f : Inst → Inst) (d : Dev) : (updInst c i f d).spokes = d.spokes := rfl
@[simp] theorem updInst_eng (c i : Nat) (f : Inst → Inst) (d : Dev) : (updInst c i f d).eng = d.eng := rfl
@[simp] theorem updInst_time (c i : Nat) (f : Inst → Inst) (d : Dev) : (updInst c i f d).time = d.time := rfl
@[simp] theorem updInst_can (c i : Nat) (f : Inst → Inst) (d : Dev) : (updInst c i f d).can = d.can := rfl
@[simp] theorem updInst_sox (c i : Nat) (f : Inst → Inst) (d : Dev) : (updInst c i f d).sox = d.sox := rfl
@[simp] theorem updInst_tdm (c i : Nat) (f : Inst → Inst) (d : Dev) : (updInst c i f d).tdm = d.tdm := rfl
@[simp] theorem updInst_lb (c i : Nat) (f : Inst → Inst) (d : Dev) : (updInst c i f d).lb = d.lb := rfl

/-! ### updEng changes eng only -/

@[simp] theorem updEng_chip (f : Engine → Engine) (d : Dev) : (updEng f d).chip = d.chip := rfl
@[simp] theorem updEng_pt (f : Engine → Engine) (d : Dev) : (updEng f d).pt = d.pt := rfl
@[simp] theorem updEng_free (f : Engine → Engine) (d : Dev) : (updEng f d).free = d.free := rfl
@[simp] theorem updEng_regs (f : Engine → Engine) (d : Dev) : (updEng f d).regs = d.regs := rfl
@[simp] theorem updEng_marks (f : Engine → Engine) (d : Dev) : (updEng f d).marks = d.marks := rfl
@[simp] theorem updEng_ecc (f : Engine → Engine) (d : Dev) : (updEng f d).ecc = d.ecc := rfl
@[simp] theorem updEng_out (f : Engine → Engine) (d : Dev) : (updEng f d).out = d.out := rfl
@[simp] theorem updEng_pins (f : Engine → Engine) (d : Dev) : (updEng f d).pins = d.pins := rfl
@[simp] theorem updEng_pwr (f : Engine → Engine) (d : Dev) : (updEng f d).pwr = d.pwr := rfl
@[simp] theorem updEng_links (f : Engine → Engine) (d : Dev) : (updEng f d).links = d.links := rfl
@[simp] theorem updEng_pcie (f : Engine → Engine) (d : Dev) : (updEng f d).pcie = d.pcie := rfl
@[simp] theorem updEng_host (f : Engine → Engine) (d : Dev) : (updEng f d).host = d.host := rfl
@[simp] theorem updEng_hic (f : Engine → Engine) (d : Dev) : (updEng f d).hic = d.hic := rfl
@[simp] theorem updEng_sic (f : Engine → Engine) (d : Dev) : (updEng f d).sic = d.sic := rfl
@[simp] theorem updEng_log (f : Engine → Engine) (d : Dev) : (updEng f d).log = d.log := rfl
@[simp] theorem updEng_health (f : Engine → Engine) (d : Dev) : (updEng f d).health = d.health := rfl
@[simp] theorem updEng_spokes (f : Engine → Engine) (d : Dev) : (updEng f d).spokes = d.spokes := rfl
@[simp] theorem updEng_time (f : Engine → Engine) (d : Dev) : (updEng f d).time = d.time := rfl
@[simp] theorem updEng_can (f : Engine → Engine) (d : Dev) : (updEng f d).can = d.can := rfl
@[simp] theorem updEng_sox (f : Engine → Engine) (d : Dev) : (updEng f d).sox = d.sox := rfl
@[simp] theorem updEng_tdm (f : Engine → Engine) (d : Dev) : (updEng f d).tdm = d.tdm := rfl
@[simp] theorem updEng_lb (f : Engine → Engine) (d : Dev) : (updEng f d).lb = d.lb := rfl

/-! ### updOut changes eng only -/

@[simp] theorem updOut_chip (o : Nat) (f : OutletSt → OutletSt) (d : Dev) : (updOut o f d).chip = d.chip := rfl
@[simp] theorem updOut_pt (o : Nat) (f : OutletSt → OutletSt) (d : Dev) : (updOut o f d).pt = d.pt := rfl
@[simp] theorem updOut_free (o : Nat) (f : OutletSt → OutletSt) (d : Dev) : (updOut o f d).free = d.free := rfl
@[simp] theorem updOut_regs (o : Nat) (f : OutletSt → OutletSt) (d : Dev) : (updOut o f d).regs = d.regs := rfl
@[simp] theorem updOut_marks (o : Nat) (f : OutletSt → OutletSt) (d : Dev) : (updOut o f d).marks = d.marks := rfl
@[simp] theorem updOut_ecc (o : Nat) (f : OutletSt → OutletSt) (d : Dev) : (updOut o f d).ecc = d.ecc := rfl
@[simp] theorem updOut_out (o : Nat) (f : OutletSt → OutletSt) (d : Dev) : (updOut o f d).out = d.out := rfl
@[simp] theorem updOut_pins (o : Nat) (f : OutletSt → OutletSt) (d : Dev) : (updOut o f d).pins = d.pins := rfl
@[simp] theorem updOut_pwr (o : Nat) (f : OutletSt → OutletSt) (d : Dev) : (updOut o f d).pwr = d.pwr := rfl
@[simp] theorem updOut_links (o : Nat) (f : OutletSt → OutletSt) (d : Dev) : (updOut o f d).links = d.links := rfl
@[simp] theorem updOut_pcie (o : Nat) (f : OutletSt → OutletSt) (d : Dev) : (updOut o f d).pcie = d.pcie := rfl
@[simp] theorem updOut_host (o : Nat) (f : OutletSt → OutletSt) (d : Dev) : (updOut o f d).host = d.host := rfl
@[simp] theorem updOut_hic (o : Nat) (f : OutletSt → OutletSt) (d : Dev) : (updOut o f d).hic = d.hic := rfl
@[simp] theorem updOut_sic (o : Nat) (f : OutletSt → OutletSt) (d : Dev) : (updOut o f d).sic = d.sic := rfl
@[simp] theorem updOut_log (o : Nat) (f : OutletSt → OutletSt) (d : Dev) : (updOut o f d).log = d.log := rfl
@[simp] theorem updOut_health (o : Nat) (f : OutletSt → OutletSt) (d : Dev) : (updOut o f d).health = d.health := rfl
@[simp] theorem updOut_spokes (o : Nat) (f : OutletSt → OutletSt) (d : Dev) : (updOut o f d).spokes = d.spokes := rfl
@[simp] theorem updOut_time (o : Nat) (f : OutletSt → OutletSt) (d : Dev) : (updOut o f d).time = d.time := rfl
@[simp] theorem updOut_can (o : Nat) (f : OutletSt → OutletSt) (d : Dev) : (updOut o f d).can = d.can := rfl
@[simp] theorem updOut_sox (o : Nat) (f : OutletSt → OutletSt) (d : Dev) : (updOut o f d).sox = d.sox := rfl
@[simp] theorem updOut_tdm (o : Nat) (f : OutletSt → OutletSt) (d : Dev) : (updOut o f d).tdm = d.tdm := rfl
@[simp] theorem updOut_lb (o : Nat) (f : OutletSt → OutletSt) (d : Dev) : (updOut o f d).lb = d.lb := rfl

/-! ### updTime changes time only -/

@[simp] theorem updTime_chip (f : TimeUnit → TimeUnit) (d : Dev) : (updTime f d).chip = d.chip := rfl
@[simp] theorem updTime_pt (f : TimeUnit → TimeUnit) (d : Dev) : (updTime f d).pt = d.pt := rfl
@[simp] theorem updTime_free (f : TimeUnit → TimeUnit) (d : Dev) : (updTime f d).free = d.free := rfl
@[simp] theorem updTime_regs (f : TimeUnit → TimeUnit) (d : Dev) : (updTime f d).regs = d.regs := rfl
@[simp] theorem updTime_marks (f : TimeUnit → TimeUnit) (d : Dev) : (updTime f d).marks = d.marks := rfl
@[simp] theorem updTime_ecc (f : TimeUnit → TimeUnit) (d : Dev) : (updTime f d).ecc = d.ecc := rfl
@[simp] theorem updTime_out (f : TimeUnit → TimeUnit) (d : Dev) : (updTime f d).out = d.out := rfl
@[simp] theorem updTime_pins (f : TimeUnit → TimeUnit) (d : Dev) : (updTime f d).pins = d.pins := rfl
@[simp] theorem updTime_pwr (f : TimeUnit → TimeUnit) (d : Dev) : (updTime f d).pwr = d.pwr := rfl
@[simp] theorem updTime_links (f : TimeUnit → TimeUnit) (d : Dev) : (updTime f d).links = d.links := rfl
@[simp] theorem updTime_pcie (f : TimeUnit → TimeUnit) (d : Dev) : (updTime f d).pcie = d.pcie := rfl
@[simp] theorem updTime_host (f : TimeUnit → TimeUnit) (d : Dev) : (updTime f d).host = d.host := rfl
@[simp] theorem updTime_hic (f : TimeUnit → TimeUnit) (d : Dev) : (updTime f d).hic = d.hic := rfl
@[simp] theorem updTime_sic (f : TimeUnit → TimeUnit) (d : Dev) : (updTime f d).sic = d.sic := rfl
@[simp] theorem updTime_log (f : TimeUnit → TimeUnit) (d : Dev) : (updTime f d).log = d.log := rfl
@[simp] theorem updTime_health (f : TimeUnit → TimeUnit) (d : Dev) : (updTime f d).health = d.health := rfl
@[simp] theorem updTime_spokes (f : TimeUnit → TimeUnit) (d : Dev) : (updTime f d).spokes = d.spokes := rfl
@[simp] theorem updTime_eng (f : TimeUnit → TimeUnit) (d : Dev) : (updTime f d).eng = d.eng := rfl
@[simp] theorem updTime_can (f : TimeUnit → TimeUnit) (d : Dev) : (updTime f d).can = d.can := rfl
@[simp] theorem updTime_sox (f : TimeUnit → TimeUnit) (d : Dev) : (updTime f d).sox = d.sox := rfl
@[simp] theorem updTime_tdm (f : TimeUnit → TimeUnit) (d : Dev) : (updTime f d).tdm = d.tdm := rfl
@[simp] theorem updTime_lb (f : TimeUnit → TimeUnit) (d : Dev) : (updTime f d).lb = d.lb := rfl

/-! ### updCan changes can only -/

@[simp] theorem updCan_chip (c : Nat) (f : CanCtl → CanCtl) (d : Dev) : (updCan c f d).chip = d.chip := rfl
@[simp] theorem updCan_pt (c : Nat) (f : CanCtl → CanCtl) (d : Dev) : (updCan c f d).pt = d.pt := rfl
@[simp] theorem updCan_free (c : Nat) (f : CanCtl → CanCtl) (d : Dev) : (updCan c f d).free = d.free := rfl
@[simp] theorem updCan_regs (c : Nat) (f : CanCtl → CanCtl) (d : Dev) : (updCan c f d).regs = d.regs := rfl
@[simp] theorem updCan_marks (c : Nat) (f : CanCtl → CanCtl) (d : Dev) : (updCan c f d).marks = d.marks := rfl
@[simp] theorem updCan_ecc (c : Nat) (f : CanCtl → CanCtl) (d : Dev) : (updCan c f d).ecc = d.ecc := rfl
@[simp] theorem updCan_out (c : Nat) (f : CanCtl → CanCtl) (d : Dev) : (updCan c f d).out = d.out := rfl
@[simp] theorem updCan_pins (c : Nat) (f : CanCtl → CanCtl) (d : Dev) : (updCan c f d).pins = d.pins := rfl
@[simp] theorem updCan_pwr (c : Nat) (f : CanCtl → CanCtl) (d : Dev) : (updCan c f d).pwr = d.pwr := rfl
@[simp] theorem updCan_links (c : Nat) (f : CanCtl → CanCtl) (d : Dev) : (updCan c f d).links = d.links := rfl
@[simp] theorem updCan_pcie (c : Nat) (f : CanCtl → CanCtl) (d : Dev) : (updCan c f d).pcie = d.pcie := rfl
@[simp] theorem updCan_host (c : Nat) (f : CanCtl → CanCtl) (d : Dev) : (updCan c f d).host = d.host := rfl
@[simp] theorem updCan_hic (c : Nat) (f : CanCtl → CanCtl) (d : Dev) : (updCan c f d).hic = d.hic := rfl
@[simp] theorem updCan_sic (c : Nat) (f : CanCtl → CanCtl) (d : Dev) : (updCan c f d).sic = d.sic := rfl
@[simp] theorem updCan_log (c : Nat) (f : CanCtl → CanCtl) (d : Dev) : (updCan c f d).log = d.log := rfl
@[simp] theorem updCan_health (c : Nat) (f : CanCtl → CanCtl) (d : Dev) : (updCan c f d).health = d.health := rfl
@[simp] theorem updCan_spokes (c : Nat) (f : CanCtl → CanCtl) (d : Dev) : (updCan c f d).spokes = d.spokes := rfl
@[simp] theorem updCan_eng (c : Nat) (f : CanCtl → CanCtl) (d : Dev) : (updCan c f d).eng = d.eng := rfl
@[simp] theorem updCan_time (c : Nat) (f : CanCtl → CanCtl) (d : Dev) : (updCan c f d).time = d.time := rfl
@[simp] theorem updCan_sox (c : Nat) (f : CanCtl → CanCtl) (d : Dev) : (updCan c f d).sox = d.sox := rfl
@[simp] theorem updCan_tdm (c : Nat) (f : CanCtl → CanCtl) (d : Dev) : (updCan c f d).tdm = d.tdm := rfl
@[simp] theorem updCan_lb (c : Nat) (f : CanCtl → CanCtl) (d : Dev) : (updCan c f d).lb = d.lb := rfl

/-! ### updSox changes sox only -/

@[simp] theorem updSox_chip (f : Sox → Sox) (d : Dev) : (updSox f d).chip = d.chip := rfl
@[simp] theorem updSox_pt (f : Sox → Sox) (d : Dev) : (updSox f d).pt = d.pt := rfl
@[simp] theorem updSox_free (f : Sox → Sox) (d : Dev) : (updSox f d).free = d.free := rfl
@[simp] theorem updSox_regs (f : Sox → Sox) (d : Dev) : (updSox f d).regs = d.regs := rfl
@[simp] theorem updSox_marks (f : Sox → Sox) (d : Dev) : (updSox f d).marks = d.marks := rfl
@[simp] theorem updSox_ecc (f : Sox → Sox) (d : Dev) : (updSox f d).ecc = d.ecc := rfl
@[simp] theorem updSox_out (f : Sox → Sox) (d : Dev) : (updSox f d).out = d.out := rfl
@[simp] theorem updSox_pins (f : Sox → Sox) (d : Dev) : (updSox f d).pins = d.pins := rfl
@[simp] theorem updSox_pwr (f : Sox → Sox) (d : Dev) : (updSox f d).pwr = d.pwr := rfl
@[simp] theorem updSox_links (f : Sox → Sox) (d : Dev) : (updSox f d).links = d.links := rfl
@[simp] theorem updSox_pcie (f : Sox → Sox) (d : Dev) : (updSox f d).pcie = d.pcie := rfl
@[simp] theorem updSox_host (f : Sox → Sox) (d : Dev) : (updSox f d).host = d.host := rfl
@[simp] theorem updSox_hic (f : Sox → Sox) (d : Dev) : (updSox f d).hic = d.hic := rfl
@[simp] theorem updSox_sic (f : Sox → Sox) (d : Dev) : (updSox f d).sic = d.sic := rfl
@[simp] theorem updSox_log (f : Sox → Sox) (d : Dev) : (updSox f d).log = d.log := rfl
@[simp] theorem updSox_health (f : Sox → Sox) (d : Dev) : (updSox f d).health = d.health := rfl
@[simp] theorem updSox_spokes (f : Sox → Sox) (d : Dev) : (updSox f d).spokes = d.spokes := rfl
@[simp] theorem updSox_eng (f : Sox → Sox) (d : Dev) : (updSox f d).eng = d.eng := rfl
@[simp] theorem updSox_time (f : Sox → Sox) (d : Dev) : (updSox f d).time = d.time := rfl
@[simp] theorem updSox_can (f : Sox → Sox) (d : Dev) : (updSox f d).can = d.can := rfl
@[simp] theorem updSox_tdm (f : Sox → Sox) (d : Dev) : (updSox f d).tdm = d.tdm := rfl
@[simp] theorem updSox_lb (f : Sox → Sox) (d : Dev) : (updSox f d).lb = d.lb := rfl

/-! ### updTdm changes tdm only -/

@[simp] theorem updTdm_chip (f : Tandem → Tandem) (d : Dev) : (updTdm f d).chip = d.chip := rfl
@[simp] theorem updTdm_pt (f : Tandem → Tandem) (d : Dev) : (updTdm f d).pt = d.pt := rfl
@[simp] theorem updTdm_free (f : Tandem → Tandem) (d : Dev) : (updTdm f d).free = d.free := rfl
@[simp] theorem updTdm_regs (f : Tandem → Tandem) (d : Dev) : (updTdm f d).regs = d.regs := rfl
@[simp] theorem updTdm_marks (f : Tandem → Tandem) (d : Dev) : (updTdm f d).marks = d.marks := rfl
@[simp] theorem updTdm_ecc (f : Tandem → Tandem) (d : Dev) : (updTdm f d).ecc = d.ecc := rfl
@[simp] theorem updTdm_out (f : Tandem → Tandem) (d : Dev) : (updTdm f d).out = d.out := rfl
@[simp] theorem updTdm_pins (f : Tandem → Tandem) (d : Dev) : (updTdm f d).pins = d.pins := rfl
@[simp] theorem updTdm_pwr (f : Tandem → Tandem) (d : Dev) : (updTdm f d).pwr = d.pwr := rfl
@[simp] theorem updTdm_links (f : Tandem → Tandem) (d : Dev) : (updTdm f d).links = d.links := rfl
@[simp] theorem updTdm_pcie (f : Tandem → Tandem) (d : Dev) : (updTdm f d).pcie = d.pcie := rfl
@[simp] theorem updTdm_host (f : Tandem → Tandem) (d : Dev) : (updTdm f d).host = d.host := rfl
@[simp] theorem updTdm_hic (f : Tandem → Tandem) (d : Dev) : (updTdm f d).hic = d.hic := rfl
@[simp] theorem updTdm_sic (f : Tandem → Tandem) (d : Dev) : (updTdm f d).sic = d.sic := rfl
@[simp] theorem updTdm_log (f : Tandem → Tandem) (d : Dev) : (updTdm f d).log = d.log := rfl
@[simp] theorem updTdm_health (f : Tandem → Tandem) (d : Dev) : (updTdm f d).health = d.health := rfl
@[simp] theorem updTdm_spokes (f : Tandem → Tandem) (d : Dev) : (updTdm f d).spokes = d.spokes := rfl
@[simp] theorem updTdm_eng (f : Tandem → Tandem) (d : Dev) : (updTdm f d).eng = d.eng := rfl
@[simp] theorem updTdm_time (f : Tandem → Tandem) (d : Dev) : (updTdm f d).time = d.time := rfl
@[simp] theorem updTdm_can (f : Tandem → Tandem) (d : Dev) : (updTdm f d).can = d.can := rfl
@[simp] theorem updTdm_sox (f : Tandem → Tandem) (d : Dev) : (updTdm f d).sox = d.sox := rfl
@[simp] theorem updTdm_lb (f : Tandem → Tandem) (d : Dev) : (updTdm f d).lb = d.lb := rfl

/-! ### emit changes out only -/

@[simp] theorem emit_chip (e : OutEvent) (d : Dev) : (emit e d).chip = d.chip := rfl
@[simp] theorem emit_pt (e : OutEvent) (d : Dev) : (emit e d).pt = d.pt := rfl
@[simp] theorem emit_free (e : OutEvent) (d : Dev) : (emit e d).free = d.free := rfl
@[simp] theorem emit_regs (e : OutEvent) (d : Dev) : (emit e d).regs = d.regs := rfl
@[simp] theorem emit_marks (e : OutEvent) (d : Dev) : (emit e d).marks = d.marks := rfl
@[simp] theorem emit_ecc (e : OutEvent) (d : Dev) : (emit e d).ecc = d.ecc := rfl
@[simp] theorem emit_pins (e : OutEvent) (d : Dev) : (emit e d).pins = d.pins := rfl
@[simp] theorem emit_pwr (e : OutEvent) (d : Dev) : (emit e d).pwr = d.pwr := rfl
@[simp] theorem emit_links (e : OutEvent) (d : Dev) : (emit e d).links = d.links := rfl
@[simp] theorem emit_pcie (e : OutEvent) (d : Dev) : (emit e d).pcie = d.pcie := rfl
@[simp] theorem emit_host (e : OutEvent) (d : Dev) : (emit e d).host = d.host := rfl
@[simp] theorem emit_hic (e : OutEvent) (d : Dev) : (emit e d).hic = d.hic := rfl
@[simp] theorem emit_sic (e : OutEvent) (d : Dev) : (emit e d).sic = d.sic := rfl
@[simp] theorem emit_log (e : OutEvent) (d : Dev) : (emit e d).log = d.log := rfl
@[simp] theorem emit_health (e : OutEvent) (d : Dev) : (emit e d).health = d.health := rfl
@[simp] theorem emit_spokes (e : OutEvent) (d : Dev) : (emit e d).spokes = d.spokes := rfl
@[simp] theorem emit_eng (e : OutEvent) (d : Dev) : (emit e d).eng = d.eng := rfl
@[simp] theorem emit_time (e : OutEvent) (d : Dev) : (emit e d).time = d.time := rfl
@[simp] theorem emit_can (e : OutEvent) (d : Dev) : (emit e d).can = d.can := rfl
@[simp] theorem emit_sox (e : OutEvent) (d : Dev) : (emit e d).sox = d.sox := rfl
@[simp] theorem emit_tdm (e : OutEvent) (d : Dev) : (emit e d).tdm = d.tdm := rfl
@[simp] theorem emit_lb (e : OutEvent) (d : Dev) : (emit e d).lb = d.lb := rfl

/-! ### What an update puts into the field it changes -/

@[simp] theorem updPwr_pwr (f : Pwr → Pwr) (d : Dev) : (updPwr f d).pwr = f d.pwr := rfl
@[simp] theorem setState_pwr (p : PwrState) (d : Dev) : (setState p d).pwr = { d.pwr with state := p } := rfl
@[simp] theorem updHost_host (f : HostIf → HostIf) (d : Dev) : (updHost f d).host = f d.host := rfl
@[simp] theorem updHealth_health (f : Health → Health) (d : Dev) : (updHealth f d).health = f d.health := rfl
@[simp] theorem updEng_eng (f : Engine → Engine) (d : Dev) : (updEng f d).eng = f d.eng := rfl
@[simp] theorem updTime_time (f : TimeUnit → TimeUnit) (d : Dev) : (updTime f d).time = f d.time := rfl
@[simp] theorem updSox_sox (f : Sox → Sox) (d : Dev) : (updSox f d).sox = f d.sox := rfl
@[simp] theorem updTdm_tdm (f : Tandem → Tandem) (d : Dev) : (updTdm f d).tdm = f d.tdm := rfl
@[simp] theorem emit_out (e : OutEvent) (d : Dev) : (emit e d).out = d.out ++ [e] := rfl
@[simp] theorem getSpoke_updSpoke (k : Nat) (f : Spoke → Spoke) (d : Dev) : getSpoke k (updSpoke k f d) = f (getSpoke k d) := by
  simp [getSpoke, updSpoke]
@[simp] theorem getLink_updLink (k : Nat) (f : Link → Link) (d : Dev) : getLink k (updLink k f d) = f (getLink k d) := by
  simp [getLink, updLink]
@[simp] theorem getCan_updCan (c : Nat) (f : CanCtl → CanCtl) (d : Dev) : getCan c (updCan c f d) = f (getCan c d) := by
  simp [getCan, updCan]
@[simp] theorem getRing_updRing (i : Nat) (f : Ring → Ring) (d : Dev) : getRing i (updRing i f d) = f (getRing i d) := by
  simp [getRing, updRing, updHost]
@[simp] theorem getInst_updInst (c i : Nat) (f : Inst → Inst) (d : Dev) : getInst c i (updInst c i f d) = f (getInst c i d) := by
  simp [getInst, updInst]
@[simp] theorem getOut_updOut (o : Nat) (f : OutletSt → OutletSt) (d : Dev) : getOut o (updOut o f d) = f (getOut o d) := by
  simp [getOut, updOut, updEng]
@[simp] theorem getChan_updChan (k n : Nat) (f : Chan → Chan) (d : Dev) : getChan k n (updChan k n f d) = f (getChan k n d) := by
  simp [getChan, updChan]
@[simp] theorem getCas_updCas (k c : Nat) (f : Cassette → Cassette) (d : Dev) : getCas k c (updCas k c f d) = f (getCas k c d) := by
  simp [getCas, updCas]
@[simp] theorem getPair_updPair (k p : Nat) (f : Pair → Pair) (d : Dev) : getPair k p (updPair k p f d) = f (getPair k p d) := by
  simp [getPair, updPair]
@[simp] theorem getCtl_updCtl (k : Nat) (f : LoopEngine → LoopEngine) (d : Dev) : getCtl k (updCtl k f d) = f (getCtl k d) := by
  simp [getCtl, updCtl]
@[simp] theorem getLoop_updLoop (k l : Nat) (f : Loop → Loop) (d : Dev) : getLoop k l (updLoop k l f d) = f (getLoop k l d) := by
  simp [getLoop, updLoop]
@[simp] theorem getGnss_updGnss (k : Nat) (f : Gnss → Gnss) (d : Dev) : getGnss k (updGnss k f d) = f (getGnss k d) := by
  simp [getGnss, updGnss]

end Sys2Proof.Laws
end

