-- ==== Sys2Proof/Laws/Shared.lean ====
section
/-! SUPPORT. What each operation that the commands share can change: every part of the device not named with it is as it was. -/
namespace Sys2Proof.Laws
open Sys2Proof.Machine

theorem keeps_refl (ps : List Part) (d : Dev) : Keeps ps d d := fun p _ => by cases p <;> first | rfl | exact ⟨rfl, rfl⟩

theorem keeps_trans {ps : List Part} {a b c : Dev} (h : Keeps ps a b) (g : Keeps ps b c) : Keeps ps a c := fun p hp => by
  have x := h p hp
  have y := g p hp
  cases p <;> first | exact Eq.trans x y | exact ⟨x.1.trans y.1, x.2.trans y.2⟩

theorem keeps_mono {ps qs : List Part} {a b : Dev} (h : Keeps ps a b) (hs : ∀ p ∈ ps, p ∈ qs) :
    Keeps qs a b := fun p hp => h p fun x => hp (hs p x)

theorem rput_keeps (r : Reg) (w : Word) (d : Dev) : Keeps [.regs] d (rput r w d) := fun p hp => by
  cases p <;> first | rfl | exact ⟨rfl, rfl⟩ | simp at hp

theorem setF_keeps (f : Fld) (v : Nat) (d : Dev) : Keeps [.regs] d (setF f v d) := fun p hp => by
  cases p <;> first | rfl | exact ⟨rfl, rfl⟩ | simp at hp

theorem raise_keeps (f : Fld) (d : Dev) : Keeps [.regs] d (raise f d) := fun p hp => by
  cases p <;> first | rfl | exact ⟨rfl, rfl⟩ | simp at hp

theorem lower_keeps (f : Fld) (d : Dev) : Keeps [.regs] d (lower f d) := fun p hp => by
  cases p <;> first | rfl | exact ⟨rfl, rfl⟩ | simp at hp

theorem flag_keeps (f : Fld) (b : Bool) (d : Dev) : Keeps [.regs] d (flag f b d) := fun p hp => by
  cases b <;> cases p <;> first | rfl | exact ⟨rfl, rfl⟩ | simp at hp

theorem countF_keeps (f : Fld) (d : Dev) : Keeps [.regs] d (countF f d) := fun p hp => by
  cases p <;> first | rfl | exact ⟨rfl, rfl⟩ | simp at hp

theorem bitF_keeps (f : Fld) (i : Nat) (b : Bool) (d : Dev) : Keeps [.regs] d (bitF f i b d) := fun p hp => by
  cases b <;> cases p <;> first | rfl | exact ⟨rfl, rfl⟩ | simp at hp

theorem emit_keeps (e : OutEvent) (d : Dev) : Keeps [.out] d (emit e d) := fun p hp => by
  cases p <;> first | rfl | exact ⟨rfl, rfl⟩ | simp at hp

theorem updSpoke_keeps (k : Nat) (f : Spoke → Spoke) (d : Dev) : Keeps [.spokes] d (updSpoke k f d) := fun p hp => by
  cases p <;> first | rfl | exact ⟨rfl, rfl⟩ | simp at hp

theorem updChan_keeps (k n : Nat) (f : Chan → Chan) (d : Dev) : Keeps [.spokes] d (updChan k n f d) := fun p hp => by
  cases p <;> first | rfl | exact ⟨rfl, rfl⟩ | simp at hp

theorem updCas_keeps (k c : Nat) (f : Cassette → Cassette) (d : Dev) : Keeps [.spokes] d (updCas k c f d) := fun p hp => by
  cases p <;> first | rfl | exact ⟨rfl, rfl⟩ | simp at hp

theorem updPair_keeps (k p : Nat) (f : Pair → Pair) (d : Dev) : Keeps [.spokes] d (updPair k p f d) := fun p hp => by
  cases p <;> first | rfl | exact ⟨rfl, rfl⟩ | simp at hp

theorem updLoop_keeps (k l : Nat) (f : Loop → Loop) (d : Dev) : Keeps [.spokes] d (updLoop k l f d) := fun p hp => by
  cases p <;> first | rfl | exact ⟨rfl, rfl⟩ | simp at hp

theorem updBoost_keeps (k : Nat) (f : Boost → Boost) (d : Dev) : Keeps [.spokes] d (updBoost k f d) := fun p hp => by
  cases p <;> first | rfl | exact ⟨rfl, rfl⟩ | simp at hp

theorem updGch_keeps (k c : Nat) (f : GnssCh → GnssCh) (d : Dev) : Keeps [.spokes] d (updGch k c f d) := fun p hp => by
  cases p <;> first | rfl | exact ⟨rfl, rfl⟩ | simp at hp

theorem updLink_keeps (k : Nat) (f : Link → Link) (d : Dev) : Keeps [.links] d (updLink k f d) := fun p hp => by
  cases p <;> first | rfl | exact ⟨rfl, rfl⟩ | simp at hp

theorem updPwr_keeps (f : Pwr → Pwr) (d : Dev) : Keeps [.pwr] d (updPwr f d) := fun p hp => by
  cases p <;> first | rfl | exact ⟨rfl, rfl⟩ | simp at hp

theorem updHost_keeps (f : HostIf → HostIf) (d : Dev) : Keeps [.host] d (updHost f d) := fun p hp => by
  cases p <;> first | rfl | exact ⟨rfl, rfl⟩ | simp at hp

theorem updRing_keeps (i : Nat) (f : Ring → Ring) (d : Dev) : Keeps [.host] d (updRing i f d) := fun p hp => by
  cases p <;> first | rfl | exact ⟨rfl, rfl⟩ | simp at hp

theorem updDesc_keeps (i j : Nat) (f : InDesc → InDesc) (d : Dev) : Keeps [.host] d (updDesc i j f d) := fun p hp => by
  cases p <;> first | rfl | exact ⟨rfl, rfl⟩ | simp at hp

theorem updInst_keeps (c i : Nat) (f : Inst → Inst) (d : Dev) : Keeps [.health] d (updInst c i f d) := fun p hp => by
  cases p <;> first | rfl | exact ⟨rfl, rfl⟩ | simp at hp

theorem updEng_keeps (f : Engine → Engine) (d : Dev) : Keeps [.eng] d (updEng f d) := fun p hp => by
  cases p <;> first | rfl | exact ⟨rfl, rfl⟩ | simp at hp

theorem updTile_keeps (u : Tile) (f : Tile → Tile) (d : Dev) : Keeps [.eng] d (updTile u f d) := fun p hp => by
  cases p <;> first | rfl | exact ⟨rfl, rfl⟩ | simp at hp

theorem updTime_keeps (f : TimeUnit → TimeUnit) (d : Dev) : Keeps [.time] d (updTime f d) := fun p hp => by
  cases p <;> first | rfl | exact ⟨rfl, rfl⟩ | simp at hp

theorem updCan_keeps (c : Nat) (f : CanCtl → CanCtl) (d : Dev) : Keeps [.can] d (updCan c f d) := fun p hp => by
  cases p <;> first | rfl | exact ⟨rfl, rfl⟩ | simp at hp

theorem updSox_keeps (f : Sox → Sox) (d : Dev) : Keeps [.sox] d (updSox f d) := fun p hp => by
  cases p <;> first | rfl | exact ⟨rfl, rfl⟩ | simp at hp

theorem updTdm_keeps (f : Tandem → Tandem) (d : Dev) : Keeps [.tdm] d (updTdm f d) := fun p hp => by
  cases p <;> first | rfl | exact ⟨rfl, rfl⟩ | simp at hp

theorem holdDesc_keeps (i : Nat) (x : InDesc) (d : Dev) : Keeps [.host] d (holdDesc i x d) := fun p hp => by
  cases p <;> first | rfl | exact ⟨rfl, rfl⟩ | simp at hp

theorem setRingState_keeps (i : Nat) (s : RingState) (d : Dev) : Keeps [.regs] d (setRingState i s d) := fun p hp => by
  cases p <;> first | rfl | exact ⟨rfl, rfl⟩ | simp at hp

theorem fresh_keeps (d : Dev) : Keeps [.free] d (fresh d).2 := fun p hp => by
  cases p <;> first | rfl | exact ⟨rfl, rfl⟩ | simp at hp

theorem setState_keeps (s : PwrState) (d : Dev) : Keeps [.regs, .pwr] d (setState s d) := fun p hp => by
  cases p <;> first | rfl | exact ⟨rfl, rfl⟩ | simp at hp

/-- Operations in a row keep what each of them keeps. -/
theorem eachD_parts {α : Type} {ps : List Part} (xs : List α) (f : α → Dev → Dev) (h : ∀ x d, Keeps ps d (f x d)) (d : Dev) :
    Keeps ps d (eachD xs f d) := by
  induction xs generalizing d with
  | nil => exact keeps_refl ps d
  | cons x xs ih => exact keeps_trans (h x d) (ih (f x d))

theorem whenD_parts {ps : List Part} (c : Bool) (f : Dev → Dev) (h : ∀ d, Keeps ps d (f d)) (d : Dev) : Keeps ps d (whenD c f d) := by
  cases c
  · exact keeps_refl ps d
  · exact h d

/-- Where a number is rounded, only the count of free values moves. -/
theorem toUs_keeps (t : Nat) (d : Dev) : Keeps [.free] d (toUs t d).2 := by
  unfold toUs
  split
  · exact keeps_refl _ d
  · exact fresh_keeps d

theorem divFree_keeps (num : Int) (den : Nat) (d : Dev) : Keeps [.free] d (divFree num den d).2 := by
  unfold divFree
  split
  · exact keeps_refl _ d
  · exact fresh_keeps d

/-! ### The logbook and health -/

theorem noteDrop_keeps (s : Nat) (d : Dev) : Keeps [.log] d (noteDrop s d) := fun p hp => by
  unfold noteDrop
  cases p <;> first | rfl | exact ⟨rfl, rfl⟩ | simp at hp

theorem galleyDrop_keeps (s : Nat) (d : Dev) : Keeps [.regs, .log] d (galleyDrop s d) := by
  refine keeps_trans ?_ (keeps_mono (noteDrop_keeps s _) (by simp))
  refine keeps_trans ?_ (keeps_mono (raise_keeps _ _) (by simp))
  split
  · exact keeps_mono (countF_keeps _ d) (by simp)
  · exact keeps_mono (countF_keeps _ d) (by simp)

theorem log_keeps (l : Logbook) (d : Dev) : Keeps [.log] d { d with log := l } := fun p hp => by
  cases p <;> first | rfl | exact ⟨rfl, rfl⟩ | simp at hp

/-- An event changes the logbook's galley and the registers that count what it dropped. -/
theorem enterGalley_keeps (e : LogEntry) (d : Dev) : Keeps [.regs, .log] d (enterGalley e d) := by
  unfold enterGalley
  dsimp only
  split
  · split
    · exact keeps_mono (log_keeps _ d) (by simp)
    · split
      · exact keeps_mono (log_keeps _ d) (by simp)
      · split
        · exact keeps_trans (keeps_mono (log_keeps _ d) (by simp)) (galleyDrop_keeps _ _)
        · exact galleyDrop_keeps _ d
  · exact keeps_mono (log_keeps _ d) (by simp)

theorem logEvent_keeps (code sev : Nat) (src : LogSrc) (p0 p1 p2 : Nat) (d : Dev) : Keeps [.regs, .log] d (logEvent code sev src p0 p1 p2 d) :=
  enterGalley_keeps _ d

theorem noteLeak_keeps (cls leak : Nat) (d : Dev) : Keeps [.health] d (noteLeak cls leak d) := fun p hp => by
  cases p <;> first | rfl | exact ⟨rfl, rfl⟩ | simp at hp

/-- An event of a class changes its instance, the logbook and the registers. -/
theorem healthEvent_keeps (cls i : Nat) (g : Bool) (d : Dev) : Keeps [.regs, .log, .health] d (healthEvent cls i g d).1 := by
  unfold healthEvent
  dsimp only
  refine keeps_trans (keeps_mono (noteLeak_keeps cls (getF (F.HLT_CLASS_CFG.LEAK cls) d) d) (by simp)) ?_
  generalize noteLeak cls _ d = e
  split
  · exact keeps_mono (updInst_keeps _ _ _ e) (by simp)
  · split
    · exact keeps_trans (keeps_mono (updInst_keeps _ _ _ e) (by simp))
        (keeps_trans (keeps_mono (logEvent_keeps _ _ _ _ _ _ _) (by simp)) (keeps_mono (raise_keeps _ _) (by simp)))
    · exact keeps_mono (updInst_keeps _ _ _ e) (by simp)

theorem healthReport_keeps (cls i : Nat) (d : Dev) : Keeps [.regs, .log, .health] d (healthReport cls i d) := healthEvent_keeps cls i false d

/-! ### Protection crossings (R42 to R45) -/

/-- Where no buffer word is upset, every crossing passes. -/
@[simp] theorem checkEcc_clean (row u die : Nat) (p f : Dev → Dev) (d : Dev) (h : d.ecc = []) : checkEcc row u die p f d = p d := by
  simp [checkEcc, upsetAt, h]

@[simp] theorem crossEcc_clean (row u die r q : Nat) (p f : Dev → Dev) (d : Dev) (h : d.ecc = []) : crossEcc row u die r q p f d = p d := by
  simp [crossEcc, h]

theorem ecc_keeps (l : List Upset) (d : Dev) : Keeps [.ecc] d { d with ecc := l } := fun p hp => by
  cases p <;> first | rfl | exact ⟨rfl, rfl⟩ | simp at hp

/-- The parts a crossing changes beside those its two outcomes change: the upset words, and where the fault is counted and recorded. -/
def eccParts : List Part := [.ecc, .regs, .log, .health]

theorem checkEcc_keeps {ps : List Part} (row u die : Nat) (p f : Dev → Dev) (hp : ∀ d, Keeps (eccParts ++ ps) d (p d))
    (hf : ∀ d, Keeps (eccParts ++ ps) d (f d)) (d : Dev) : Keeps (eccParts ++ ps) d (checkEcc row u die p f d) := by
  unfold checkEcc
  split
  · exact hp d
  · rename_i x _
    dsimp only
    refine keeps_trans (keeps_mono (ecc_keeps (d.ecc.erase x) d) (by simp [eccParts])) ?_
    split
    · exact keeps_trans (keeps_mono (healthReport_keeps _ _ _) (by simp [eccParts])) (hp _)
    · exact hf _

theorem crossEcc_keeps {ps : List Part} (row u die r q : Nat) (p f : Dev → Dev) (hp : ∀ d, Keeps (eccParts ++ ps) d (p d))
    (hf : ∀ d, Keeps (eccParts ++ ps) d (f d)) (d : Dev) : Keeps (eccParts ++ ps) d (crossEcc row u die r q p f d) :=
  checkEcc_keeps row u die p _ hp (fun e => keeps_trans (keeps_mono (logEvent_keeps _ _ _ _ _ _ e) (by simp [eccParts])) (hf _)) d

/-! ### Rings -/

theorem ringError_keeps (i c q : Nat) (d : Dev) : Keeps [.regs, .log] d (ringError i c q d) := by
  unfold ringError
  split
  · refine keeps_trans ?_ (logEvent_keeps _ _ _ _ _ _ _)
    refine keeps_trans ?_ (keeps_mono (setF_keeps _ _ _) (by simp))
    refine keeps_trans ?_ (keeps_mono (setF_keeps _ _ _) (by simp))
    exact keeps_mono (setRingState_keeps i _ d) (by simp)
  · exact keeps_refl _ d

theorem writeProgress_keeps (slot v : Nat) (d : Dev) : Keeps (eccParts ++ [.out]) d (writeProgress slot v d) :=
  crossEcc_keeps _ _ _ _ _ _ _ (fun e => keeps_mono (emit_keeps _ e) (by simp))
    (fun e => keeps_mono (ringError_keeps _ _ _ e) (by simp [eccParts])) d

theorem msixGo_keeps (v : Nat) (d : Dev) : Keeps [.out, .pcie] d (msixGo v d) := fun p hp => by
  unfold msixGo
  cases p <;> first | (simp at hp; done) | (dsimp only; split <;> first | rfl | exact ⟨rfl, rfl⟩)

theorem msixSend_keeps (v : Nat) (d : Dev) : Keeps [.out, .pcie] d (msixSend v d) := by
  unfold msixSend
  split
  · exact msixGo_keeps v d
  · split
    · exact keeps_refl _ d
    · intro p hp
      cases p <;> first | rfl | exact ⟨rfl, rfl⟩ | simp at hp

theorem ringMessage_keeps (i : Nat) (d : Dev) : Keeps [.out, .pcie, .host] d (ringMessage i d) :=
  keeps_trans (keeps_mono (updRing_keeps i _ d) (by simp)) (keeps_mono (msixSend_keeps _ _) (by simp))

theorem moderate_keeps (i : Nat) (b : Bool) (d : Dev) : Keeps [.out, .pcie, .host] d (moderate i b d) := by
  unfold moderate
  dsimp only
  split
  · exact keeps_mono (updRing_keeps i _ d) (by simp)
  · split
    · exact keeps_trans (keeps_mono (updRing_keeps i _ d) (by simp)) (ringMessage_keeps i _)
    · exact keeps_mono (updRing_keeps i _ d) (by simp)

theorem writeHost_keeps (addr : Nat) (bs : List Byte) (d : Dev) : Keeps [.out] d (writeHost addr bs d) := eachD_parts _ _ (fun e => emit_keeps e) d

theorem writeCompletion_keeps (i : Nat) (x : InDesc) (st dt : Nat) (bs : List Byte) (d : Dev) :
    Keeps [.out, .host] d (writeCompletion i x st dt bs d) := by
  unfold writeCompletion
  dsimp only
  refine keeps_trans ?_ (keeps_mono (emit_keeps _ _) (by simp))
  refine keeps_trans ?_ (keeps_mono (writeHost_keeps _ _ _) (by simp))
  exact keeps_mono (updRing_keeps i _ d) (by simp)

/-- A completion changes its ring, what is issued at the boundary and the pending messages, and what its checks change. -/
theorem putCompletion_keeps (i : Nat) (x : InDesc) (st dt : Nat) (bs : List Byte) (d : Dev) :
    Keeps (eccParts ++ [.out, .pcie, .host]) d (putCompletion i x st dt bs d) := by
  unfold putCompletion
  dsimp only
  split
  · refine keeps_trans (crossEcc_keeps 8 i 0 i x.index (writeCompletion i x st dt bs) (ringError i 5 x.index)
      (fun e => keeps_mono (writeCompletion_keeps i x st dt bs e) (by simp))
      (fun e => keeps_mono (ringError_keeps _ _ _ e) (by simp [eccParts])) d) ?_
    split
    · exact keeps_trans (keeps_mono (writeProgress_keeps _ _ _) (by simp [eccParts]))
        (keeps_mono (whenD_parts _ _ (fun e => moderate_keeps i _ e) _) (by simp))
    · exact keeps_refl _ _
  · exact keeps_refl _ d

/-- Where no buffer word is upset, a completion changes its ring, the boundary and the pending messages only. -/
theorem putCompletion_clean (i : Nat) (x : InDesc) (st dt : Nat) (bs : List Byte) (d : Dev) (h : d.ecc = []) :
    Keeps [.out, .pcie, .host] d (putCompletion i x st dt bs d) := by
  unfold putCompletion
  dsimp only
  split
  · have hw : (writeCompletion i x st dt bs d).ecc = [] := ((writeCompletion_keeps i x st dt bs d .ecc (by simp)).symm).trans h
    rw [crossEcc_clean _ _ _ _ _ _ _ _ h]
    split
    · simp only [writeProgress, crossEcc_clean _ _ _ _ _ _ _ _ hw]
      exact keeps_trans (keeps_mono (writeCompletion_keeps i x st dt bs d) (by simp))
        (keeps_trans (keeps_mono (emit_keeps _ _) (by simp)) (whenD_parts _ _ (fun e => moderate_keeps i _ e) _))
    · exact keeps_mono (writeCompletion_keeps i x st dt bs d) (by simp)
  · exact keeps_refl _ d

theorem complete_keeps (i j st dt : Nat) (bs : List Byte) (d : Dev) : Keeps (eccParts ++ [.out, .pcie, .host]) d (complete i j st dt bs d) := by
  unfold complete
  split
  · exact keeps_refl _ d
  · split
    · exact keeps_refl _ d
    · exact putCompletion_keeps i _ st dt bs d

theorem awaitCycle_keeps (i : Nat) (x : InDesc) (d : Dev) : Keeps [.host, .eng] d (awaitCycle i x d) :=
  keeps_trans (keeps_mono (holdDesc_keeps i x d) (by simp)) (keeps_mono (updEng_keeps _ _) (by simp))

/-- An opcode changes only what its effect on the descriptor it starts changes. -/
theorem startDesc_parts {ps : List Part} (i op : Nat) (f : InDesc → Dev → Dev) (h : ∀ x d, Keeps ps d (f x d)) (d : Dev) :
    Keeps ps d (startDesc i op f d) := by
  unfold startDesc
  split
  · split
    · exact h _ d
    · exact keeps_refl ps d
  · exact keeps_refl ps d

theorem waitDesc_keeps (i op : Nat) (d : Dev) : Keeps [.host] d (waitDesc i op d) := startDesc_parts i op _ (fun x e => holdDesc_keeps i x e) d

/-- An opcode acts on the descriptor that its ring starts next where that has the opcode, and on nothing else. -/
theorem startDesc_starts (i op : Nat) (f : InDesc → Dev → Dev) (x : InDesc) (d : Dev) (h : nextDesc i d = some x) (ho : x.opcode = op) :
    startDesc i op f d = f x d := by simp [startDesc, h, ho]

theorem startDesc_other (i op : Nat) (f : InDesc → Dev → Dev) (d : Dev) (h : ∀ x, nextDesc i d = some x → x.opcode ≠ op) :
    startDesc i op f d = d := by
  unfold startDesc
  split
  · rename_i x hx
    simp [h x hx]
  · rfl

theorem noBuf_keeps (cls : Nat) (inst : Option Nat) (d : Dev) : Keeps [.regs] d (noBuf cls inst d) :=
  eachD_parts ringList _ (fun i e => by
    split
    · exact raise_keeps _ e
    · exact keeps_refl _ e) d

/-! ### Links and the buses -/

theorem updEnd_keeps (k : Nat) (s : Side) (f : LinkEnd → LinkEnd) (d : Dev) : Keeps [.links] d (updEnd k s f d) := by
  cases s
  · exact updLink_keeps k _ d
  · exact updLink_keeps k _ d

theorem linkSend_keeps (k : Nat) (s : Side) (p : Payload) (d : Dev) : Keeps [.links] d (linkSend k s p d) := updEnd_keeps k s _ d

/-- A frame in sequence acts; any other changes its link's end only (R24). -/
theorem onFrame_parts {ps : List Part} (k : Nat) (s : Side) (h : LinkHdr) (act : Dev → Dev) (ha : ∀ e, Keeps ps e (act e)) (d : Dev) :
    Keeps (.links :: ps) d (onFrame k s h act d) := by
  have hr : ∀ e, Keeps (.links :: ps) e (receive k s h e).1 := fun e =>
    keeps_trans (keeps_mono (updEnd_keeps k s _ e) (by simp)) (keeps_mono (whenD_parts _ _ (fun u => updEnd_keeps k s _ u) _) (by simp))
  unfold onFrame
  dsimp only
  split
  · exact keeps_trans (hr d) (keeps_mono (ha _) (fun p hp => .tail _ hp))
  · exact hr d

theorem freeBytes_keeps (n : Nat) (d : Dev) : Keeps [.free] d (freeBytes n d).2 := by
  induction n generalizing d with
  | zero => exact keeps_refl _ d
  | succ n ih => exact keeps_trans (fresh_keeps d) (ih _)

theorem tdmPayload_keeps (f : TdmFrame) (d : Dev) : Keeps [.free] d (tdmPayload f d).2 := by
  unfold tdmPayload
  split <;> first | exact keeps_refl _ d | exact keeps_trans (fresh_keeps d) (freeBytes_keeps _ _)

theorem tdmPut_keeps (f : TdmFrame) (d : Dev) : Keeps [.free, .out, .tdm] d (tdmPut f d) := by
  unfold tdmPut
  dsimp only
  exact keeps_trans (keeps_mono (tdmPayload_keeps f d) (by simp))
    (keeps_trans (keeps_mono (updTdm_keeps _ _) (by simp)) (keeps_mono (emit_keeps _ _) (by simp)))

theorem tdmSend_keeps (f : TdmFrame) (d : Dev) : Keeps (eccParts ++ [.free, .out, .tdm]) d (tdmSend f d) :=
  crossEcc_keeps _ _ _ _ _ _ _ (fun e => keeps_mono (tdmPut_keeps f e) (by simp)) (fun e => keeps_refl _ e) d

theorem tdmDrain_keeps (n : Nat) (d : Dev) : Keeps (eccParts ++ [.out, .pcie, .host, .tdm]) d (tdmDrain n d) := by
  induction n generalizing d with
  | zero => exact keeps_refl _ d
  | succ n ih =>
    unfold tdmDrain
    split
    · exact keeps_refl _ d
    · split
      · exact keeps_trans (keeps_mono (updTdm_keeps _ d) (by simp)) (keeps_trans (keeps_mono (putCompletion_keeps _ _ _ _ _ _) (by simp [eccParts])) (ih _))
      · exact keeps_mono (noBuf_keeps _ _ d) (by simp [eccParts])

theorem tdmEvent_keeps (c p q : Nat) (d : Dev) : Keeps (eccParts ++ [.out, .pcie, .host, .tdm]) d (tdmEvent c p q d) := by
  unfold tdmEvent
  dsimp only
  split
  · exact keeps_mono (countF_keeps _ d) (by simp [eccParts])
  · exact keeps_trans (keeps_mono (updTdm_keeps _ d) (by simp)) (tdmDrain_keeps _ _)

theorem soxDrain_keeps (n : Nat) (d : Dev) : Keeps (eccParts ++ [.out, .pcie, .host, .sox]) d (soxDrain n d) := by
  induction n generalizing d with
  | zero => exact keeps_refl _ d
  | succ n ih =>
    unfold soxDrain
    split
    · exact keeps_refl _ d
    · split
      · exact keeps_trans (keeps_mono (updSox_keeps _ d) (by simp)) (keeps_trans (keeps_mono (putCompletion_keeps _ _ _ _ _ _) (by simp [eccParts])) (ih _))
      · exact keeps_mono (noBuf_keeps _ _ d) (by simp [eccParts])

theorem soxEvent_keeps (c a : Nat) (p q : Int) (d : Dev) : Keeps (eccParts ++ [.out, .pcie, .host, .sox]) d (soxEvent c a p q d) := by
  unfold soxEvent
  dsimp only
  split
  · exact keeps_mono (countF_keeps _ d) (by simp [eccParts])
  · exact keeps_trans (keeps_mono (updSox_keeps _ d) (by simp)) (soxDrain_keeps _ _)

/-! ### Answers of commands -/

/-- A command that only changes the device keeps the queue and both memories, and answers a next state. -/
theorem run_next (f : Dev → Dev) (s : State) : run f s = .next { s with dev := f s.dev } := rfl

theorem onSpoke_present (k : Nat) (f : Dev → Dev) (s : State) (h : hasSpoke k s.dev = true) : onSpoke k f s = .next { s with dev := f s.dev } := by
  simp [onSpoke, h, run]

/-- A command about a spoke the part lacks acts on nothing. -/
theorem onSpoke_absent (k : Nat) (f : Dev → Dev) (s : State) (h : hasSpoke k s.dev = false) : onSpoke k f s = .next s := by
  simp [onSpoke, h]

theorem onUnit_present (k n m : Nat) (f : Dev → Dev) (s : State) (h : hasSpoke k s.dev = true) (hn : n < m) :
    onUnit k n m f s = .next { s with dev := f s.dev } := by simp [onUnit, onSpoke, h, hn, run]

theorem onHub_present (n m : Nat) (f : Dev → Dev) (s : State) (hn : n < m) : onHub n m f s = .next { s with dev := f s.dev } := by
  simp [onHub, hn, run]

theorem onHub_absent (n m : Nat) (f : Dev → Dev) (s : State) (hn : m ≤ n) : onHub n m f s = .fault (.absentUnit n) := by
  simp [onHub, Nat.not_lt.mpr hn]

/-- The frame of a command on a spoke is the frame of its effect. -/
theorem onSpoke_changes {ps : List Part} (k : Nat) (f : Dev → Dev) (hf : ∀ d, Keeps ps d (f d)) (s t : State) (h : onSpoke k f s = .next t) :
    Keeps ps s.dev t.dev := by
  unfold onSpoke at h
  split at h
  · cases h
    exact hf s.dev
  · cases h
    exact keeps_refl ps s.dev

theorem onUnit_changes {ps : List Part} (k n m : Nat) (f : Dev → Dev) (hf : ∀ d, Keeps ps d (f d)) (s t : State)
    (h : onUnit k n m f s = .next t) : Keeps ps s.dev t.dev := by
  unfold onUnit at h
  split at h
  · exact onSpoke_changes k f hf s t h
  · cases h

theorem onHub_changes {ps : List Part} (n m : Nat) (f : Dev → Dev) (hf : ∀ d, Keeps ps d (f d)) (s t : State)
    (h : onHub n m f s = .next t) : Keeps ps s.dev t.dev := by
  unfold onHub at h
  split at h
  · cases h
    exact hf s.dev
  · cases h

/-! ### The state after reset -/

theorem reset_memOk : State.reset.memOk := by
  constructor <;> decide

end Sys2Proof.Laws
end

