-- ==== Sys2Proof/Machine/Balls.lean ====
section
/-! DEFINITION. Where the balls lie (R507 to R510): the array and the field origins of a variant, the row names, and the ball or supply at each
place of a spoke field and of the hub block. -/
namespace Sys2Proof.Machine

/-- What a place of the array carries: a signal ball, of a differential pair the positive or the negative one, or a supply of the hub or of
spoke k. -/
inductive BallNet where
  | signal (b : Ball) | negative (b : Ball)
  | vss | pgnd | agnd | vio | vcoreH | vbatAo | testMode | tap (n : Nat)
  | vbat (k : Nat) | vcoreS (k : Nat)
deriving DecidableEq, Repr

/-- Rows and columns of the array (R507). -/
def arraySize (v : Variant) : Nat := match v with | .yn2 => 26 | .yn4 => 34 | .yn8 => 49

/-- The letters a row name uses (00_scope.md). -/
def rowLetters : List Char :=
  ['A', 'B', 'C', 'D', 'E', 'F', 'G', 'H', 'J', 'K', 'L', 'M', 'N', 'P', 'T', 'U', 'V', 'W', 'Y']

/-- The name of a row index from 1: A to Y, AA to AY, then BA onward (R508). -/
def rowName (i : Nat) : List Char :=
  let n := rowLetters.length
  let last := rowLetters.getD ((i - 1) % n) ' '
  match (i - 1) / n with
  | 0 => [last]
  | j + 1 => [rowLetters.getD j ' ', last]

/-- Row index and column of the hub block's origin (R508). -/
def hubOrigin (v : Variant) : Nat × Nat := match v with | .yn2 | .yn4 => (1, 1) | .yn8 => (17, 1)

/-- Row index and column of the origins of the spoke fields, spoke 1 first (R508). -/
def spokeOrigins (v : Variant) : List (Nat × Nat) :=
  match v with
  | .yn2 => [(11, 11)]
  | .yn4 => [(1, 19), (19, 19), (19, 1)]
  | .yn8 => [(1, 1), (1, 17), (1, 34), (17, 34), (34, 34), (34, 17), (34, 1)]

/-- The balls of an SPI port in their order (R509). -/
def spiBall (k p i : Nat) : Ball := match i with | 0 => .spiSck k p | 1 => .spiMosi k p | 2 => .spiMiso k p | _ => .spiCs k p

/-- The spoke-field table (R509): the ball at (r, c) of the field of spoke k. -/
def spokeField (k r c : Nat) : BallNet :=
  match r with
  | 0 | 1 | 2 | 3 => .signal (.out k (16 * r + c))
  | 4 | 5 => .signal (.hs k (c / 2))
  | 6 => if c < 12 then .vbat k else .signal (.bst k)
  | 7 => .pgnd
  | 8 => if c < 2 then .signal (.bsw k) else if c < 6 then .signal (.bst k) else .pgnd
  | 9 => if c < 12 then .signal (.pwmH k c) else .signal (.trip k (c - 12))
  | 10 => if c < 12 then .signal (.pwmL k c) else .vcoreS k
  | 11 => if c < 12 then .signal (.sns k c) else .vio
  | 12 => .signal (.ain k c)
  | 13 => if c < 8 then .signal (.pulse k c) else if c < 14 then .signal (.enc k ((c - 8) / 3) ((c - 8) % 3)) else .agnd
  | 14 =>
    if c < 3 then .signal (.enc k 2 c) else if c < 11 then .signal (spiBall k ((c - 3) / 4) ((c - 3) % 4))
    else if c = 11 then .signal (.aref k) else if c < 14 then .agnd else .vss
  | 15 =>
    if c = 0 then .signal (.sclk k) else if c < 5 then .signal (.sampleI k (c - 1)) else if c < 9 then .signal (.sampleQ k (c - 5))
    else if c = 9 then .signal (.agc k) else .vss
  | _ => .vss

/-- The two balls of a differential pair, the positive one first. -/
def diffBall (b : Ball) (i : Nat) : BallNet := if i = 0 then .signal b else .negative b

/-- The hub-block table (R510): the ball at (r, c) of the hub block. -/
def hubField (r c : Nat) : BallNet :=
  match r with
  | 0 | 7 => .vcoreH
  | 2 =>
    if c < 4 then diffBall (.pcieTx (c / 2)) (c % 2) else if c < 8 then diffBall (.pcieRx ((c - 4) / 2)) (c % 2)
    else if c < 10 then diffBall .refclk (c % 2)
    else if c = 10 then .signal .perstN else if c = 11 then .signal .clkreqN else .vss
  | 3 =>
    if c = 0 then .signal .qspiClk else if c = 1 then .signal .qspiCs else if c < 6 then .signal (.qspiIo (c - 2))
    else if c < 14 then .signal (if c % 2 = 0 then .canTx ((c - 6) / 2) else .canRx ((c - 6) / 2))
    else if c = 14 then .signal .tpulse else .vss
  | 4 =>
    if c < 2 then diffBall .tdmTx c else if c < 4 then diffBall .tdmRx (c - 2) else if c = 4 then .signal .tdmHb
    else if c < 10 then .tap (c - 5) else .vss
  | 5 =>
    if c < 6 then .signal (.addr c) else if c = 6 then .signal .arm else if c = 7 then .signal .wake else if c = 8 then .signal .resetN
    else if c = 9 then .signal .pwrEn else if c = 10 then .testMode else if c < 13 then .vbatAo else .vss
  | 6 => if c < 4 then .signal (.xtal c) else if c < 6 then .vss else if c < 14 then .vio else .vss
  | _ => .vss

/-- The spoke fields, from spoke k on, that hold the place (row, col). -/
def fieldAt (row col : Nat) : Nat → List (Nat × Nat) → Option BallNet
  | _, [] => none
  | k, (a, b) :: fs =>
    if a ≤ row ∧ row < a + 16 ∧ b ≤ col ∧ col < b + 16 then some (spokeField k (row - a) (col - b)) else fieldAt row col (k + 1) fs

/-- What the ball at a row index and a column carries: VSS where no field lies (R508). None outside the array. -/
def ballAt (v : Variant) (row col : Nat) : Option BallNet :=
  if row = 0 ∨ col = 0 ∨ arraySize v < row ∨ arraySize v < col then none
  else
    let o := hubOrigin v
    if o.1 ≤ row ∧ row < o.1 + 10 ∧ o.2 ≤ col ∧ col < o.2 + 16 then some (hubField (row - o.1) (col - o.2))
    else some ((fieldAt row col 1 (spokeOrigins v)).getD .vss)

end Sys2Proof.Machine
end

