-- ==== Sys2Proof/Tests/Slice0.lean ====
section
/-! SUPPORT. Tests: ill-formed terms are refused, worked examples of the spec, one step on small states, and for every obligation
states and operands that meet the hypotheses of each of its clauses. -/
namespace Sys2Proof.Tests
open Sys2Proof Sys2Proof.Machine

/-! ### Test states -/

/-- A state with nothing waiting and the device of reset changed step by step. -/
def mks (fs : List (Dev → Dev)) : State := { State.reset with dev := fs.foldl (fun d f => f d) Dev.reset }

def inSt (p : PwrState) (d : Dev) : Dev := { d with pwr := { d.pwr with state := p } }
def atPt (t : Nat) (d : Dev) : Dev := { d with pt := t }
def pw (f : Pwr → Pwr) (d : Dev) : Dev := { d with pwr := f d.pwr }
def lk (k : Nat) (l : Link) (d : Dev) : Dev := updLink k (fun _ => l) d
def ch (k n : Nat) (c : Chan) (d : Dev) : Dev := updChan k n (fun _ => c) d
def en (f : Engine → Engine) (d : Dev) : Dev := { d with eng := f d.eng }
def sx (f : Sox → Sox) (d : Dev) : Dev := { d with sox := f d.sox }
def td (f : Tandem → Tandem) (d : Dev) : Dev := { d with tdm := f d.tdm }
def lg (f : Logbook → Logbook) (d : Dev) : Dev := { d with log := f d.log }
def hl (f : Health → Health) (d : Dev) : Dev := { d with health := f d.health }
def cn (c : Nat) (x : CanCtl) (d : Dev) : Dev := updCan c (fun _ => x) d
def lp (k l : Nat) (x : Loop) (d : Dev) : Dev := updLoop k l (fun _ => x) d
def pr (k p : Nat) (x : Pair) (d : Dev) : Dev := updPair k p (fun _ => x) d
/-- Ring i is RUNNING in a class and instance with descriptors in flight. -/
def rg (i cls inst : Nat) (xs : List InDesc) (d : Dev) : Dev :=
  d |> setRingState i .running |> setF (F.HIF_RING_CFG.CLASS i) cls |> setF (F.HIF_RING_CFG.INSTANCE i) inst |>
    updRing i (fun _ => { head := xs.length, issued := xs.length, tail := xs.length, inflight := xs })
/-- A descriptor with index 0 that may start. -/
def ds (op : Nat) (param : List Byte) : InDesc := { index := 0, opcode := op, param := param ++ List.replicate (35 - param.length) 0 }
/-- A loop block that is loaded with MODE 1 on a loop. -/
def loaded (k l : Nat) (b : LoopBlock) (d : Dev) : Dev :=
  setF (F.CTL_LOOP_STATUS.MODE k l) 1 (updLoop k l (fun _ => { block := some b }) d)
def pn (f : Pins → Pins) (d : Dev) : Dev := { d with pins := f d.pins }
def hi (cls i : Nat) (x : Inst) (d : Dev) : Dev := updInst cls i (fun _ => x) d
def hs (f : HostIf → HostIf) (d : Dev) : Dev := { d with host := f d.host }
def tm (f : TimeUnit → TimeUnit) (d : Dev) : Dev := { d with time := f d.time }
def px (f : Pcie → Pcie) (d : Dev) : Dev := { d with pcie := f d.pcie }
/-- A table of one segment and one outlet with one point that passes every check of a commit. -/
def goodTable : List Host.Cell :=
  let m := memWriteBytes (memWriteBytes (memWriteBytes (memWriteBytes [] 0 (leBytes 4 0x594E5431)) 8 [1, 0, 1, 0, 1]) 264 [1]) 1288 [1]
  memWriteBytes m 60 (leBytes 4 (crc32c (stageBytes m 0 60 ++ stageBytes m 256 64 ++ stageBytes m 1280 32 ++ stageBytes m 66816 8)))
/-- A header that the private key 1 signed with the nonce 1, in key slot 0. -/
def signed (kind : Nat) (body : List Byte) : List Byte :=
  let h := leBytes 4 0x594E4931 ++ [BitVec.ofNat 8 kind, 0, 0, 0] ++ leBytes 4 body.length ++ [0, 0, 0, 0] ++ sha256 body
  h ++ beBytes 32 p256G.1 ++ beBytes 32 ((beVal (sha256 h) + p256G.1) % p256N) ++ beBytes 32 p256G.1 ++ beBytes 32 p256G.2 ++
    List.replicate 80 0 ++ body
/-- Three images without a body and a manifest of one entry, each signed. -/
def signedSet : List Byte := signed 1 [] ++ signed 2 [] ++ signed 3 [] ++ signed 4 ([1, 0, 0, 0] ++ List.replicate 12 0)
/-- The fuses hold the hash of the key. -/
def fused (d : Dev) : Dev := { d with chip := { d.chip with keyHashes := [sha256 (beBytes 32 p256G.1 ++ beBytes 32 p256G.2)] } }
def setX : ImageSet :=
  { images := [⟨1, 0, 0, 0, 0, true, true, true⟩, ⟨2, 0, 0, 0, 0, true, true, true⟩, ⟨3, 0, 0, 0, 0, true, true, true⟩, ⟨4, 0, 16, 0, 0, true, true, true⟩]
    manifest := [⟨0, 0, 0, 0, 0⟩] }
/-- A set of bytes, staged for FW_COMMIT. -/
def fwState (bs : List Byte) : State :=
  { mks [fused, rg 31 11 0 [ds 0xB2 []], fun d => { d with host := { d.host with fwOpen := true, fwLength := bs.length } }] with
    mem := { fwSet := memWriteBytes [] 0 bs } }
/-- A frame of a class from one section-bus address to another. -/
def frm (cls src dest spec : Nat) (payload : List Byte) : CanFrame :=
  soxFrame cls dest spec 3 payload { Dev.reset with chip := { strapAddr := src } }
/-- CAN-B on the bus, and the device at section-bus address 9. -/
def sbus (d : Dev) : Dev :=
  { d with chip := { strapAddr := 9 } } |> setF (F.CAN_CFG.EN 1) 1 |> setF (F.CAN_CFG.FD_EN 1) 1 |> setF (F.CAN_CFG.HALT 1) 0 |> cn 1 { joined := true }
def role (r : RoleRec) (d : Dev) : Dev := { d with sox := { d.sox with role := r } }
def tst (v : Nat) (d : Dev) : Dev := setF F.TDM_STATUS.STATE v d
/-- A word at a protection crossing changed. -/
def ec (u : Upset) (d : Dev) : Dev := { d with ecc := u :: d.ecc }

/-! ### Ill-formed terms -/

/-- Each check refuses a term that breaks it, and names it. -/
theorem test_ill_formed_units :
    [Instr.spokeLoaded 8, .spokeLoaded 0, .entryStart 1 64, .lockAchieved 1 24 0, .highSideOvercurrent 1 8, .quietTimeout 56, .loopTrigger 1 24,
      .periodStart 1 12, .trip 1 4, .pulseEdge 1 8 0, .encoderEdge 1 3 0 0, .spiPoll 1 2, .compareMatch 1 0 4, .notchRelease 1 3 0 0,
      .conversionDone 1 16 0, .nop 32, .canEnable 4, .filterWord2Write 0 64 0, .edgeKeepalive 63, .thermal 8 0].map Instr.check =
    [[.spoke 8], [.spoke 0], [.channel 64], [.gnssChannel 24], [.cassette 8], [.deviceCassette 56], [.loop 24], [.pair 12], [.tripInput 4],
      [.pulseInput 8], [.encoder 3], [.spiPort 2], [.compare 4], [.notch 3], [.analogInput 16], [.ring 32], [.controller 4], [.filterElement 64],
      [.follower 63], [.die 8]] := by decide +kernel

theorem test_ill_formed_fields :
    [Instr.interruptTake 1 1 .none, .nudgeRaise 0 3 16 .host, .sourceSignalChange 1 256 true, .sourceSignalChange 0 1024 true,
      .pendingWordWrite 1 8 0 0 .host, .configurationWrite 0 512 0 .host, .leakTimerExpiry 19 0, .missGraceExpiry 2048, .int 1 ⟨0, 0⟩ 64 true,
      .registerRead 0x46000 4, .receiveError 0 8 false {}, .acquisitionDetection 1 2 0 0, .idle 1 .hub ⟨64, 0⟩,
      .frameValid 0 { id := 2048 } 0, .frameValid 0 { id := 5, dlc := 16 } 0, .msixUnmask (.vector 64 false),
      .logbookEvent ⟨0, 8, 0, 0, 0, 0, 0, 0⟩].map Instr.check =
    [[.core 1], [.nudge 16], [.source 256], [.source 1024], [.interruptWord 8], [.configRegister 512], [.healthClass 19], [.outlet 2048],
      [.slot 64], [.registerAddress 0x46000], [.errorCode 8], [.satellite 2], [.linkNumber 64], [.identifier 2048], [.frameLength 16],
      [.vector 64], [.severity 8]] := by decide +kernel

theorem test_well_formed :
    [Instr.spokeLoaded 7, .entryStart 7 63, .nop 31, .filterWord2Write 3 63 0, .frameValid 0 { id := 2048, ide := true } 0,
      .registerRead 0x45FFC 4, .interruptTake 0 3 .none].all Instr.wellFormed = true := by decide

/-! ### Worked examples of the spec -/

/-- R105: CRC-32C over the ASCII string "123456789". -/
theorem test_crc32c : crc32c ((List.range 9).map fun i => BitVec.ofNat 8 (0x31 + i)) = 0xE3069283 := by decide +kernel

/-- 00_scope.md, the example after R2: body 100, outlet 1 is local channel 39 of spoke 4, global channel 231, cassette 4. -/
theorem test_global_channel : globalCh 4 39 = 231 ∧ cassetteOf 39 = 4 := by decide

/-- 13_interrupts.md, its example: DRV_CH_TRAVEL of channel 30 on spoke 6. -/
theorem test_travel_address : (R.DRV_CH_TRAVEL 6 30).off = 0x28DE8 := by decide

/-- 06_channel_drive.md, the pulse example: P, the grid offset and W. -/
theorem test_grid : gridP 15 = 16666666 ∧ gridOff 15 7 = 14583332 ∧
    windowW { start := 0, finish := 0, duty := 40959, freq := 15, slot := 7 } 0 = 10416570 := by decide

/-- 04_implement_and_pose.md, the extrapolation example: the point, within one field unit, and its cell (735, 1,428). -/
theorem test_extrapolation :
    let p := place (extrapolate ⟨1600000 * 2 ^ 16, 3200000 * 2 ^ 16, 0x40000000 * 2 ^ 32, 111111 * 250000000, 68356528⟩ 0 62500000) (-115004) 276500
    (p.1 - 1505895).natAbs ≤ 1 ∧ (p.2 - 2926114).natAbs ≤ 1 ∧ cellOf 7 p = ((11, 22), 64 * 20 + 31) := by decide +kernel

/-- 04_implement_and_pose.md, the boom-shape example (R163). -/
theorem test_boom_shape : deflect 108000 216000 (-114240) 276500 [-1600, 800, 0, 0] = -114240 - 761 := by decide +kernel

/-- 08_control_loops.md, one sample of the pressure loop: the conditioned value, then v and the next integral state. -/
theorem test_pi_sample :
    condition { off := 214748365, gain := ⟨1342177280, 1⟩ } ⟨some 515375104, true⟩ 0 = 375783423 ∧
    lawOutputs { coeffs := [⟨1374389535, 0⟩, ⟨1374389535, 0⟩, ⟨1759218604, -8⟩] } { z := [858993459] } [] [375783423] [402653184] 0 false =
      ([876276089], [859079442], false) := by decide +kernel

/-- 11_can_controllers.md, the section-state example: groups 0 to 3 open, group 4 mixed, groups 5 to 8 closed. -/
theorem test_section_summary :
    summaryV 2 (mks [setF (F.CAN_SUM_CFG.MIXED_ON 2) 1, en (fun e => { e with
      table := some { outlets := (List.range 18).map fun o => { group := o / 2 } }
      outlets := (List.range 9).map fun o => (o, { open_ := true }) })]).dev = 0xFFFC0155 := by decide +kernel

/-- 11_can_controllers.md, the filter example: identifier 0x0CFE481C matches element 0. -/
theorem test_filter : filterMatch 3 0x00FE4800 0x03FFFF00 0x0CFE481C = true := by decide +kernel

/-- FIPS 180-4, the digest of "abc" (R55). -/
theorem test_sha256 :
    beVal (sha256 [0x61, 0x62, 0x63]) = 0xba7816bf8f01cfea414140de5dae2223b00361a396177a9cb410ff61f20015ad := by decide +kernel

/-- 16_package.md, the balls of YN8: Y41 is OUT39 of spoke 4 and AC7 is ARM. -/
theorem test_balls :
    rowName 19 = ['Y'] ∧ ballAt .yn8 19 41 = some (.signal (.out 4 39)) ∧ rowName 22 = ['A', 'C'] ∧ ballAt .yn8 22 7 = some (.signal .arm) := by decide

/-- R20, R23: where the fields of SCHED and FEED stand. -/
theorem test_payload_bits :
    schedBits { start := 0, finish := 0, chan := 0, duty := 1, freq := 0, slot := 0 } = 2 ^ 70 ∧
    schedBits { start := 0, finish := 0, chan := 0, duty := 0, freq := 0, slot := 1 } = 2 ^ 93 ∧
    feedBits { evtPt := 0, delay := 0, event := .disabledByFault, chan := 0, late := false, slip := true, slipUs := 0 } = 2 ^ 32 * (3 * 2 ^ 16 + 2 ^ 26) := by decide

theorem test_ill_formed_payloads :
    [Instr.sched 1 ⟨0, 0⟩ { start := 0, finish := 2 ^ 32, chan := 0, duty := 65536, freq := 0, slot := 8 },
      .feed 1 ⟨0, 0⟩ { evtPt := 0, delay := 65536, event := .opened, chan := 0, late := false, slip := false, slipUs := 0 }].map Instr.check =
    [[.payloadField (2 ^ 32), .payloadField 65536, .payloadField 8], [.payloadField 65536]] := by decide +kernel

/-! ### Witnesses -/

theorem witness_ColdResetsClearTheDevice :
    (∃ s : State, s.dev.pins.resetN = false) ∧
    (∃ s : State, ∃ p, s.pending = [] ∧ s.dev.pins.vbatAo = true ∧ s.dev.pins.resetN = true ∧ s.dev.pwr.park ≠ .saved ∧ s.dev.pt + 2 < 2 ^ 64 ∧ s.dev.pwr.powerFrom = some p ∧ s.dev.pwr.powerAt = none ∧ p + 10000 ≤ s.dev.pt) ∧
    (∃ s : State, ∃ q, s.pending = [] ∧ s.dev.pins.vbatAo = true ∧ s.dev.pins.resetN = true ∧ s.dev.pwr.park ≠ .saved ∧ s.dev.pt + 2 < 2 ^ 64 ∧ s.dev.pins.testMode = false ∧ s.dev.pwr.powerAt = some q ∧ q ≤ s.dev.pt) := by
  refine ⟨⟨mks [pn (fun p => { p with resetN := false, pwrEn := false })], ?_⟩,
    ⟨mks [inSt .boot, pw (fun p => { p with powerFrom := some 0 }), atPt 10000], 0, ?_⟩,
    ⟨mks [inSt .boot, pw (fun p => { p with powerAt := some 12500 }), atPt 12500], 12500, ?_⟩⟩
  all_goals (decide +kernel)

theorem witness_HubResetsStartFromImages :
    (∃ s : State, s.dev.pwr.state ≠ .cold ∧ s.dev.pwr.state ≠ .parked) ∧
    (∃ s : State, (s.dev.pwr.state = .ready ∨ s.dev.pwr.state = .restricted)) ∧
    (∃ s : State, s.dev.pwr.state ≠ .ready ∧ s.dev.pwr.state ≠ .restricted) := by
  refine ⟨⟨mks [inSt .ready, atPt 7], ?_⟩,
    ⟨mks [inSt .restricted, atPt 7], ?_⟩,
    ⟨mks [inSt .armed], ?_⟩⟩
  all_goals (decide +kernel)

theorem witness_SuppliesAndBootComplete :
    (∃ s : State, s.dev.pins.pwrEn = true ∧ s.dev.pwr.pgDeadline ≠ none) ∧
    (∃ s : State, ∃ p, s.dev.pwr.pgDeadline = some p ∧ p ≤ s.dev.pt ∧ s.dev.pwr.suppliesGood = false ∧ s.dev.pwr.attempts < 3) ∧
    (∃ s : State, ∃ p, s.dev.pwr.pgDeadline = some p ∧ p ≤ s.dev.pt ∧ s.dev.pwr.suppliesGood = false ∧ 3 ≤ s.dev.pwr.attempts) ∧
    (∃ s : State, ∃ p, s.dev.pwr.retryAt = some p ∧ p ≤ s.dev.pt) ∧
    (∃ s : State, s.dev.pwr.suppliesGood = true ∧ s.dev.pwr.state = .cold) ∧
    (∃ s : State, s.dev.pwr.state = .boot ∧ getF F.PWR_CAUSE.SAFE s.dev = 0) := by
  refine ⟨⟨mks [pn (fun p => { p with pwrEn := true }), pw (fun p => { p with pgDeadline := some 9 })], ?_⟩,
    ⟨mks [atPt 5012500, pw (fun p => { p with attempts := 2, pgDeadline := some 5012500 })], 5012500, ?_⟩,
    ⟨mks [atPt 5012500, pw (fun p => { p with attempts := 3, pgDeadline := some 5012500 })], 5012500, ?_⟩,
    ⟨mks [atPt 9, pw (fun p => { p with retryAt := some 9 })], 9, ?_⟩,
    ⟨mks [pw (fun p => { p with suppliesGood := true })], ?_⟩,
    ⟨mks [inSt .boot], ?_⟩⟩
  all_goals (decide +kernel)

theorem witness_SpokesAreBroughtUpAndReset :
    (∃ s : State, s.dev.pwr.state = .spokes ∧ s.dev.pwr.slotAt + 25000 * (s.dev.pwr.nextSpoke - 1) ≤ s.dev.pt ∧ s.dev.pwr.nextSpoke < nSpokes s.dev ∧ isIsolated s.dev.pwr.nextSpoke s.dev = false ∧ s.dev.pwr.spokeOn.contains s.dev.pwr.nextSpoke = false) ∧
    (∃ s : State, s.dev.pwr.state = .spokes ∧ s.dev.pwr.slotAt + 25000 * (s.dev.pwr.nextSpoke - 1) ≤ s.dev.pt ∧ s.dev.pwr.nextSpoke < nSpokes s.dev ∧ isIsolated s.dev.pwr.nextSpoke s.dev = true) ∧
    (∃ s : State, s.dev.pwr.state = .spokes ∧ s.dev.pwr.slotAt + 25000 * (s.dev.pwr.nextSpoke - 1) ≤ s.dev.pt ∧ s.dev.pwr.nextSpoke = nSpokes s.dev ∧ isIsolated s.dev.pwr.nextSpoke s.dev = false ∧ s.dev.pwr.spokeOn.contains s.dev.pwr.nextSpoke = false ∧ spokeRuns s.dev.pwr.nextSpoke s.dev = false) ∧
    (∃ s : State, ∃ k, ∃ e, hasSpoke k s.dev = true ∧ (s.dev.pwr.trainBy.find? fun e => e.1 == k) = some e ∧ s.dev.pt ≤ e.2) ∧
    (∃ s : State, ∃ k, ∃ e, hasSpoke k s.dev = true ∧ (s.dev.pwr.trainBy.find? fun e => e.1 == k) = some e ∧ e.2 < s.dev.pt ∧ isIsolated k s.dev = false ∧ s.dev.pwr.state = .spokes) ∧
    (∃ s : State, ∃ k, hasSpoke k s.dev = true ∧ (getLink k s.dev).up = true ∧ s.dev.pwr.spokeOn.contains k = true ∧ spokeRuns k s.dev = false ∧ s.dev.pwr.state = .spokes) ∧
    (∃ s : State, ∃ k, ∃ rail, hasSpoke k s.dev = true ∧ (s.dev.pwr.prechargeBy.any fun e => e.1 == k) = true ∧ 2 * getF (F.DRV_BOOST_CFG.TARGET k) s.dev ≤ rail) ∧
    (∃ s : State, ∃ k, ∃ e, hasSpoke k s.dev = true ∧ (s.dev.pwr.prechargeBy.find? fun e => e.1 == k) = some e ∧ e.2 ≤ s.dev.pt) ∧
    (∃ s : State, s.dev.pwr.state = .ready) ∧
    (∃ s : State, s.dev.pwr.state ≠ .ready) ∧
    (∃ s : State, s.dev.pwr.state = .selftest ∧ getF F.PWR_CAUSE.FW_COMBO s.dev = 0 ∧ getF F.PWR_CAUSE.ABI s.dev = 0) ∧
    (∃ s : State, s.dev.pwr.state = .selftest) ∧
    (∃ s : State, ∃ k, s.dev.pwr.state = .selftest ∧ getF F.PWR_CAUSE.FW_COMBO s.dev = 0 ∧ getF F.PWR_CAUSE.ABI s.dev = 0 ∧ hasSpoke k s.dev = true ∧ s.dev.pwr.spokeOn.contains k = true ∧ isIsolated k s.dev = false) ∧
    (∃ s : State, ∃ k, hasSpoke k s.dev = true ∧ (s.dev.pwr.state = .ready ∨ s.dev.pwr.state = .restricted ∨ s.dev.pwr.state = .safe ∨ (isIsolated k s.dev = true ∧ s.dev.pwr.state ∉ [.armed, .cold, .parked]))) ∧
    (∃ s : State, ∃ k, (s.dev.pwr.state = .armed ∨ hasSpoke k s.dev = false)) := by
  refine ⟨⟨mks [inSt .spokes, atPt 125000, pw (fun p => { p with nextSpoke := 6 })], ?_⟩,
    ⟨mks [inSt .spokes, atPt 125000, pw (fun p => { p with nextSpoke := 6 }), setF F.PWR_STATE.ISOLATED 32], ?_⟩,
    ⟨mks [inSt .spokes, atPt 150000, pw (fun p => { p with nextSpoke := 7 })], ?_⟩,
    ⟨mks [inSt .spokes, pw (fun p => { p with trainBy := [(7, 25000)] }), atPt 25000], 7, (7, 25000), ?_⟩,
    ⟨mks [inSt .spokes, pw (fun p => { p with trainBy := [(7, 25000)] }), atPt 25001], 7, (7, 25000), ?_⟩,
    ⟨mks [inSt .spokes, lk 7 { up := true }, pw (fun p => { p with spokeOn := [7] })], 7, ?_⟩,
    ⟨mks [pw (fun p => { p with prechargeBy := [(1, 9)] })], 1, 600, ?_⟩,
    ⟨mks [pw (fun p => { p with prechargeBy := [(1, 9)] }), atPt 9], 1, (1, 9), ?_⟩,
    ⟨mks [inSt .ready], ?_⟩,
    ⟨mks [inSt .armed], ?_⟩,
    ⟨mks [inSt .selftest], ?_⟩,
    ⟨mks [inSt .selftest], ?_⟩,
    ⟨mks [inSt .selftest, pw (fun p => { p with spokeOn := [7] })], 7, ?_⟩,
    ⟨mks [inSt .safe], 7, ?_⟩,
    ⟨mks [inSt .armed], 7, ?_⟩⟩
  all_goals (decide +kernel)

theorem witness_SafeCausesEnterSafe :
    (∃ s : State, canEnterSafe s.dev) ∧
    (∃ s : State, ∃ dev : Int, canEnterSafe s.dev ∧ 100 < dev.natAbs) ∧
    (∃ dev : Int, dev.natAbs ≤ 100) ∧
    (∃ s : State, ∃ die, ∃ temp : Int, canEnterSafe s.dev ∧ 155 < temp ∧ (die = 0 ∨ hasSpoke die s.dev = true)) ∧
    (∃ s : State, s.dev.pwr.state = .safe) ∧
    (∃ s : State, (s.dev.pwr.state = .cold ∨ s.dev.pwr.state = .boot ∨ s.dev.pwr.state = .parked)) := by
  refine ⟨⟨mks [inSt .armed], ?_⟩,
    ⟨mks [inSt .ready], (101 : Int), ?_⟩,
    ⟨(100 : Int), ?_⟩,
    ⟨mks [inSt .ready], 7, (156 : Int), ?_⟩,
    ⟨mks [inSt .safe], ?_⟩,
    ⟨mks [inSt .boot], ?_⟩⟩
  all_goals ((try unfold canEnterSafe); decide +kernel)

theorem witness_SafeAndArmedAreLeft :
    (∃ s : State, s.dev.pwr.state = .safe ∧ getF F.PWR_CAUSE.SAFE s.dev = 0 ∧ s.dev.pwr.reachedReady = true ∧ getF F.PWR_CAUSE.FW_COMBO s.dev = 0 ∧ getF F.PWR_CAUSE.ABI s.dev = 0) ∧
    (∃ s : State, s.dev.pwr.state = .safe ∧ getF F.PWR_CAUSE.SAFE s.dev = 0 ∧ s.dev.pwr.reachedReady = false ∧ s.dev.pwr.manifest ≠ []) ∧
    (∃ s : State, s.dev.pwr.state = .safe ∧ getF F.PWR_CAUSE.SAFE s.dev ≠ 0) ∧
    (∃ s : State, s.dev.pwr.state ≠ .safe) ∧
    (∃ s : State, s.dev.pwr.state = .armed) ∧
    (∃ s : State, s.dev.pwr.state ≠ .armed) := by
  refine ⟨⟨mks [inSt .safe, pw (fun p => { p with reachedReady := true })], ?_⟩,
    ⟨mks [inSt .safe, pw (fun p => { p with manifest := [⟨1, 1, 1, 0, 9⟩] })], ?_⟩,
    ⟨mks [inSt .safe, setF F.PWR_CAUSE.SAFE 1], ?_⟩,
    ⟨mks [inSt .ready], ?_⟩,
    ⟨mks [inSt .armed, pn (fun p => { p with arm := true })], ?_⟩,
    ⟨mks [inSt .ready, pn (fun p => { p with arm := true })], ?_⟩⟩
  all_goals (decide +kernel)

theorem witness_ParkingAndWaking :
    (∃ s : State, (s.dev.pwr.state = .ready ∨ s.dev.pwr.state = .restricted) ∧ s.dev.pwr.aoFail = false ∧ s.dev.pwr.park = .awake) ∧
    (∃ s : State, (s.dev.pwr.state = .ready ∨ s.dev.pwr.state = .armed ∨ s.dev.pwr.state = .restricted) ∧ s.dev.pwr.aoFail = true) ∧
    (∃ s : State, s.dev.pwr.state = .ready ∧ s.dev.pwr.aoFail = false ∧ s.dev.pwr.park = .awake ∧ getF F.PWR_PARK_CFG.PARK_DELAY s.dev ≠ 0 ∧ wakeActive s.dev = false ∧ s.dev.pwr.wakeIdle + 250000000 * getF F.PWR_PARK_CFG.PARK_DELAY s.dev ≤ s.dev.pt) ∧
    (∃ s : State, s.dev.pwr.park = .entering ∧ s.dev.pwr.parkAt + 250000 ≤ s.dev.pt) ∧
    (∃ s : State, isSet F.PWR_PARK_CFG.WAKE_EN s.dev = true ∧ s.dev.pwr.park = .entering) ∧
    (∃ s : State, isSet F.PWR_PARK_CFG.WAKE_EN s.dev = true ∧ s.dev.pwr.park = .entering ∧ s.dev.pwr.wakeLatched = none) ∧
    (∃ s : State, isSet F.PWR_PARK_CFG.WAKE_EN s.dev = true ∧ s.dev.pwr.park = .saved ∧ s.dev.pwr.wakeDelay = none ∧ 250000 ≤ s.dev.pwr.parkTicks) ∧
    (∃ s : State, isSet F.PWR_PARK_CFG.WAKE_EN s.dev = true ∧ s.dev.pwr.park = .saved ∧ s.dev.pwr.wakeDelay = none ∧ s.dev.pwr.parkTicks < 250000) ∧
    (∃ s : State, isSet F.PWR_PARK_CFG.TIMER_EN s.dev = true ∧ getF F.PWR_PARK_TIMER.SECONDS s.dev ≠ 0 ∧ 250000000 * getF F.PWR_PARK_TIMER.SECONDS s.dev ≤ s.dev.pwr.parkTicks ∧ s.dev.pwr.park = .saved ∧ s.dev.pwr.wakeDelay = none) ∧
    (∃ s : State, isSet F.PWR_PARK_CFG.HEARTBEAT_EN s.dev = true ∧ s.dev.pwr.park = .saved ∧ s.dev.pwr.wakeDelay = none ∧ 250000 ≤ s.dev.pwr.parkTicks) ∧
    (∃ s : State, ∃ p, s.dev.pwr.wakeDelay = some p ∧ p ≤ s.dev.pwr.parkTicks ∧ s.dev.pwr.park = .saved) := by
  refine ⟨⟨mks [inSt .restricted], ?_⟩,
    ⟨mks [inSt .armed, pw (fun p => { p with aoFail := true })], ?_⟩,
    ⟨mks [inSt .ready, setF F.PWR_PARK_CFG.PARK_DELAY 1, setF F.PWR_PARK_CFG.WAKE_POL 1, atPt 250000000], ?_⟩,
    ⟨mks [inSt .ready, pw (fun p => { p with park := .entering }), atPt 250000], ?_⟩,
    ⟨mks [inSt .ready, pw (fun p => { p with park := .entering }), setF F.PWR_PARK_CFG.WAKE_EN 1], ?_⟩,
    ⟨mks [inSt .ready, pw (fun p => { p with park := .entering }), setF F.PWR_PARK_CFG.WAKE_EN 1], ?_⟩,
    ⟨mks [inSt .parked, pw (fun p => { p with park := .saved, parkTicks := 250000 }), setF F.PWR_PARK_CFG.WAKE_EN 1], ?_⟩,
    ⟨mks [inSt .parked, pw (fun p => { p with park := .saved }), setF F.PWR_PARK_CFG.HEARTBEAT_EN 1], ?_⟩,
    ⟨mks [inSt .parked, pw (fun p => { p with park := .saved, parkTicks := 250000000 }), setF F.PWR_PARK_CFG.TIMER_EN 1, setF F.PWR_PARK_TIMER.SECONDS 1], ?_⟩,
    ⟨mks [inSt .parked, pw (fun p => { p with park := .saved, parkTicks := 250000 }), setF F.PWR_PARK_CFG.HEARTBEAT_EN 1], ?_⟩,
    ⟨mks [inSt .parked, pw (fun p => { p with park := .saved, wakeDelay := some 9, parkTicks := 9, wakeLatched := some 1 })], 9, ?_⟩⟩
  all_goals (decide +kernel)

theorem witness_FrameOutOfSequenceIsDiscarded :
    (∃ s : State, ∃ k : Nat, ∃ h : LinkHdr, hasSpoke k s.dev = true ∧ ¬ inSequence k .spoke h s.dev) ∧
    (∃ s : State, ∃ k : Nat, ∃ h : LinkHdr, hasSpoke k s.dev = true ∧ ¬ inSequence k .hub h s.dev) := by
  refine ⟨⟨mks [], 7, ⟨0, 1⟩, ?_⟩,
    ⟨mks [], 1, ⟨0, 63⟩, ?_⟩⟩
  all_goals ((try unfold inSequence); decide +kernel)

theorem witness_LinkFramesTakeEffect :
    (∃ s : State, ∃ k : Nat, ∃ h : LinkHdr, ∃ off, hasSpoke k s.dev = true ∧ inSequence k .hub h s.dev ∧ (getLink k s.dev).reads.contains off = true) ∧
    (∃ s : State, ∃ k : Nat, ∃ h : LinkHdr, hasSpoke k s.dev = true ∧ inSequence k .hub h s.dev) ∧
    (∃ s : State, ∃ k : Nat, ∃ h : LinkHdr, hasSpoke k s.dev = true ∧ inSequence k .spoke h s.dev) ∧
    (∃ s : State, ∃ k : Nat, ∃ h : LinkHdr, ∃ e : FeedP, ∃ o, hasSpoke k s.dev = true ∧ inSequence k .hub h s.dev ∧ s.dev.sox.role.role ≠ 3 ∧ findOutlet (globalCh k e.chan) s.dev = some o) ∧
    (∃ s : State, ∃ k : Nat, ∃ h : LinkHdr, ∃ off, hasSpoke k s.dev = true ∧ inSequence k .spoke h s.dev ∧ regFind (spk k + off % 0x4000) = none) ∧
    (∃ s : State, ∃ k : Nat, ∃ h : LinkHdr, ∃ l, hasSpoke k s.dev = true ∧ inSequence k .spoke h s.dev ∧ l < 24 ∧ s.dev.pwr.state ≠ .restricted ∧ loopMode k l s.dev = 0 ∧ (loopBlock k l s.dev).isSome = true) ∧
    (∃ s : State, ∃ k : Nat, ∃ h : LinkHdr, hasSpoke k s.dev = true ∧ inSequence k .hub h s.dev ∧ (getLink k s.dev).syncSent ≠ none) := by
  refine ⟨⟨mks [lk 7 { reads := [0x2C000] }], 7, ⟨0, 0⟩, 0x2C000, ?_⟩,
    ⟨mks [], 1, ⟨0, 64⟩, ?_⟩,
    ⟨mks [], 1, ⟨0, 0⟩, ?_⟩,
    ⟨mks [en (fun e => { e with chanOutlet := [(63, 1)] })], 1, ⟨0, 0⟩, ⟨0, 9, .opened, 63, true, false, 0⟩, 0, ?_⟩,
    ⟨mks [], 1, ⟨0, 0⟩, 0x3FFC, ?_⟩,
    ⟨mks [lp 1 23 { block := some {} }], 1, ⟨0, 0⟩, 23, ?_⟩,
    ⟨mks [lk 1 { syncSent := some 0 }, atPt 8], 1, ⟨0, 0⟩, ?_⟩⟩
  all_goals ((try unfold inSequence); decide +kernel)

theorem witness_LinkErrorsAndRetry :
    (∃ s : State, ∃ k : Nat, hasSpoke k s.dev = true ∧ (linkEnd k .hub s.dev).nakSent = false) ∧
    (∃ s : State, ∃ k : Nat, hasSpoke k s.dev = true ∧ (linkEnd k .hub s.dev).nakSent = true) ∧
    (∃ s : State, ∃ k : Nat, hasSpoke k s.dev = true) ∧
    (∃ s : State, ∃ k : Nat, ∃ side, hasSpoke k s.dev = true ∧ ackOverdue s.dev.pt (linkEnd k side s.dev) = true ∧ replaysSpent (linkEnd k side s.dev) = false) ∧
    (∃ s : State, ∃ k : Nat, ∃ side, hasSpoke k s.dev = true ∧ ackOverdue s.dev.pt (linkEnd k side s.dev) = false) ∧
    (∃ s : State, ∃ k : Nat, hasSpoke k s.dev = true ∧ ackOverdue s.dev.pt (linkEnd k .hub s.dev) = true ∧ replaysSpent (linkEnd k .hub s.dev) = true ∧ (getLink k s.dev).up = true ∧ linkLooped k s.dev = false ∧ (getInst 7 (k - 1) s.dev).lasting = true) ∧
    (∃ s : State, ∃ k : Nat, hasSpoke k s.dev = true ∧ ackOverdue s.dev.pt (linkEnd k .spoke s.dev) = true ∧ replaysSpent (linkEnd k .spoke s.dev) = true) ∧
    (∃ s : State, ∃ k : Nat, ∃ side, ∃ h : LinkHdr, hasSpoke k s.dev = true ∧ replaysSpent (takeAck h.ack (linkEnd k side s.dev)) = false) ∧
    (∃ d : Dev, ∃ k : Nat, ∃ side : Side, (linkEnd k side d).nakDue = true) ∧
    (∃ d : Dev, ∃ k : Nat, ∃ side : Side, ∃ f, ∃ rest, (linkEnd k side d).nakDue = false ∧ (linkEnd k side d).resend = f.seq :: rest ∧ ((linkEnd k side d).replay.find? fun g => g.seq == f.seq) = some f) ∧
    (∃ d : Dev, ∃ k : Nat, ∃ side : Side, ∃ p, ∃ ws, (linkEnd k side d).nakDue = false ∧ (linkEnd k side d).resend = [] ∧ (linkEnd k side d).waiting = p :: ws ∧ (linkEnd k side d).replay.length < 32 ∧ d.ecc = []) ∧
    (∃ d : Dev, ∃ k : Nat, ∃ side : Side, ∃ p, ∃ ws, ∃ e, (linkEnd k side d).nakDue = false ∧ (linkEnd k side d).resend = [] ∧ (linkEnd k side d).waiting = p :: ws ∧ (linkEnd k side d).replay.length < 32 ∧ d.ecc = [] ∧ p = .sched e) ∧
    (∃ d : Dev, ∃ k : Nat, ∃ side : Side, ∃ p, ∃ ws, ∃ f, (linkEnd k side d).nakDue = false ∧ (linkEnd k side d).resend = [] ∧ (linkEnd k side d).waiting = p :: ws ∧ (linkEnd k side d).replay.length < 32 ∧ d.ecc = [] ∧ p = .feed f) ∧
    (∃ d : Dev, ∃ k : Nat, ∃ side : Side, (linkEnd k side d).nakDue = false ∧ (linkEnd k side d).resend = [] ∧ 32 ≤ (linkEnd k side d).replay.length) ∧
    (∃ d : Dev, ∃ k : Nat, ∃ side : Side, (linkEnd k side d).nakDue = false ∧ (linkEnd k side d).resend = [] ∧ (linkEnd k side d).waiting = []) := by
  refine ⟨⟨mks [], 7, ?_⟩,
    ⟨mks [lk 7 { hub := { nakSent := true } }], 7, ?_⟩,
    ⟨mks [], 7, ?_⟩,
    ⟨mks [lk 7 { spoke := { replay := [⟨63, Payload.data (.rxBad 3), 0, 0, 7⟩] } }, atPt 100], 7, .spoke, ?_⟩,
    ⟨mks [lk 1 { hub := { replay := [⟨63, Payload.data (.rxBad 3), 0, 0, 8⟩] } }, atPt 99], 1, .hub, ?_⟩,
    ⟨mks [lk 7 { up := true, hub := { replay := [⟨63, Payload.data (.rxBad 3), 0, 0, 8⟩] } }, atPt 100, hi 7 6 { lasting := true }], 7, ?_⟩,
    ⟨mks [lk 7 { spoke := { replay := [⟨63, Payload.data (.rxBad 3), 0, 0, 8⟩] } }, atPt 100], 7, ?_⟩,
    ⟨mks [lk 7 { spoke := { replay := [⟨63, Payload.data (.rxBad 3), 0, 0, 8⟩, ⟨0, Payload.data (.rxBad 3), 0, 0, 7⟩] } }], 7, .spoke, ⟨0, 63⟩, ?_⟩,
    ⟨(mks [lk 7 { spoke := { nakDue := true } }]).dev, 7, .spoke, ?_⟩,
    ⟨(mks [lk 7 { spoke := { resend := [63, 0], replay := [⟨63, Payload.data (.rxBad 3), 0, 0, 7⟩] } }]).dev, 7, .spoke, ⟨63, Payload.data (.rxBad 3), 0, 0, 7⟩, [0], ?_⟩,
    ⟨(mks [lk 7 { spoke := { waiting := [Payload.data (.rxBad 3)], nextSeq := 63 } }]).dev, 7, .spoke, Payload.data (.rxBad 3), [], ?_⟩,
    ⟨(mks [lk 7 { spoke := { waiting := [.sched ⟨5, 9, 63, 65535, 15, 7⟩] } }]).dev, 7, .spoke, .sched ⟨5, 9, 63, 65535, 15, 7⟩, [], ⟨5, 9, 63, 65535, 15, 7⟩, ?_⟩,
    ⟨(mks [lk 7 { spoke := { waiting := [.feed ⟨5, 9, .opened, 63, true, false, 0⟩] } }]).dev, 7, .spoke, .feed ⟨5, 9, .opened, 63, true, false, 0⟩, [], ⟨5, 9, .opened, 63, true, false, 0⟩, ?_⟩,
    ⟨(mks [lk 7 { spoke := { replay := List.replicate 32 ⟨63, Payload.data (.rxBad 3), 0, 0, 0⟩ } }]).dev, 7, .spoke, ?_⟩,
    ⟨(mks []).dev, 7, .hub, ?_⟩⟩
  all_goals (decide +kernel)

theorem witness_LinkLossAndRecovery :
    (∃ s : State, ∃ k : Nat, hasSpoke k s.dev = true ∧ (getLink k s.dev).spokeOff = false ∧ spokeRuns k s.dev = true ∧ linkLooped k s.dev = false ∧ linkDead (linkEnd k .spoke s.dev) s.dev = true) ∧
    (∃ s : State, ∃ k : Nat, hasSpoke k s.dev = true ∧ linkDead (linkEnd k .spoke s.dev) s.dev = false) ∧
    (∃ s : State, ∃ k : Nat, hasSpoke k s.dev = true ∧ linkDead (linkEnd k .hub s.dev) s.dev = false) ∧
    (∃ s : State, ∃ k : Nat, hasSpoke k s.dev = true ∧ (getLink k s.dev).up = true ∧ linkLooped k s.dev = false ∧ linkDead (linkEnd k .hub s.dev) s.dev = true ∧ (getInst 7 (k - 1) s.dev).lasting = true) ∧
    (∃ s : State, ∃ k : Nat, hasSpoke k s.dev = true ∧ (getLink k s.dev).lostAt ≠ none ∧ isIsolated k s.dev = false) ∧
    (∃ s : State, ∃ k : Nat, ∃ p, hasSpoke k s.dev = true ∧ (getLink k s.dev).lostAt = some p ∧ p + 25000 ≤ s.dev.pt ∧ isIsolated k s.dev = false ∧ s.dev.pwr.state = .ready) := by
  refine ⟨⟨mks [pw (fun p => { p with loaded := [7] }), atPt 250], 7, ?_⟩,
    ⟨mks [atPt 249], 7, ?_⟩,
    ⟨mks [lk 1 { hub := { replay := [⟨63, Payload.data (.rxBad 3), 0, 0, 8⟩] } }, atPt 99], 1, ?_⟩,
    ⟨mks [lk 7 { up := true }, atPt 250, hi 7 6 { lasting := true }], 7, ?_⟩,
    ⟨mks [lk 7 { lostAt := some 0 }], 7, ?_⟩,
    ⟨mks [lk 7 { lostAt := some 0 }, atPt 25000, inSt .ready], 7, 0, ?_⟩⟩
  all_goals (decide +kernel)

theorem witness_PackageTimeCommands :
    (∃ s : State, ∃ k : Nat, ∃ off : Int, hasSpoke k s.dev = true ∧ (getLink k s.dev).up = true ∧ linkLooped k s.dev = false ∧ off.natAbs ≤ 1) ∧
    (∃ s : State, ∃ k : Nat, ∃ off : Int, hasSpoke k s.dev = true ∧ (getLink k s.dev).up = true ∧ linkLooped k s.dev = false ∧ 1 < off.natAbs ∧ off.natAbs ≤ 16) ∧
    (∃ s : State, ∃ k : Nat, ∃ off : Int, hasSpoke k s.dev = true ∧ (getLink k s.dev).up = true ∧ linkLooped k s.dev = false ∧ 16 < off.natAbs) ∧
    (∃ s : State, ∃ k : Nat, ∃ off : Int, hasSpoke k s.dev = true ∧ (getLink k s.dev).up = true ∧ linkLooped k s.dev = false ∧ 16 < off.natAbs ∧ (getInst 7 (k - 1) s.dev).lasting = true) ∧
    (∃ s : State, ∃ k : Nat, ∃ h, hasSpoke k s.dev = true ∧ (getLink k s.dev).up = true ∧ linkLooped k s.dev = false ∧ inSequence k .spoke h s.dev) ∧
    (∃ s : State, ∃ k : Nat, ∃ plus, hasSpoke k s.dev = true ∧ (getLink k s.dev).up = true ∧ linkLooped k s.dev = false ∧ s.dev.time.adjs = [(s.dev.pt, plus)]) := by
  refine ⟨⟨mks [lk 7 { up := true }], 7, (-1 : Int), ?_⟩,
    ⟨mks [lk 7 { up := true }], 7, (16 : Int), ?_⟩,
    ⟨mks [lk 7 { up := true }], 7, (-17 : Int), ?_⟩,
    ⟨mks [lk 7 { up := true }, hi 7 6 { lasting := true }], 7, (17 : Int), ?_⟩,
    ⟨mks [lk 7 { up := true }], 7, ⟨0, 0⟩, ?_⟩,
    ⟨mks [lk 7 { up := true }, atPt 9, fun d => { d with time := { d.time with adjs := [(9, true)] } }], 7, true, ?_⟩⟩
  all_goals ((try unfold inSequence); decide +kernel)

theorem witness_EngineCycleCommands :
    (∃ s : State, ∃ c, engineRuns s.dev = true ∧ gridReached (cyclePeriod s.dev) (cyclePeriod s.dev - 1000) s.dev.pt = some c) ∧
    (∃ s : State, ∃ c, engineRuns s.dev = true ∧ gridReached (cyclePeriod s.dev) 0 s.dev.pt = some c ∧ s.dev.eng.lastGrid ≠ some c ∧ s.dev.eng.evaluating = false) ∧
    (∃ s : State, ∃ c, engineRuns s.dev = true ∧ gridReached (cyclePeriod s.dev) 0 s.dev.pt = some c ∧ s.dev.eng.lastGrid ≠ some c ∧ s.dev.eng.evaluating = true ∧ s.dev.eng.lateCycle = false ∧ (getInst 12 0 s.dev).lasting = true) ∧
    (∃ s : State, ∃ c, engineRuns s.dev = true ∧ gridReached (cyclePeriod s.dev) 0 s.dev.pt = some c ∧ s.dev.eng.lastGrid ≠ some c ∧ s.dev.eng.evaluating = true ∧ s.dev.eng.lateCycle = true) ∧
    (∃ s : State, engineRuns s.dev = true ∧ s.dev.eng.evaluating = true ∧ s.dev.eng.lateCycle = false) ∧
    (∃ s : State, ∃ o, ∃ m, o < 2048 ∧ (getOut o s.dev).missAt = some m ∧ (getOut o s.dev).expired = false ∧ m + 250000 * getF F.REG_THRESH.MISS_GRACE s.dev ≤ s.dev.pt) ∧
    (∃ s : State, ∃ p, s.dev.eng.cycleAt = some s.dev.pt ∧ s.dev.eng.nextWalk ≤ s.dev.eng.cycleStart ∧ s.dev.eng.pose = some p) ∧
    (∃ s : State, s.dev.eng.reportDue = true ∧ isSet F.REG_REPORT_CFG.EN s.dev = true ∧ reportBase s.dev ≠ 0) := by
  refine ⟨⟨mks [inSt .ready, atPt 249000], 249000, ?_⟩,
    ⟨mks [inSt .ready, atPt 250000], 250000, ?_⟩,
    ⟨mks [inSt .ready, atPt 250000, hi 12 0 { lasting := true }, en (fun e => { e with evaluating := true })], 250000, ?_⟩,
    ⟨mks [inSt .ready, atPt 250000, en (fun e => { e with evaluating := true, lateCycle := true })], 250000, ?_⟩,
    ⟨mks [inSt .ready, en (fun e => { e with evaluating := true })], ?_⟩,
    ⟨mks [en (fun e => { e with outlets := [(2047, { missAt := some 0 })] }), atPt 10000000000], 2047, 0, ?_⟩,
    ⟨mks [en (fun e => { e with cycleStart := 250000, cycleAt := some 250000, pose := some ⟨0, 0, 0, 0, 0, 0, 0, false⟩ }), atPt 250000], ⟨0, 0, 0, 0, 0, 0, 0, false⟩, ?_⟩,
    ⟨mks [en (fun e => { e with reportDue := true }), setF F.REG_REPORT_CFG.EN 1, setF F.REG_REPORT_ADDR_LO.ADDR 1], ?_⟩⟩
  all_goals (decide +kernel)

theorem witness_EntriesArrive :
    (∃ s : State, ∃ k : Nat, ∃ h : LinkHdr, ∃ e : SchedP, hasSpoke k s.dev = true ∧ inSequence k .spoke h s.dev ∧ isSet (F.DRV_STATUS.DRIVE_EN k) s.dev = true ∧ getF (F.DRV_CH_CFG.OWNER k e.chan) s.dev = 1 ∧ isSet (F.DRV_CH_CFG.BOND_ODD k e.chan) s.dev = false ∧ isSet (F.DRV_CH_STATUS.DISABLED k e.chan) s.dev = false ∧ (getChan k e.chan s.dev).running = none ∧ spokePt k s.dev ≤ extendPt (spokePt k s.dev) e.start) ∧
    (∃ s : State, ∃ k : Nat, ∃ h : LinkHdr, ∃ e : SchedP, hasSpoke k s.dev = true ∧ inSequence k .spoke h s.dev ∧ isStoker s.dev = false ∧ (isSet (F.DRV_STATUS.DRIVE_EN k) s.dev = false ∨ getF (F.DRV_CH_CFG.OWNER k e.chan) s.dev ≠ 1 ∨ isSet (F.DRV_CH_CFG.BOND_ODD k e.chan) s.dev = true)) ∧
    (∃ p : Nat, 2 ^ 31 ≤ p) := by
  refine ⟨⟨mks [setF (F.DRV_STATUS.DRIVE_EN 7) 1, setF (F.DRV_CH_CFG.OWNER 7 63) 1, atPt 5], 7, ⟨0, 0⟩, ⟨5, 4, 63, 0, 0, 0⟩, ?_⟩,
    ⟨mks [setF (F.DRV_STATUS.DRIVE_EN 7) 1, atPt 5], 7, ⟨0, 0⟩, ⟨5, 4, 63, 0, 0, 0⟩, ?_⟩,
    ⟨(2147483648 : Nat), ?_⟩⟩
  all_goals ((try unfold inSequence); decide +kernel)

theorem witness_EntryDelivery :
    (∃ s : State, ∃ k : Nat, ∃ n : Nat, ∃ e, hasSpoke k s.dev = true ∧ n < 64 ∧ (getChan k n s.dev).pending = some e ∧ e.start ≤ spokePt k s.dev ∧ spokePt k s.dev < e.finish ∧ (getChan k n s.dev).running = none ∧ (getChan k n s.dev).phase = .idle) ∧
    (∃ s : State, ∃ k : Nat, ∃ n : Nat, ∃ e, hasSpoke k s.dev = true ∧ n < 64 ∧ (getChan k n s.dev).pending = some e ∧ e.start ≤ spokePt k s.dev ∧ e.finish ≤ spokePt k s.dev ∧ (getChan k n s.dev).running = none) ∧
    (∃ s : State, ∃ k : Nat, ∃ n : Nat, ∃ e, hasSpoke k s.dev = true ∧ n < 64 ∧ (getChan k n s.dev).running = some e ∧ e.ended = false ∧ e.finish ≤ spokePt k s.dev) ∧
    (∃ s : State, ∃ k : Nat, ∃ n : Nat, ∃ e, ∃ g, hasSpoke k s.dev = true ∧ n < 64 ∧ (getChan k n s.dev).running = some e ∧ e.freq ≠ 0 ∧ e.ended = false ∧ spokePt k s.dev < e.finish ∧ (getChan k n s.dev).waitRec = false ∧ isProp k n s.dev = false ∧ gridLe e.freq e.slot (spokePt k s.dev) = some g ∧ e.start ≤ g ∧ (∀ l, e.lastG = some l → l < g) ∧ ((getChan k n s.dev).opening = none → conducts (getChan k n s.dev) = false)) ∧
    (∃ s : State, ∃ k : Nat, ∃ n : Nat, ∃ e, ∃ stop, hasSpoke k s.dev = true ∧ n < 64 ∧ (getChan k n s.dev).running = some e ∧ (getChan k n s.dev).onEnd = some stop ∧ stop ≤ spokePt k s.dev ∧ e.freq ≠ 0 ∧ isProp k n s.dev = false) := by
  refine ⟨⟨mks [ch 7 63 { pending := some ⟨5, 9, 65535, 0, 0, false, [], none, false, true, true⟩ }, atPt 5], 7, 63, ⟨5, 9, 65535, 0, 0, false, [], none, false, true, true⟩, ?_⟩,
    ⟨mks [ch 7 63 { pending := some ⟨5, 9, 65535, 0, 0, false, [], none, false, true, true⟩ }, atPt 9], 7, 63, ⟨5, 9, 65535, 0, 0, false, [], none, false, true, true⟩, ?_⟩,
    ⟨mks [ch 7 63 { running := some ⟨5, 9, 65535, 0, 0, false, [], none, false, true, true⟩ }, atPt 9], 7, 63, ⟨5, 9, 65535, 0, 0, false, [], none, false, true, true⟩, ?_⟩,
    ⟨mks [ch 1 0 { running := some ⟨5, 5000000000, 65535, 1, 0, false, [], none, false, true, true⟩ }, atPt 2500000001], 1, 0, ⟨5, 5000000000, 65535, 1, 0, false, [], none, false, true, true⟩, 2500000000, ?_⟩,
    ⟨mks [ch 1 0 { running := some ⟨5, 500000000, 65535, 1, 0, false, [], none, false, true, true⟩, onEnd := some 9 }, atPt 9], 1, 0, ⟨5, 500000000, 65535, 1, 0, false, [], none, false, true, true⟩, 9, ?_⟩⟩
  all_goals (decide +kernel)

theorem witness_PhasesOfAnOpening :
    (∃ s : State, ∃ k : Nat, ∃ n : Nat, ∃ o, hasSpoke k s.dev = true ∧ n < 64 ∧ (getChan k n s.dev).phase = .rise ∧ (getChan k n s.dev).opening = some o ∧ o.slow = true) ∧
    (∃ s : State, ∃ k : Nat, ∃ n : Nat, ∃ o, hasSpoke k s.dev = true ∧ n < 64 ∧ (getChan k n s.dev).phase = .rise ∧ (getChan k n s.dev).opening = some o ∧ o.slow = false ∧ o.peak + boostTmax k n s.dev ≤ spokePt k s.dev ∧ (getCas k (cassetteOf n) s.dev).queue = []) ∧
    (∃ s : State, ∃ k : Nat, ∃ n : Nat, ∃ o, hasSpoke k s.dev = true ∧ n < 64 ∧ (getChan k n s.dev).phase = .dwell ∧ (getChan k n s.dev).opening = some o ∧ o.reported = true ∧ o.peak + peakT k n s.dev ≤ spokePt k s.dev) ∧
    (∃ s : State, ∃ k : Nat, ∃ n : Nat, hasSpoke k s.dev = true ∧ n < 64 ∧ (getChan k n s.dev).phase ≠ .dwell ∧ (getChan k n s.dev).phase ≠ .hold) ∧
    (∃ s : State, ∃ k : Nat, ∃ n : Nat, hasSpoke k s.dev = true ∧ n < 64 ∧ ((getChan k n s.dev).phase = .dwell ∨ (getChan k n s.dev).phase = .hold)) ∧
    (∃ s : State, ∃ k : Nat, ∃ n : Nat, hasSpoke k s.dev = true ∧ n < 64 ∧ ((getChan k n s.dev).phase = .dwell ∨ (getChan k n s.dev).phase = .hold) ∧ (getChan k n s.dev).lowClosed = false ∧ (getChan k n s.dev).closedAt = none) ∧
    (∃ s : State, ∃ k : Nat, ∃ n : Nat, ∃ r, hasSpoke k s.dev = true ∧ n < 64 ∧ ((getCas k (cassetteOf n) s.dev).queue.find? fun r => r.chan == n) = some r ∧ r.key + slipLimit k s.dev ≤ spokePt k s.dev ∧ entryOver k n s.dev = false) ∧
    (∃ s : State, ∃ k : Nat, ∃ n : Nat, ∃ r, hasSpoke k s.dev = true ∧ n < 64 ∧ ((getCas k (cassetteOf n) s.dev).queue.find? fun r => r.chan == n) = some r ∧ r.key + slipLimit k s.dev ≤ spokePt k s.dev ∧ entryOver k n s.dev = true) ∧
    (∃ s : State, ∃ k : Nat, ∃ n : Nat, hasSpoke k s.dev = true ∧ n < 64 ∧ (getChan k n s.dev).phase = .off ∧ (getChan k n s.dev).running = none) ∧
    (∃ s : State, ∃ k : Nat, ∃ n : Nat, hasSpoke k s.dev = true ∧ n < 64 ∧ (getChan k n s.dev).phase = .regulation) ∧
    (∃ s : State, ∃ k : Nat, ∃ n : Nat, hasSpoke k s.dev = true ∧ n < 64 ∧ boostSwitch k (cassetteOf n) s.dev = true) ∧
    (∃ s : State, ∃ k : Nat, ∃ n : Nat, hasSpoke k s.dev = true ∧ n < 64 ∧ ((getChan k n s.dev).phase = .dwell ∨ (getChan k n s.dev).phase = .hold) ∧ isSet (F.DRV_CH_CFG.BOND_ODD k n) s.dev = false ∧ isSet (F.DRV_STATUS.DRIVE_EN k) s.dev = true) ∧
    (∃ s : State, ∃ k : Nat, ∃ n : Nat, hasSpoke k s.dev = true ∧ n < 64 ∧ ((getChan k n s.dev).phase = .dwell ∨ (getChan k n s.dev).phase = .hold) ∧ isSet (F.DRV_CH_CFG.BOND_ODD k n) s.dev = false ∧ (getChan k n s.dev).lowClosed = false ∧ (getChan k n s.dev).closedAt = none ∧ casHeld k (cassetteOf n) s.dev = false ∧ (getCas k (cassetteOf n) s.dev).serving = none ∧ isSet (F.DRV_STATUS.DRIVE_EN k) s.dev = true) ∧
    (∃ s : State, ∃ k : Nat, ∃ n : Nat, hasSpoke k s.dev = true ∧ n < 64 ∧ isSet (F.DRV_STATUS.DRIVE_EN k) s.dev = false) ∧
    (∃ s : State, ∃ k : Nat, ∃ n : Nat, hasSpoke k s.dev = true ∧ n < 64 ∧ (getLink k s.dev).spokeOff = false ∧ spokeRuns k s.dev = true ∧ linkLooped k s.dev = false ∧ linkDead (linkEnd k .spoke s.dev) s.dev = true) := by
  refine ⟨⟨mks [ch 7 63 { phase := .rise, opening := some ⟨0, 0, true, false, false, false⟩ }], 7, 63, ⟨0, 0, true, false, false, false⟩, ?_⟩,
    ⟨mks [ch 7 63 { phase := .rise, opening := some ⟨0, 0, false, false, false, false⟩ }, atPt 25000000], 7, 63, ⟨0, 0, false, false, false, false⟩, ?_⟩,
    ⟨mks [ch 7 63 { phase := .dwell, opening := some ⟨0, 0, false, true, true, false⟩ }, atPt 12500000], 7, 63, ⟨0, 0, false, true, true, false⟩, ?_⟩,
    ⟨mks [ch 7 63 { phase := .rise }], 7, 63, ?_⟩,
    ⟨mks [ch 7 63 { phase := .hold, opening := some ⟨0, 0, false, true, true, false⟩ }], 7, 63, ?_⟩,
    ⟨mks [ch 7 63 { phase := .hold, opening := some ⟨0, 0, false, true, true, false⟩ }], 7, 63, ?_⟩,
    ⟨mks [ch 7 63 { running := some ⟨0, 900000000, 65535, 0, 0, false, [], none, false, true, true⟩ }, updCas 7 7 (fun c => { c with queue := [⟨0, 63, 0, false⟩] }), atPt 2500000], 7, 63, ⟨0, 63, 0, false⟩, ?_⟩,
    ⟨mks [ch 7 63 { running := some ⟨0, 2500000, 65535, 0, 0, false, [], none, false, true, true⟩ }, updCas 7 7 (fun c => { c with queue := [⟨0, 63, 0, false⟩] }), atPt 2500000], 7, 63, ⟨0, 63, 0, false⟩, ?_⟩,
    ⟨mks [ch 7 63 { phase := .off }], 7, 63, ?_⟩,
    ⟨mks [ch 7 63 { phase := .regulation }, atPt 9], 7, 63, ?_⟩,
    ⟨mks [updCas 7 7 (fun c => { c with serving := some (63, 0) })], 7, 63, ?_⟩,
    ⟨mks [setF (F.DRV_STATUS.DRIVE_EN 7) 1, ch 7 63 { phase := .dwell, opening := some ⟨0, 0, false, true, true, false⟩, lowClosed := true, closedAt := some 0 }, atPt 5], 7, 63, ?_⟩,
    ⟨mks [setF (F.DRV_STATUS.DRIVE_EN 7) 1, pw (fun p => { p with loaded := [7], spokeOn := [7] }), ch 7 63 { phase := .dwell, opening := some ⟨0, 0, false, true, true, false⟩ }, atPt 5], 7, 63, ?_⟩,
    ⟨mks [], 7, 63, ?_⟩,
    ⟨mks [pw (fun p => { p with loaded := [7] }), atPt 250, ch 7 63 { phase := .dwell, opening := some ⟨0, 0, false, true, true, false⟩, lowClosed := true }], 7, 63, ?_⟩⟩
  all_goals (decide +kernel)

theorem witness_ArmatureDetection :
    (∃ s : State, ∃ k : Nat, ∃ n : Nat, ∃ o, ∃ xs, ∃ a, hasSpoke k s.dev = true ∧ n < 64 ∧ riseTravel k n o xs s.dev = some a) ∧
    (∃ s : State, ∃ k : Nat, ∃ n : Nat, ∃ o, ∃ xs, ∃ a, hasSpoke k s.dev = true ∧ n < 64 ∧ (getChan k n s.dev).opening = some o ∧ o.reported = false ∧ detOn k n s.dev = true ∧ (((getChan k n s.dev).phase = .rise ∧ riseTravel k n o xs s.dev = some a) ∨ ((getChan k n s.dev).phase = .dwell ∧ (getChan k n s.dev).slopes.found = some a))) ∧
    (∃ s : State, ∃ k : Nat, ∃ n : Nat, ∃ cl, ∃ from_, ∃ xs, ∃ a, hasSpoke k s.dev = true ∧ n < 64 ∧ (getChan k n s.dev).closing = some cl ∧ cl.offEvent = true ∧ detOn k n s.dev = true ∧ watchedFrom cl = some from_ ∧ kinkOf k n from_ xs s.dev = some a ∧ a < cl.start + offWin k n s.dev) ∧
    (∃ s : State, ∃ k : Nat, ∃ n : Nat, ∃ cl, hasSpoke k s.dev = true ∧ n < 64 ∧ (getChan k n s.dev).closing = some cl ∧ cl.offEvent = true ∧ cl.start + offWin k n s.dev ≤ spokePt k s.dev) := by
  refine ⟨⟨mks [setF (F.DRV_DET_CFG.DET_EN 7 0) 1, ch 7 63 { phase := .rise, opening := some ⟨0, 0, false, false, false, false⟩ }, atPt 250000], 7, 63, ⟨0, 0, false, false, false, false⟩, ((List.range 60).map fun j => if j < 30 then 10 * j else if j < 40 then 240 + 2 * j else 10 * j - 80), 248200, ?_⟩,
    ⟨mks [setF (F.DRV_DET_CFG.DET_EN 7 0) 1, ch 7 63 { phase := .rise, opening := some ⟨0, 0, false, false, false, false⟩ }, atPt 250000], 7, 63, ⟨0, 0, false, false, false, false⟩, ((List.range 60).map fun j => if j < 30 then 10 * j else if j < 40 then 240 + 2 * j else 10 * j - 80), 248200, ?_⟩,
    ⟨mks [setF (F.DRV_DET_CFG.DET_EN 7 0) 1, setF (F.DRV_DET_WIN.OFF_WIN 7 0) 50, ch 7 63 { phase := .off, closing := some ⟨0, true, false, true, none⟩ }, atPt 6000], 7, 63, ⟨0, true, false, true, none⟩, 0, ((List.range 60).map fun j => if j < 30 then 200 * j else 100), 3100, ?_⟩,
    ⟨mks [ch 7 63 { phase := .off, closing := some ⟨0, false, false, true, none⟩ }, atPt 12500000], 7, 63, ⟨0, false, false, true, none⟩, ?_⟩⟩
  all_goals (decide +kernel)

theorem witness_BoostRailAndSupplies :
    (∃ s : State, ∃ k : Nat, hasSpoke k s.dev = true ∧ sboostOn k s.dev = true) ∧
    (∃ s : State, ∃ k : Nat, hasSpoke k s.dev = true ∧ sboostOn k s.dev = false) ∧
    (∃ s : State, ∃ k : Nat, ∃ rail, hasSpoke k s.dev = true ∧ sboostOn k s.dev = true ∧ 320 < rail ∧ (getSpoke k s.dev).boost.clamping = false) ∧
    (∃ s : State, ∃ k : Nat, hasSpoke k s.dev = true) ∧
    (∃ s : State, ∃ k : Nat, hasSpoke k s.dev = true ∧ outOfSupply k s.dev = false) ∧
    (∃ s : State, ∃ k : Nat, hasSpoke k s.dev = true ∧ isSet (F.SPK_SUPPLY.UV k) s.dev = true ∧ isSet (F.SPK_SUPPLY.OV k) s.dev = false) ∧
    (∃ s : State, ∃ k : Nat, hasSpoke k s.dev = true ∧ s.dev.pwr.lowSpokes.contains k = false) := by
  refine ⟨⟨mks [pw (fun p => { p with spokeOn := [7] }), setF (F.DRV_BOOST_CFG.EN 7) 1], 7, ?_⟩,
    ⟨mks [], 7, ?_⟩,
    ⟨mks [pw (fun p => { p with spokeOn := [7] }), setF (F.DRV_BOOST_CFG.EN 7) 1], 7, 321, ?_⟩,
    ⟨mks [updBoost 7 (fun b => { b with charging := true })], 7, ?_⟩,
    ⟨mks [], 7, ?_⟩,
    ⟨mks [setF (F.SPK_SUPPLY.UV 7) 1], 7, ?_⟩,
    ⟨mks [], 7, ?_⟩⟩
  all_goals (decide +kernel)

theorem witness_ChannelFaultsAndTheirEnd :
    (∃ s : State, ∃ k : Nat, ∃ n : Nat, hasSpoke k s.dev = true ∧ n < 64 ∧ conducts (getChan k (leadOf k n s.dev) s.dev) = true) ∧
    (∃ s : State, ∃ k : Nat, ∃ n : Nat, hasSpoke k s.dev = true ∧ n < 64) ∧
    (∃ s : State, ∃ k : Nat, ∃ n : Nat, hasSpoke k s.dev = true ∧ n < 64 ∧ conducts (getChan k (leadOf k n s.dev) s.dev) = false ∧ batterySwitch k (cassetteOf n) s.dev = true) ∧
    (∃ s : State, ∃ k : Nat, ∃ n : Nat, hasSpoke k s.dev = true ∧ n < 64 ∧ conducts (getChan k (leadOf k n s.dev) s.dev) = false) ∧
    (∃ s : State, ∃ k : Nat, ∃ n : Nat, ∃ c, hasSpoke k s.dev = true ∧ n < 64 ∧ c < 8) ∧
    (∃ s : State, ∃ k : Nat, ∃ n : Nat, ∃ r, hasSpoke k s.dev = true ∧ n < 64 ∧ (getChan k n s.dev).retryEnd = some r ∧ r ≤ spokePt k s.dev) ∧
    (∃ s : State, ∃ k : Nat, ∃ n : Nat, hasSpoke k s.dev = true ∧ n < 64 ∧ (getChan k n s.dev).hot = true) ∧
    (∃ s : State, ∃ k : Nat, ∃ n : Nat, hasSpoke k s.dev = true ∧ n < 64 ∧ isSet (F.DRV_CH_STATUS.DISABLED k n) s.dev = true ∧ (pairOf k n s.dev).any (fun m => (getChan k m s.dev).diagOpen || (getChan k m s.dev).diagGnd) = false ∧ s.dev.pwr.state ≠ .restricted ∧ s.dev.marks = []) ∧
    (∃ s : State, ∃ k : Nat, ∃ n : Nat, ∃ c, hasSpoke k s.dev = true ∧ n < 64 ∧ c < 8 ∧ isSet (F.DRV_CAS_STATUS.DISABLED k c) s.dev = true ∧ (casChans c).any (fun n => (getChan k n s.dev).diagGnd) = false ∧ s.dev.pwr.state ≠ .restricted ∧ s.dev.marks = []) ∧
    (∃ s : State, ∃ k : Nat, ∃ n : Nat, ∃ c, hasSpoke k s.dev = true ∧ n < 64 ∧ c < 8 ∧ s.dev.pwr.state = .restricted) ∧
    (∃ s : State, ∃ k : Nat, ∃ n : Nat, ∃ c, ∃ i, hasSpoke k s.dev = true ∧ n < 64 ∧ c < 8 ∧ (getCas k c s.dev).meanAt + 250000 ≤ spokePt k s.dev ∧ spokePt k s.dev < (getCas k c s.dev).meanAt + 500000 ∧ 400 < i ∧ (getCas k c s.dev).overRun = 99) ∧
    (∃ s : State, ∃ k : Nat, ∃ n : Nat, ∃ c, ∃ i, hasSpoke k s.dev = true ∧ n < 64 ∧ c < 8 ∧ (getCas k c s.dev).meanAt + 250000 ≤ spokePt k s.dev ∧ spokePt k s.dev < (getCas k c s.dev).meanAt + 500000 ∧ 400 < i ∧ (getCas k c s.dev).overRun < 99) ∧
    (∃ s : State, ∃ k : Nat, ∃ n : Nat, ∃ c, ∃ i, hasSpoke k s.dev = true ∧ n < 64 ∧ c < 8 ∧ (getCas k c s.dev).meanAt + 250000 ≤ spokePt k s.dev ∧ spokePt k s.dev < (getCas k c s.dev).meanAt + 500000 ∧ i ≤ 400) := by
  refine ⟨⟨mks [ch 7 63 { phase := .hold, lowClosed := true, opening := some ⟨0, 0, false, true, true, false⟩ }], 7, 63, ?_⟩,
    ⟨mks [], 7, 63, ?_⟩,
    ⟨mks [pw (fun p => { p with loaded := [7], spokeOn := [7] }), setF (F.DRV_STATUS.DRIVE_EN 7) 1, ch 7 62 { phase := .hold }], 7, 63, ?_⟩,
    ⟨mks [ch 7 63 { diagOpen := true }], 7, 63, ?_⟩,
    ⟨mks [updCas 7 7 (fun c => { c with queue := [⟨0, 63, 0, false⟩] })], 7, 63, 7, ?_⟩,
    ⟨mks [ch 7 63 { retryEnd := some 9 }, atPt 9], 7, 63, 9, ?_⟩,
    ⟨mks [ch 7 63 { hot := true }], 7, 63, ?_⟩,
    ⟨mks [setF (F.DRV_CH_STATUS.DISABLED 7 63) 1], 7, 63, ?_⟩,
    ⟨mks [setF (F.DRV_CAS_STATUS.DISABLED 7 7) 1], 7, 63, 7, ?_⟩,
    ⟨mks [inSt .restricted], 7, 63, 7, ?_⟩,
    ⟨mks [updCas 7 7 (fun c => { c with overRun := 99, meanAt := 5 }), atPt 250005], 7, 63, 7, 401, ?_⟩,
    ⟨mks [updCas 7 7 (fun c => { c with overRun := 98, meanAt := 5 }), atPt 500004], 7, 63, 7, 401, ?_⟩,
    ⟨mks [updCas 7 7 (fun c => { c with overRun := 99, meanAt := 5 }), atPt 250005], 7, 63, 7, 400, ?_⟩⟩
  all_goals (decide +kernel)

theorem witness_LoopSampling :
    (∃ s : State, ∃ k : Nat, ∃ l : Nat, ∃ b, ∃ g, hasSpoke k s.dev = true ∧ l < 24 ∧ loopBlock k l s.dev = some b ∧ gridReached b.period 0 (spokePt k s.dev) = some g ∧ b.trigCmp = false ∧ (getLoop k l s.dev).trigAt = none ∧ loopMode k l s.dev ≠ 0 ∧ (getLoop k l s.dev).latched = none ∧ (getLoop k l s.dev).result = none ∧ (getLoop k l s.dev).cmds = []) ∧
    (∃ s : State, ∃ k : Nat, ∃ l : Nat, ∃ b, ∃ g, hasSpoke k s.dev = true ∧ l < 24 ∧ loopBlock k l s.dev = some b ∧ gridReached b.period 0 (spokePt k s.dev) = some g ∧ b.trigCmp = false ∧ (getLoop k l s.dev).trigAt = none ∧ loopMode k l s.dev ≠ 0 ∧ (getLoop k l s.dev).latched ≠ none ∧ (getLoop k l s.dev).result = none) ∧
    (∃ s : State, ∃ k : Nat, ∃ l : Nat, ∃ b, hasSpoke k s.dev = true ∧ l < 24 ∧ loopBlock k l s.dev = some b ∧ b.trigCmp = true ∧ loopMode k l s.dev ≠ 0 ∧ (getLoop k l s.dev).trigAt.getD (getLoop k l s.dev).since + 2500000 ≤ spokePt k s.dev) ∧
    (∃ s : State, ∃ k : Nat, ∃ l : Nat, ∃ b, ∃ start, ∃ u, hasSpoke k s.dev = true ∧ l < 24 ∧ loopBlock k l s.dev = some b ∧ (getCtl k s.dev).lane = some (l, start) ∧ start + laneTicks b ≤ spokePt k s.dev ∧ (getLoop k l s.dev).latched = some u ∧ loopMode k l s.dev ≠ 0 ∧ (getLoop k l s.dev).cmds = []) := by
  refine ⟨⟨mks [loaded 7 23 { period := 1000 }, atPt 1000], 7, 23, { period := 1000 }, 1000, ?_⟩,
    ⟨mks [loaded 7 23 { period := 1000 }, updLoop 7 23 (fun l => { l with latched := some 0 }), atPt 1000], 7, 23, { period := 1000 }, 1000, ?_⟩,
    ⟨mks [loaded 7 23 { trigCmp := true }, atPt 2500000], 7, 23, { trigCmp := true }, ?_⟩,
    ⟨mks [loaded 7 23 { period := 1000 }, updLoop 7 23 (fun l => { l with latched := some 0 }), updCtl 7 (fun c => { c with lane := some (23, 0) }), atPt 100000], 7, 23, { period := 1000 }, 0, 0, ?_⟩⟩
  all_goals (decide +kernel)

theorem witness_SpokeInputCommands :
    (∃ s : State, ∃ k : Nat, ∃ a, hasSpoke k s.dev = true ∧ a < 16 ∧ adcQueue k (adcOf a) s.dev = [] ∧ bitOf (F.ADC_EN.AIN k) a s.dev = true) ∧
    (∃ s : State, ∃ k : Nat, ∃ a, ∃ st, hasSpoke k s.dev = true ∧ a < 16 ∧ adcQueue k (adcOf a) s.dev = [{ ain := a, owner := none, start := some st }] ∧ st + 125 ≤ spokePt k s.dev) ∧
    (∃ s : State, ∃ k : Nat, ∃ p, ∃ w, hasSpoke k s.dev = true ∧ p < 8 ∧ bitOf (F.ADC_EN.PULSE k) p s.dev = true ∧ passesFilter (getF (F.ADC_PULSE_CFG.FILTER k p) s.dev) w = true) ∧
    (∃ s : State, ∃ k : Nat, ∃ e, ∃ w, hasSpoke k s.dev = true ∧ e < 3 ∧ bitOf (F.ADC_EN.ENC k) e s.dev = true ∧ isHall k e s.dev = false ∧ passesFilter (getF (F.ADC_ENC_CFG.FILTER k e) s.dev) w = true) ∧
    (∃ s : State, ∃ k : Nat, ∃ p, hasSpoke k s.dev = true ∧ p < 2 ∧ bitOf (F.ADC_EN.SPI k) p s.dev = true ∧ (getSpi k p s.dev).lastPoll = none) ∧
    (∃ s : State, ∃ k : Nat, ∃ p : Nat, ∃ bytes : List Byte, hasSpoke k s.dev = true ∧ p < 2 ∧ (getSpi k p s.dev).busy = true ∧ bytes.length = getF (F.ADC_SPI_CFG.LEN k p) s.dev ∧ isSet (F.ADC_SPI_CFG.CRC_EN k p) s.dev = false) ∧
    (∃ s : State, ∃ k : Nat, ∃ p, ∃ bytes, hasSpoke k s.dev = true ∧ p < 2 ∧ (getSpi k p s.dev).busy = true ∧ bytes.length = getF (F.ADC_SPI_CFG.LEN k p) s.dev ∧ isSet (F.ADC_SPI_CFG.CRC_EN k p) s.dev = true ∧ crc8 (bytes.take (bytes.length - 1)) ≠ leAt bytes (bytes.length - 1) 1) := by
  refine ⟨⟨mks [setF (F.ADC_EN.AIN 7) 32768], 7, 15, ?_⟩,
    ⟨mks [updCtl 7 (fun c => { c with adc0 := [], adc1 := [⟨15, none, some 0⟩] }), atPt 125], 7, 15, 0, ?_⟩,
    ⟨mks [setF (F.ADC_EN.PULSE 7) 128], 7, 7, 100000, ?_⟩,
    ⟨mks [setF (F.ADC_EN.ENC 7) 4], 7, 2, 100000, ?_⟩,
    ⟨mks [setF (F.ADC_EN.SPI 7) 2], 7, 1, ?_⟩,
    ⟨mks [updCtl 7 (fun c => { c with spis := [(1, { busy := true })] }), setF (F.ADC_SPI_CFG.LEN 7 1) 2, setF (F.ADC_SPI_CFG.CRC_EN 7 1) 0], 7, 1, [1, 2], ?_⟩,
    ⟨mks [updCtl 7 (fun c => { c with spis := [(1, { busy := true })] }), setF (F.ADC_SPI_CFG.LEN 7 1) 2, setF (F.ADC_SPI_CFG.CRC_EN 7 1) 1], 7, 1, [1, 2], ?_⟩⟩
  all_goals (decide +kernel)

theorem witness_PwmEnableAndTrips :
    (∃ s : State, ∃ k : Nat, ∃ p : Nat, hasSpoke k s.dev = true ∧ p < 12 ∧ s.dev.pwr.state = .restricted) ∧
    (∃ s : State, ∃ k : Nat, ∃ p : Nat, hasSpoke k s.dev = true ∧ p < 12 ∧ s.dev.pwr.state ≠ .restricted ∧ isSet (F.PWM_CFG.EN k p) s.dev = true ∧ (getPair k p s.dev).claim = none) ∧
    (∃ s : State, ∃ k : Nat, ∃ p : Nat, hasSpoke k s.dev = true ∧ p < 12 ∧ s.dev.pwr.state ≠ .restricted ∧ isSet (F.PWM_CFG.EN k p) s.dev = true ∧ (getPair k p s.dev).claim ≠ none) ∧
    (∃ s : State, ∃ k : Nat, ∃ p : Nat, hasSpoke k s.dev = true ∧ p < 12 ∧ s.dev.pwr.state ≠ .restricted ∧ isSet (F.PWM_CFG.EN k p) s.dev = false ∧ (rget (R.PWM_CFG k p) s.dev).toNat / 1024 % 4 ≠ 3 ∧ periodLegal (periodTicks k p s.dev) (deadMax (isSet (F.PWM_CFG.DT_MODE k p) s.dev) (rget (R.PWM_DT k p) s.dev) (rget (R.PWM_ADT k p) s.dev)) (getF (F.PWM_PULSE.MIN_PULSE k p) s.dev) = true) ∧
    (∃ s : State, ∃ k : Nat, ∃ p : Nat, hasSpoke k s.dev = true ∧ p < 12 ∧ s.dev.pwr.state ≠ .restricted ∧ isSet (F.PWM_CFG.EN k p) s.dev = false ∧ (rget (R.PWM_CFG k p) s.dev).toNat / 1024 % 4 ≠ 3 ∧ periodLegal (periodTicks k p s.dev) (deadMax (isSet (F.PWM_CFG.DT_MODE k p) s.dev) (rget (R.PWM_DT k p) s.dev) (rget (R.PWM_ADT k p) s.dev)) (getF (F.PWM_PULSE.MIN_PULSE k p) s.dev) = false) ∧
    (∃ s : State, ∃ k : Nat, ∃ i, hasSpoke k s.dev = true ∧ i < 4 ∧ bitOf (F.PWM_TRIP_STATUS.LEVEL k) i s.dev = false ∧ 0 < tripFilter k i s.dev ∧ kget (getCtl k s.dev).tripIn i 0 = 0) ∧
    (∃ s : State, ∃ k : Nat, ∃ i, hasSpoke k s.dev = true ∧ i < 4 ∧ bitOf (F.PWM_TRIP_STATUS.LEVEL k) i s.dev = false ∧ tripFilter k i s.dev = 0) ∧
    (∃ s : State, ∃ k : Nat, ∃ p, hasSpoke k s.dev = true ∧ p < 12 ∧ s.dev.pwr.state ≠ .restricted ∧ isSet (F.PWM_STATUS.LATCHED k p) s.dev = true ∧ tripActive k p s.dev = false) ∧
    (∃ s : State, ∃ k : Nat, ∃ p, hasSpoke k s.dev = true ∧ p < 12 ∧ s.dev.pwr.state ≠ .restricted ∧ isSet (F.PWM_STATUS.LATCHED k p) s.dev = true ∧ tripActive k p s.dev = true) ∧
    (∃ s : State, ∃ k : Nat, ∃ p, hasSpoke k s.dev = true ∧ p < 12 ∧ s.dev.pwr.state = .restricted) := by
  refine ⟨⟨mks [inSt .restricted], 7, 11, ?_⟩,
    ⟨mks [setF (F.PWM_CFG.EN 7 11) 1, pr 7 11 { started := true }], 7, 11, ?_⟩,
    ⟨mks [setF (F.PWM_CFG.EN 7 11) 1, pr 7 11 { claim := some 0 }], 7, 11, ?_⟩,
    ⟨mks [setF (F.PWM_PER.PER 7 11) 12500], 7, 11, ?_⟩,
    ⟨mks [setF (F.PWM_PER.PER 7 11) 1], 7, 11, ?_⟩,
    ⟨mks [setF (F.PWM_TRIP_CFG.FILT 7 3) 5], 7, 3, ?_⟩,
    ⟨mks [], 7, 3, ?_⟩,
    ⟨mks [setF (F.PWM_STATUS.LATCHED 7 11) 1], 7, 11, ?_⟩,
    ⟨mks [setF (F.PWM_STATUS.LATCHED 7 11) 1, setF (F.PWM_TRIP_STATUS.LEVEL 7) 8, setF (F.PWM_CFG.TRIP_SEL 7 11) 15], 7, 11, ?_⟩,
    ⟨mks [inSt .restricted], 7, 11, ?_⟩⟩
  all_goals (decide +kernel)

theorem witness_PwmPeriodAndDeadTime :
    (∃ s : State, ∃ k : Nat, ∃ p : Nat, ∃ g, hasSpoke k s.dev = true ∧ p < 12 ∧ isSet (F.PWM_CFG.EN k p) s.dev = true ∧ (getPair k p s.dev).started = false ∧ gridReached (periodTicks k p s.dev) (getF (F.PWM_PHASE.PHASE k p) s.dev % max 1 (periodTicks k p s.dev)) (spokePt k s.dev) = some g) ∧
    (∃ s : State, ∃ k : Nat, ∃ p : Nat, hasSpoke k s.dev = true ∧ p < 12 ∧ isSet (F.PWM_CFG.EN k p) s.dev = true ∧ isSet (F.PWM_CFG.UPD k p) s.dev = true ∧ (getPair k p s.dev).started = true ∧ spokePt k s.dev = (getPair k p s.dev).perStart + periodTicks k p s.dev / 2) ∧
    (∃ s : State, ∃ k : Nat, ∃ p : Nat, ∃ r, hasSpoke k s.dev = true ∧ p < 12 ∧ (getPair k p s.dev).riseAt = some r ∧ (getPair k p s.dev).fallAt = none ∧ r / 32 ≤ spokePt k s.dev) ∧
    (∃ s : State, ∃ k : Nat, ∃ p : Nat, ∃ z, ∃ f, hasSpoke k s.dev = true ∧ p < 12 ∧ (getPair k p s.dev).dt = some z ∧ z.on = some f ∧ f / 32 ≤ spokePt k s.dev) ∧
    (∃ s : State, ∃ k : Nat, ∃ p : Nat, ∃ z, ∃ at_, hasSpoke k s.dev = true ∧ p < 12 ∧ (getPair k p s.dev).dt = some z ∧ z.on = none ∧ z.off + wordField (getPair k p s.dev).adtReg 16 14 < at_) ∧
    (∃ s : State, ∃ k : Nat, ∃ p : Nat, ∃ z, ∃ at_, hasSpoke k s.dev = true ∧ p < 12 ∧ (getPair k p s.dev).dt = some z ∧ z.on = none ∧ at_ ≤ z.off + wordField (getPair k p s.dev).adtReg 16 14) ∧
    (∃ s : State, ∃ k : Nat, ∃ p : Nat, ∃ z, hasSpoke k s.dev = true ∧ p < 12 ∧ (getPair k p s.dev).dt = some z ∧ z.on = none ∧ (z.off + wordField (getPair k p s.dev).adtReg 16 14) / 32 ≤ spokePt k s.dev) ∧
    (∃ s : State, ∃ k : Nat, ∃ p : Nat, ∃ h, hasSpoke k s.dev = true ∧ p < 12 ∧ (getPair k p s.dev).highSince = some h ∧ getF (F.PWM_REFRESH.REFRESH_INT k p) s.dev ≠ 0 ∧ h + 250 * getF (F.PWM_REFRESH.REFRESH_INT k p) s.dev ≤ spokePt k s.dev) ∧
    (∃ s : State, ∃ k : Nat, ∃ p : Nat, ∃ i, ∃ m, hasSpoke k s.dev = true ∧ p < 12 ∧ i < 4 ∧ matchNow k p i s.dev = some m ∧ (getPair k p s.dev).started = true ∧ m < (getPair k p s.dev).perStart + periodTicks k p s.dev ∧ ((getPair k p s.dev).cmps.getD i 0).toNat.testBit 18 = true) := by
  refine ⟨⟨mks [setF (F.PWM_CFG.EN 7 11) 1, setF (F.PWM_PER.PER 7 11) 12500, atPt 12500], 7, 11, 12500, ?_⟩,
    ⟨mks [setF (F.PWM_CFG.EN 7 11) 1, setF (F.PWM_CFG.UPD 7 11) 1, setF (F.PWM_PER.PER 7 11) 12500, pr 7 11 { started := true }, atPt 6250], 7, 11, ?_⟩,
    ⟨mks [pr 7 11 { riseAt := some 33 }, atPt 1], 7, 11, 33, ?_⟩,
    ⟨mks [pr 7 11 { dt := some ⟨true, 0, some 33⟩ }, atPt 1], 7, 11, ⟨true, 0, some 33⟩, 33, ?_⟩,
    ⟨mks [pr 7 11 { dt := some ⟨true, 7, none⟩ }, atPt 1], 7, 11, ⟨true, 7, none⟩, 8008, ?_⟩,
    ⟨mks [pr 7 11 { dt := some ⟨true, 7, none⟩ }, atPt 1], 7, 11, ⟨true, 7, none⟩, 3, ?_⟩,
    ⟨mks [pr 7 11 { dt := some ⟨true, 0, none⟩ }, atPt 250000], 7, 11, ⟨true, 0, none⟩, ?_⟩,
    ⟨mks [pr 7 11 { highSince := some 0 }, setF (F.PWM_REFRESH.REFRESH_INT 7 11) 1, atPt 250], 7, 11, 0, ?_⟩,
    ⟨mks [setF (F.PWM_CFG.EN 7 11) 1, setF (F.PWM_PER.PER 7 11) 12500, pr 7 11 { started := true, cmps := [0, 0, 0, 0x00F40001] }, atPt 1], 7, 11, 3, 1, ?_⟩⟩
  all_goals (decide +kernel)

theorem witness_BasebandCommands :
    (∃ s : State, ∃ k : Nat, ∃ ppm : Int, hasSpoke k s.dev = true ∧ gnssOn k s.dev = true ∧ -32768 ≤ ppm ∧ ppm ≤ 32767) ∧
    (∃ s : State, ∃ k : Nat, ∃ total, hasSpoke k s.dev = true ∧ gnssOn k s.dev = true ∧ total ≠ 0 ∧ isSet (F.GNB_CFG.AGC_POL k) s.dev = false) ∧
    (∃ s : State, ∃ k : Nat, ∃ sys, ∃ prn, ∃ dop, ∃ c, hasSpoke k s.dev = true ∧ gnssOn k s.dev = true ∧ isSet (F.GNB_STATUS.SCLK_BAD k) s.dev = false ∧ (searchOrder k s.dev).contains (sys, prn) = true ∧ inSearch k sys prn dop s.dev = true ∧ (gnssChans.find? fun c => chState k c s.dev == 0) = some c) ∧
    (∃ s : State, ∃ k : Nat, ∃ c, hasSpoke k s.dev = true ∧ c < 24 ∧ chState k c s.dev = 1 ∧ spokePt k s.dev ≤ (getGch k c s.dev).since + 250000000) ∧
    (∃ s : State, ∃ k : Nat, ∃ c, hasSpoke k s.dev = true ∧ c < 24 ∧ chState k c s.dev = 1 ∧ (getGch k c s.dev).since + 250000000 ≤ spokePt k s.dev) ∧
    (∃ s : State, ∃ k : Nat, ∃ c, ∃ cn0 : Nat, ∃ low : Nat, ∃ fail : Nat, hasSpoke k s.dev = true ∧ c < 24 ∧ chState k c s.dev = 2 ∧ ((cn0 < 10 * getF (F.GNB_TRACK.DROP k) s.dev ∧ 250000000 ≤ low) ∨ 50000000 ≤ fail)) ∧
    (∃ s : State, ∃ k : Nat, ∃ c, ∃ tap : Nat, ∃ prompt : Nat, ∃ lasting : Nat, hasSpoke k s.dev = true ∧ c < 24 ∧ chState k c s.dev = 2 ∧ getF (F.GNB_CH.SYSTEM k c) s.dev = 1 ∧ prompt < tap ∧ 25000000 ≤ lasting) ∧
    (∃ s : State, ∃ k : Nat, ∃ i, ∃ f, ∃ db, hasSpoke k s.dev = true ∧ i < 3 ∧ gnssOn k s.dev = true ∧ notchMode k i s.dev = 1 ∧ (getGnss k s.dev).locks.contains i = false ∧ getF (F.GNB_NOTCH_CFG.TH k) s.dev < db ∧ (∀ j ∈ [0, 1, 2], j ≠ i → holdsBin k j s.dev = true → binOf (signedOf 16 (getF (F.GNB_NOTCH.LIVE_F k j) s.dev)) ≠ binOf f)) ∧
    (∃ s : State, ∃ k : Nat, ∃ i, ∃ db : Int, ∃ lasting, hasSpoke k s.dev = true ∧ i < 3 ∧ notchMode k i s.dev = 1 ∧ db + 3 < getF (F.GNB_NOTCH_CFG.TH k) s.dev ∧ 25000000 ≤ lasting) ∧
    (∃ s : State, ∃ k : Nat, hasSpoke k s.dev = true ∧ gnssOn k s.dev = true) := by
  refine ⟨⟨mks [setF (F.GNB_CFG.EN 7) 1], 7, (-32768 : Int), ?_⟩,
    ⟨mks [setF (F.GNB_CFG.EN 7) 1, setF (F.GNB_STATUS.AGC 7) 30], 7, 10, ?_⟩,
    ⟨mks [setF (F.GNB_CFG.EN 7) 1, setF (F.GNB_SV_GPS.EN 7) 1], 7, 0, 1, (0 : Int), 0, ?_⟩,
    ⟨mks [setF (F.GNB_CH.STATE 7 23) 1, atPt 250000000], 7, 23, ?_⟩,
    ⟨mks [setF (F.GNB_CH.STATE 7 23) 1, atPt 250000000], 7, 23, ?_⟩,
    ⟨mks [setF (F.GNB_CH.STATE 7 23) 2], 7, 23, 0, 0, 50000000, ?_⟩,
    ⟨mks [setF (F.GNB_CH.STATE 7 23) 2, setF (F.GNB_CH.SYSTEM 7 23) 1], 7, 23, 1, 0, 25000000, ?_⟩,
    ⟨mks [setF (F.GNB_CFG.EN 7) 1, setF (F.GNB_NOTCH_CFG.MODE 7 2) 1], 7, 2, (5 : Int), 63, ?_⟩,
    ⟨mks [setF (F.GNB_CFG.EN 7) 1, setF (F.GNB_NOTCH_CFG.MODE 7 2) 1], 7, 2, (-100 : Int), 25000000, ?_⟩,
    ⟨mks [setF (F.GNB_CFG.EN 7) 1], 7, ?_⟩⟩
  all_goals (decide +kernel)

theorem witness_EpochsAndTimeUnit :
    (∃ s : State, ∃ pt, ∃ ft, epochDue s.dev = some (pt, ft)) ∧
    (∃ s : State, ∃ e, s.dev.time.epoch = some e) ∧
    (∃ s : State, isSet F.TIM_STATUS.SLEWING s.dev = true ∧ s.dev.time.slew = 0) ∧
    (∃ s : State, pulseOpen s.dev = true ∧ s.dev.time.lastPulse < wholeSec (pulseFt s.dev) ∧ s.dev.time.pulseRise = none ∧ pulseFt s.dev - wholeSec (pulseFt s.dev) * ftSec < tickAdvance s.dev ∧ wholeSec s.dev.time.ft ≤ s.dev.time.lastBound) ∧
    (∃ s : State, pulseOpen s.dev = true ∧ s.dev.time.lastPulse < wholeSec (pulseFt s.dev) ∧ s.dev.time.pulseRise ≠ none ∧ wholeSec s.dev.time.ft ≤ s.dev.time.lastBound) ∧
    (∃ s : State, ∃ v, ftValid s.dev = true ∧ s.dev.time.lastBound < wholeSec s.dev.time.ft ∧ s.dev.time.ft - wholeSec s.dev.time.ft * ftSec < tickAdvance s.dev ∧ s.dev.time.step = some v) ∧
    (∃ s : State, ∃ r, s.dev.time.pulseRise = some r ∧ r + 250000 * getF F.TIM_CFG.WIDTH s.dev ≤ s.dev.pt) ∧
    (∃ s : State, getF F.TIM_CFG.AUTO_HOLD s.dev ≠ 0 ∧ ftValid s.dev = true ∧ isSet F.TIM_STATUS.HOLDOVER s.dev = false ∧ s.dev.time.lastCorr + 250000000 * getF F.TIM_CFG.AUTO_HOLD s.dev ≤ s.dev.pt) := by
  refine ⟨⟨mks [inSt .ready, setF F.TIM_STATUS.VALID 1, setF F.GNB_EPOCH.ALIGN 0, setF F.GNB_EPOCH.EPOCH_MS 1, atPt 250000], 250000, (0 : Int), ?_⟩,
    ⟨mks [tm (fun t => { t with epoch := some ⟨9, [], 0, 0, 0, true, false, 0, 0⟩ })], ⟨9, [], 0, 0, 0, true, false, 0, 0⟩, ?_⟩,
    ⟨mks [setF F.TIM_STATUS.SLEWING 1], ?_⟩,
    ⟨mks [inSt .ready, setF F.TIM_CFG.PPS_EN 1, setF F.TIM_STATUS.VALID 1, tm (fun t => { t with ft := 3 * 10 ^ 21, lastBound := 3 })], ?_⟩,
    ⟨mks [inSt .ready, setF F.TIM_CFG.PPS_EN 1, setF F.TIM_STATUS.VALID 1, tm (fun t => { t with ft := 3 * 10 ^ 21, lastBound := 3, pulseRise := some 0 })], ?_⟩,
    ⟨mks [inSt .ready, setF F.TIM_STATUS.VALID 1, tm (fun t => { t with ft := 3 * 10 ^ 21, lastBound := 2, step := some 5 })], (5 : Int), ?_⟩,
    ⟨mks [tm (fun t => { t with pulseRise := some 0 }), setF F.TIM_CFG.WIDTH 1, atPt 250000], 0, ?_⟩,
    ⟨mks [setF F.TIM_STATUS.VALID 1, setF F.TIM_CFG.AUTO_HOLD 1, atPt 250000000], ?_⟩⟩
  all_goals (decide +kernel)

theorem witness_DoorbellPolling :
    (∃ s : State, s.dev.host.readWait = [] ∧ s.dev.host.reads.length < 32 ∧ anyRunning s.dev = true ∧ hostReachable s.dev = true ∧ s.dev.host.polling = false ∧ s.dev.host.nextPoll ≤ s.dev.pt) ∧
    (∃ s : State, ∃ bs, s.dev.host.readWait = [] ∧ s.dev.host.polling = true ∧ s.dev.pcie.d3hot = false ∧ s.dev.host.readingTails = false ∧ leAt bs 2 2 ≠ getF F.HIF_EPOCH.EPOCH s.dev) ∧
    (∃ s : State, ∃ bs, s.dev.host.readWait = [] ∧ s.dev.host.reads.length < 32 ∧ s.dev.host.polling = true ∧ s.dev.pcie.d3hot = false ∧ s.dev.host.readingTails = false ∧ leAt bs 2 2 = getF F.HIF_EPOCH.EPOCH s.dev ∧ (leAt bs 0 2 ≠ s.dev.host.lastChange ∨ s.dev.host.startedSince = true)) ∧
    (∃ s : State, s.dev.host.readWait = [] ∧ s.dev.host.polling = true ∧ s.dev.pcie.d3hot = true) ∧
    (∃ s : State, ∃ r : ReadResult, s.dev.host.polling = true ∧ s.dev.pcie.d3hot = false ∧ (r = .unsupported ∨ r = .abort ∨ r = .poisoned) ∧ s.dev.host.failedPolls < 2) ∧
    (∃ s : State, s.dev.host.polling = true ∧ s.dev.host.failedPolls < 2) := by
  refine ⟨⟨mks [rg 31 1 0 [], px (fun p => { p with linkUp := true })], ?_⟩,
    ⟨mks [hs (fun h => { h with polling := true }), setF F.HIF_EPOCH.EPOCH 7], ([0, 0, 8, 0] : List Byte), ?_⟩,
    ⟨mks [hs (fun h => { h with polling := true }), setF F.HIF_EPOCH.EPOCH 7], ([1, 0, 7, 0] : List Byte), ?_⟩,
    ⟨mks [px (fun p => { p with d3hot := true }), hs (fun h => { h with polling := true })], ?_⟩,
    ⟨mks [hs (fun h => { h with polling := true, failedPolls := 1 })], .poisoned, ?_⟩,
    ⟨mks [hs (fun h => { h with polling := true, failedPolls := 1 })], ?_⟩⟩
  all_goals (decide +kernel)

theorem witness_DescriptorsAndBuffersArrive :
    (∃ s : State, ∃ i : Nat, ∃ bs, i < 32 ∧ ringLive i s.dev = true ∧ (getRing i s.dev).head < (getRing i s.dev).issued ∧ inFlight i (getRing i s.dev).head s.dev = none ∧ leAt bs 60 4 ≠ crc32c (bs.take 60)) ∧
    (∃ s : State, ∃ i : Nat, ∃ bs, i < 32 ∧ ringLive i s.dev = true ∧ (getRing i s.dev).head < (getRing i s.dev).issued ∧ inFlight i (getRing i s.dev).head s.dev = none ∧ leAt bs 60 4 = crc32c (bs.take 60) ∧ leAt bs 2 2 = (getRing i s.dev).head % 65536 ∧ leAt bs 0 1 = 0 ∧ leAt bs 1 1 < 4 ∧ leAt bs 59 1 = 0 ∧ leAt bs 8 8 = 0 ∧ leAt bs 16 4 = 0 ∧ leAt bs 20 4 = 0 ∧ overMask ((bs.drop 24).take 35) [] = false ∧ s.dev.pwr.state ≠ .restricted) ∧
    (∃ s : State, ∃ i : Nat, ∃ r : ReadResult, i < 32 ∧ ringLive i s.dev = true ∧ (getRing i s.dev).head < (getRing i s.dev).issued ∧ (r = .unsupported ∨ r = .abort)) ∧
    (∃ s : State, ∃ i : Nat, i < 32 ∧ ringLive i s.dev = true ∧ (getRing i s.dev).head < (getRing i s.dev).issued) ∧
    (∃ s : State, ∃ i : Nat, ∃ x, ∃ bs, i < 32 ∧ ringLive i s.dev = true ∧ inFlight i x.index s.dev = some x ∧ x.stage = .reading ∧ bs.length = x.len ∧ x.opcode ≠ 0x30 ∧ crc32c bs = x.bufCrc) ∧
    (∃ s : State, ∃ i : Nat, ∃ x, ∃ bs, i < 32 ∧ ringLive i s.dev = true ∧ inFlight i x.index s.dev = some x ∧ x.stage = .reading ∧ bs.length = x.len ∧ x.opcode ≠ 0x30 ∧ crc32c bs ≠ x.bufCrc) ∧
    (∃ s : State, ∃ i : Nat, ∃ x, i < 32 ∧ ringLive i s.dev = true ∧ inFlight i x.index s.dev = some x ∧ x.stage = .reading) := by
  refine ⟨⟨mks [rg 31 1 0 [], updRing 31 (fun r => { r with issued := 1 })], 31, List.replicate 64 (0 : Byte), ?_⟩,
    ⟨mks [rg 31 1 0 [], updRing 31 (fun r => { r with issued := 1 })], 31, (List.replicate 60 (0 : Byte) ++ leBytes 4 (crc32c (List.replicate 60 (0 : Byte)))), ?_⟩,
    ⟨mks [rg 31 1 0 [], updRing 31 (fun r => { r with issued := 1 })], 31, .abort, ?_⟩,
    ⟨mks [rg 0 1 0 [], updRing 0 (fun r => { r with issued := 1 })], 0, ?_⟩,
    ⟨mks [rg 31 2 0 [{ index := 0, opcode := 0x20, len := 0, bufCrc := 0, stage := .reading }]], 31, { index := 0, opcode := 0x20, len := 0, bufCrc := 0, stage := .reading }, ([] : List Byte), ?_⟩,
    ⟨mks [rg 31 2 0 [{ index := 0, opcode := 0x20, len := 0, bufCrc := 5, stage := .reading }]], 31, { index := 0, opcode := 0x20, len := 0, bufCrc := 5, stage := .reading }, ([] : List Byte), ?_⟩,
    ⟨mks [rg 31 2 0 [{ index := 0, opcode := 0x20, len := 0, bufCrc := 0, stage := .reading }]], 31, { index := 0, opcode := 0x20, len := 0, bufCrc := 0, stage := .reading }, ?_⟩⟩
  all_goals (decide +kernel)

theorem witness_CompletionsAreWritten :
    (∃ d : Dev, ∃ i : Nat, ∃ index : Nat, ∃ x : InDesc, ringLive i d = true ∧ inFlight i index d = some x ∧ x.stage ≠ .done ∧ getF (F.HIF_RING_MOD.MSIX_EN i) d = 0 ∧ d.ecc = []) ∧
    (∃ d : Dev, ∃ u : Upset, ∃ i, ∃ index, ∃ x, i < 32 ∧ ringLive i d = true ∧ inFlight i index d = some x ∧ x.stage ≠ .done ∧ upsetAt 8 i d = some u ∧ u.fixable = false) ∧
    (∃ d : Dev, ∃ u : Upset, ∃ i, ∃ index, ∃ x, i < 32 ∧ ringLive i d = true ∧ inFlight i index d = some x ∧ x.stage ≠ .done ∧ upsetAt 8 i d = some u ∧ u.fixable = true ∧ upsetAt 18 i d = none) ∧
    (∃ d : Dev, ∃ u : Upset, ∃ k, ∃ e, ∃ ws, ∃ o, (linkEnd k .hub d).nakDue = false ∧ (linkEnd k .hub d).resend = [] ∧ (linkEnd k .hub d).waiting = .sched e :: ws ∧ (linkEnd k .hub d).replay.length < 32 ∧ upsetAt 3 k d = some u ∧ u.fixable = false ∧ findOutlet (globalCh k e.chan) d = some o) ∧
    (∃ d : Dev, ∃ u : Upset, ∃ k, ∃ f, ∃ ws, (linkEnd k .spoke d).nakDue = false ∧ (linkEnd k .spoke d).resend = [] ∧ (linkEnd k .spoke d).waiting = .feed f :: ws ∧ (linkEnd k .spoke d).replay.length < 32 ∧ upsetAt 5 k d = some u ∧ u.fixable = false) ∧
    (∃ d : Dev, ∃ u : Upset, ∃ e, ∃ rest, d.log.galley = e :: rest ∧ mayStore d = true ∧ upsetAt 12 0 d = some u ∧ u.fixable = false) := by
  refine ⟨⟨(mks [rg 31 1 0 [ds 0 []]]).dev, 31, 0, ds 0 [], ?_⟩,
    ⟨(mks [rg 31 1 0 [ds 0 []], ec ⟨8, 31, false⟩]).dev, ⟨8, 31, false⟩, 31, 0, ds 0 [], ?_⟩,
    ⟨(mks [rg 31 1 0 [ds 0 []], ec ⟨8, 31, true⟩]).dev, ⟨8, 31, true⟩, 31, 0, ds 0 [], ?_⟩,
    ⟨(mks [lk 7 { hub := { waiting := [.sched ⟨5, 9, 63, 65535, 15, 7⟩] } }, en (fun e => { e with chanOutlet := [(447, 1)], outlets := [(0, { entryOn := true, planOn := true })] }), ec ⟨3, 7, false⟩]).dev, ⟨3, 7, false⟩, 7, ⟨5, 9, 63, 65535, 15, 7⟩, [], 0, ?_⟩,
    ⟨(mks [lk 7 { spoke := { waiting := [.feed ⟨5, 9, .opened, 63, true, false, 0⟩] } }, ec ⟨5, 7, false⟩]).dev, ⟨5, 7, false⟩, 7, ⟨5, 9, .opened, 63, true, false, 0⟩, [], ?_⟩,
    ⟨(mks [lg (fun l => { l with galley := [({ code := 0x0102, sev := 3, die := 7, block := 2, index := 5, p0 := 1, p1 := 2, p2 := 3, opTime := 0, pcyc := 0, repeat_ := 254 } : LogEntry)], scanned := true }), ec ⟨12, 0, false⟩]).dev, ⟨12, 0, false⟩, ({ code := 0x0102, sev := 3, die := 7, block := 2, index := 5, p0 := 1, p1 := 2, p2 := 3, opTime := 0, pcyc := 0, repeat_ := 254 } : LogEntry), [], ?_⟩⟩
  all_goals (decide +kernel)

theorem witness_RingCommands :
    (∃ s : State, ∃ i : Nat, i < 32 ∧ s.dev.pwr.state = .restricted ∧ classRestricted (ringClass i s.dev) = false) ∧
    (∃ s : State, ∃ i : Nat, i < 32 ∧ (s.dev.pwr.state = .restricted → classRestricted (ringClass i s.dev) = true) ∧ startRefused i s.dev = false) ∧
    (∃ s : State, ∃ i : Nat, i < 32 ∧ (s.dev.pwr.state = .restricted → classRestricted (ringClass i s.dev) = true) ∧ startRefused i s.dev = true) ∧
    (∃ s : State, ∃ i : Nat, i < 32 ∧ (s.dev.pwr.state = .restricted → classRestricted (ringClass i s.dev) = true) ∧ ringState i s.dev = .running ∧ ringClass i s.dev ≠ 8 ∧ (getRing i s.dev).inflight = []) ∧
    (∃ s : State, ∃ i : Nat, i < 32 ∧ (s.dev.pwr.state = .restricted → classRestricted (ringClass i s.dev) = true) ∧ ringState i s.dev ≠ .running) ∧
    (∃ s : State, ∃ i : Nat, i < 32 ∧ ringState i s.dev = .stopping ∧ (getRing i s.dev).inflight = [] ∧ (getRing i s.dev).issued = (getRing i s.dev).head) ∧
    (∃ s : State, ∃ i : Nat, i < 32 ∧ (s.dev.pwr.state = .restricted → classRestricted (ringClass i s.dev) = true) ∧ (ringState i s.dev = .error ∨ ringState i s.dev = .stopped)) ∧
    (∃ s : State, ∃ i : Nat, i < 32 ∧ (s.dev.pwr.state = .restricted → classRestricted (ringClass i s.dev) = true) ∧ (ringState i s.dev = .running ∨ ringState i s.dev = .stopping)) ∧
    (∃ s : State, ∃ i : Nat, ∃ p, i < 32 ∧ (getRing i s.dev).oldest = some p ∧ (getRing i s.dev).modTime ≠ 0 ∧ p + 250 * (getRing i s.dev).modTime ≤ s.dev.pt ∧ isSet (F.HIF_RING_MOD.MSIX_EN i) s.dev = true) := by
  refine ⟨⟨mks [inSt .restricted, setF (F.HIF_RING_CFG.CLASS 31) 2], 31, ?_⟩,
    ⟨mks [setF F.HIF_EPOCH.EPOCH 7, setF F.HIF_DB_ADDR_LO.ADDR 1, setF F.HIF_PROG_ADDR_LO.ADDR 1, setF F.PWR_STATE.ABI_ACCEPTED 1, setF (F.HIF_RING_CFG.CLASS 31) 1, setF (F.HIF_RING_CFG.LOG2_ENTRIES 31) 4], 31, ?_⟩,
    ⟨mks [], 31, ?_⟩,
    ⟨mks [rg 31 1 0 []], 31, ?_⟩,
    ⟨mks [], 31, ?_⟩,
    ⟨mks [setRingState 31 .stopping], 31, ?_⟩,
    ⟨mks [rg 31 1 0 [ds 0 []], setRingState 31 .error, setF (F.HIF_RING_STATUS.ERR_CAUSE 31) 3], 31, ?_⟩,
    ⟨mks [rg 31 1 0 [ds 0 []]], 31, ?_⟩,
    ⟨mks [updRing 31 (fun r => { r with oldest := some 0, modTime := 1 }), setF (F.HIF_RING_MOD.MSIX_EN 31) 1, atPt 250], 31, 0, ?_⟩⟩
  all_goals (decide +kernel)

theorem witness_EndpointCommands :
    (∃ s : State, s.dev.pcie.d3hot = true ∧ 0 < getF F.HIF_CFG.DB_PERIOD s.dev) ∧
    (∃ v : Word, 5 ≤ v.toNat % 1024 ∧ v.toNat % 1024 ≤ 1000) ∧
    (∃ v, v < 64) := by
  refine ⟨⟨mks [px (fun p => { p with d3hot := true }), setF F.HIF_CFG.DB_PERIOD 1, atPt 30], ?_⟩,
    ⟨(0x405 : Word), ?_⟩,
    ⟨63, ?_⟩⟩
  all_goals (decide +kernel)

theorem witness_DescriptorsActAtOnce :
    (∃ s : State, ∃ i : Nat, ∃ x : InDesc, Starts i 0x00 x s.dev) ∧
    (∃ s : State, ∃ i : Nat, ∃ x : InDesc, Starts i 0x50 x s.dev ∧ isArmed s.dev = true) ∧
    (∃ s : State, ∃ i : Nat, ∃ x : InDesc, Starts i 0x50 x s.dev ∧ isArmed s.dev = false ∧ armRefusal s.dev.eng.table.isSome s.dev = 0) ∧
    (∃ s : State, ∃ i : Nat, ∃ x : InDesc, Starts i 0x50 x s.dev ∧ isArmed s.dev = false ∧ armRefusal s.dev.eng.table.isSome s.dev ≠ 0) ∧
    (∃ s : State, ∃ i : Nat, ∃ x : InDesc, Starts i 0x51 x s.dev ∧ isArmed s.dev = true) ∧
    (∃ s : State, ∃ i : Nat, ∃ x : InDesc, Starts i 0x51 x s.dev ∧ isArmed s.dev = false) ∧
    (∃ s : State, ∃ i : Nat, ∃ x : InDesc, Starts i 0xC1 x s.dev) ∧
    (∃ s : State, ∃ i : Nat, ∃ x : InDesc, Starts i 0xA0 x s.dev ∧ s.dev.log.erasing = false) ∧
    (∃ s : State, ∃ i : Nat, ∃ x : InDesc, Starts i 0xA1 x s.dev ∧ s.dev.log.frozen = none ∧ s.dev.log.erasing = false) ∧
    (∃ s : State, ∃ i : Nat, ∃ x : InDesc, Starts i 0xA2 x s.dev) ∧
    (∃ s : State, ∃ i : Nat, ∃ x : InDesc, Starts i 0xB0 x s.dev ∧ s.dev.host.fwOpen = false) ∧
    (∃ s : State, ∃ i : Nat, ∃ x : InDesc, Starts i 0x20 x s.dev) := by
  refine ⟨⟨mks [rg 31 1 0 [ds 0x00 []]], 31, ds 0x00 [], ?_⟩,
    ⟨mks [rg 31 5 0 [ds 0x50 []], inSt .armed], 31, ds 0x50 [], ?_⟩,
    ⟨mks [rg 31 5 0 [ds 0x50 []], inSt .ready, pn (fun p => { p with arm := true }), en (fun e => { e with table := some {} })], 31, ds 0x50 [], ?_⟩,
    ⟨mks [rg 31 5 0 [ds 0x50 []], inSt .ready], 31, ds 0x50 [], ?_⟩,
    ⟨mks [rg 31 5 0 [ds 0x51 []], inSt .armed], 31, ds 0x51 [], ?_⟩,
    ⟨mks [rg 31 5 0 [ds 0x51 []], inSt .ready], 31, ds 0x51 [], ?_⟩,
    ⟨mks [rg 31 12 0 [ds 0xC1 []]], 31, ds 0xC1 [], ?_⟩,
    ⟨mks [rg 31 10 0 [{ ds 0xA0 [] with addr := 4096, len := 64 }]], 31, { ds 0xA0 [] with addr := 4096, len := 64 }, ?_⟩,
    ⟨mks [rg 31 10 0 [ds 0xA1 []]], 31, ds 0xA1 [], ?_⟩,
    ⟨mks [rg 31 10 0 [ds 0xA2 []], lg (fun l => { l with frozen := some 3 })], 31, ds 0xA2 [], ?_⟩,
    ⟨mks [rg 31 11 0 [ds 0xB0 [0, 1, 0, 0]]], 31, ds 0xB0 [0, 1, 0, 0], ?_⟩,
    ⟨mks [rg 31 2 0 [{ ds 0x20 [0, 1, 0, 0] with len := 3, buf := [1, 2, 3] }]], 31, { ds 0x20 [0, 1, 0, 0] with len := 3, buf := [1, 2, 3] }, ?_⟩⟩
  all_goals ((try unfold Starts); decide +kernel)

theorem witness_DescriptorsWait :
    (∃ s : State, ∃ i : Nat, ∃ x : InDesc, Starts i 0x31 x s.dev) ∧
    (∃ s : State, ∃ i : Nat, ∃ x : InDesc, Starts i 0x40 x s.dev) ∧
    (∃ s : State, ∃ i : Nat, ∃ x : InDesc, Starts i 0x70 x s.dev) ∧
    (∃ s : State, ∃ i : Nat, ∃ x : InDesc, Starts i 0x90 x s.dev ∧ (getCan (ringInstance i s.dev) s.dev).rx = []) ∧
    (∃ s : State, ∃ i : Nat, ∃ x : InDesc, Starts i 0xC0 x s.dev ∧ s.dev.health.held = none) ∧
    (∃ s : State, ∃ i : Nat, ∃ x : InDesc, Starts i 0xD3 x s.dev ∧ s.dev.tdm.events = []) ∧
    (∃ s : State, ∃ i : Nat, ∃ x : InDesc, Starts i 0xE2 x s.dev ∧ s.dev.sox.events = []) ∧
    (∃ s : State, ∃ i : Nat, ∃ x : InDesc, Starts i 0x22 x s.dev ∧ isArmed s.dev = false) ∧
    (∃ s : State, ∃ i : Nat, ∃ x : InDesc, Starts i 0x22 x s.dev ∧ isArmed s.dev = true) ∧
    (∃ s : State, ∃ i : Nat, ∃ x : InDesc, Starts i 0x23 x s.dev) ∧
    (∃ s : State, ∃ i : Nat, ∃ x : InDesc, Starts i 0x30 x s.dev ∧ pushCheck x s.dev = 0) ∧
    (∃ s : State, ∃ i : Nat, ∃ x : InDesc, Starts i 0x32 x s.dev) ∧
    (∃ s : State, ∃ i : Nat, ∃ x : InDesc, Starts i 0x52 x s.dev) ∧
    (∃ s : State, ∃ i : Nat, ∃ x : InDesc, Starts i 0x53 x s.dev ∧ ((List.range (x.len / 8)).any fun j => forceBad x j s.dev) = false) ∧
    (∃ s : State, ∃ i : Nat, ∃ x : InDesc, ∃ c : Instr × Nat, Starts i c.2 x s.dev) ∧
    (∃ s : State, ∃ i : Nat, ∃ x : InDesc, i < 32 ∧ inFlight i x.index s.dev = some x ∧ ringClass i s.dev = 6 ∧ x.stage = .waiting ∧ x.aux ≤ s.dev.pt) ∧
    (∃ s : State, ∃ i : Nat, ∃ x : InDesc, Starts i 0x21 x s.dev ∧ isArmed s.dev = false) ∧
    (∃ s : State, ∃ i : Nat, ∃ x : InDesc, Starts i 0x21 x s.dev ∧ isArmed s.dev = true) := by
  refine ⟨⟨mks [rg 31 3 0 [ds 0x31 []]], 31, ds 0x31 [], ?_⟩,
    ⟨mks [rg 31 4 0 [ds 0x40 []]], 31, ds 0x40 [], ?_⟩,
    ⟨mks [rg 31 7 0 [ds 0x70 []]], 31, ds 0x70 [], ?_⟩,
    ⟨mks [rg 31 9 3 [ds 0x90 []]], 31, ds 0x90 [], ?_⟩,
    ⟨mks [rg 31 12 0 [ds 0xC0 []]], 31, ds 0xC0 [], ?_⟩,
    ⟨mks [rg 31 13 0 [ds 0xD3 []]], 31, ds 0xD3 [], ?_⟩,
    ⟨mks [rg 31 14 0 [ds 0xE2 []]], 31, ds 0xE2 [], ?_⟩,
    ⟨mks [rg 31 2 0 [ds 0x22 [1, 0, 0, 0, 7]], inSt .ready], 31, ds 0x22 [1, 0, 0, 0, 7], ?_⟩,
    ⟨mks [rg 31 2 0 [ds 0x22 [1, 0, 0, 0, 7]], inSt .armed], 31, ds 0x22 [1, 0, 0, 0, 7], ?_⟩,
    ⟨mks [rg 31 2 0 [ds 0x23 []]], 31, ds 0x23 [], ?_⟩,
    ⟨mks [rg 31 3 0 [{ ds 0x30 [] with len := 2080, buf := [0, 0, 0, 0, 0, 0, 0, 0, 7, 0, 255, 255, 1, 0, 0, 0] ++ List.replicate 2064 0 }], en (fun e => { e with fieldId := 1 })], 31, { ds 0x30 [] with len := 2080, buf := [0, 0, 0, 0, 0, 0, 0, 0, 7, 0, 255, 255, 1, 0, 0, 0] ++ List.replicate 2064 0 }, ?_⟩,
    ⟨mks [rg 31 3 0 [ds 0x32 []]], 31, ds 0x32 [], ?_⟩,
    ⟨mks [rg 31 5 0 [ds 0x52 []]], 31, ds 0x52 [], ?_⟩,
    ⟨mks [rg 31 5 0 [ds 0x53 []]], 31, ds 0x53 [], ?_⟩,
    ⟨mks [rg 31 6 0 [ds 0x60 []]], 31, ds 0x60 [], (Instr.loopSetpoint 31, 0x60), ?_⟩,
    ⟨mks [rg 31 6 0 [{ ds 0x60 [] with stage := .waiting, aux := 9 }], atPt 9], 31, { ds 0x60 [] with stage := .waiting, aux := 9 }, ?_⟩,
    ⟨mks [rg 31 2 0 [ds 0x21 [1]], inSt .ready], 31, ds 0x21 [1], ?_⟩,
    ⟨mks [rg 31 2 0 [ds 0x21 [1]], inSt .armed], 31, ds 0x21 [1], ?_⟩⟩
  all_goals ((try unfold Starts); decide +kernel)

theorem witness_StartOrderKeepsFences :
    (∃ i : Nat, ∃ d : Dev, ∃ x : InDesc, nextDesc i d = some x) ∧
    (∃ i : Nat, ∃ d : Dev, ∃ x : InDesc, nextDesc i d = some x ∧ x.fence = true) ∧
    (∃ i : Nat, ∃ d : Dev, ∃ x : InDesc, ∃ y ∈ (getRing i d).inflight, nextDesc i d = some x ∧ y.stage = .waiting) := by
  refine ⟨⟨31, (mks [rg 31 1 0 [ds 0 []]]).dev, ds 0 [], ?_⟩,
    ⟨31, (mks [rg 31 1 0 [{ ds 0 [] with fence := true }]]).dev, { ds 0 [] with fence := true }, ?_⟩,
    ⟨31, (mks [rg 31 1 0 [ds 0 [], { ds 0x20 [] with index := 1, stage := .waiting }]]).dev, ds 0 [], { ds 0x20 [] with index := 1, stage := .waiting }, by decide +kernel, ?_⟩⟩
  all_goals (decide +kernel)

theorem witness_PosesTimesAndTables :
    (∃ s : State, ∃ i : Nat, ∃ x : InDesc, Starts i 0x10 x s.dev ∧ x.len = 0 ∧ (poseOf x.param (paramBits x 56 0 1 == 1)).tag ≤ s.dev.pt ∧ (∀ n, s.dev.eng.newestTag = some n → n < (poseOf x.param (paramBits x 56 0 1 == 1)).tag)) ∧
    (∃ s : State, ∃ i : Nat, ∃ x : InDesc, Starts i 0x11 x s.dev ∧ paramBits x 24 0 2 = 0 ∧ (signedOf 32 (paramAt x 44 4)).natAbs ≤ 200000000 ∧ 0 ≤ signedOf 64 (paramAt x 36 8) ∧ paramAt x 28 8 ≤ s.dev.pt ∧ s.dev.pt ≤ paramAt x 28 8 + 250000000) ∧
    (∃ s : State, ∃ tb : Table, ∃ keep : Bool, ∃ i : Nat, ∃ j : Nat, ∃ x : InDesc, s.dev.eng.commit = some (tb, keep, i, j, false) ∧ ringLive i s.dev = true ∧ inFlight i j s.dev = some x ∧ x.stage ≠ .done ∧ isArmed s.dev = false ∧ (commitCheck s.mem.staging s.dev).1 = 0) ∧
    (∃ s : State, ∃ tb : Table, ∃ keep : Bool, ∃ i : Nat, ∃ j : Nat, ∃ x : InDesc, s.dev.eng.commit = some (tb, keep, i, j, false) ∧ ringLive i s.dev = true ∧ inFlight i j s.dev = some x ∧ x.stage ≠ .done ∧ isArmed s.dev = false ∧ (commitCheck s.mem.staging s.dev).1 ≠ 0) ∧
    (∃ s : State, ∃ tb : Table, ∃ keep : Bool, ∃ i : Nat, ∃ j : Nat, ∃ x : InDesc, s.dev.eng.commit = some (tb, keep, i, j, false) ∧ ringLive i s.dev = true ∧ inFlight i j s.dev = some x ∧ x.stage ≠ .done ∧ isArmed s.dev = true) := by
  refine ⟨⟨mks [rg 31 1 0 [ds 0x10 [9]], atPt 9], 31, ds 0x10 [9], ?_⟩,
    ⟨mks [rg 31 1 0 [ds 0x11 [0, 0, 0, 0, 9]], atPt 250000009], 31, ds 0x11 [0, 0, 0, 0, 9], ?_⟩,
    ⟨{ mks [rg 31 2 0 [ds 0x21 []], en (fun e => { e with commit := some ({}, true, 31, 0, false) })] with mem := { staging := goodTable } }, {}, true, 31, 0, ds 0x21 [], ?_⟩,
    ⟨mks [rg 31 2 0 [ds 0x21 []], en (fun e => { e with commit := some ({}, true, 31, 0, false) })], {}, true, 31, 0, ds 0x21 [], ?_⟩,
    ⟨mks [rg 31 2 0 [ds 0x21 []], en (fun e => { e with commit := some ({}, true, 31, 0, false) }), inSt .armed], {}, true, 31, 0, ds 0x21 [], ?_⟩⟩
  all_goals ((try unfold Starts); decide +kernel)

theorem witness_TileTimersAndWriteBack :
    (∃ s : State, ∃ e : Int, ∃ n : Int, ∃ u : Tile, findTile 0 e n s.dev = some u ∧ u.fresh ≠ [] ∧ u.lastMark + 125000000 * getF F.REG_CFG.MARK_HOLD s.dev ≤ s.dev.pt ∧ u.markOnly = false) ∧
    (∃ s : State, ∃ e : Int, ∃ n : Int, ∃ u : Tile, findTile 0 e n s.dev = some u ∧ isDirty u = true ∧ u.markOnly = false ∧ u.lastRef + 250000 * getF F.REG_WB.IDLE s.dev ≤ s.dev.pt) ∧
    (∃ s : State, ∃ e : Int, ∃ n : Int, ∃ u : Tile, ∃ o, findTile 0 e n s.dev = some u ∧ isDirty u = true ∧ u.oldest = some o ∧ o + 2500000 * getF F.REG_WB.MAX_AGE s.dev ≤ s.dev.pt) ∧
    (∃ s : State, ∃ e : Int, ∃ n : Int, ∃ u : Tile, ∃ i, ∃ x, findTile 0 e n s.dev = some u ∧ dueTile e n s.dev = some u ∧ s.dev.eng.writing = none ∧ isStoker s.dev = false ∧ waitingBuffer 4 0x40 none s.dev = some (i, x) ∧ isSet F.REG_CFG.MERGE s.dev = false) ∧
    (∃ s : State, ∃ e : Int, ∃ n : Int, ∃ u : Tile, findTile 0 e n s.dev = some u ∧ dueTile e n s.dev = some u ∧ s.dev.eng.writing = none ∧ isStoker s.dev = false ∧ waitingBuffer 4 0x40 none s.dev = none) ∧
    (∃ s : State, ∃ e : Int, ∃ n : Int, ∃ u : Tile, findTile 0 e n s.dev = some u ∧ lateTile e n s.dev = some u ∧ u.dropFor = []) ∧
    (∃ s : State, ∃ e : Int, ∃ n : Int, ∃ u : Tile, ∃ w, findTile 0 e n s.dev = some u ∧ s.dev.eng.writing = some w ∧ s.dev.eng.casStale = 0) ∧
    (∃ s : State, ∃ e : Int, ∃ n : Int, ∃ u : Tile, findTile 0 e n s.dev = some u ∧ s.dev.eng.casStale ≠ 0) ∧
    (∃ s : State, ∃ e : Int, ∃ n : Int, ∃ u : Tile, ∃ w, ∃ bs, findTile 0 e n s.dev = some u ∧ s.dev.eng.writing = some w ∧ s.dev.eng.casStale = 0 ∧ sameTile u (tileKey w) = true ∧ leAt bs 0 8 ≠ w.expect ∧ w.tries < 7 ∧ atomicsOpen s.dev = true) := by
  refine ⟨⟨mks [en (fun e => { e with tiles := [{ ({ kind := 0, e := -1, n := 2, k := 7, fid := 0 } : Tile) with fresh := [3], cells := [(3, 1)] }] }), atPt 1250000000], (-1 : Int), (2 : Int), { ({ kind := 0, e := -1, n := 2, k := 7, fid := 0 } : Tile) with fresh := [3], cells := [(3, 1)] }, ?_⟩,
    ⟨mks [en (fun e => { e with tiles := [({ kind := 0, e := -1, n := 2, k := 7, fid := 0, home := 4096, incr := [(3, 5)], oldest := some 0 } : Tile)] }), atPt 500000000], (-1 : Int), (2 : Int), ({ kind := 0, e := -1, n := 2, k := 7, fid := 0, home := 4096, incr := [(3, 5)], oldest := some 0 } : Tile), ?_⟩,
    ⟨mks [en (fun e => { e with tiles := [({ kind := 0, e := -1, n := 2, k := 7, fid := 0, home := 4096, incr := [(3, 5)], oldest := some 0 } : Tile)] }), atPt 5000000000], (-1 : Int), (2 : Int), ({ kind := 0, e := -1, n := 2, k := 7, fid := 0, home := 4096, incr := [(3, 5)], oldest := some 0 } : Tile), 0, ?_⟩,
    ⟨mks [setF F.REG_CFG.MERGE 0, en (fun e => { e with tiles := [{ ({ kind := 0, e := -1, n := 2, k := 7, fid := 0, home := 4096, incr := [(3, 5)], oldest := some 0 } : Tile) with wbDue := true }] }), rg 31 4 0 [({ index := 0, opcode := 0x40, addr := 8192, len := 2080, stage := .waiting } : InDesc)]], (-1 : Int), (2 : Int), { ({ kind := 0, e := -1, n := 2, k := 7, fid := 0, home := 4096, incr := [(3, 5)], oldest := some 0 } : Tile) with wbDue := true }, 31, ({ index := 0, opcode := 0x40, addr := 8192, len := 2080, stage := .waiting } : InDesc), ?_⟩,
    ⟨mks [en (fun e => { e with tiles := [{ ({ kind := 0, e := -1, n := 2, k := 7, fid := 0, home := 4096, incr := [(3, 5)], oldest := some 0 } : Tile) with wbDue := true }] }), rg 31 4 0 []], (-1 : Int), (2 : Int), { ({ kind := 0, e := -1, n := 2, k := 7, fid := 0, home := 4096, incr := [(3, 5)], oldest := some 0 } : Tile) with wbDue := true }, ?_⟩,
    ⟨mks [en (fun e => { e with tiles := [{ ({ kind := 0, e := -1, n := 2, k := 7, fid := 0, home := 4096, incr := [(3, 5)], oldest := some 0 } : Tile) with dropBy := some 9 }] }), atPt 9], (-1 : Int), (2 : Int), { ({ kind := 0, e := -1, n := 2, k := 7, fid := 0, home := 4096, incr := [(3, 5)], oldest := some 0 } : Tile) with dropBy := some 9 }, ?_⟩,
    ⟨mks [en (fun e => { e with tiles := [({ kind := 0, e := -1, n := 2, k := 7, fid := 0, home := 4096, incr := [(3, 5)], oldest := some 0 } : Tile)], writing := some ({ kind := 0, e := -1, n := 2, k := 7, fid := 0, ring := 31, index := 0, snap := [(3, 5)], cells := [], word := 0, tries := 6, expect := 0, kept := [], merged := [], cycle := 0 } : WriteBack) }), rg 31 4 0 [({ index := 0, opcode := 0x40, addr := 8192, len := 2080, stage := .waiting } : InDesc)], setF F.HIF_STATUS.ATOMIC_ACTIVE 1], (-1 : Int), (2 : Int), ({ kind := 0, e := -1, n := 2, k := 7, fid := 0, home := 4096, incr := [(3, 5)], oldest := some 0 } : Tile), ({ kind := 0, e := -1, n := 2, k := 7, fid := 0, ring := 31, index := 0, snap := [(3, 5)], cells := [], word := 0, tries := 6, expect := 0, kept := [], merged := [], cycle := 0 } : WriteBack), ?_⟩,
    ⟨mks [en (fun e => { e with tiles := [({ kind := 0, e := -1, n := 2, k := 7, fid := 0, home := 4096, incr := [(3, 5)], oldest := some 0 } : Tile)], casStale := 1 })], (-1 : Int), (2 : Int), ({ kind := 0, e := -1, n := 2, k := 7, fid := 0, home := 4096, incr := [(3, 5)], oldest := some 0 } : Tile), ?_⟩,
    ⟨mks [en (fun e => { e with tiles := [({ kind := 0, e := -1, n := 2, k := 7, fid := 0, home := 4096, incr := [(3, 5)], oldest := some 0 } : Tile)], writing := some ({ kind := 0, e := -1, n := 2, k := 7, fid := 0, ring := 31, index := 0, snap := [(3, 5)], cells := [], word := 0, tries := 6, expect := 0, kept := [], merged := [], cycle := 0 } : WriteBack) }), rg 31 4 0 [({ index := 0, opcode := 0x40, addr := 8192, len := 2080, stage := .waiting } : InDesc)], setF F.HIF_STATUS.ATOMIC_ACTIVE 1, px (fun p => { p with atomicReq := true })], (-1 : Int), (2 : Int), ({ kind := 0, e := -1, n := 2, k := 7, fid := 0, home := 4096, incr := [(3, 5)], oldest := some 0 } : Tile), ({ kind := 0, e := -1, n := 2, k := 7, fid := 0, ring := 31, index := 0, snap := [(3, 5)], cells := [], word := 0, tries := 6, expect := 0, kept := [], merged := [], cycle := 0 } : WriteBack), ([1, 0, 0, 0, 0, 0, 0, 0] : List Byte), ?_⟩⟩
  all_goals (decide +kernel)

theorem witness_CanBusState :
    (∃ s : State, ∃ c : Nat, c < 4 ∧ s.dev.pwr.state = .restricted) ∧
    (∃ s : State, ∃ c : Nat, c < 4 ∧ s.dev.pwr.state ≠ .restricted ∧ isSet (F.CAN_CFG.EN c) s.dev = false) ∧
    (∃ s : State, ∃ c : Nat, c < 4 ∧ s.dev.pwr.state ≠ .restricted ∧ isSet (F.CAN_CFG.EN c) s.dev = true) ∧
    (∃ s : State, ∃ c : Nat, c < 4 ∧ s.dev.pwr.state ≠ .restricted ∧ isSet (F.CAN_CFG.HALT c) s.dev = true ∧ timingLegal c s.dev = true) ∧
    (∃ s : State, ∃ c : Nat, c < 4 ∧ s.dev.pwr.state ≠ .restricted ∧ isSet (F.CAN_CFG.HALT c) s.dev = true ∧ timingLegal c s.dev = false) ∧
    (∃ s : State, ∃ c : Nat, c < 4 ∧ s.dev.pwr.state ≠ .parked ∧ s.dev.pwr.state ≠ .cold ∧ isSet (F.CAN_CFG.EN c) s.dev = true ∧ isSet (F.CAN_CFG.HALT c) s.dev = false) ∧
    (∃ s : State, ∃ c : Nat, c < 4 ∧ canSees c s.dev = true ∧ (getCan c s.dev).onBus = .none ∧ isSet (F.CAN_CFG.FD_EN c) s.dev = false) ∧
    (∃ s : State, ∃ c : Nat, c < 4 ∧ s.dev.pwr.state ≠ .restricted ∧ (getCan c s.dev).busOff = true) ∧
    (∃ s : State, ∃ c : Nat, c < 4 ∧ (getCan c s.dev).busOff = true ∧ (getCan c s.dev).recover = true) ∧
    (∃ s : State, ∃ c : Nat, c < 4 ∧ (getCan c s.dev).busOff = true ∧ (getCan c s.dev).recover = false ∧ isSet (F.CAN_CFG.BO_AUTO c) s.dev = false) := by
  refine ⟨⟨mks [inSt .restricted], 3, ?_⟩,
    ⟨mks [cn 3 { tec := 7 }], 3, ?_⟩,
    ⟨mks [setF (F.CAN_CFG.EN 3) 1, cn 3 { joined := true, rx := [[1]] }], 3, ?_⟩,
    ⟨mks [setF (F.CAN_CFG.EN 3) 1, setF (F.CAN_CFG.HALT 3) 1], 3, ?_⟩,
    ⟨mks [setF (F.CAN_CFG.EN 3) 1, setF (F.CAN_CFG.HALT 3) 1, setF (F.CAN_NOMBIT.NPRE 3) 0], 3, ?_⟩,
    ⟨mks [inSt .ready, setF (F.CAN_CFG.EN 3) 1, setF (F.CAN_CFG.HALT 3) 0], 3, ?_⟩,
    ⟨mks [setF (F.CAN_CFG.EN 3) 1, setF (F.CAN_CFG.FD_EN 3) 0, cn 3 { joined := true }], 3, ?_⟩,
    ⟨mks [cn 3 { busOff := true }], 3, ?_⟩,
    ⟨mks [cn 3 { busOff := true, recover := true, tec := 256 }], 3, ?_⟩,
    ⟨mks [cn 3 { busOff := true }, setF (F.CAN_CFG.BO_AUTO 3) 0], 3, ?_⟩⟩
  all_goals (decide +kernel)

theorem witness_CanTransmission :
    (∃ s : State, ∃ c : Nat, ∃ i : Nat, ∃ x : InDesc, c < 4 ∧ Starts i 0x80 x s.dev ∧ ringInstance i s.dev = c ∧ c ≠ 1 ∧ (sendFrameOf x).fdf = false ∧ isSet (F.CAN_CFG.LISTEN c) s.dev = false ∧ (getCan c s.dev).fifo.length < 32) ∧
    (∃ s : State, ∃ c : Nat, ∃ i : Nat, ∃ x : InDesc, c < 4 ∧ Starts i 0x80 x s.dev ∧ ringInstance i s.dev = c ∧ c ≠ 1 ∧ (sendFrameOf x).fdf = false ∧ isSet (F.CAN_CFG.LISTEN c) s.dev = true) ∧
    (∃ s : State, ∃ c : Nat, ∃ e, c < 4 ∧ canSees c s.dev = true ∧ canListen c s.dev = false ∧ isSet (F.CAN_CFG.HALT c) s.dev = false ∧ (getCan c s.dev).onBus = .none ∧ (getCan c s.dev).fifo.head? = some e ∧ (getCan c s.dev).summary = none ∧ (getCan c s.dev).sox = []) ∧
    (∃ s : State, ∃ c : Nat, ∃ i : Nat, ∃ x : InDesc, ∃ e, c < 4 ∧ (getCan c s.dev).onBus = .fifo ∧ (getCan c s.dev).fifo = [e] ∧ e.from_ = .send i x.index ∧ ringLive i s.dev = true ∧ (∀ y, inFlight i x.index s.dev = some y → y.stage ≠ .done) ∧ canLooped c s.dev = false) ∧
    (∃ s : State, ∃ c : Nat, ∃ i : Nat, ∃ x : InDesc, ∃ e, c < 4 ∧ (getCan c s.dev).onBus = .fifo ∧ (getCan c s.dev).fifo = [e] ∧ e.from_ = .send i x.index ∧ e.single = false ∧ e.retry = 0 ∧ e.abort = false ∧ (getCan c s.dev).tec ≤ 200 ∧ pstate s.dev ≠ .restricted) ∧
    (∃ s : State, ∃ c : Nat, ∃ e, c < 4 ∧ (getCan c s.dev).onBus = .fifo ∧ (getCan c s.dev).fifo = [e] ∧ e.abort = false ∧ pstate s.dev ≠ .restricted) ∧
    (∃ s : State, ∃ c : Nat, ∃ i : Nat, ∃ x : InDesc, ∃ e, c < 4 ∧ (getCan c s.dev).onBus = .fifo ∧ (getCan c s.dev).fifo = [e] ∧ e.abort = false ∧ pstate s.dev = .restricted ∧ e.from_ = .send i x.index ∧ ringLive i s.dev = true ∧ (∀ y, inFlight i x.index s.dev = some y → y.stage ≠ .done)) ∧
    (∃ s : State, ∃ c : Nat, ∃ i : Nat, ∃ x : InDesc, c < 4 ∧ Starts i 0x81 x s.dev ∧ ringInstance i s.dev = c ∧ paramBits x 32 0 2 = 0 ∧ (getCan c s.dev).onBus ≠ .fifo) ∧
    (∃ a, ∃ b, a < 2048 ∧ b < 2048) ∧
    (∃ a, ∃ b, a < 2 ^ 29 ∧ b < 2 ^ 29) ∧
    (∃ a, ∃ b, a < 2048 ∧ b < 2 ^ 29 ∧ b / 2 ^ 18 = a) := by
  refine ⟨⟨mks [rg 31 8 3 [ds 0x80 [5]]], 3, 31, ds 0x80 [5], ?_⟩,
    ⟨mks [rg 31 8 0 [ds 0x80 [5]], setF (F.CAN_CFG.LISTEN 0) 1], 0, 31, ds 0x80 [5], ?_⟩,
    ⟨mks [setF (F.CAN_CFG.EN 3) 1, setF (F.CAN_CFG.HALT 3) 0, cn 3 { joined := true, fifo := [({ from_ := .send 31 0, frame := { id := 5 } } : TxEntry)] }], 3, ({ from_ := .send 31 0, frame := { id := 5 } } : TxEntry), ?_⟩,
    ⟨mks [rg 31 8 3 [{ ds 0x80 [5] with stage := .waiting }], cn 3 { joined := true, fifo := [({ from_ := .send 31 0, frame := { id := 5 } } : TxEntry)], onBus := .fifo, tec := 5 }], 3, 31, ds 0x80 [5], ({ from_ := .send 31 0, frame := { id := 5 } } : TxEntry), ?_⟩,
    ⟨mks [rg 31 8 3 [{ ds 0x80 [5] with stage := .waiting }], setF (F.CAN_CFG.EN 3) 1, cn 3 { joined := true, fifo := [({ from_ := .send 31 0, frame := { id := 5 } } : TxEntry)], onBus := .fifo, tec := 200 }], 3, 31, ds 0x80 [5], ({ from_ := .send 31 0, frame := { id := 5 } } : TxEntry), ?_⟩,
    ⟨mks [cn 3 { joined := true, fifo := [({ from_ := .send 31 0, frame := { id := 5 } } : TxEntry)], onBus := .fifo }], 3, ({ from_ := .send 31 0, frame := { id := 5 } } : TxEntry), ?_⟩,
    ⟨mks [inSt .restricted, rg 31 8 3 [{ ds 0x80 [5] with stage := .waiting }], setF (F.CAN_CFG.EN 3) 1, cn 3 { joined := true, fifo := [({ from_ := .send 31 0, frame := { id := 5 } } : TxEntry)], onBus := .fifo, tec := 200 }], 3, 31, ds 0x80 [5], ({ from_ := .send 31 0, frame := { id := 5 } } : TxEntry), ?_⟩,
    ⟨mks [rg 31 8 3 [ds 0x81 []], cn 3 { joined := true, fifo := [({ from_ := .send 31 0, frame := { id := 5 } } : TxEntry)] }], 3, 31, ds 0x81 [], ?_⟩,
    ⟨2047, 0, ?_⟩,
    ⟨536870911, 0, ?_⟩,
    ⟨2047, 536870911, ?_⟩⟩
  all_goals ((try unfold Starts); decide +kernel)

theorem witness_CanReception :
    (∃ s : State, ∃ c : Nat, ∃ f, ∃ stamp, c < 4 ∧ c ≠ 1 ∧ canSees c s.dev = true ∧ canCut c s.dev = false ∧ f.rtr = false ∧ f.fdf = false ∧ filterFrame c f s.dev = none ∧ (cfgAt c stamp s.dev).getLsbD (if f.ide then 7 else 6) = false ∧ (getCan c s.dev).rx = [] ∧ (getCan c s.dev).rec_ = 0 ∧ waitingBuffer 9 0x90 (some c) s.dev = none) ∧
    (∃ s : State, ∃ c : Nat, ∃ steps : IsoSteps, c < 4 ∧ canSees c s.dev = true ∧ (getCan c s.dev).onBus = .none ∧ (getCan c s.dev).tec + 8 * steps.tecEights ≤ 255) ∧
    (∃ s : State, ∃ c : Nat, ∃ j, c < 4 ∧ j < 64 ∧ s.dev.pwr.state = .restricted) ∧
    (∃ s : State, ∃ c : Nat, ∃ j, c < 4 ∧ j < 64 ∧ s.dev.pwr.state ≠ .restricted ∧ (getCan c s.dev).held = []) ∧
    (∃ s : State, ∃ c : Nat, c < 4 ∧ sumOn c s.dev = true ∧ getF (F.CAN_SUM_CFG.PERIOD c) s.dev ≠ 0 ∧ (getCan c s.dev).sumDue = none ∧ s.dev.eng.cycleAt = some s.dev.pt ∧ (getCan c s.dev).onBus ≠ .summary) := by
  refine ⟨⟨mks [setF (F.CAN_CFG.EN 3) 1, setF (F.CAN_CFG.DROP_STD 3) 0, cn 3 { joined := true, lost := 5 }], 3, { id := 5 }, 0, ?_⟩,
    ⟨mks [setF (F.CAN_CFG.EN 3) 1, cn 3 { joined := true, tec := 255 }], 3, { recEights := 1 }, ?_⟩,
    ⟨mks [inSt .restricted], 3, 63, ?_⟩,
    ⟨mks [], 3, 63, ?_⟩,
    ⟨mks [setF (F.CAN_CFG.EN 3) 1, setF (F.CAN_SUM_CFG.EN 3) 1, setF (F.CAN_SUM_CFG.PERIOD 3) 1, en (fun e => { e with cycleAt := some 0 })], 3, ?_⟩⟩
  all_goals (decide +kernel)

theorem witness_LogbookCommands :
    (∃ s : State, s.dev.log.galley = []) ∧
    (∃ s : State, ∃ ev : LogEvt, ∃ g, ∃ y, s.dev.log.galley = g ++ [y] ∧ (mayStore s.dev = false ∨ g ≠ []) ∧ y.code = ev.code ∧ y.die = ev.die ∧ y.block = ev.block ∧ y.index = ev.index ∧ y.repeat_ < 255) ∧
    (∃ s : State, ∃ y, s.dev.log.galley = [y] ∧ mayStore s.dev = true) ∧
    (∃ s : State, ∃ e, ∃ rest, ∃ slot, s.dev.log.galley = e :: rest ∧ mayStore s.dev = true ∧ s.dev.log.dropped = [] ∧ chooseSlot e.sev s.dev = some slot) ∧
    (∃ s : State, s.dev.log.scanned = false ∧ s.dev.pwr.suppliesGood = true) ∧
    (∃ s : State, s.dev.log.scanned = true ∧ s.dev.log.stopped = false ∧ s.dev.log.nextSave ≤ s.dev.pwr.opTime) ∧
    (∃ s : State, ∃ p, s.dev.log.frozen = some p ∧ p ≤ s.dev.pt) ∧
    (∃ s : State, ∃ v, v % 65536 = 0xE4A5 ∧ isArmed s.dev = false ∧ s.dev.log.frozen = none ∧ s.dev.log.erasing = false ∧ s.dev.log.stopped = false) ∧
    (∃ s : State, ∃ v, (v % 65536 ≠ 0xE4A5 ∨ isArmed s.dev = true ∨ s.dev.log.frozen ≠ none ∨ s.dev.log.erasing = true ∨ s.dev.log.stopped = true)) ∧
    (∃ s : State, s.dev.log.erasing = true ∧ s.dev.log.scanned = true ∧ (∀ e ∈ s.dev.log.store, e.1 < 4096) ∧ s.dev.log.dropped = [] ∧ s.dev.log.galley = []) ∧
    (∃ s : State, s.dev.log.erasing = true ∧ s.dev.log.scanned = true ∧ (∀ e ∈ s.dev.log.store, e.1 < 4096) ∧ s.dev.log.galley ≠ []) ∧
    (∃ s : State, (s.dev.log.erasing = false ∨ s.dev.log.scanned = false)) ∧
    (∃ s : State, s.dev.log.stopped = false) ∧
    (∃ s : State, s.dev.log.stopped = false ∧ s.dev.log.galley = []) := by
  refine ⟨⟨mks [], ?_⟩,
    ⟨mks [lg (fun l => { l with galley := [({ code := 0x0102, sev := 3, die := 7, block := 2, index := 5, p0 := 1, p1 := 2, p2 := 3, opTime := 0, pcyc := 0, repeat_ := 254 } : LogEntry)] })], ⟨0x0102, 3, 7, 2, 5, 9, 2, 3⟩, [], ({ code := 0x0102, sev := 3, die := 7, block := 2, index := 5, p0 := 1, p1 := 2, p2 := 3, opTime := 0, pcyc := 0, repeat_ := 254 } : LogEntry), ?_⟩,
    ⟨mks [lg (fun l => { l with galley := [({ code := 0x0102, sev := 3, die := 7, block := 2, index := 5, p0 := 1, p1 := 2, p2 := 3, opTime := 0, pcyc := 0, repeat_ := 254 } : LogEntry)], scanned := true })], ({ code := 0x0102, sev := 3, die := 7, block := 2, index := 5, p0 := 1, p1 := 2, p2 := 3, opTime := 0, pcyc := 0, repeat_ := 254 } : LogEntry), ?_⟩,
    ⟨mks [lg (fun l => { l with galley := [({ code := 0x0102, sev := 3, die := 7, block := 2, index := 5, p0 := 1, p1 := 2, p2 := 3, opTime := 0, pcyc := 0, repeat_ := 254 } : LogEntry)], scanned := true })], ({ code := 0x0102, sev := 3, die := 7, block := 2, index := 5, p0 := 1, p1 := 2, p2 := 3, opTime := 0, pcyc := 0, repeat_ := 254 } : LogEntry), [], 0, ?_⟩,
    ⟨mks [pw (fun p => { p with suppliesGood := true })], ?_⟩,
    ⟨mks [lg (fun l => { l with scanned := true, nextSave := 1 })], ?_⟩,
    ⟨mks [lg (fun l => { l with frozen := some 9 }), atPt 9], 9, ?_⟩,
    ⟨mks [], 0x1E4A5, ?_⟩,
    ⟨mks [], 0, ?_⟩,
    ⟨mks [lg (fun l => { l with erasing := true, scanned := true, store := [(5, some ⟨({ code := 0x0102, sev := 3, die := 7, block := 2, index := 5, p0 := 1, p1 := 2, p2 := 3, opTime := 0, pcyc := 0, repeat_ := 254 } : LogEntry), 3, 0⟩)] })], ?_⟩,
    ⟨mks [lg (fun l => { l with erasing := true, scanned := true, galley := [({ code := 0x0102, sev := 3, die := 7, block := 2, index := 5, p0 := 1, p1 := 2, p2 := 3, opTime := 0, pcyc := 0, repeat_ := 254 } : LogEntry)], store := [(5, some ⟨({ code := 0x0102, sev := 3, die := 7, block := 2, index := 5, p0 := 1, p1 := 2, p2 := 3, opTime := 0, pcyc := 0, repeat_ := 254 } : LogEntry), 3, 0⟩)] })], ?_⟩,
    ⟨mks [], ?_⟩,
    ⟨mks [], ?_⟩,
    ⟨mks [], ?_⟩⟩
  all_goals (decide +kernel)

theorem witness_HealthCommands :
    (∃ s : State, ∃ cls, ∃ i, ∃ p, cls < 19 ∧ hasInst cls i s.dev = true ∧ (getInst cls i s.dev).lasting = false ∧ (getInst cls i s.dev).leakAt = some p ∧ p ≤ s.dev.pt) ∧
    (∃ s : State, ∃ cls, ∃ i, (cls = 8 ∨ (10 ≤ cls ∧ cls ≤ 18)) ∧ hasInst cls i s.dev = true) ∧
    (∃ cls, cls ≠ 8 ∧ (cls < 10 ∨ 18 < cls)) ∧
    (∃ s : State, ∃ k, k ≠ 0 ∧ sboostOn k s.dev = false) ∧
    (∃ s : State, ∃ k, ∃ ticks, ∃ mv, ∃ ma, ∃ nh, ∃ ilim, k ≠ 0 ∧ dieRuns k s.dev = true ∧ sboostOn k s.dev = true ∧ 0 < mv ∧ 0 < ma ∧ 0 < nh ∧ chargesAlone k s.dev = true ∧ ilim = (if s.dev.pwr.prechargeBy.any (fun e => e.1 == k) then getF F.PWR_PRECHARGE.ILIM s.dev else getF (F.DRV_BOOST_CFG.ILIM k) s.dev) ∧ 8 * ilim * ticks < 65535 * mv) ∧
    (∃ s : State, ∃ k, ∃ mv, ∃ ma, ∃ nh, k ≠ 0 ∧ dieRuns k s.dev = true ∧ sboostOn k s.dev = true ∧ 0 < mv ∧ 0 < ma ∧ 0 < nh ∧ chargesAlone k s.dev = false) ∧
    (∃ s : State, ∃ k, ∃ mv, ∃ ma, ∃ nh, k ≠ 0 ∧ dieRuns k s.dev = true ∧ sboostOn k s.dev = true ∧ 0 < mv ∧ 0 < ma ∧ 0 < nh ∧ 1000 * mv < 65535 * ma) ∧
    (∃ s : State, ∃ k, ∃ mv, ∃ ma, ∃ v1, ∃ v2, ∃ nh, ∃ c, k ≠ 0 ∧ dieRuns k s.dev = true ∧ sboostOn k s.dev = true ∧ 0 < mv ∧ 0 < ma ∧ 0 < nh ∧ (getMon k s.dev).boostC = some c ∧ 25600 * c * (v2 * v2 - v1 * v1) < 255 * (nh * ma * ma)) ∧
    (∃ s : State, ∃ k, ∃ v, hasSpoke k s.dev = true ∧ dieRuns k s.dev = true ∧ v < 1024) ∧
    (∃ s : State, dieRuns 0 s.dev = true ∧ s.dev.health.lastReplan + 36000 ≤ s.dev.pwr.opTime) ∧
    (∃ s : State, dieRuns 0 s.dev = true ∧ s.dev.pwr.opTime < s.dev.health.lastReplan + 36000 ∧ s.dev.health.nowPending = true) ∧
    (∃ s : State, s.dev.health.marginDue = true ∧ isSet F.HLT_CFG.APPLY s.dev = true ∧ isArmed s.dev = false) ∧
    (∃ s : State, ∃ k, ∃ means : List Nat, hasSpoke k s.dev = true ∧ dieRuns k s.dev = true ∧ 10 * getF (F.SHL_ILIM.I_D k) s.dev < (means.take 8).foldl (· + ·) 0) ∧
    (∃ s : State, ∃ k, ∃ means : List Nat, hasSpoke k s.dev = true ∧ dieRuns k s.dev = true ∧ (means.take 8).foldl (· + ·) 0 ≤ 10 * getF (F.SHL_ILIM.I_D k) s.dev) := by
  refine ⟨⟨mks [hi 18 0 { c := 1, leakAt := some 9 }, atPt 9], 18, 0, 9, ?_⟩,
    ⟨mks [hi 18 0 { c := 1, leakAt := some 9 }], 18, 0, ?_⟩,
    ⟨9, ?_⟩,
    ⟨mks [], 7, ?_⟩,
    ⟨mks [pw (fun p => { p with spokeOn := [7] }), setF (F.DRV_BOOST_CFG.EN 7) 1, setF (F.DRV_BOOST_CFG.ILIM 7) 8, updBoost 7 (fun b => { b with charging := true })], 7, 2500, 1000, 1, 1, 8, ?_⟩,
    ⟨mks [pw (fun p => { p with spokeOn := [7] }), setF (F.DRV_BOOST_CFG.EN 7) 1], 7, 1000, 1, 1, ?_⟩,
    ⟨mks [pw (fun p => { p with spokeOn := [7] }), setF (F.DRV_BOOST_CFG.EN 7) 1], 7, 65, 1, 1, ?_⟩,
    ⟨mks [pw (fun p => { p with spokeOn := [7] }), setF (F.DRV_BOOST_CFG.EN 7) 1, hl (fun h => { h with mon := [(7, { boostC := some 4 })] })], 7, 1, 1000, 3, 4, 1000, 4, ?_⟩,
    ⟨mks [pw (fun p => { p with spokeOn := [7] })], 7, 49, ?_⟩,
    ⟨mks [pw (fun p => { p with suppliesGood := true, opTime := 36001 })], ?_⟩,
    ⟨mks [pw (fun p => { p with suppliesGood := true }), hl (fun h => { h with nowPending := true })], ?_⟩,
    ⟨mks [hl (fun h => { h with marginDue := true, slips := [(7, 2047)] }), setF F.HLT_CFG.APPLY 1, pw (fun p => { p with spokeOn := [7] })], ?_⟩,
    ⟨mks [pw (fun p => { p with spokeOn := [7] })], 7, [9000, 9000, 9000, 9000, 9000, 9000, 9000, 9000], ?_⟩,
    ⟨mks [pw (fun p => { p with spokeOn := [7] }), setF (F.SHL_ILIM.I_D 7) 100], 7, [1000], ?_⟩⟩
  all_goals (decide +kernel)

theorem witness_InterruptCommands :
    (∃ src, 128 ≤ src ∧ src < 160) ∧
    (∃ s : State, ∃ k, hasSpoke k s.dev = true ∧ s.dev.pwr.spokeOn.contains k = true) ∧
    (∃ s : State, ∃ core, core < 4 ∧ coreRun .hub core s.dev = .running ∧ runPrio .hub core s.dev < takenLevel .hub core s.dev) ∧
    (∃ s : State, ∃ core, core < 4 ∧ irqLine .hub core s.dev = false) ∧
    (∃ s : State, ∃ core, core < 4 ∧ wakeEligible .hub core s.dev = false) ∧
    (∃ s : State, ∃ core, ∃ lvl, ∃ rest, core < 4 ∧ kget s.dev.hic.coreStacks core [] = lvl :: rest) ∧
    (∃ s : State, ∃ core, core < 4 ∧ kget s.dev.hic.coreStacks core [] = []) ∧
    (∃ core, core < 4) ∧
    (∃ core, ∃ i, core < 4 ∧ i < 16) ∧
    (∃ w, ∃ b, 5 ≤ w ∧ w < 32 ∧ b < 32) ∧
    (∃ m, ∃ value : Word, 80 ≤ m ∧ m < 512 ∧ halfLegal .hub (value.toNat % 65536) = true ∧ halfLegal .hub (value.toNat / 65536) = true ∧ halfOut (value.toNat % 65536) = true ∧ halfOut (value.toNat / 65536) = true) ∧
    (∃ m, m < 80) := by
  refine ⟨⟨159, ?_⟩,
    ⟨mks [pw (fun p => { p with spokeOn := [7] })], 7, ?_⟩,
    ⟨mks [fun d => { d with hic := { d.hic with history := [(3, [(0, 5)])] } }, fun d => { d with ticks := 1000 }], 3, ?_⟩,
    ⟨mks [], 3, ?_⟩,
    ⟨mks [], 3, ?_⟩,
    ⟨mks [fun d => { d with hic := { d.hic with coreStacks := [(3, [5])] } }], 3, 5, [], ?_⟩,
    ⟨mks [], 3, ?_⟩,
    ⟨3, ?_⟩,
    ⟨3, 15, ?_⟩,
    ⟨31, 31, ?_⟩,
    ⟨511, (0x01100130 : Word), ?_⟩,
    ⟨79, ?_⟩⟩
  all_goals (decide +kernel)

theorem witness_RolesAndProbes :
    (∃ s : State, ∃ i : Nat, ∃ x : InDesc, Starts i 0xE0 x s.dev ∧ (soxAddr s.dev = 63 ∨ x.len ≠ 32 ∨ roleBad x.buf s.dev = true)) ∧
    (∃ s : State, ∃ i : Nat, ∃ x : InDesc, Starts i 0xE0 x s.dev ∧ soxAddr s.dev ≠ 63 ∧ x.len = 32 ∧ roleBad x.buf s.dev = false ∧ isArmed s.dev = true) ∧
    (∃ s : State, ∃ i : Nat, ∃ x : InDesc, Starts i 0xE0 x s.dev ∧ soxAddr s.dev ≠ 63 ∧ x.len = 32 ∧ roleBad x.buf s.dev = false ∧ isArmed s.dev = false ∧ canBReady s.dev = true ∧ s.dev.sox.newRole = none ∧ s.dev.sox.probe = none ∧ isSet F.CAN_SB_STATUS.PROBED s.dev = true) ∧
    (∃ s : State, ∃ i : Nat, ∃ x : InDesc, Starts i 0xE1 x s.dev ∧ soxAddr s.dev = 63) ∧
    (∃ s : State, ∃ i : Nat, ∃ x : InDesc, Starts i 0xE1 x s.dev ∧ soxAddr s.dev ≠ 63 ∧ s.dev.sox.newRole = none ∧ s.dev.sox.probe = none) ∧
    (∃ s : State, ∃ p, s.dev.sox.probe = some p ∧ p.sent < 3 ∧ p.lastAt + ms 10 ≤ s.dev.pt) ∧
    (∃ s : State, ∃ p, s.dev.sox.probe = some p ∧ 3 ≤ p.sent ∧ p.lastAt + ms 20 ≤ s.dev.pt ∧ p.dup = true) ∧
    (∃ s : State, ∃ p, s.dev.sox.probe = some p ∧ 3 ≤ p.sent ∧ p.lastAt + ms 20 ≤ s.dev.pt ∧ p.dup = false ∧ p.acked ≠ 0) ∧
    (∃ s : State, ∃ g, s.dev.sox.role.role = 1 ∧ gridReached (us s.dev.sox.role.cadPeriod) 0 s.dev.pt = some g ∧ s.dev.sox.cadLast ≠ some g ∧ s.dev.sox.conflicts = [] ∧ s.dev.pwr.state ≠ .restricted) := by
  refine ⟨⟨mks [rg 31 14 0 [ds 0xE0 []]], 31, ds 0xE0 [], ?_⟩,
    ⟨mks [sbus, rg 31 14 0 [({ ds 0xE0 [] with len := 32, buf := [1, 9] ++ List.replicate 30 0 } : InDesc)], inSt .armed], 31, ({ ds 0xE0 [] with len := 32, buf := [1, 9] ++ List.replicate 30 0 } : InDesc), ?_⟩,
    ⟨mks [sbus, rg 31 14 0 [({ ds 0xE0 [] with len := 32, buf := [1, 9] ++ List.replicate 30 0 } : InDesc)], inSt .ready, setF F.CAN_SB_STATUS.PROBED 1], 31, ({ ds 0xE0 [] with len := 32, buf := [1, 9] ++ List.replicate 30 0 } : InDesc), ?_⟩,
    ⟨mks [fun d => { d with chip := { strapAddr := 63 } }, rg 31 14 0 [ds 0xE1 []]], 31, ds 0xE1 [], ?_⟩,
    ⟨mks [sbus, rg 31 14 0 [ds 0xE1 []]], 31, ds 0xE1 [], ?_⟩,
    ⟨mks [sbus, sx (fun x => { x with probe := some { nonce := [1], sent := 2 } }), atPt 2500000], { nonce := [1], sent := 2 }, ?_⟩,
    ⟨mks [sbus, sx (fun x => { x with probe := some { nonce := [1], sent := 3, dup := true } }), atPt 5000000], { nonce := [1], sent := 3, dup := true }, ?_⟩,
    ⟨mks [sbus, sx (fun x => { x with probe := some { nonce := [1], sent := 3, acked := 1 } }), atPt 5000000], { nonce := [1], sent := 3, acked := 1 }, ?_⟩,
    ⟨mks [sbus, role { role := 1, leader := 9 }, inSt .ready, atPt 250000], 250000, ?_⟩⟩
  all_goals ((try unfold Starts); decide +kernel)

theorem witness_AcceptedFramesAct :
    (∃ s : State, ∃ f : CanFrame, soxAccepts 0 f s.dev ∧ s.dev.sox.role.role = 1) ∧
    (∃ s : State, ∃ f : CanFrame, soxAccepts 0 f s.dev ∧ s.dev.sox.role.role = 2 ∧ soxSrc f.id = s.dev.sox.role.leader) ∧
    (∃ s : State, ∃ f : CanFrame, soxAccepts 3 f s.dev ∧ soxSrc f.id = s.dev.sox.role.leader ∧ soxSpec f.id = 0 ∧ (poseOf (leBytes 8 (ownPt (leAt f.data 0 8) s.dev) ++ (f.data.drop 8).take 24) ((leAt f.data 32 1).testBit 0)).tag ≤ s.dev.pt ∧ s.dev.eng.newestTag = none) ∧
    (∃ s : State, ∃ f : CanFrame, soxAccepts 1 f s.dev ∧ soxSrc f.id = s.dev.sox.role.planner ∧ leAt f.data 4 1 % 16 = 0) ∧
    (∃ s : State, ∃ f : CanFrame, soxAccepts 1 f s.dev ∧ soxSrc f.id = s.dev.sox.role.planner ∧ leAt f.data 4 1 % 16 = 1 ∧ (parseEdge f.data 0).action = 2 ∧ (parseEdge f.data 0).chan ≠ 511 ∧ hasSpoke (spokeOf (parseEdge f.data 0).chan) s.dev = true ∧ runningEntry (spokeOf (parseEdge f.data 0).chan) (localOf (parseEdge f.data 0).chan) s.dev = none) ∧
    (∃ s : State, ∃ f : CanFrame, ∃ i, soxAccepts 2 f s.dev ∧ followerIndex (soxSrc f.id) s.dev = some i ∧ i < 15) ∧
    (∃ s : State, ∃ f : CanFrame, ∃ p, soxAccepts 4 f s.dev ∧ s.dev.sox.probe = some p ∧ p.nonce ≠ f.data.take 8) ∧
    (∃ s : State, ∃ f : CanFrame, ∃ p, soxAccepts 5 f s.dev ∧ s.dev.sox.probe = some p ∧ p.nonce = f.data.take 8) := by
  refine ⟨⟨mks [sbus, role { role := 1, leader := 9 }], frm 0 5 63 0 [], ?_⟩,
    ⟨mks [sbus, role { role := 2, leader := 5 }], frm 0 5 63 0 [], ?_⟩,
    ⟨mks [sbus, role { role := 2, leader := 5, poseIn := true }], frm 3 5 63 0 [], ?_⟩,
    ⟨mks [sbus, role { role := 3, leader := 5, planner := 5 }], frm 1 5 9 0 [], ?_⟩,
    ⟨mks [sbus, role { role := 3, leader := 5, planner := 5 }], frm 1 5 9 0 [0, 0, 0, 0, 1, 0, 0, 4], ?_⟩,
    ⟨mks [sbus, role { role := 1, leader := 9, followers := [1, 2, 3, 4, 5, 6, 7, 8, 10, 11, 12, 13, 14, 15, 16] }], frm 2 16 9 0 [], 14, ?_⟩,
    ⟨mks [sbus, sx (fun x => { x with probe := some { nonce := [1] } })], frm 4 9 9 0 [], { nonce := [1] }, ?_⟩,
    ⟨mks [sbus, sx (fun x => { x with probe := some { nonce := List.replicate 8 0 } })], frm 5 9 9 0 [], { nonce := List.replicate 8 0 }, ?_⟩⟩
  all_goals ((try unfold soxAccepts); decide +kernel)

theorem witness_SectionBusTimers :
    (∃ s : State, (∀ c ∈ s.dev.sox.conflicts, c.2 + us (s.dev.sox.role.lossN * s.dev.sox.role.cadPeriod) ≤ s.dev.pt)) ∧
    (∃ s : State, ∃ c : Nat × Nat, c ∈ s.dev.sox.conflicts ∧ s.dev.pt < c.2 + us (s.dev.sox.role.lossN * s.dev.sox.role.cadPeriod)) ∧
    (∃ s : State, isFollower s.dev = true ∧ isSet F.TIM_IMPL_STATUS.LEADER_LOST s.dev = false ∧ s.dev.sox.cadAt + us (s.dev.sox.role.lossN * s.dev.sox.cadUs) ≤ s.dev.pt) ∧
    (∃ s : State, ∃ p, s.dev.sox.poses = [p] ∧ p.at_ + ms 5 ≤ s.dev.pt) ∧
    (∃ s : State, ∃ a, a < 64 ∧ (followerIndex a s.dev).isSome = true ∧ s.dev.eng.proof = false ∧ kget s.dev.sox.edgeSent a 0 + ms 20 ≤ s.dev.pt) ∧
    (∃ s : State, ∃ p, s.dev.sox.edgeAt = some p ∧ s.dev.sox.role.role = 3 ∧ p + ms 50 ≤ s.dev.pt) ∧
    (∃ s : State, s.dev.sox.role.role = 3 ∧ s.dev.pwr.state ≠ .restricted ∧ s.dev.sox.stateAt + ms 20 ≤ s.dev.pt) ∧
    (∃ s : State, ∃ a, ∃ i, a < 64 ∧ followerIndex a s.dev = some i ∧ i < 15 ∧ bitOf F.CAN_SB_PRESENT.IN_FORCE i s.dev = true ∧ kget s.dev.sox.lastState a 0 + ms 50 ≤ s.dev.pt) := by
  refine ⟨⟨mks [sx (fun x => { x with conflicts := [(5, 0), (7, 0)] }), atPt 2500000], ?_⟩,
    ⟨mks [sx (fun x => { x with conflicts := [(5, 0), (7, 250)] }), role { lossN := 1, cadPeriod := 1 }, atPt 250], (7, 250), ?_⟩,
    ⟨mks [role { role := 2 }, atPt 2500000], ?_⟩,
    ⟨mks [sx (fun x => { x with poses := [{ part0 := [], at_ := 0 }] }), atPt 1250000], { part0 := [], at_ := 0 }, ?_⟩,
    ⟨mks [role { role := 1, followers := [62] }, atPt 5000000], 62, ?_⟩,
    ⟨mks [role { role := 3 }, sx (fun x => { x with edgeAt := some 0 }), atPt 12500000], 0, ?_⟩,
    ⟨mks [role { role := 3 }, atPt 5000000], ?_⟩,
    ⟨mks [role { role := 1, followers := [62] }, setF F.CAN_SB_PRESENT.IN_FORCE 1, atPt 12500000], 62, 0, ?_⟩⟩
  all_goals (decide +kernel)

theorem witness_HeartbeatsAndTakeover :
    (∃ s : State, ∃ g, isAttached s.dev = true ∧ gridReached (us 100) (ownSlot s.dev) (implNow s.dev) = some g ∧ s.dev.tdm.lastPulse ≠ some g ∧ isStoker s.dev = true) ∧
    (∃ s : State, isAttached s.dev = true ∧ s.dev.tdm.yielding = none) ∧
    (∃ s : State, isAttached s.dev = true ∧ inPartnerSlot s.dev = true) ∧
    (∃ s : State, ∃ g, isAttached s.dev = true ∧ gridReached (us 100) (partnerSlot s.dev + us 10) (implNow s.dev) = some g ∧ s.dev.tdm.judged ≠ some g ∧ s.dev.tdm.byFrame = false ∧ s.dev.tdm.byLine = false ∧ s.dev.tdm.missed < 4) ∧
    (∃ s : State, ∃ g, tdmState s.dev = 3 ∧ gridReached (us 100) (partnerSlot s.dev + us 10) (implNow s.dev) = some g ∧ s.dev.tdm.judged ≠ some g ∧ s.dev.tdm.byFrame = false ∧ s.dev.tdm.byLine = false ∧ s.dev.tdm.missed = 4 ∧ isArmed s.dev = true ∧ isSet F.TDM_STATUS.SYNC s.dev = true) ∧
    (∃ s : State, ∃ tk, s.dev.tdm.takeover = some tk ∧ tdmState s.dev = 4 ∧ s.dev.pt ≤ tk.at_ + ms 10) ∧
    (∃ s : State, ∃ tk, ∃ g, s.dev.tdm.takeover = some tk ∧ tdmState s.dev = 4 ∧ tk.at_ + ms 10 ≤ s.dev.pt ∧ g < 8 * nSpokes s.dev) ∧
    (∃ s : State, tdmState s.dev = 3 ∧ isArmed s.dev = true ∧ isSet F.TDM_STATUS.SYNC s.dev = true) ∧
    (∃ s : State, ∃ p, s.dev.tdm.yielding = some (p, none) ∧ p + ms 20 ≤ s.dev.pt) ∧
    (∃ s : State, ∃ e, s.dev.tdm.pulseEnd = some e ∧ s.dev.pt ≤ e ∧ s.dev.tdm.lastPulse = none ∧ isAttached s.dev = false ∧ s.dev.pwr.state ≠ .restricted) ∧
    (∃ s : State, ∃ e, s.dev.tdm.pulseEnd = some e ∧ e < s.dev.pt) ∧
    (∃ s : State, ∃ g, g < 8 * nSpokes s.dev ∧ isAttached s.dev = true ∧ isSet (F.DRV_STATUS.DRIVE_EN (g / 8 + 1)) s.dev = true ∧ casOpen (g / 8 + 1) (g % 8) s.dev = true ∧ canEnterSafe s.dev) := by
  refine ⟨⟨mks [tst 3, atPt 12500], 12500, ?_⟩,
    ⟨mks [tst 2], ?_⟩,
    ⟨mks [tst 2, atPt 12500], ?_⟩,
    ⟨mks [tst 2, atPt 15000, td (fun t => { t with missed := 3 })], 15000, ?_⟩,
    ⟨mks [tst 3, inSt .armed, setF F.TDM_STATUS.SYNC 1, atPt 27500, td (fun t => { t with missed := 4 })], 27500, ?_⟩,
    ⟨mks [tst 4, td (fun t => { t with takeover := some ⟨1, 0⟩ }), atPt 2500000, inSt .armed], ⟨1, 0⟩, ?_⟩,
    ⟨mks [tst 4, td (fun t => { t with takeover := some ⟨1, 0⟩ }), atPt 2500000, setF F.TDM_STATUS.SYNC 1], ⟨1, 0⟩, 55, ?_⟩,
    ⟨mks [tst 3, inSt .armed, setF F.TDM_STATUS.SYNC 1], ?_⟩,
    ⟨mks [tst 2, td (fun t => { t with yielding := some (0, none) }), atPt 5000000], 0, ?_⟩,
    ⟨mks [td (fun t => { t with pulseEnd := some 9 }), atPt 9], 9, ?_⟩,
    ⟨mks [td (fun t => { t with pulseEnd := some 9 }), atPt 10], 9, ?_⟩,
    ⟨mks [tst 2, inSt .ready, setF (F.DRV_STATUS.DRIVE_EN 7) 1], 55, ?_⟩⟩
  all_goals ((try unfold canEnterSafe); decide +kernel)

theorem witness_TandemLinkAndStoker :
    (∃ s : State, isStoker s.dev = true ∧ s.dev.tdm.own = []) ∧
    (∃ s : State, ∃ c, ∃ g, isStoker s.dev = true ∧ s.dev.tdm.own = [(c, g)]) ∧
    (∃ s : State, ∃ c, ∃ g, ∃ g', isStoker s.dev = true ∧ s.dev.tdm.own = [(c, g')] ∧ g ≠ g') ∧
    (∃ s : State, ∃ x : TdmFeed, isStoker s.dev = true ∧ s.dev.tdm.attach = none ∧ x.outlet < (outlets s.dev).length) ∧
    (∃ s : State, ∃ x : TdmLoop, ∃ b, isStoker s.dev = true ∧ hasSpoke x.spoke s.dev = true ∧ loopBlock x.spoke x.loop s.dev = some b ∧ drives b = true) ∧
    (∃ s : State, ∃ e, ∃ n, ∃ c, ∃ u, isStoker s.dev = true ∧ findTile 0 e n s.dev = some u ∧ (∀ m ∈ u.marks, m.1 ≤ ownPt c s.dev)) ∧
    (∃ s : State, isSet F.TDM_STATUS.LINK_UP s.dev = true ∧ s.dev.tdm.lastFrame + us 500 ≤ s.dev.pt) ∧
    (∃ s : State, ∃ p, s.dev.tdm.downAt = some p ∧ s.dev.tdm.downSaid = false ∧ p + ms 100 ≤ s.dev.pt) := by
  refine ⟨⟨mks [tst 3], ?_⟩,
    ⟨mks [tst 3, td (fun t => { t with own := [(1, 2)], diverging := true })], 1, 2, ?_⟩,
    ⟨mks [tst 3, td (fun t => { t with own := [(1, 2)] })], 1, 3, 2, ?_⟩,
    ⟨mks [tst 3, en (fun e => { e with table := some { outlets := [{}] } })], ⟨0, 9, ⟨9, 5, .opened, 0, false, false, 0⟩⟩, ?_⟩,
    ⟨mks [tst 4, loaded 7 23 { outs := [{ kind := 1 }] }], ⟨7, 23, [(3, 4)]⟩, { outs := [{ kind := 1 }] }, ?_⟩,
    ⟨mks [tst 3, en (fun e => { e with tiles := [({ kind := 0, e := -1, n := 2, k := 7, fid := 0, home := 4096, incr := [(3, 5)], oldest := some 0 } : Tile)] })], (-1 : Int), (2 : Int), 9, ({ kind := 0, e := -1, n := 2, k := 7, fid := 0, home := 4096, incr := [(3, 5)], oldest := some 0 } : Tile), ?_⟩,
    ⟨mks [setF F.TDM_STATUS.LINK_UP 1, atPt 125000], ?_⟩,
    ⟨mks [td (fun t => { t with downAt := some 0 }), setF F.TDM_STATUS.SYNC 1, atPt 25000000], 0, ?_⟩⟩
  all_goals (decide +kernel)

theorem witness_AttachAndDetach :
    (∃ s : State, ∃ i : Nat, ∃ x : InDesc, Starts i 0xD0 x s.dev ∧ tdmState s.dev = 0 ∧ s.dev.tdm.attach = none) ∧
    (∃ s : State, ∃ i : Nat, ∃ x : InDesc, Starts i 0xD0 x s.dev ∧ isAttached s.dev = true ∧ s.dev.tdm.attach = none) ∧
    (∃ s : State, ∃ a, s.dev.tdm.attach = some a ∧ isAttached s.dev = true) ∧
    (∃ s : State, ∃ i : Nat, ∃ x : InDesc, Starts i 0xD1 x s.dev ∧ s.dev.tdm.detachAt = none) ∧
    (∃ s : State, ∃ i : Nat, ∃ x : InDesc, Starts i 0xD2 x s.dev ∧ isCaptain s.dev = true ∧ (getF F.TDM_PARTNER.FLAGS s.dev).testBit 1 = true ∧ (getF F.TDM_PARTNER.FLAGS s.dev).testBit 2 = true ∧ s.dev.tdm.yielding = none ∧ s.dev.tdm.yieldNext = none) ∧
    (∃ s : State, ∃ i : Nat, ∃ x : InDesc, Starts i 0xD2 x s.dev ∧ isCaptain s.dev = false) ∧
    (∃ s : State, ∃ a, s.dev.tdm.attach = some a ∧ a.passed = true) ∧
    (∃ s : State, ∃ a, s.dev.tdm.attach = some a ∧ a.passed = false ∧ a.sentAt + ms 1 ≤ s.dev.pt) ∧
    (∃ s : State, ∃ a, s.dev.tdm.attach = some a ∧ a.passed = false ∧ a.begun + ms 100 ≤ s.dev.pt) ∧
    (∃ s : State, ∃ a, ∃ p, s.dev.tdm.attach = some a ∧ a.passed = false ∧ attachCheck a p s.dev = 0) ∧
    (∃ s : State, ∃ a, ∃ p, s.dev.tdm.attach = some a ∧ a.passed = false ∧ attachCheck a p s.dev ≠ 0) ∧
    (∃ s : State, ∃ a, s.dev.tdm.attach = some a ∧ a.role = 1 ∧ a.passed = true ∧ a.allIn = false) ∧
    (∃ s : State, ∃ a, s.dev.tdm.attach = some a ∧ a.role = 0 ∧ a.taken = true ∧ a.sent ≠ none ∧ a.next + 1 < a.blocks.length) ∧
    (∃ s : State, ∃ a, ∃ p, s.dev.tdm.attach = some a ∧ a.sent = some p ∧ p + us 50 ≤ s.dev.pt ∧ a.tries < 9 ∧ a.next < a.blocks.length) ∧
    (∃ s : State, tdmState s.dev ≠ 0 ∧ s.dev.tdm.detachAt = none) := by
  refine ⟨⟨mks [rg 31 13 0 [ds 0xD0 [127]]], 31, ds 0xD0 [127], ?_⟩,
    ⟨mks [rg 31 13 0 [ds 0xD0 []], tst 2], 31, ds 0xD0 [], ?_⟩,
    ⟨mks [tst 2, td (fun t => { t with attach := some ({ role := 1, addr := 9, desc := (31, 0), begun := 0, sentAt := 0 } : Attach) })], ({ role := 1, addr := 9, desc := (31, 0), begun := 0, sentAt := 0 } : Attach), ?_⟩,
    ⟨mks [tst 2, rg 31 13 0 [ds 0xD1 []]], 31, ds 0xD1 [], ?_⟩,
    ⟨mks [tst 2, rg 31 13 0 [ds 0xD2 []], setF F.TDM_PARTNER.FLAGS 6], 31, ds 0xD2 [], ?_⟩,
    ⟨mks [rg 31 13 0 [ds 0xD2 []]], 31, ds 0xD2 [], ?_⟩,
    ⟨mks [td (fun t => { t with attach := some ({ role := 0, addr := 9, desc := (31, 0), begun := 0, sentAt := 0, passed := true, taken := true, blocks := [[], []], sent := some 0, tries := 8 } : Attach) })], ({ role := 0, addr := 9, desc := (31, 0), begun := 0, sentAt := 0, passed := true, taken := true, blocks := [[], []], sent := some 0, tries := 8 } : Attach), ?_⟩,
    ⟨mks [tst 1, td (fun t => { t with attach := some ({ role := 1, addr := 9, desc := (31, 0), begun := 0, sentAt := 0 } : Attach) }), atPt 250000], ({ role := 1, addr := 9, desc := (31, 0), begun := 0, sentAt := 0 } : Attach), ?_⟩,
    ⟨mks [tst 1, td (fun t => { t with attach := some ({ role := 1, addr := 9, desc := (31, 0), begun := 0, sentAt := 0 } : Attach) }), atPt 25000000], ({ role := 1, addr := 9, desc := (31, 0), begun := 0, sentAt := 0 } : Attach), ?_⟩,
    ⟨mks [tst 1, td (fun t => { t with attach := some ({ role := 1, addr := 9, desc := (31, 0), begun := 0, sentAt := 0 } : Attach) }), role { role := 1, leader := 9 }], ({ role := 1, addr := 9, desc := (31, 0), begun := 0, sentAt := 0 } : Attach), ⟨0, 9, 7, 0, 0, 1000, true⟩, ?_⟩,
    ⟨mks [tst 1, td (fun t => { t with attach := some ({ role := 1, addr := 9, desc := (31, 0), begun := 0, sentAt := 0 } : Attach) })], ({ role := 1, addr := 9, desc := (31, 0), begun := 0, sentAt := 0 } : Attach), ⟨0, 9, 6, 0, 0, 1000, true⟩, ?_⟩,
    ⟨mks [tst 1, td (fun t => { t with attach := some { ({ role := 1, addr := 9, desc := (31, 0), begun := 0, sentAt := 0 } : Attach) with passed := true, next := 3 } })], { ({ role := 1, addr := 9, desc := (31, 0), begun := 0, sentAt := 0 } : Attach) with passed := true, next := 3 }, ?_⟩,
    ⟨mks [tst 1, td (fun t => { t with attach := some ({ role := 0, addr := 9, desc := (31, 0), begun := 0, sentAt := 0, passed := true, taken := true, blocks := [[], []], sent := some 0, tries := 8 } : Attach) })], ({ role := 0, addr := 9, desc := (31, 0), begun := 0, sentAt := 0, passed := true, taken := true, blocks := [[], []], sent := some 0, tries := 8 } : Attach), ?_⟩,
    ⟨mks [tst 1, td (fun t => { t with attach := some ({ role := 0, addr := 9, desc := (31, 0), begun := 0, sentAt := 0, passed := true, taken := true, blocks := [[], []], sent := some 0, tries := 8 } : Attach) }), atPt 12500], ({ role := 0, addr := 9, desc := (31, 0), begun := 0, sentAt := 0, passed := true, taken := true, blocks := [[], []], sent := some 0, tries := 8 } : Attach), 0, ?_⟩,
    ⟨mks [tst 2], ?_⟩⟩
  all_goals ((try unfold Starts); decide +kernel)

theorem witness_LoopbackCommands :
    (∃ s : State, ∃ v : Word, s.dev.pwr.state ≠ .restricted ∧ v.getLsbD 30 = false ∧ wordField v 0 4 ≠ 3 ∧ lbRefuse { target := wordField v 0 4, depth := wordField v 4 2, spoke := wordField v 6 3, inst := wordField v 9 7, at_ := s.dev.pt } false s.dev = 0) ∧
    (∃ s : State, ∃ v : Word, s.dev.pwr.state ≠ .restricted ∧ s.dev.pwr.state ≠ .ready ∧ v.getLsbD 30 = false) ∧
    (∃ s : State, s.dev.pwr.state = .restricted) ∧
    (∃ s : State, ∃ r, s.dev.lb = some r ∧ s.dev.pwr.state ≠ .restricted ∧ (rget R.PWR_LB_CTL s.dev).getLsbD 31 = false) ∧
    (∃ s : State, ∃ r, ∃ found, ∃ x, s.dev.lb = some r ∧ (lbResult r found (lbMeasures r found s.dev)).1 = some x) ∧
    (∃ s : State, ∃ r, ∃ found, s.dev.lb = some r ∧ (lbResult r found (lbMeasures r found s.dev)).1 = none) ∧
    (∃ s : State, ∃ r, s.dev.lb = some r ∧ r.target = 1) ∧
    (∃ s : State, s.dev.pcie.linkUp = true) ∧
    (∃ s : State, s.dev.pcie.linkUp = false) ∧
    (∃ s : State, s.dev.pwr.state = .armed ∧ armHigh s.dev = true) ∧
    (∃ s : State, ∃ b, tapHolds s.dev = true ∧ coverage b = .both) ∧
    (∃ s : State, ∃ b, tapHolds s.dev = true ∧ (coverage b = .observe ∨ coverage b = .acObserve ∨ coverage b = .comparator ∨ coverage b = .none)) := by
  refine ⟨⟨mks [inSt .ready], (0x000001C6 : Word), ?_⟩,
    ⟨mks [inSt .armed], (0x00000005 : Word), ?_⟩,
    ⟨mks [inSt .restricted], ?_⟩,
    ⟨mks [inSt .ready, fun d => { d with lb := some ⟨0, 0, 0, 0, 0⟩ }], ⟨0, 0, 0, 0, 0⟩, ?_⟩,
    ⟨mks [inSt .ready, fun d => { d with lb := some ⟨6, 0, 0, 0, 0⟩ }], ⟨6, 0, 0, 0, 0⟩, .adc [[409, 2068, 3686]], (0, 20, true), ?_⟩,
    ⟨mks [inSt .ready, fun d => { d with lb := some ⟨6, 0, 0, 0, 0⟩ }], ⟨6, 0, 0, 0, 0⟩, .link 0, ?_⟩,
    ⟨mks [inSt .ready, fun d => { d with lb := some ⟨1, 0, 1, 0, 0⟩ }], ⟨1, 0, 1, 0, 0⟩, ?_⟩,
    ⟨mks [px (fun p => { p with linkUp := true })], ?_⟩,
    ⟨mks [], ?_⟩,
    ⟨mks [inSt .armed, pn (fun p => { p with arm := true })], ?_⟩,
    ⟨mks [pn (fun p => { p with tap := .clamp, cells := [.canTx 3] })], .canTx 3, ?_⟩,
    ⟨mks [pn (fun p => { p with tap := .extest, cells := [.canRx 3] })], .canRx 3, ?_⟩⟩
  all_goals (decide +kernel)

theorem witness_RegisterAccess :
    (∃ s : State, ∃ a, ∃ size, hubOn s.dev = true ∧ a < 0x44000 ∧ (size ≠ 4 ∨ a % 4 ≠ 0)) ∧
    (∃ s : State, ∃ a, hubOn s.dev = true ∧ a % 4 = 0 ∧ a < 0x6000 ∧ regFind a = none) ∧
    (∃ s : State, ∃ a, ∃ k, hubOn s.dev = true ∧ a % 4 = 0 ∧ windowOf a = some k ∧ hasSpoke k s.dev = false) ∧
    (∃ s : State, ∃ a, ∃ k, hubOn s.dev = true ∧ a % 4 = 0 ∧ windowOf a = some k ∧ hasSpoke k s.dev = true ∧ hubHeld a = false ∧ windowDown k s.dev = true) ∧
    (∃ s : State, ∃ a, ∃ k, hubOn s.dev = true ∧ a % 4 = 0 ∧ windowOf a = some k ∧ hasSpoke k s.dev = true ∧ hubHeld a = false ∧ windowDown k s.dev = false) ∧
    (∃ s : State, ∃ n, hubOn s.dev = true ∧ n < 256 ∧ (n % 4 = 1 ∨ n % 4 = 2)) ∧
    (∃ s : State, ∃ n, hubOn s.dev = true ∧ 256 ≤ n ∧ n < 4096) ∧
    (∃ s : State, hubOn s.dev = true) ∧
    (∃ s : State, ∃ c, hubOn s.dev = true ∧ c < 4 ∧ s.dev.pwr.state ≠ .restricted) ∧
    (∃ s : State, ∃ v : Word, ∃ c : Nat × Instr, hubOn s.dev = true ∧ v.toNat % 256 = c.1) := by
  refine ⟨⟨mks [inSt .ready], 2, 4, ?_⟩,
    ⟨mks [inSt .ready], 0x5FFC, ?_⟩,
    ⟨mks [inSt .ready, fun d => { d with chip := { variant := .yn4 } }], 0x20000, 4, ?_⟩,
    ⟨mks [inSt .ready], 0x2FFFC, 7, ?_⟩,
    ⟨mks [inSt .ready, lk 7 { up := true }], 0x2FFFC, 7, ?_⟩,
    ⟨mks [inSt .ready], 253, ?_⟩,
    ⟨mks [inSt .ready], 256, ?_⟩,
    ⟨mks [inSt .ready], ?_⟩,
    ⟨mks [inSt .ready], 3, ?_⟩,
    ⟨mks [inSt .ready], (0x105 : Word), (5, Instr.selftest), ?_⟩⟩
  all_goals (decide +kernel)

theorem witness_StepTakesTheFrontCommand :
    (∃ s : State, ∃ c : Instr, ∃ rest : List Instr, s.pending = c :: rest) ∧
    (∃ s : State, s.pending = []) := by
  refine ⟨⟨{ mks [] with pending := [.hubFault] }, .hubFault, [], ?_⟩,
    ⟨mks [], ?_⟩⟩
  all_goals (decide +kernel)

theorem witness_QueuesKeepOrderAndBounds :
    (∃ e : LinkEnd, 1 < e.replay.length ∧ e.replay.length ≤ 32 ∧ (∀ x ∈ e.replay.zipIdx, x.1.seq = (63 + x.2) % 64) ∧
      e.nextSeq = (63 + e.replay.length) % 64) ∧
    (∃ q : List Rise, 1 < q.length ∧ q.Pairwise (fun a b => riseAhead b a = false)) ∧
    (∃ (e : LogEntry) (d : Dev), e.sev < 8 ∧ (galleyWaiting d).length ≤ 64) :=
  ⟨⟨{ replay := [{ seq := 63, payload := .data (.rxBad 3) }, { seq := 0, payload := .data (.rxBad 4) }], nextSeq := 1 }, by decide +kernel⟩,
    ⟨[⟨1, 2, 0, false⟩, ⟨1, 3, 0, false⟩], by decide⟩,
    ⟨⟨0x0102, 3, 7, 2, 5, 1, 2, 3, 0, 0, 0⟩, Dev.reset, by decide +kernel⟩⟩

theorem witness_CommandsKeepQueueAndMemory :
    (∃ (c : Instr) (s t : State), touchesMemory c = false ∧ exec c s = .next t) ∧
    (∃ s t : State, s.pending.length = 2 ∧ RunsTo s.pending.length s t) :=
  ⟨⟨.pcieLoopback, mks [], _, rfl, rfl⟩, ⟨{ mks [] with pending := [.lanePowerUp, .pcieLoopback] }, _, rfl, _, rfl, _, rfl, rfl⟩⟩

theorem witness_StepsKeepMemoryCanonical :
    (∃ s t : State, s.memOk ∧ s.pending = [] ∧ step s = .next t) ∧ (∃ s t : State, s.memOk ∧ s.pending ≠ [] ∧ step s = .next t) :=
  ⟨⟨State.reset, _, by unfold State.memOk; decide, rfl, rfl⟩, ⟨{ mks [] with pending := [.pcieLoopback] }, _, by unfold State.memOk; decide, by decide, rfl⟩⟩

theorem witness_ResetState :
    (0 ≠ R.PWR_CAUSE.off ∧ 0 ≠ R.LOG_PCYC.off ∧ 0 ≠ R.HLT_PKG.off) ∧ (31 < 32 ∧ ringState 31 State.reset.dev = .stopped) ∧
    canState 3 State.reset.dev = 3 := by
  decide +kernel

/-- A unit number just beyond the ones a spoke has, and a spoke the variant lacks. -/
theorem witness_AbsentUnitsFault :
    hasSpoke 8 (mks []).dev = false ∧ hasSpoke 0 (mks []).dev = false ∧ hasSpoke 7 (mks []).dev = true ∧
    hasSpoke 3 (mks [fun d => { d with chip := { variant := .yn2 } }]).dev = false ∧ hasInst 8 168 (mks []).dev = false ∧ hasInst 18 8 (mks []).dev = false := by
  decide +kernel

/-- Commands answer a next state. -/
def allNext (cs : List Instr) (s : State) : Bool :=
  cs.all fun c => match exec c s with
    | .next _ => true
    | _ => false

theorem witness_FramesOfSpokeCommands :
    allNext [Instr.triggerTimeout 7 1, .sclkCheck 7 (some 3), .notchLock 7 1 5 3, .notchRelease 7 1 (-40) 25000000, .chopThreshold 7 1 true, .pulseEdge 7 1 3,
      .bootstrapRefresh 7 1, .referenceEdge 7 1, .sidePeakShift 7 1 true 1 0 25000000, .clampEvent 7 1, .conversionDone 7 1 3, .encoderEdge 7 1 3 9,
      .spiFrameDone 7 1 [], .deadTimeEnd 7 1, .acquisitionDetection 7 1 3 5, .lockAchieved 7 1 5, .pullInTimeout 7 1, .lossOfLock 7 1 5 0 0 50000000,
      .slipLimitExpiry 7 1, .peakIReached 7 1, .boostTmaxExpiry 7 1, .endOfTravel 7 1 [3, 5], .decayKink 7 1 [5, 3], .offWinExpiry 7 1,
      .chopPeriod 7 1, .windowEnd 7 1, .peakTExpiry 7 1, .openLoadOn 7 1, .openLoadOff 7 1 true, .shortToBattery 7 1,
      .shortToGround 7 1, .overcurrent 7 1, .overtemperature 7 1, .highSideOvercurrent 7 1, .boostFailure 7, .casOverload 7 1 [401],
      .outOfSupply 7 true, .dtMaxExpiry 7 1, .channelDisabledClear 7 1, .cassetteDisabledClear 7 1, .recovered 7 1, .overtempCooled 7 1,
      .retryEnd 7 1, .supplyRecovery 7 true, .pwmEnable 7 1 true, .midPeriodUpdate 7 1, .clear 7 1, .windowStart 7 1, .periodStart 7 1,
      .trip 7 1, .powerGoodLoss 7, .spiPoll 7 1, .nodeCrossing 7 1 3, .entryStart 7 1, .entryEnd 7 1, .railAtTarget 7 3,
      .prechargeTimeout 7 3, .spokeLinkTrained 7, .agcUpdate 7 1 3, .derateCheck 7 []] (mks []) = true := by
  decide +kernel

theorem witness_FramesOfHubCommands :
    allNext [Instr.lanePowerUp, .wbIdle 4 5, .wbMaxAge 4 5, .markHoldExpiry 4 5, .idle 3 .hub ⟨1, 2⟩, .ptadj 3 ⟨1, 2⟩ 0 true,
      .frameBadCrc 3 .hub, .park, .selftest, .supplyTimeout, .supplyRetry, .aoClockFail, .busIntegration 3, .arbitration 3,
      .busOffRecovery 3, .recover 3, .summaryPeriod 3, .canEnable 3, .protocolException 3, .filterWord2Write 3 0 6, .haltClear 3,
      .conflictEnd, .posePartsTimeout, .cadenceSend, .edgeKeepalive 3, .stateKeepalive, .probeFrameSend,
      .logbookEvent ⟨0x0102, 3, 7, 2, 5, 1, 2, 3⟩, .recordStored, .scanDone, .freezeTimeout, .erase 3, .eraseDone, .colophonSave,
      .leakTimerExpiry 3 0, .hltClear 3 0, .marginApply, .nudgeRaise 3 0 1 .host, .nudgeLower 3 0 1 .host,
      .pendingWordWrite 3 0 6 6 .host, .configurationWrite 3 0 6 .host, .plannerLost, .followerLost 3, .probeWindowEnd,
      .loopbackStart 6, .loopbackStop, .tileWriteBack 4 5, .casCompletion (.ok []), .attachTimeout, .tandemLinkDown,
      .tandemLinkDownTimeout, .partnerPeriodEnd, .digest true 3 0, .yield_ true 3 0, .attach true ⟨0, 9, 7, 0, 0, 1000, true⟩,
      .xfer true 3 true [], .xferAck true 3, .detach true 3, .wbdone true 4 5 3, .tandemFeed true [], .resp 3 ⟨1, 2⟩ 0 6, .ptAdjustment,
      .monitorMeasurement 3 (.margin 5), .heartbeatPulse, .interruptTake 3 0 .none, .eoi 3 0 .host true, .ptsync 3 .hub ⟨1, 2⟩ 0 none,
      .int 3 ⟨1, 2⟩ 0 true, .missGraceExpiry 3, .decisionReport, .tableChecksDone, .epochRecord, .slewDone, .canDisable 3,
      .receiveError 3 0 true {}, .arbitrationLost 3, .leaderLost, .powerFailWarning true, .replan, .loopbackDone (.link 3),
      .invalidateTimeout 4 5, .xferResend, .yieldTimeout, .quietTimeout 7, .attachFrameSend, .heartbeat true 3 0 7 3,
      .loopstate true []] (mks []) = true := by
  decide +kernel

theorem witness_FramesOfRingOperations :
    allNext [Instr.tileRequest 31, .wbBuffer 31, .gnssBuffer 31, .rateTable 31, .tileInvalidate 31, .proof 31, .loopSetpoint 31, .loopMode 31,
      .loopCoeff 31, .nop 31, .logRead 31, .fwBegin 31, .fwChunk 31, .moderationTimer 31, .tableCommit 31, .fieldSet 31, .tilePush 31,
      .outletForce 31, .logFreeze 31, .logRelease 31, .arm 31, .disarm 31, .canSend 31, .canAbort 31, .canBuffer 31, .healthBuffer 31,
      .healthNow 31, .tdmDetach 31, .tdmYield 31, .tdmBuffer 31, .sbRole 31, .sbProbe 31, .sbBuffer 31, .tableLoad 31, .ringStopped 31,
      .msixUnmask (.enable true), .d0Entry, .ringStart 31, .ringStop 31, .bufferReadDone 31 0 (.ok []), .loopCommandTimeout 31 0,
      .hifCfgWrite 0 true, .tdmAttach 31] (mks []) = true := by
  decide +kernel

/-! ### A signed image set (R55, R118) -/

/-- RFC 6979, A.2.5: the signature of the message "sample" over P-256 (R55), and one with another s. -/
theorem test_ecdsa :
    let r := 0xEFD48B2AACB6A8FD1140DD9CD45E81D69D2C877B56AAF991C34D0EA84EAF3716
    let v := 0xF7CB1C942D657C41D436C7A1B6E29F65F3E900DBB9AFF4064DC4AB2F843ACDA8
    let q := (0x60FED4BA255A9D31C961EB74C6356D68C049B8923B61FA6CE669622E60F29FB6, 0x7903FE1008B8BC99A41AE9E95628BC64F2F1B20C2D7E9F5177A3C294D4462299)
    let e := beVal (sha256 [0x73, 0x61, 0x6d, 0x70, 0x6c, 0x65])
    ecdsaValid e r v q = true ∧ ecdsaValid e r (v + 1) q = false := by decide +kernel

theorem signed_parses : parseSet (fused Dev.reset).chip signedSet = some setX := by decide +kernel

theorem signed_accepted (d : Dev) (h : d.chip = (fused Dev.reset).chip) : acceptedSet { bytes := signedSet } d = some setX := by
  unfold acceptedSet
  rw [h, signed_parses]
  decide

theorem fw_chip (bs : List Byte) : (fwState bs).dev.chip = (fused Dev.reset).chip := rfl

theorem staged_is (bs : List Byte) : stagedBytes (fwState bs) = bs := Laws.memReadBytes_memWriteBytes bs [] 0

theorem staged_parses : parseSet (fwState signedSet).dev.chip (stagedBytes (fwState signedSet)) = some setX := by
  rw [staged_is, fw_chip]
  exact signed_parses

theorem nothing_parsed {o : Option ImageSet} {P : ImageSet → Prop} (h : o = none) : ∀ x, o = some x → P x := by simp [h]

theorem witness_ImageSetsAndAbiComplete :
    (∃ s : State, ∃ a, ∃ x, s.dev.pwr.state = .images ∧ isSet F.PWR_STATE.IMG_WAIT s.dev = false ∧ s.dev.pwr.fromStore = false ∧ s.dev.pwr.seqB < s.dev.pwr.seqA ∧ acceptedSet a s.dev = some x) ∧
    (∃ s : State, ∃ b, ∃ x, s.dev.pwr.state = .images ∧ isSet F.PWR_STATE.IMG_WAIT s.dev = false ∧ s.dev.pwr.fromStore = false ∧ s.dev.pwr.seqA < s.dev.pwr.seqB ∧ acceptedSet b s.dev = some x) ∧
    (∃ s : State, ∃ a, ∃ b, ∃ x, s.dev.pwr.state = .images ∧ isSet F.PWR_STATE.IMG_WAIT s.dev = false ∧ s.dev.pwr.fromStore = false ∧ s.dev.pwr.seqB < s.dev.pwr.seqA ∧ acceptedSet a s.dev = none ∧ acceptedSet b s.dev = some x) ∧
    (∃ s : State, ∃ a, ∃ b, s.dev.pwr.state = .images ∧ isSet F.PWR_STATE.IMG_WAIT s.dev = false ∧ s.dev.pwr.fromStore = false ∧ s.dev.pwr.seqB < s.dev.pwr.seqA ∧ acceptedSet a s.dev = none ∧ acceptedSet b s.dev = none) ∧
    (∃ s : State, s.dev.pwr.state = .images ∧ isSet F.PWR_STATE.IMG_WAIT s.dev = false ∧ s.dev.pwr.fromStore = true ∧ s.dev.pwr.storeValid = true) ∧
    (∃ s : State, ∃ v : Word, v.toNat % 65536 ≠ 0 ∧ s.dev.pwr.state = .images) ∧
    (∃ s : State, ∃ v : Word, v.toNat % 65536 ≠ 0 ∧ s.dev.pwr.state ∉ [.images, .ready, .armed, .restricted]) := by
  refine ⟨⟨mks [fused, inSt .images, pw (fun p => { p with seqA := 2, seqB := 1 })], { bytes := signedSet }, setX, ⟨by decide, by decide +kernel, by decide, by decide, signed_accepted _ (by decide +kernel)⟩⟩,
    ⟨mks [fused, inSt .images, pw (fun p => { p with seqA := 0, seqB := 1 })], { bytes := signedSet }, setX, ⟨by decide, by decide +kernel, by decide, by decide, signed_accepted _ (by decide +kernel)⟩⟩,
    ⟨mks [fused, inSt .images, pw (fun p => { p with seqA := 2, seqB := 1 })], {}, { bytes := signedSet }, setX, ⟨by decide, by decide +kernel, by decide, by decide, by decide, signed_accepted _ (by decide +kernel)⟩⟩,
    ⟨mks [inSt .images, pw (fun p => { p with seqA := 2, seqB := 1 })], {}, {}, ?_⟩,
    ⟨mks [inSt .images, pw (fun p => { p with fromStore := true, storeValid := true })], ?_⟩,
    ⟨mks [inSt .images], 1, ?_⟩,
    ⟨mks [inSt .boot], 1, ?_⟩⟩
  all_goals (decide +kernel)

theorem witness_FirmwareCommands :
    (∃ s : State, ∃ i : Nat, ∃ x : InDesc, Starts i 0xB1 x s.dev ∧ s.dev.host.fwOpen = true ∧ paramAt x 24 4 + x.len ≤ s.dev.host.fwLength) ∧
    (∃ s : State, ∃ i : Nat, ∃ x : InDesc, Starts i 0xB1 x s.dev ∧ s.dev.host.fwOpen = false) ∧
    (∃ s : State, ∃ i : Nat, ∃ x : InDesc, Starts i 0xB2 x s.dev ∧ s.dev.host.fwOpen = false) ∧
    (∃ s : State, ∃ i : Nat, ∃ x : InDesc, ∃ defs, ∃ role, ∃ set, Starts i 0xB2 x s.dev ∧ s.dev.host.fwOpen = true ∧ s.dev.host.flashCommit = none ∧ (parseSet s.dev.chip (stagedBytes s)).map (fun z => if z.images.any (·.kind == 5) then { z with defaults := defs, role := role } else z) = some set ∧ commitDetail (some set) s.dev.chip = 0 ∧ paramBits x 24 0 1 = 0 ∧ paramBits x 24 1 1 = 0) ∧
    (∃ s : State, ∃ i : Nat, ∃ x : InDesc, Starts i 0xB2 x s.dev ∧ s.dev.host.fwOpen = true ∧ s.dev.host.flashCommit = none ∧ (∀ set, parseSet s.dev.chip (stagedBytes s) = some set → layoutOk set = false ∨ ∃ v ∈ set.images, imageDetail v s.dev.chip ≠ 0)) ∧
    (∃ s : State, ∃ i : Nat, ∃ j, s.dev.host.flashCommit = some (i, j, false)) ∧
    (∃ s : State, ∃ i : Nat, ∃ x : InDesc, Starts i 0xB3 x s.dev ∧ s.dev.host.fwCommitted = true ∧ isArmed s.dev = false) ∧
    (∃ s : State, ∃ i : Nat, ∃ x : InDesc, Starts i 0xB3 x s.dev ∧ s.dev.host.fwCommitted = false) := by
  refine ⟨⟨mks [rg 31 11 0 [({ ds 0xB1 [0, 1, 0, 0] with len := 3, buf := [1, 2, 3] } : InDesc)], hs (fun h => { h with fwOpen := true, fwLength := 259 })], 31, ({ ds 0xB1 [0, 1, 0, 0] with len := 3, buf := [1, 2, 3] } : InDesc), ?_⟩,
    ⟨mks [rg 31 11 0 [ds 0xB1 []]], 31, ds 0xB1 [], ?_⟩,
    ⟨mks [rg 31 11 0 [ds 0xB2 []]], 31, ds 0xB2 [], ?_⟩,
    ⟨fwState signedSet, 31, ds 0xB2 [], [], none, setX, ⟨by unfold Starts; decide +kernel, by decide +kernel, by decide +kernel, by rw [staged_parses]; decide +kernel, by decide +kernel, by decide +kernel, by decide +kernel⟩⟩,
    ⟨{ mks [rg 31 11 0 [ds 0xB2 []], hs (fun h => { h with fwOpen := true, fwLength := 256 })] with mem := { fwSet := [(0, 7)] } }, 31, ds 0xB2 [], ⟨by unfold Starts; decide +kernel, by decide, by decide, nothing_parsed (by decide +kernel)⟩⟩,
    ⟨mks [rg 31 11 0 [{ ds 0xB2 [] with stage := .waiting }], hs (fun h => { h with fwOpen := true, flashCommit := some (31, 0, false) })], 31, 0, ?_⟩,
    ⟨mks [rg 31 11 0 [ds 0xB3 []], inSt .ready, hs (fun h => { h with fwCommitted := true })], 31, ds 0xB3 [], ?_⟩,
    ⟨mks [rg 31 11 0 [ds 0xB3 []]], 31, ds 0xB3 [], ?_⟩⟩
  all_goals ((try unfold Starts); decide +kernel)

end Sys2Proof.Tests
end

section
/-! Proofs of the scope statements (00_scope.md): what a step runs, and what a command answers about a unit that is not there (R1, R12, R13). -/
namespace Sys2Proof.Proofs
open Sys2Proof Sys2Proof.Machine Sys2Proof.Laws

/-! ### One step -/

theorem step_front {s : State} {c : Instr} {rest : List Instr} (h : s.pending = c :: rest) : step s = exec c { s with pending := rest } := by
  simp only [step, h]

theorem step_empty {s : State} (h : s.pending = []) : step s = .next { s with dev := tickDev s.dev } := by
  simp only [step, h, tick]

/-- Settles O53: by the two arms of `step`. -/
theorem stepTakesTheFrontCommand : Obligations.StepTakesTheFrontCommand :=
  ⟨fun _ _ _ => step_front, fun _ => step_empty⟩

/-! ### The unit a command names -/

/-- The command is about spoke k: it answers as `onSpoke` does for some effect on the device. -/
def ActsOnSpoke (k : Nat) (c : Instr) : Prop := ∀ s, ∃ f, exec c s = onSpoke k f s

/-- The command is about unit n of spoke k, of a kind every spoke has m of (R13). -/
def ActsOnUnit (k n m : Nat) (c : Instr) : Prop := ∀ s, ∃ f, exec c s = onUnit k n m f s

/-- The command is about unit n of a kind the hub has m of. What it acts on may be s with a memory already written, as for TABLE_LOAD. -/
def ActsOnHub (n m : Nat) (c : Instr) : Prop := ∀ s, ∃ f u, exec c s = onHub n m f u

theorem onUnit_absentSpoke {k n m : Nat} (f : Dev → Dev) {s : State} (h : hasSpoke k s.dev = false) (hn : n < m) :
    onUnit k n m f s = .next s := by
  rw [onUnit, if_pos hn, onSpoke_absent k f s h]

theorem onUnit_absent {k n m : Nat} (f : Dev → Dev) (s : State) (hn : m ≤ n) : onUnit k n m f s = .fault (.absentUnit n) := by
  rw [onUnit, if_neg (Nat.not_lt.mpr hn)]

theorem ActsOnSpoke.absentSpoke {k : Nat} {c : Instr} (hc : ActsOnSpoke k c) {s : State} (h : hasSpoke k s.dev = false) :
    exec c s = .next s := by
  obtain ⟨f, hf⟩ := hc s
  rw [hf, onSpoke_absent k f s h]

theorem ActsOnUnit.absentSpoke {k n m : Nat} {c : Instr} (hc : ActsOnUnit k n m c) {s : State} (h : hasSpoke k s.dev = false) (hn : n < m) :
    exec c s = .next s := by
  obtain ⟨f, hf⟩ := hc s
  rw [hf, onUnit_absentSpoke f h hn]

theorem ActsOnUnit.absentUnit {k n m : Nat} {c : Instr} (hc : ActsOnUnit k n m c) (s : State) (hn : m ≤ n) :
    exec c s = .fault (.absentUnit n) := by
  obtain ⟨f, hf⟩ := hc s
  rw [hf, onUnit_absent f s hn]

theorem ActsOnHub.absentUnit {n m : Nat} {c : Instr} (hc : ActsOnHub n m c) (s : State) (hn : m ≤ n) : exec c s = .fault (.absentUnit n) := by
  obtain ⟨f, u, hf⟩ := hc s
  rw [hf, onHub_absent n m f u hn]

/-! ### The commands about each kind of unit -/

/-- Commands about a spoke's link and the frames on it. -/
def linkCommands (k : Nat) (side : Side) (h : LinkHdr) (e : SchedP) (f : FeedP) (cmd : CmdP) (x : DataP) (i : Nat) (l : Bool) (o : Nat) (v : Word) :
    List Instr :=
  [.spokeLinkTrained k, .spokeTrainTimeout k, .spokeLoaded k, .spokeDeclaresLinkLost k, .linkLost k, .retrainingDone k, .retrainTimeout k,
    .resume k h, .ackTimeout k side, .nak k side h, .frameBadCrc k side, .idle k side h, .sched k h e, .feed k h f, .cmd k h cmd, .data k side h x,
    .int k h i l, .resp k h o v]

/-- Commands about drive channel n of spoke k that carry no measurement. -/
def channelCommands (k n : Nat) : List Instr :=
  [.entryStart k n, .entryEnd k n, .windowStart k n, .windowEnd k n, .peakIReached k n, .boostTmaxExpiry k n, .peakTExpiry k n, .overcurrent k n]

/-- Commands about ring i. -/
def ringCommands (i : Nat) : List Instr :=
  [.nop i, .arm i, .disarm i, .pose i, .tableLoad i, .tableCommit i, .canSend i, .logRead i, .fwBegin i, .sbRole i, .tdmAttach i, .ringStart i,
    .ringStop i, .ringReset i, .ringStopped i, .moderationTimer i]

/-- Commands about CAN controller n. -/
def controllerCommands (n : Nat) : List Instr :=
  [.canEnable n, .canDisable n, .haltClear n, .arbitration n, .recover n, .summaryPeriod n]

/-! Each meaning is written with `onSpoke`, `onUnit` or `onHub`, so the effect is read off it. -/

section
variable (k n : Nat)

theorem linkCommands_actOnSpoke (side : Side) (h : LinkHdr) (e : SchedP) (f : FeedP) (cmd : CmdP) (x : DataP) (i : Nat) (l : Bool) (o : Nat)
    (v : Word) : ∀ c ∈ linkCommands k side h e f cmd x i l o v, ActsOnSpoke k c := by
  simp only [linkCommands, List.forall_mem_cons, List.not_mem_nil, IsEmpty.forall_iff, implies_true, and_true]
  and_intros
  all_goals exact fun _ => ⟨_, rfl⟩

theorem boostFailure_actsOnSpoke : ActsOnSpoke k (.boostFailure k) := fun _ => ⟨_, rfl⟩

theorem channelCommands_actOnUnit : ∀ c ∈ channelCommands k n, ActsOnUnit k n 64 c := by
  simp only [channelCommands, List.forall_mem_cons, List.not_mem_nil, IsEmpty.forall_iff, implies_true, and_true]
  and_intros
  all_goals exact fun _ => ⟨_, rfl⟩

theorem endOfTravel_actsOnUnit (samples : List Nat) : ActsOnUnit k n 64 (.endOfTravel k n samples) := fun _ => ⟨_, rfl⟩

theorem decayKink_actsOnUnit (emf : List Nat) : ActsOnUnit k n 64 (.decayKink k n emf) := fun _ => ⟨_, rfl⟩

theorem loopTrigger_actsOnUnit : ActsOnUnit k n 24 (.loopTrigger k n) := fun _ => ⟨_, rfl⟩

theorem sampleComputed_actsOnUnit : ActsOnUnit k n 24 (.sampleComputed k n) := fun _ => ⟨_, rfl⟩

theorem pullInTimeout_actsOnUnit : ActsOnUnit k n 24 (.pullInTimeout k n) := fun _ => ⟨_, rfl⟩

theorem periodStart_actsOnUnit : ActsOnUnit k n 12 (.periodStart k n) := fun _ => ⟨_, rfl⟩

theorem referenceEdge_actsOnUnit : ActsOnUnit k n 12 (.referenceEdge k n) := fun _ => ⟨_, rfl⟩

theorem clear_actsOnUnit : ActsOnUnit k n 12 (.clear k n) := fun _ => ⟨_, rfl⟩

theorem trip_actsOnUnit : ActsOnUnit k n 4 (.trip k n) := fun _ => ⟨_, rfl⟩

theorem pulseEdge_actsOnUnit (width : Nat) : ActsOnUnit k n 8 (.pulseEdge k n width) := fun _ => ⟨_, rfl⟩

theorem spiPoll_actsOnUnit : ActsOnUnit k n 2 (.spiPoll k n) := fun _ => ⟨_, rfl⟩

theorem notchRelease_actsOnUnit (db : Int) (lasting : Nat) : ActsOnUnit k n 3 (.notchRelease k n db lasting) := fun _ => ⟨_, rfl⟩

theorem ringCommands_actOnHub : ∀ c ∈ ringCommands n, ActsOnHub n 32 c := by
  simp only [ringCommands, List.forall_mem_cons, List.not_mem_nil, IsEmpty.forall_iff, implies_true, and_true]
  and_intros
  all_goals exact fun _ => ⟨_, _, rfl⟩

theorem controllerCommands_actOnHub : ∀ c ∈ controllerCommands n, ActsOnHub n 4 c := by
  simp only [controllerCommands, List.forall_mem_cons, List.not_mem_nil, IsEmpty.forall_iff, implies_true, and_true]
  and_intros
  all_goals exact fun _ => ⟨_, _, rfl⟩

end

/-! ### Absent units -/

/-- In a part without spoke k, the commands about the engines of that spoke find nothing (log entry 112). Units 0 and 1 are of every kind (R13). -/
theorem engineCommands_absentSpoke {s : State} {k : Nat} (hk : hasSpoke k s.dev = false) {n : Nat} (hn : n < 2) (width : Nat) (db : Int) (m : Nat) :
    ∀ c ∈ [Instr.boostFailure k, .loopTrigger k n, .sampleComputed k n, .periodStart k n, .referenceEdge k n, .trip k n, .clear k n,
      .pulseEdge k n width, .spiPoll k n, .notchRelease k n db m, .pullInTimeout k n], exec c s = .next s := by
  have unit {u : Nat} {c : Instr} (hc : ActsOnUnit k n u c) (hu : 2 ≤ u) : exec c s = .next s := hc.absentSpoke hk (by omega)
  simp only [List.forall_mem_cons, List.not_mem_nil, IsEmpty.forall_iff, implies_true, and_true]
  and_intros
  · exact (boostFailure_actsOnSpoke k).absentSpoke hk
  · exact unit (loopTrigger_actsOnUnit k n) (by decide)
  · exact unit (sampleComputed_actsOnUnit k n) (by decide)
  · exact unit (periodStart_actsOnUnit k n) (by decide)
  · exact unit (referenceEdge_actsOnUnit k n) (by decide)
  · exact unit (trip_actsOnUnit k n) (by decide)
  · exact unit (clear_actsOnUnit k n) (by decide)
  · exact unit (pulseEdge_actsOnUnit k n width) (by decide)
  · exact unit (spiPoll_actsOnUnit k n) (by decide)
  · exact unit (notchRelease_actsOnUnit k n db m) (by decide)
  · exact unit (pullInTimeout_actsOnUnit k n) (by decide)

theorem hltClear_absent {cls i : Nat} {d : Dev} (hcls : cls = 8 ∨ (10 ≤ cls ∧ cls ≤ 18)) (h : hasInst cls i d = false) : hltClear cls i d = d := by
  simp [hltClear, hcls, h]

/-- Settles O57: each command answers by `onSpoke`, `onUnit` or `onHub`, and these say what a unit that is not there does. -/
theorem absentUnitsFault : Obligations.AbsentUnitsFault := by
  refine ⟨?absentSpoke, ?absentUnit, ?absentRing, ?absentController, ?absentInstance⟩
  case absentSpoke =>
    intro s k hk n h e f cmd side x i l o v samples db m hn c hc
    have hc : c ∈ linkCommands k side h e f cmd x i l o v ++ (channelCommands k n ++ .endOfTravel k n samples :: _) := hc
    rw [List.mem_append, List.mem_append, List.mem_cons] at hc
    obtain hlink | hchan | rfl | heng := hc
    · exact (linkCommands_actOnSpoke k side h e f cmd x i l o v c hlink).absentSpoke hk
    · exact (channelCommands_actOnUnit k n c hchan).absentSpoke hk (by omega)
    · exact (endOfTravel_actsOnUnit k n samples).absentSpoke hk (by omega)
    · exact engineCommands_absentSpoke hk hn v.toNat db m c heng
  case absentUnit =>
    refine fun s k n _ => ⟨fun hn c hc => ?_, fun hn samples emf => ⟨?_, ?_⟩, fun hn => ?_, fun hn => ?_⟩
    · exact (channelCommands_actOnUnit k n c hc).absentUnit s hn
    · exact (endOfTravel_actsOnUnit k n samples).absentUnit s hn
    · exact (decayKink_actsOnUnit k n emf).absentUnit s hn
    · simp only [List.forall_mem_cons, List.not_mem_nil, IsEmpty.forall_iff, implies_true, and_true]
      exact ⟨(loopTrigger_actsOnUnit k n).absentUnit s hn, (sampleComputed_actsOnUnit k n).absentUnit s hn,
        (pullInTimeout_actsOnUnit k n).absentUnit s hn⟩
    · simp only [List.forall_mem_cons, List.not_mem_nil, IsEmpty.forall_iff, implies_true, and_true]
      exact ⟨(periodStart_actsOnUnit k n).absentUnit s hn, (referenceEdge_actsOnUnit k n).absentUnit s hn,
        (clear_actsOnUnit k n).absentUnit s hn⟩
  case absentRing => exact fun s i hi c hc => (ringCommands_actOnHub i c hc).absentUnit s hi
  case absentController => exact fun s n hn c hc => (controllerCommands_actOnHub n c hc).absentUnit s hn
  case absentInstance =>
    intro s cls i hcls h
    rw [exec_hltClear, execHltClear, run_next, hltClear_absent hcls h]

end Sys2Proof.Proofs
end

section
/-! Bits of flags and bit maps: what setting, clearing and counting do to the bit named and to the others (R4, R9). -/
namespace Sys2Proof.Proofs
open Sys2Proof Sys2Proof.Machine Sys2Proof.Laws

/-! ### Bits of a number -/

theorem testBit_sub_two_pow {v b : Nat} (h : v.testBit b = true) (c : Nat) : (v - 2 ^ b).testBit c = (decide (c ≠ b) && v.testBit c) := by
  have hle : 2 ^ b ≤ v := Nat.ge_two_pow_of_testBit h
  obtain ⟨u, rfl⟩ : ∃ u, v = 2 ^ b + u := ⟨v - 2 ^ b, by omega⟩
  rw [Nat.add_sub_cancel_left]
  rw [Nat.testBit_two_pow_add_eq, Bool.not_eq_true'] at h
  obtain hc | rfl | hc := Nat.lt_trichotomy c b
  · simp [Nat.testBit_two_pow_add_gt hc, hc.ne]
  · simp [h]
  · obtain ⟨n, rfl⟩ : ∃ n, c = b + 1 + n := ⟨c - (b + 1), by omega⟩
    have hu : u / 2 ^ b % 2 = 0 := by
      rw [Nat.testBit_eq_decide_div_mod_eq, decide_eq_false_iff_not] at h
      omega
    have hq : (2 ^ b + u) / 2 ^ (b + 1) = u / 2 ^ (b + 1) := by
      rw [pow_succ, ← Nat.div_div_eq_div_mul, ← Nat.div_div_eq_div_mul, Nat.add_div_left _ (by positivity)]
      omega
    have hbit := congrArg (Nat.testBit · n) hq
    rw [Nat.testBit_div_two_pow, Nat.testBit_div_two_pow, Nat.add_comm n] at hbit
    simp [hc.ne', hbit]

theorem testBit_putBit (v b : Nat) (on : Bool) (c : Nat) : (putBit v b on).testBit c = if c = b then on else v.testBit c := by
  unfold putBit
  cases on with
  | true => by_cases h : c = b <;> simp [Nat.testBit_or, h, Ne.symm]
  | false =>
    by_cases hv : v.testBit b = true
    · by_cases h : c = b <;> simp [hv, testBit_sub_two_pow hv, h]
    · by_cases h : c = b <;> simp [hv, h]

/-! ### Flags -/

theorem getF_setF_otherField {f g : Fld} (v : Nat) (d : Dev) (hf : f.lo + f.len ≤ 32)
    (h : g.reg.off ≠ f.reg.off ∨ g.reg = f.reg ∧ (g.lo + g.len ≤ f.lo ∨ f.lo + f.len ≤ g.lo)) : getF g (setF f v d) = getF g d := by
  obtain h | ⟨h, hd⟩ := h
  · exact getF_setF_otherReg f g v d h
  · exact getF_setF_disjoint f g v d h hf hd

@[simp] theorem getF_markBits (f : Fld) (o n : Nat) (d : Dev) : getF f (markBits o n d) = getF f d := rfl

theorem getF_raise_same (f : Fld) (d : Dev) (h : f.lo + f.len ≤ 32) (hl : f.len = 1) : getF f (raise f d) = 1 := by
  rw [raise, getF_markBits, getF_setF_same f 1 d h, hl]
  rfl

theorem getF_countF_same (f : Fld) (d : Dev) (h : f.lo + f.len ≤ 32) : getF f (countF f d) = min (2 ^ f.len - 1) (getF f d + 1) := by
  rw [countF, getF_setF_same f _ d h, satAdd, Nat.mod_eq_of_lt]
  have := Nat.two_pow_pos f.len
  omega

theorem getF_bitF (f : Fld) (b : Nat) (on : Bool) (d : Dev) (h : f.lo + f.len ≤ 32) :
    getF f (bitF f b on d) = putBit (getF f d) b on % 2 ^ f.len := by
  rw [bitF, whenD_keeps (getF f) on _ (getF_markBits f _ _), getF_setF_same f _ d h]

theorem bitOf_bitF (f : Fld) (b c : Nat) (on : Bool) (d : Dev) (h : f.lo + f.len ≤ 32) (hc : c < f.len) :
    bitOf f c (bitF f b on d) = if c = b then on else bitOf f c d := by
  simp only [bitOf, bit, getF_bitF f b on d h, Nat.testBit_mod_two_pow, hc, decide_true, Bool.true_and, testBit_putBit]

theorem getF_bitF_otherField {f g : Fld} (b : Nat) (on : Bool) (d : Dev) (hf : f.lo + f.len ≤ 32)
    (h : g.reg.off ≠ f.reg.off ∨ g.reg = f.reg ∧ (g.lo + g.len ≤ f.lo ∨ f.lo + f.len ≤ g.lo)) : getF g (bitF f b on d) = getF g d := by
  rw [bitF, whenD_keeps (getF g) on _ (getF_markBits g _ _), getF_setF_otherField _ d hf h]

theorem getF_raise_otherField {f g : Fld} (d : Dev) (hf : f.lo + f.len ≤ 32)
    (h : g.reg.off ≠ f.reg.off ∨ g.reg = f.reg ∧ (g.lo + g.len ≤ f.lo ∨ f.lo + f.len ≤ g.lo)) : getF g (raise f d) = getF g d :=
  getF_setF_otherField _ d hf h

theorem bitOf_of_getF {f : Fld} {b : Nat} {d e : Dev} (h : getF f d = getF f e) : bitOf f b d = bitOf f b e := by
  rw [bitOf, h, bitOf]

/-- Every register of a spoke lies above those of the hub (R537). -/
theorem spk_ge (k : Nat) : 0x14000 ≤ spk k := Nat.le_add_right _ _

end Sys2Proof.Proofs
end

section
/-! The ends of a link: what an arriving frame does to them, in sequence and out of it (R24). -/
namespace Sys2Proof.Proofs
open Sys2Proof Sys2Proof.Machine Sys2Proof.Laws

/-- A command about a spoke the part has is carried out, and its next state is what its effect makes of the device. -/
theorem completes_onSpoke {c : Instr} {k : Nat} {f : Dev → Dev} {s : State} {P : State → Prop} (hk : hasSpoke k s.dev = true)
    (hc : exec c s = onSpoke k f s) (h : P { s with dev := f s.dev }) : Completes c s P :=
  ⟨_, hc.trans (onSpoke_present k f s hk), rfl, h⟩

theorem completes_run {c : Instr} {f : Dev → Dev} {s : State} {P : State → Prop} (hc : exec c s = run f s)
    (h : P { s with dev := f s.dev }) : Completes c s P :=
  ⟨_, hc, rfl, h⟩

/-! ### One end of a link -/

@[simp] theorem linkEnd_updEnd (k : Nat) (side : Side) (f : LinkEnd → LinkEnd) (d : Dev) :
    linkEnd k side (updEnd k side f d) = f (linkEnd k side d) := by
  cases side <;> simp [linkEnd, updEnd]


/-- What reads no end of a link is as before where an end changes. -/
theorem getLink_updEnd_keeps {β : Type} (p : Link → β) (k : Nat) (side : Side) (f : LinkEnd → LinkEnd) (d : Dev)
    (hub : ∀ l e, p { l with hub := e } = p l) (spoke : ∀ l e, p { l with spoke := e } = p l) :
    p (getLink k (updEnd k side f d)) = p (getLink k d) := by
  cases side <;> simp [updEnd, hub, spoke]

@[simp] theorem getF_updLink (g : Fld) (k : Nat) (f : Link → Link) (d : Dev) : getF g (updLink k f d) = getF g d := rfl

@[simp] theorem bitOf_updLink (g : Fld) (b k : Nat) (f : Link → Link) (d : Dev) : bitOf g b (updLink k f d) = bitOf g b d := rfl

@[simp] theorem getLink_bitF (j : Nat) (g : Fld) (b : Nat) (on : Bool) (d : Dev) : getLink j (bitF g b on d) = getLink j d := by
  rw [getLink, bitF_links, getLink]

/-! ### Arriving frames -/

/-- Link k after its side has taken the ACK of the frame it expects, before the frame acts. -/
def accepted (k : Nat) (side : Side) (h : LinkHdr) (d : Dev) : Dev := (receive k side h d).1

theorem onFrame_inSequence {k : Nat} {side : Side} {h : LinkHdr} {d : Dev} (act : Dev → Dev) (hs : inSequence k side h d) :
    onFrame k side h act d = act (accepted k side h d) := by
  have hok : (receive k side h d).2 = true := by simpa [receive, inSequence] using hs
  simp [onFrame, accepted, hok]

theorem onFrame_outOfSequence {k : Nat} {side : Side} {h : LinkHdr} {d : Dev} (act : Dev → Dev) (hs : ¬ inSequence k side h d) :
    onFrame k side h act d = hearFrame k side h.ack d := by
  have hok : (h.seq % 64 == (linkEnd k side d).expect) = false := by simpa [inSequence] using hs
  simp [onFrame, receive, hok]

theorem accepted_keeps (k : Nat) (side : Side) (h : LinkHdr) (d : Dev) : Keeps [.links] d (accepted k side h d) :=
  keeps_trans (updEnd_keeps k side _ d) (whenD_parts _ _ (fun e => updEnd_keeps k side _ e) _)

section
variable (k : Nat) (side : Side) (h : LinkHdr) (d : Dev)

@[simp] theorem accepted_chip : (accepted k side h d).chip = d.chip := (accepted_keeps k side h d .chip (by simp)).symm
@[simp] theorem accepted_pt : (accepted k side h d).pt = d.pt := (accepted_keeps k side h d .pt (by simp)).1.symm
@[simp] theorem accepted_regs : (accepted k side h d).regs = d.regs := (accepted_keeps k side h d .regs (by simp)).1.symm
@[simp] theorem accepted_ecc : (accepted k side h d).ecc = d.ecc := (accepted_keeps k side h d .ecc (by simp)).symm
@[simp] theorem accepted_out : (accepted k side h d).out = d.out := (accepted_keeps k side h d .out (by simp)).symm
@[simp] theorem accepted_pwr : (accepted k side h d).pwr = d.pwr := (accepted_keeps k side h d .pwr (by simp)).symm
@[simp] theorem accepted_log : (accepted k side h d).log = d.log := (accepted_keeps k side h d .log (by simp)).symm
@[simp] theorem accepted_spokes : (accepted k side h d).spokes = d.spokes := (accepted_keeps k side h d .spokes (by simp)).symm
@[simp] theorem accepted_eng : (accepted k side h d).eng = d.eng := (accepted_keeps k side h d .eng (by simp)).symm
@[simp] theorem accepted_sox : (accepted k side h d).sox = d.sox := (accepted_keeps k side h d .sox (by simp)).symm
@[simp] theorem accepted_lb : (accepted k side h d).lb = d.lb := (accepted_keeps k side h d .lb (by simp)).symm

@[simp] theorem getF_accepted (f : Fld) : getF f (accepted k side h d) = getF f d := by rw [getF, rget, accepted_regs, getF, rget]
@[simp] theorem isSet_accepted (f : Fld) : isSet f (accepted k side h d) = isSet f d := by rw [isSet, getF_accepted, isSet]
@[simp] theorem getSpoke_accepted (j : Nat) : getSpoke j (accepted k side h d) = getSpoke j d := by rw [getSpoke, accepted_spokes, getSpoke]
@[simp] theorem getChan_accepted (j n : Nat) : getChan j n (accepted k side h d) = getChan j n d := by rw [getChan, getSpoke_accepted, getChan]

/-- What reads no end of a link is as before where a frame is accepted. -/
theorem getLink_accepted_keeps {β : Type} (p : Link → β) (hub : ∀ l e, p { l with hub := e } = p l) (spoke : ∀ l e, p { l with spoke := e } = p l) :
    p (getLink k (accepted k side h d)) = p (getLink k d) :=
  (whenD_keeps (fun d => p (getLink k d)) _ _ (fun e => getLink_updEnd_keeps p k side _ e hub spoke) _).trans
    (getLink_updEnd_keeps p k side _ d hub spoke)

@[simp] theorem spokePt_accepted : spokePt k (accepted k side h d) = spokePt k d := by
  rw [spokePt, accepted_pt, getLink_accepted_keeps k side h d Link.ptOff (fun _ _ => rfl) (fun _ _ => rfl), spokePt]

end

/-- A frame in sequence acts on the device that has accepted it. -/
theorem completes_onFrame {c : Instr} {k : Nat} {side : Side} {h : LinkHdr} {act : Dev → Dev} {s : State} {P : State → Prop}
    (hk : hasSpoke k s.dev = true) (hs : inSequence k side h s.dev) (hc : exec c s = onSpoke k (onFrame k side h act) s)
    (hP : P { s with dev := act (accepted k side h s.dev) }) : Completes c s P :=
  completes_onSpoke hk hc (by rw [onFrame_inSequence act hs]; exact hP)

theorem exec_onFrame_outOfSequence {c : Instr} {k : Nat} {side : Side} {h : LinkHdr} {act : Dev → Dev} {s : State}
    (hk : hasSpoke k s.dev = true) (hs : ¬ inSequence k side h s.dev) (hc : exec c s = onSpoke k (onFrame k side h act) s) :
    exec c s = .next { s with dev := hearFrame k side h.ack s.dev } := by
  rw [hc, onSpoke_present _ _ _ hk, onFrame_outOfSequence act hs]

/-- Settles O9: whatever a frame would do, `onFrame` does not do it out of sequence. -/
theorem frameOutOfSequenceIsDiscarded : Obligations.FrameOutOfSequenceIsDiscarded := by
  refine fun s k h hk => ⟨fun hs e c x a b p => ?_, fun hs e j l o v x a p => ?_⟩
  all_goals
    simp only [List.forall_mem_cons, List.not_mem_nil, IsEmpty.forall_iff, implies_true, and_true]
    and_intros
    all_goals exact exec_onFrame_outOfSequence hk hs rfl

end Sys2Proof.Proofs
end

section
/-! What reports reach: an event that enters the logbook or a health counter changes the logbook, the counters, and four registers (R459, R473). -/
namespace Sys2Proof.Proofs
open Sys2Proof Sys2Proof.Machine Sys2Proof.Laws

/-- The registers in which the logbook and the health unit note an event (R461, R473). -/
def reportRegs : List Nat := [R.LOG_GDROP_LO.off, R.LOG_GDROP_HI.off, R.LOG_STATUS.off, R.HLT_STATUS.off]

/-- What p shows of a device does not depend on what a report changes. -/
structure ReportBlind {β : Type} (p : Dev → β) : Prop where
  regs : ∀ r w d, r.off ∈ reportRegs → p (rput r w d) = p d
  marks : ∀ m d, p { d with marks := m } = p d
  log : ∀ l d, p { d with log := l } = p d
  health : ∀ h d, p { d with health := h } = p d

theorem reportBlind_field {g : Fld} (h : g.reg.off ∉ reportRegs) : ReportBlind (getF g) where
  regs r w d hr := by
    have hne : g.reg.off ≠ r.off := fun e => h (e ▸ hr)
    simp [getF, rget_rput_other _ _ _ _ hne]
  marks _ _ := rfl
  log _ _ := rfl
  health _ _ := rfl

theorem reportBlind_getLink (k : Nat) : ReportBlind (getLink k) where
  regs _ _ _ _ := rfl
  marks _ _ := rfl
  log _ _ := rfl
  health _ _ := rfl

namespace ReportBlind
variable {β : Type} {p : Dev → β} (hp : ReportBlind p)
include hp

theorem raise {f : Fld} (h : f.reg.off ∈ reportRegs) (d : Dev) : p (raise f d) = p d :=
  (hp.marks _ _).trans (hp.regs _ _ _ h)

theorem countF {f : Fld} (h : f.reg.off ∈ reportRegs) (d : Dev) : p (countF f d) = p d := hp.regs _ _ _ h

theorem galleyDrop (s : Nat) (d : Dev) : p (galleyDrop s d) = p d := by
  refine (hp.log _ _).trans ((hp.raise (by decide) _).trans ?_)
  split
  · exact hp.countF (f := F.LOG_GDROP_LO.GDROP s) (List.mem_cons_self ..) d
  · exact hp.countF (f := F.LOG_GDROP_HI.GDROP (s - 4)) (List.mem_cons_of_mem _ (List.mem_cons_self ..)) d

theorem enterGalley (e : LogEntry) (d : Dev) : p (enterGalley e d) = p d := by
  unfold Machine.enterGalley
  dsimp only
  split
  · split
    · exact hp.log _ _
    · split
      · exact hp.log _ _
      · split
        · exact (hp.galleyDrop _ _).trans (hp.log _ _)
        · exact hp.galleyDrop _ _
  · exact hp.log _ _

theorem logEvent (code sev : Nat) (src : LogSrc) (a b c : Nat) (d : Dev) : p (logEvent code sev src a b c d) = p d :=
  hp.enterGalley _ _

theorem healthEvent (cls i : Nat) (g : Bool) (d : Dev) : p (healthEvent cls i g d).1 = p d := by
  unfold Machine.healthEvent
  dsimp only
  split
  · exact (hp.health _ _).trans (hp.health _ _)
  · split
    · exact (hp.raise (by decide) _).trans ((hp.logEvent _ _ _ _ _ _ _).trans ((hp.health _ _).trans (hp.health _ _)))
    · exact (hp.health _ _).trans (hp.health _ _)

theorem healthReport (cls i : Nat) (d : Dev) : p (healthReport cls i d) = p d := hp.healthEvent cls i false d

end ReportBlind

/-- A health record that is lasting already does not become so again (R475). -/
theorem healthEvent_ofLasting {cls i : Nat} {d : Dev} (g : Bool) (h : (getInst cls i d).lasting = true) : (healthEvent cls i g d).2 = false := by
  simp [healthEvent, h]

end Sys2Proof.Proofs
end

section
/-! A link lost at the hub (R27, R478): what the declaration leaves behind where the health record of the link is lasting already. -/
namespace Sys2Proof.Proofs
open Sys2Proof Sys2Proof.Machine Sys2Proof.Laws

theorem hasSpoke_bounds {k : Nat} {d : Dev} (h : hasSpoke k d = true) : 1 ≤ k ∧ k ≤ 7 := by
  have hn : nSpokes d ≤ 7 := by
    unfold nSpokes
    split <;> omega
  simp only [hasSpoke, Bool.and_eq_true, decide_eq_true_eq] at h
  omega

/-- Reads that end change the link and the boundary only. -/
theorem failReads_keeps (k : Nat) (d : Dev) : Keeps [.links, .out] d (failReads k d) :=
  keeps_trans (keeps_mono (eachD_parts _ _ (fun off e => emit_keeps _ e) d) (by simp)) (keeps_mono (updLink_keeps k _ _) (by simp))

/-- The device once the hub has noted the loss of link k, before the report of it. -/
def lossNoted (k : Nat) (d : Dev) : Dev :=
  d |> updLink k (fun l => { l with up := false, lostAt := some d.pt, adjLeft := 0, syncSent := none, resumeDue := false })
    |> bitF F.PWR_LINK_STATUS.LINK_UP (k - 1) false |> bitF F.PWR_LINK_STATUS.LINK_LOST (k - 1) true
    |> countF (F.SPK_LINK_REPLAY.LOSSES k) |> failReads k

theorem lossNoted_keeps (k : Nat) (d : Dev) : Keeps [.links, .regs, .out] d (lossNoted k d) :=
  keeps_trans (keeps_mono (updLink_keeps k _ d) (by simp)) <|
  keeps_trans (keeps_mono (bitF_keeps _ _ _ _) (by simp)) <|
  keeps_trans (keeps_mono (bitF_keeps _ _ _ _) (by simp)) <|
  keeps_trans (keeps_mono (countF_keeps _ _) (by simp)) (keeps_mono (failReads_keeps k _) (by simp))

/-- The loss once it is in the logbook (R27). -/
def lossLogged (k : Nat) (d : Dev) : Dev :=
  logEvent 0x0201 5 ⟨k, 9, 0⟩ (getF (F.SPK_LINK_REPLAY.LOSSES k) (lossNoted k d)) 0 0 (lossNoted k d)

theorem getInst_lossLogged (c i k : Nat) (d : Dev) : getInst c i (lossLogged k d) = getInst c i d := by
  have hl : (lossNoted k d).health = (lossLogged k d).health := logEvent_keeps _ _ _ _ _ _ _ .health (by simp)
  have hn : d.health = (lossNoted k d).health := lossNoted_keeps k d .health (by simp)
  rw [getInst, getInst, ← hl, ← hn]

/-- Where the health record of the link is lasting already, the loss isolates nothing more (R478). -/
theorem linkLost_ofLasting {k : Nat} {d : Dev} (hup : (getLink k d).up = true) (hloop : linkLooped k d = false)
    (hl : (getInst 7 (k - 1) d).lasting = true) : linkLost k d = (healthEvent 7 (k - 1) false (lossLogged k d)).1 := by
  have hq : (healthEvent 7 (k - 1) false (lossLogged k d)).2 = false :=
    healthEvent_ofLasting false (by rw [getInst_lossLogged]; exact hl)
  have hstep : linkLost k d = whenD (healthEvent 7 (k - 1) false (lossLogged k d)).2 (isolate k 3) (healthEvent 7 (k - 1) false (lossLogged k d)).1 := by
    simp only [linkLost, hup, hloop, Bool.not_true, Bool.or_self, Bool.false_eq_true, if_false]
    rfl
  rw [hstep, hq, whenD_false]

theorem getLink_failReads (k : Nat) (d : Dev) : getLink k (failReads k d) = { getLink k d with reads := [] } := by
  have h : getLink k (eachD (getLink k d).reads (fun off => emit (.readDone off 0xFFFFFFFF)) d) = getLink k d :=
    eachD_keeps (getLink k) _ (fun off => emit (.readDone off 0xFFFFFFFF)) (fun _ _ => rfl) d
  rw [failReads, getLink_updLink, h]

theorem getLink_lossNoted (k : Nat) (d : Dev) : getLink k (lossNoted k d) =
    { getLink k d with up := false, lostAt := some d.pt, adjLeft := 0, syncSent := none, resumeDue := false, reads := [] } := by
  rw [lossNoted, getLink_failReads]
  simp [getLink, updLink]

theorem regs_failReads (k : Nat) (d : Dev) : (failReads k d).regs = d.regs := ((failReads_keeps k d .regs (by simp)).1).symm

theorem getF_failReads (f : Fld) (k : Nat) (d : Dev) : getF f (failReads k d) = getF f d := by
  rw [getF, rget, regs_failReads]
  rfl

/-- The status of the links while the hub notes the loss of one (R27). -/
theorem getF_lossNoted {f : Fld} (hf : f.reg = R.PWR_LINK_STATUS) (k : Nat) (d : Dev) : getF f (lossNoted k d) =
    getF f (bitF F.PWR_LINK_STATUS.LINK_LOST (k - 1) true (bitF F.PWR_LINK_STATUS.LINK_UP (k - 1) false d)) := by
  have hne : f.reg.off ≠ (F.SPK_LINK_REPLAY.LOSSES k).reg.off := by
    have := spk_ge k
    rw [hf]
    change 0x2040 ≠ spk k + 0x14
    omega
  rw [lossNoted, getF_failReads, countF, getF_setF_otherReg _ _ _ _ hne]
  simp [getF, rget, updLink, bitF, setF, rput, whenD, markBits]

theorem linkUp_lossNoted {k : Nat} (hk : k ≤ 7) (d : Dev) : bitOf F.PWR_LINK_STATUS.LINK_UP (k - 1) (lossNoted k d) = false := by
  have hb : k - 1 < 7 := by omega
  have hother : getF F.PWR_LINK_STATUS.LINK_UP (lossNoted k d) = getF F.PWR_LINK_STATUS.LINK_UP (bitF F.PWR_LINK_STATUS.LINK_UP (k - 1) false d) :=
    (getF_lossNoted rfl k d).trans (getF_bitF_otherField _ _ _ (by decide) (.inr ⟨rfl, by decide⟩))
  rw [bitOf_of_getF hother, bitOf_bitF _ _ _ _ _ (by decide) hb, if_pos rfl]

theorem linkLost_lossNoted {k : Nat} (hk : k ≤ 7) (d : Dev) : bitOf F.PWR_LINK_STATUS.LINK_LOST (k - 1) (lossNoted k d) = true := by
  have hb : k - 1 < 7 := by omega
  rw [bitOf_of_getF (getF_lossNoted rfl k d), bitOf_bitF _ _ _ _ _ (by decide) hb, if_pos rfl]

/-- What the report of a loss leaves as it was. -/
theorem lossReport_keeps {β : Type} {p : Dev → β} (hp : ReportBlind p) (k : Nat) (d : Dev) :
    p (healthEvent 7 (k - 1) false (lossLogged k d)).1 = p (lossNoted k d) :=
  (hp.healthEvent _ _ _ _).trans (hp.logEvent _ _ _ _ _ _ _)

/-- A loss that the hub declares of a link whose health record is lasting already: the link is down, and the status says so (R27). -/
theorem linkLost_declares {k : Nat} {d : Dev} (hk : hasSpoke k d = true) (hup : (getLink k d).up = true) (hloop : linkLooped k d = false)
    (hl : (getInst 7 (k - 1) d).lasting = true) :
    (getLink k (linkLost k d)).up = false ∧ (getLink k (linkLost k d)).lostAt = some d.pt ∧
      bitOf F.PWR_LINK_STATUS.LINK_UP (k - 1) (linkLost k d) = false ∧ bitOf F.PWR_LINK_STATUS.LINK_LOST (k - 1) (linkLost k d) = true := by
  obtain ⟨-, hk7⟩ := hasSpoke_bounds hk
  have hlink : getLink k (linkLost k d) = getLink k (lossNoted k d) := by
    rw [linkLost_ofLasting hup hloop hl]
    exact lossReport_keeps (reportBlind_getLink k) k d
  have hfield (f : Fld) (hf : f.reg = R.PWR_LINK_STATUS) : getF f (linkLost k d) = getF f (lossNoted k d) := by
    rw [linkLost_ofLasting hup hloop hl]
    exact lossReport_keeps (reportBlind_field (by rw [hf]; decide)) k d
  rw [hlink, getLink_lossNoted, bitOf_of_getF (hfield _ rfl), bitOf_of_getF (hfield _ rfl)]
  exact ⟨rfl, rfl, linkUp_lossNoted hk7 d, linkLost_lossNoted hk7 d⟩

end Sys2Proof.Proofs
end

section
/-! Package time on the links (R33 to R36): the PT check, the echo of a PTSYNC, and an adjustment of the hub's own PT. -/
namespace Sys2Proof.Proofs
open Sys2Proof Sys2Proof.Machine Sys2Proof.Laws

theorem mem_enqueue (p : Payload) (ws : List Payload) : p ∈ enqueue p ws := by simp [enqueue]

theorem mem_enqueue_of_mem (p : Payload) {q : Payload} {ws : List Payload} (h : q ∈ ws) : q ∈ enqueue p ws := by
  rw [← List.takeWhile_append_dropWhile (p := fun q => decide (payloadRank q ≤ payloadRank p)) (l := ws), List.mem_append] at h
  simp only [enqueue, List.mem_append, List.mem_cons]
  tauto

theorem mem_waiting_linkSend (k : Nat) (side : Side) (p : Payload) (d : Dev) : p ∈ (linkEnd k side (linkSend k side p d)).waiting := by
  rw [linkSend, linkEnd_updEnd]
  exact mem_enqueue p _

/-! ### The PT check (R33, R34) -/

section
variable {k : Nat} {d : Dev} (hup : (getLink k d).up = true) (hloop : linkLooped k d = false)
include hup hloop

theorem ptCheck_within {off : Int} (h : off.natAbs ≤ 1) : ptCheck k off d = updLink k (fun l => { l with ptOff := off }) d := by
  simp [ptCheck, hup, hloop, h]

theorem ptCheck_mismatch {off : Int} (h : 1 < off.natAbs) (h16 : off.natAbs ≤ 16) : ptCheck k off d =
    logEvent 0x0202 3 ⟨k, 9, 0⟩ (toBits 32 off) 0 0 (updLink k (fun l => { l with adjLeft := -off })
      (bitF F.PWR_LINK_STATUS.PT_MISMATCH (k - 1) true (updLink k (fun l => { l with ptOff := off }) d))) := by
  simp [ptCheck, hup, hloop, Nat.not_le.mpr h, h16]

theorem ptCheck_loss {off : Int} (h : 16 < off.natAbs) : ptCheck k off d = linkLost k (updLink k (fun l => { l with ptOff := off }) d) := by
  have h1 : ¬ off.natAbs ≤ 1 := by omega
  simp [ptCheck, hup, hloop, h1, Nat.not_le.mpr h]

end

theorem ptCheck_notesMismatch {k : Nat} {d : Dev} (hk : hasSpoke k d = true) (hup : (getLink k d).up = true) (hloop : linkLooped k d = false)
    {off : Int} (h : 1 < off.natAbs) (h16 : off.natAbs ≤ 16) :
    bitOf F.PWR_LINK_STATUS.PT_MISMATCH (k - 1) (ptCheck k off d) = true ∧ (getLink k (ptCheck k off d)).adjLeft = -off ∧
      (getLink k (ptCheck k off d)).up = true := by
  obtain ⟨-, hk7⟩ := hasSpoke_bounds hk
  have hb : k - 1 < 7 := by omega
  rw [ptCheck_mismatch hup hloop h h16]
  refine ⟨?_, ?_, ?_⟩
  · rw [bitOf_of_getF ((reportBlind_field (by decide)).logEvent _ _ _ _ _ _ _)]
    rw [bitOf_updLink, bitOf_bitF _ _ _ _ _ (by decide) hb, if_pos rfl]
  · rw [(reportBlind_getLink k).logEvent, getLink_updLink]
  · rw [(reportBlind_getLink k).logEvent, getLink_updLink, getLink_bitF, getLink_updLink]
    exact hup

/-! ### The echo of a PTSYNC (R34) -/

theorem ptsyncIn_echoes (k : Nat) (echo : Option Nat) (d : Dev) :
    (getLink k (ptsyncIn k .spoke echo d)).echoed = some (spokePt k d) ∧
      .ptsync (spokePt k d) (some (spokePt k d)) ∈ (linkEnd k .spoke (ptsyncIn k .spoke echo d)).waiting ∧ (ptsyncIn k .spoke echo d).pt = d.pt := by
  refine ⟨?_, mem_waiting_linkSend k .spoke _ _, rfl⟩
  simp [ptsyncIn, linkSend, updEnd]

/-! ### An adjustment (R35, R36) -/

theorem operate_pt (n : Nat) (d : Dev) : (operate n d).pt = d.pt := by
  unfold operate
  split <;> rfl

theorem operate_time (n : Nat) (d : Dev) : (operate n d).time = d.time := by
  unfold operate
  split <;> rfl

/-- The one adjustment the hub has due takes effect on this tick: a deletion advances PT by one, an insertion holds the next tick. -/
theorem applyAdjs_one {d : Dev} {plus : Bool} (h : d.time.adjs = [(d.pt, plus)]) :
    (applyAdjs d).pt = (d.pt + if plus then 1 else 0) % 2 ^ 64 ∧ (applyAdjs d).time.adjs = [] ∧
      (applyAdjs d).time.holds = d.time.holds + if plus then 0 else 1 := by
  simp only [applyAdjs, operate_pt, operate_time, updTime_time]
  have htime (xs : List Nat) (f : Nat → Link → Link) : (eachD xs (fun k => updLink k (f k)) d).time = d.time :=
    eachD_keeps Dev.time xs (fun k => updLink k (f k)) (fun _ _ => rfl) d
  cases plus <;> simp [h, htime, whenD]

/-- Settles O14: the check by its three ranges, the echo at the spoke, and the one adjustment due. -/
theorem packageTimeCommands : Obligations.PackageTimeCommands := by
  refine fun s k hk hup hloop => ⟨fun off h => ?within, fun off h h16 => ?mismatch, fun off h => ?loss, fun off h hl => ?declared,
    fun h sent echo hs => ?echo, fun plus h => ?adjust⟩
  case within => rw [exec_ptCheck, execPtCheck, onSpoke_present _ _ _ hk, ptCheck_within hup hloop h]
  case mismatch => exact completes_onSpoke hk rfl (ptCheck_notesMismatch hk hup hloop h h16)
  case loss => rw [exec_ptCheck, execPtCheck, onSpoke_present _ _ _ hk, ptCheck_loss hup hloop h]
  case declared =>
    refine completes_onSpoke hk rfl ?_
    dsimp only
    rw [ptCheck_loss hup hloop h]
    obtain ⟨hdown, -, -, hbit⟩ := linkLost_declares (d := updLink k (fun l => { l with ptOff := off }) s.dev) hk
      (by simpa using hup) hloop hl
    exact ⟨hdown, hbit⟩
  case echo =>
    refine completes_onFrame hk hs rfl ?_
    simpa using ptsyncIn_echoes k echo (accepted k .spoke h s.dev)
  case adjust => exact completes_run rfl (applyAdjs_one h)

end Sys2Proof.Proofs
end

section
/-! Schedule entries that arrive at a spoke (R21, R22, R219, R224), and the 64-bit PT of the bits they carry. -/
namespace Sys2Proof.Proofs
open Sys2Proof Sys2Proof.Machine Sys2Proof.Laws

/-- The entry that a SCHED frame stands for at PT t (R21). -/
def entryOf (t : Nat) (p : SchedP) : Entry :=
  { start := extendPt t p.start, finish := max (extendPt t p.start) (extendPt t p.finish), duty := p.duty, freq := p.freq, slot := p.slot
    late := decide (extendPt t p.start < t) }

/-- The spoke takes no entry for a channel of another owner, an odd bonded channel, or with its drive disabled (R22). -/
def discardsEntry (k n : Nat) (shadow : Bool) (d : Dev) : Bool :=
  (!isSet (F.DRV_STATUS.DRIVE_EN k) d && !shadow) || getF (F.DRV_CH_CFG.OWNER k n) d != 1 || isSet (F.DRV_CH_CFG.BOND_ODD k n) d

theorem arriveEntry_discards {k : Nat} {p : SchedP} {shadow : Bool} (o : Nat) {d : Dev} (h : discardsEntry k p.chan shadow d = true) :
    arriveEntry k p shadow o d = countF (F.DRV_STATUS.DISCARDED k) d := by
  rw [discardsEntry] at h
  simp only [arriveEntry, h, if_true]

/-- An entry in time for an idle channel that takes it is pending, and that is all (R224). -/
theorem arriveEntry_pends {k : Nat} {p : SchedP} {shadow : Bool} (o : Nat) {d : Dev} (h : discardsEntry k p.chan shadow d = false)
    (hdis : isSet (F.DRV_CH_STATUS.DISABLED k p.chan) d = false) (hidle : (getChan k p.chan d).running = none)
    (hlate : spokePt k d ≤ extendPt (spokePt k d) p.start) :
    (arriveEntry k p shadow o d).regs = d.regs ∧
      getChan k p.chan (arriveEntry k p shadow o d) = { getChan k p.chan d with pending := some (entryOf (spokePt k d) p) } := by
  rw [discardsEntry] at h
  have hnot : ¬ extendPt (spokePt k d) p.start < spokePt k d := by omega
  simp only [arriveEntry, h, hdis, hidle, hnot, Bool.false_eq_true, if_false, Option.any_none, whenD_false]
  exact ⟨rfl, by simp [hidle, entryOf, hnot]⟩

theorem extendPt_nearest {p : Nat} (v : Nat) (h : 2 ^ 31 ≤ p) :
    extendPt p v % 2 ^ 32 = v % 2 ^ 32 ∧ extendPt p v ≤ p + 2 ^ 31 ∧ p ≤ extendPt p v + 2 ^ 31 := by
  unfold extendPt
  dsimp only
  split
  · omega
  · split <;> omega

/-- Settles O16: an entry is discarded and counted, or becomes the pending one. -/
theorem entriesArrive : Obligations.EntriesArrive := by
  refine ⟨fun s k h e hk hs => ⟨fun hen hown hodd hdis hidle hlate => ?pending, fun hst hbad => ?discarded⟩, fun p v hp => extendPt_nearest v hp⟩
  case pending =>
    refine completes_onFrame hk hs rfl ?_
    obtain ⟨hregs, hchan⟩ := arriveEntry_pends (k := k) (p := e) (shadow := isStoker (accepted k .spoke h s.dev))
      (outletOf k e.chan (accepted k .spoke h s.dev)) (d := accepted k .spoke h s.dev) (by simp [discardsEntry, hen, hown, hodd])
      (by simpa using hdis) (by simpa using hidle) (by simpa using hlate)
    dsimp only
    rw [hregs, hchan]
    simp [hidle, entryOf, hlate]
  case discarded =>
    refine completes_onFrame hk hs rfl ?_
    have hst' : isStoker (accepted k .spoke h s.dev) = false := by rw [← hst]; simp [isStoker, tdmState]
    dsimp only
    rw [arriveEntry_discards]
    · refine ⟨by simp, ?_⟩
      rw [getF_countF_same _ _ (by simp [F.DRV_STATUS.DISCARDED])]
      simp [F.DRV_STATUS.DISCARDED]
    · simp only [discardsEntry, hst', isSet_accepted, getF_accepted]
      rcases hbad with h | h | h <;> simp [h]

end Sys2Proof.Proofs
end

section
/-! What the buffers of a link hold: the replay buffer through a slot of the lane, an ACK and a replay (R18, R24). -/
namespace Sys2Proof.Proofs
open Sys2Proof Sys2Proof.Machine Sys2Proof.Laws

/-! ### The numbering of a replay buffer -/

/-- The SEQ values of an end's replay buffer, oldest first, and the next one. -/
def numbering (e : LinkEnd) : List Nat × Nat := (e.replay.map (·.seq), e.nextSeq)

/-- From `first` on the buffer holds n consecutive SEQ values, and the next one follows them (R24). -/
def numberedFrom (first n : Nat) : List Nat × Nat := ((List.range n).map fun i => (first + i) % 64, (first + n) % 64)

/-- One more frame in the buffer. -/
def numberNext (x : List Nat × Nat) : List Nat × Nat := (x.1 ++ [x.2], (x.2 + 1) % 64)

theorem numberNext_numberedFrom (first n : Nat) : numberNext (numberedFrom first n) = numberedFrom first (n + 1) := by
  simp [numberNext, numberedFrom, List.range_succ, Nat.add_assoc]

theorem length_replay (e : LinkEnd) : e.replay.length = (numbering e).1.length := by simp [numbering]

theorem numbering_numbered {e : LinkEnd} {first : Nat}
    (hs : e.replay.map (·.seq) = (List.range e.replay.length).map fun i => (first + i) % 64)
    (hn : e.nextSeq = (first + e.replay.length) % 64) : numbering e = numberedFrom first e.replay.length := by
  rw [numbering, hs, hn, numberedFrom]

/-! ### An ACK and a replay -/

theorem takeAck_replay (a : Nat) (e : LinkEnd) : ∃ n, (takeAck a e).replay = e.replay.drop n := by
  unfold takeAck
  split
  · exact ⟨_, by rw [List.dropWhile_eq_drop_findIdx_not, List.drop_drop]⟩
  · exact ⟨0, rfl⟩

theorem takeAck_length (a : Nat) (e : LinkEnd) : (takeAck a e).replay.length ≤ e.replay.length := by
  obtain ⟨n, hn⟩ := takeAck_replay a e
  simp [hn]

/-- What an ACK leaves of consecutive frames is consecutive. -/
theorem takeAck_numbered (a : Nat) {e : LinkEnd} {first : Nat}
    (hs : e.replay.map (·.seq) = (List.range e.replay.length).map fun i => (first + i) % 64) :
    ∃ later, (takeAck a e).replay.map (·.seq) = (List.range (takeAck a e).replay.length).map fun i => (later + i) % 64 := by
  obtain ⟨n, hn⟩ := takeAck_replay a e
  refine ⟨first + n, ?_⟩
  rw [hn, List.map_drop, hs, List.length_drop]
  apply List.ext_getElem
  · simp
  · intro i h1 h2
    simp [Nat.add_assoc]

theorem replayAll_replay (k : Nat) (side : Side) (d : Dev) : (linkEnd k side (replayAll k side d)).replay = (linkEnd k side d).replay := by
  rw [replayAll, linkEnd_updEnd]

/-! ### A slot of the lane -/

theorem linkEnd_congr {k : Nat} {side : Side} {d e : Dev} (h : d.links = e.links) : linkEnd k side d = linkEnd k side e := by
  cases side <;> simp [linkEnd, getLink, h]

@[simp] theorem linkEnd_emit (k : Nat) (side : Side) (o : OutEvent) (d : Dev) : linkEnd k side (emit o d) = linkEnd k side d := by
  cases side <;> rfl

@[simp] theorem linkEnd_sendOn (k : Nat) (side : Side) (seq typ bits : Nat) (d : Dev) :
    linkEnd k side (sendOn k side seq typ bits d) = linkEnd k side d := linkEnd_emit ..

@[simp] theorem linkEnd_sendIdle (k : Nat) (side : Side) (d : Dev) : linkEnd k side (sendIdle k side d) = linkEnd k side d := linkEnd_emit ..

@[simp] theorem linkEnd_countF (k : Nat) (side : Side) (f : Fld) (d : Dev) : linkEnd k side (countF f d) = linkEnd k side d := by
  cases side <;> rfl

theorem payloadBits_links (p : Payload) (d : Dev) : (payloadBits p d).2.links = d.links := by
  unfold payloadBits
  split <;> rfl

/-- A replayed frame keeps its place and its SEQ. -/
theorem sendReplay_numbering (k : Nat) (side : Side) (q : Nat) (d : Dev) :
    numbering (linkEnd k side (sendReplay k side q d)) = numbering (linkEnd k side d) := by
  unfold sendReplay
  dsimp only
  split
  · simp [numbering]
  · have hc (b : Bool) (f : Fld) (e : Dev) : linkEnd k side (whenD b (countF f) e) = linkEnd k side e :=
      whenD_keeps (linkEnd k side) b _ (linkEnd_countF k side f) e
    simp only [numbering, linkEnd_sendOn, hc, linkEnd_updEnd, List.map_map, Prod.mk.injEq, and_true]
    refine List.map_congr_left fun g _ => ?_
    simp only [Function.comp]
    split <;> rfl

/-- A new frame takes the next SEQ and the last place in the buffer. -/
theorem sendNew_numbering (k : Nat) (side : Side) (p : Payload) (d : Dev) :
    numbering (linkEnd k side (sendNew k side p d)) = numberNext (numbering (linkEnd k side d)) := by
  unfold sendNew
  dsimp only
  generalize stamped p _ = x
  simp [linkEnd_congr (payloadBits_links x d), numbering, numberNext]

/-- A crossing passes or fails on a device with the links it had. -/
theorem crossEcc_ofLinks {P : Dev → Prop} {d : Dev} (row u die r q : Nat) (passed failed : Dev → Dev)
    (hp : ∀ e, e.links = d.links → P (passed e)) (hf : ∀ e, e.links = d.links → P (failed e)) : P (crossEcc row u die r q passed failed d) := by
  unfold crossEcc checkEcc
  split
  · exact hp d rfl
  · dsimp only
    split
    · exact hp _ (healthReport_keeps 18 die _ .links (by simp)).symm
    · exact hf _ (logEvent_keeps _ _ _ _ _ _ _ .links (by simp)).symm

theorem unqueue_numbering (k : Nat) (side : Side) (d : Dev) : numbering (linkEnd k side (unqueue k side d)) = numbering (linkEnd k side d) := by
  rw [unqueue, linkEnd_updEnd]
  rfl

theorem withdrawEntry_links (k : Nat) (p : Payload) (d : Dev) : (withdrawEntry k p d).links = d.links := by
  unfold withdrawEntry
  split
  · split <;> rfl
  · rfl

theorem withheldFeed_numbering (k : Nat) (p : Payload) (d : Dev) :
    numbering (linkEnd k .spoke (withheldFeed k p d)) = numbering (linkEnd k .spoke d) := by
  unfold withheldFeed
  split
  · rw [linkSend, linkEnd_updEnd]
    rfl
  · rfl

/-- The check of a frame that waits lets it go, or leaves the buffer as it is. -/
theorem checkNew_numbering (k : Nat) (side : Side) (p : Payload) (d : Dev) :
    numbering (linkEnd k side (checkNew k side p d)) = numbering (linkEnd k side d) ∨
      numbering (linkEnd k side (checkNew k side p d)) = numberNext (numbering (linkEnd k side d)) := by
  unfold checkNew
  dsimp only
  refine crossEcc_ofLinks (P := fun e => numbering (linkEnd k side e) = numbering (linkEnd k side d) ∨
    numbering (linkEnd k side e) = numberNext (numbering (linkEnd k side d))) _ _ _ _ _ _ _ (fun e he => ?passed) (fun e he => ?failed)
  case passed =>
    generalize (upsetAt _ k d).isNone = clean
    cases clean with
    | true => exact .inr ((sendNew_numbering k side p e).trans (by rw [linkEnd_congr he]))
    | false => exact .inl ((congrArg numbering (linkEnd_sendIdle k side e)).trans (by rw [linkEnd_congr he]))
  case failed =>
    left
    have hq : numbering (linkEnd k side (unqueue k side (sendIdle k side e))) = numbering (linkEnd k side d) := by
      rw [unqueue_numbering, linkEnd_sendIdle, linkEnd_congr he]
    cases side with
    | hub => exact (congrArg numbering (linkEnd_congr (withdrawEntry_links k p _))).trans hq
    | spoke => exact (withheldFeed_numbering k p _).trans hq

/-- A slot of a lane puts one frame into the replay buffer where that has room, or none. -/
theorem laneSlot_numbering (k : Nat) (side : Side) (d : Dev) :
    numbering (linkEnd k side (laneSlot k side d)) = numbering (linkEnd k side d) ∨
      (linkEnd k side d).replay.length < 32 ∧ numbering (linkEnd k side (laneSlot k side d)) = numberNext (numbering (linkEnd k side d)) := by
  unfold laneSlot
  dsimp only
  split
  · simp [numbering]
  · split
    · exact .inl (sendReplay_numbering k side _ d)
    · split
      · exact (checkNew_numbering k side _ d).imp id (fun h => ⟨‹_›, h⟩)
      · simp
    · simp

theorem laneSlot_length {k : Nat} {side : Side} {d : Dev} (h : (linkEnd k side d).replay.length ≤ 32) :
    (linkEnd k side (laneSlot k side d)).replay.length ≤ 32 := by
  obtain hsame | ⟨hroom, hnext⟩ := laneSlot_numbering k side d
  · rwa [length_replay, hsame, ← length_replay]
  · rw [length_replay, hnext, numberNext, List.length_append, ← length_replay, List.length_singleton]
    omega

theorem laneSlot_numbered {k : Nat} {side : Side} {d : Dev} {first : Nat}
    (h : numbering (linkEnd k side d) = numberedFrom first (linkEnd k side d).replay.length) :
    numbering (linkEnd k side (laneSlot k side d)) = numberedFrom first (linkEnd k side (laneSlot k side d)).replay.length := by
  obtain hsame | ⟨-, hnext⟩ := laneSlot_numbering k side d
  · rw [length_replay, hsame, ← length_replay, h]
  · have hlen : (linkEnd k side (laneSlot k side d)).replay.length = (linkEnd k side d).replay.length + 1 := by
      rw [length_replay, hnext, numberNext, List.length_append, ← length_replay, List.length_singleton]
    rw [hlen, hnext, h, numberNext_numberedFrom]

end Sys2Proof.Proofs
end

section
/-! The other queues: the rises that wait for a boost switch (R240), and the galley of the logbook (R459 to R461). -/
namespace Sys2Proof.Proofs
open Sys2Proof Sys2Proof.Machine Sys2Proof.Laws

/-! ### The queue of a boost switch -/

/-- Rise a does not belong behind rise b (R240): the order of the queue. -/
abbrev riseUpTo (a b : Rise) : Prop := riseAhead b a = false

theorem riseUpTo_iff {a b : Rise} : riseUpTo a b ↔ a.key < b.key ∨ (a.key = b.key ∧ a.chan ≤ b.chan) := by
  simp only [riseUpTo, riseAhead, Bool.or_eq_false_iff, decide_eq_false_iff_not, Bool.and_eq_false_iff, beq_eq_false_iff_ne]
  omega

theorem riseUpTo_total (a b : Rise) : riseUpTo a b ∨ riseUpTo b a := by
  simp only [riseUpTo_iff]
  omega

theorem riseUpTo_trans {a b c : Rise} (h : riseUpTo a b) (g : riseUpTo b c) : riseUpTo a c := by
  simp only [riseUpTo_iff] at *
  omega

/-- A rise is put into its place in the order. -/
theorem insertRise_eq_orderedInsert (r : Rise) (q : List Rise) : insertRise r q = q.orderedInsert riseUpTo r := by
  simp [insertRise, List.orderedInsert_eq_take_drop]

theorem insertRise_ordered (r : Rise) {q : List Rise} (h : q.Pairwise riseUpTo) : (insertRise r q).Pairwise riseUpTo := by
  have : Std.Total riseUpTo := ⟨riseUpTo_total⟩
  have : IsTrans Rise riseUpTo := ⟨fun _ _ _ => riseUpTo_trans⟩
  rw [insertRise_eq_orderedInsert]
  exact h.orderedInsert r q

theorem insertRise_length (r : Rise) (q : List Rise) : (insertRise r q).length = q.length + 1 := by
  rw [insertRise_eq_orderedInsert, List.orderedInsert_length]

/-! ### The galley -/

theorem galleyWaiting_congr {d e : Dev} (h : d.log = e.log) : galleyWaiting d = galleyWaiting e := by
  rw [galleyWaiting, galleyWaiting, mayStore, mayStore, h]

theorem galleyDrop_waiting (s : Nat) (d : Dev) : galleyWaiting (galleyDrop s d) = galleyWaiting d := by
  have hnote (e : Dev) : galleyWaiting (noteDrop s e) = galleyWaiting e := rfl
  refine (hnote _).trans (galleyWaiting_congr ?_)
  rw [raise_log]
  split <;> rfl

/-- The galley with the entry that is being written, and w behind it. -/
def withWaiting (w : List LogEntry) (d : Dev) : Dev := { d with log := { d.log with galley := galleyWriting d ++ w } }

theorem withWaiting_length (w : List LogEntry) (d : Dev) : (galleyWaiting (withWaiting w d)).length ≤ w.length := by
  have hgalley : (withWaiting w d).log.galley = galleyWriting d ++ w := rfl
  have hstore : mayStore (withWaiting w d) = mayStore d := rfl
  rw [galleyWaiting, hgalley, hstore, galleyWriting]
  cases mayStore d with
  | true =>
    have hhead : (d.log.galley.take 1).length ≤ 1 := by simp
    simp only [if_true, List.length_drop, List.length_append]
    omega
  | false => simp

/-- The least severity of a galley below a bound is that of an entry. -/
theorem exists_leastSeverity (g : List LogEntry) (m : Nat) : g.foldl (fun m x => min m x.sev) m = m ∨
    ∃ x ∈ g, x.sev = g.foldl (fun m x => min m x.sev) m := by
  induction g generalizing m with
  | nil => exact .inl rfl
  | cons x g ih =>
    simp only [List.foldl_cons, List.exists_mem_cons_iff]
    obtain h | h := ih (min m x.sev)
    · rw [h]
      omega
    · exact .inr (.inr h)

/-- One entry leaves a galley that has one of the severity. -/
theorem dropYoungest_length {s : Nat} {g : List LogEntry} (h : ∃ x ∈ g, x.sev = s) : (dropYoungest s g).length + 1 = g.length := by
  obtain ⟨x, hx, hs⟩ := h
  have hne : g.reverse.dropWhile (fun e => e.sev != s) ≠ [] := by
    rw [ne_eq, List.dropWhile_eq_nil_iff]
    intro hall
    simpa [hs] using hall x (List.mem_reverse.mpr hx)
  have hsplit := congrArg List.length (List.takeWhile_append_dropWhile (p := fun e : LogEntry => e.sev != s) (l := g.reverse))
  have hpos := List.length_pos_iff.mpr hne
  rw [List.length_append, List.length_reverse] at hsplit
  simp only [dropYoungest, List.length_reverse, List.length_append, List.length_drop]
  omega

theorem enterGalley_bound {e : LogEntry} {d : Dev} (hs : e.sev < 8) (h : (galleyWaiting d).length ≤ 64) :
    (galleyWaiting (enterGalley e d)).length ≤ 64 := by
  have fits {w : List LogEntry} (hw : w.length ≤ 64) : (galleyWaiting (withWaiting w d)).length ≤ 64 := (withWaiting_length w d).trans hw
  unfold enterGalley
  dsimp only
  split
  next y hy =>
    have hne : galleyWaiting d ≠ [] := by
      intro hnil
      simp [hnil] at hy
    have hpos := List.length_pos_iff.mpr hne
    split
    · refine fits ?_
      simp only [List.length_append, List.length_dropLast, List.length_singleton]
      omega
    · split
      next hroom =>
        refine fits ?_
        simp only [List.length_append, List.length_singleton]
        omega
      · split
        next hlow =>
          rw [galleyDrop_waiting]
          refine fits ?_
          have hleast := (exists_leastSeverity (galleyWaiting d) 7).resolve_left (by omega)
          have hlen := dropYoungest_length hleast
          rw [List.length_append, List.length_singleton]
          omega
        · rw [galleyDrop_waiting]
          exact h
  · exact fits (w := [e]) (by simp)

/-- Settles O12: by what one slot, one ACK, one rise and one event do to their queue. -/
theorem queuesKeepOrderAndBounds : Obligations.QueuesKeepOrderAndBounds := by
  refine ⟨fun d k side h => ⟨laneSlot_length h, fun a => (takeAck_length a _).trans h, ?_⟩, fun d k side first hs hn => ?_,
    fun q r h => ⟨insertRise_ordered r h, insertRise_length r q⟩, fun e d hs h => enterGalley_bound hs h⟩
  · rwa [replayAll_replay]
  · have hslot := laneSlot_numbered (numbering_numbered hs hn)
    exact ⟨congrArg Prod.fst hslot, congrArg Prod.snd hslot, fun a => takeAck_numbered a hs⟩

end Sys2Proof.Proofs
end

section
/-! What the engines of a spoke cannot reach. An operation of the channel drive, the PWM pairs or the control loops changes its spoke, the registers
of a spoke's window, the logbook and the health counters, the open values it uses up, and the frames that wait at the spoke's end of a link. What
does not depend on these stays as it is, whatever the operation does: `SpokeBlind p` says so of an observation p. -/
namespace Sys2Proof.Proofs
open Sys2Proof Sys2Proof.Machine Sys2Proof.Laws

structure SpokeBlind {β : Type} (p : Dev → β) : Prop extends ReportBlind p where
  spokeRegs : ∀ r w d, 0x14000 ≤ r.off → p (rput r w d) = p d
  free : ∀ n d, p { d with free := n } = p d
  spokes : ∀ m d, p { d with spokes := m } = p d
  waiting : ∀ k x d, p (linkSend k .spoke x d) = p d

theorem spokeReg {k a : Nat} : 0x14000 ≤ spk k + a := Nat.le_add_right_of_le (spk_ge k)

/-- Of a register of which a spoke has several. -/
theorem spokeReg_at {k a b : Nat} : 0x14000 ≤ spk k + a + b := Nat.le_add_right_of_le spokeReg

/-- Both outcomes of a test keep what p shows. -/
theorem ite_keeps {β : Type} {p : Dev → β} {c : Prop} [Decidable c] {a b d : Dev} (ha : p a = p d) (hb : p b = p d) :
    p (if c then a else b) = p d := by
  split
  · exact ha
  · exact hb

namespace SpokeBlind
variable {β : Type} {p : Dev → β} (hp : SpokeBlind p)
include hp

/-! ### The elementary updates -/

theorem updSpoke (k : Nat) (f : Spoke → Spoke) (d : Dev) : p (updSpoke k f d) = p d := hp.spokes _ _
theorem updChan (k n : Nat) (f : Chan → Chan) (d : Dev) : p (updChan k n f d) = p d := hp.updSpoke ..
theorem updCas (k c : Nat) (f : Cassette → Cassette) (d : Dev) : p (updCas k c f d) = p d := hp.updSpoke ..
theorem updPair (k c : Nat) (f : Pair → Pair) (d : Dev) : p (updPair k c f d) = p d := hp.updSpoke ..
theorem updLoop (k l : Nat) (f : Loop → Loop) (d : Dev) : p (updLoop k l f d) = p d := hp.updSpoke ..
theorem setF {f : Fld} (h : 0x14000 ≤ f.reg.off) (v : Nat) (d : Dev) : p (setF f v d) = p d := hp.spokeRegs _ _ _ h
theorem lower {f : Fld} (h : 0x14000 ≤ f.reg.off) (d : Dev) : p (lower f d) = p d := hp.spokeRegs _ _ _ h
theorem countF {f : Fld} (h : 0x14000 ≤ f.reg.off) (d : Dev) : p (countF f d) = p d := hp.spokeRegs _ _ _ h
theorem raise {f : Fld} (h : 0x14000 ≤ f.reg.off) (d : Dev) : p (raise f d) = p d := (hp.marks _ _).trans (hp.setF h _ _)

theorem toUs (t : Nat) (d : Dev) : p (toUs t d).2 = p d := by
  unfold Machine.toUs
  split
  · rfl
  · exact hp.free _ _

/-! ### The channel drive -/

theorem feedEvent (k n : Nat) (ev : FeedEvent) (a b : Nat) (o : Opening) (d : Dev) : p (feedEvent k n ev a b o d) = p d := by
  unfold Machine.feedEvent
  split
  · rfl
  · dsimp only
    refine (hp.waiting _ _ _).trans ?_
    split
    · exact (hp.setF spokeReg_at _ _).trans (hp.toUs _ _)
    · exact (hp.setF spokeReg_at _ _).trans (hp.toUs _ _)
    · exact hp.toUs _ _

theorem valveFault (k n code sev outlet : Nat) (d : Dev) : p (valveFault k n code sev outlet d) = p d := by
  unfold Machine.valveFault
  dsimp only
  refine (whenD_keeps p _ _ (fun e => eachD_keeps p _ _ (fun m e => hp.raise (spokeReg_at) e) e) _).trans ?_
  rw [hp.healthEvent]
  exact (hp.health _ _).trans (hp.logEvent ..)

/-- A count that has reached its limit, if it has, is flagged and reported. -/
theorem noteValveFault {c : Prop} [Decidable c] (k n code sev outlet : Nat) {f g : Fld} (hf : 0x14000 ≤ f.reg.off) (hg : 0x14000 ≤ g.reg.off)
    {d e : Dev} (he : p e = p d) : p (if c then Machine.valveFault k n code sev outlet (Machine.raise g (Machine.raise f e)) else e) = p d :=
  ite_keeps (by rw [hp.valveFault, hp.raise hg, hp.raise hf, he]) he

theorem noTravelEvent (k n : Nat) (whole : Bool) (outlet : Nat) (o : Opening) (d : Dev) : p (noTravelEvent k n whole outlet o d) = p d := by
  refine (hp.feedEvent ..).trans ((hp.updChan ..).trans (ite_keeps ?_ (ite_keeps rfl ?_)))
  · have hcounts (m v : Nat) : p (Machine.setF (F.DRV_CH_TRAVEL.NO_MOTION k n) m (Machine.setF (F.DRV_CH_TRAVEL.MISS_ON k n) v d)) = p d := by
      rw [hp.setF spokeReg_at, hp.setF spokeReg_at]
    exact hp.noteValveFault _ _ _ _ _ spokeReg_at spokeReg_at (hp.noteValveFault _ _ _ _ _ spokeReg_at spokeReg_at (hcounts _ _))
  · rw [hp.lower spokeReg_at, hp.lower spokeReg_at]

theorem leaveQueue (k n : Nat) (d : Dev) : p (leaveQueue k n d) = p d := hp.updCas ..

theorem cutClosing (k n : Nat) (d : Dev) : p (cutClosing k n d) = p d := by
  unfold Machine.cutClosing
  split
  · rfl
  · exact (whenD_keeps p _ _ (fun e => hp.feedEvent ..) _).trans (hp.updChan ..)

theorem newOffInterval (k n : Nat) (d : Dev) : p (newOffInterval k n d) = p d := eachD_keeps p _ _ (fun _ _ => hp.updChan ..) d

theorem startPeak (k n : Nat) (slow : Bool) (due sched : Nat) (late : Bool) (d : Dev) : p (startPeak k n slow due sched late d) = p d := by
  unfold Machine.startPeak
  dsimp only
  split
  · rw [hp.countF spokeReg_at, hp.countF spokeReg_at, hp.setF spokeReg_at, hp.toUs, hp.updChan, hp.newOffInterval, hp.cutClosing]
  · rw [hp.countF spokeReg_at, hp.updCas, hp.setF spokeReg_at, hp.toUs, hp.updChan, hp.newOffInterval, hp.cutClosing]

theorem serveQueue (k c m : Nat) (d : Dev) : p (serveQueue k c m d) = p d := by
  induction m generalizing d with
  | zero => rfl
  | succ m ih =>
    unfold Machine.serveQueue
    dsimp only
    split
    · split
      · rw [ih, hp.updCas]
      · split
        · rw [ih, hp.startPeak, hp.updCas]
        · rw [hp.startPeak, hp.updCas]
    · rfl

theorem releaseSwitch (k n : Nat) (d : Dev) : p (releaseSwitch k n d) = p d := by
  unfold Machine.releaseSwitch
  dsimp only
  split
  · split
    · rw [hp.updCas, hp.serveQueue, hp.updCas]
    · rfl
  · rfl

theorem startRegulation (k n sched : Nat) (late : Bool) (d : Dev) : p (startRegulation k n sched late d) = p d :=
  (hp.updChan ..).trans (hp.newOffInterval ..)

theorem prevented (k n : Nat) (d : Dev) : p (prevented k n d) = p d := by
  unfold Machine.prevented
  dsimp only
  split
  · exact (hp.feedEvent ..).trans (hp.updChan ..)
  · rfl

theorem riseDue (k n key sched : Nat) (late : Bool) (d : Dev) : p (riseDue k n key sched late d) = p d := by
  unfold Machine.riseDue
  dsimp only
  split
  · exact hp.prevented ..
  · split
    · exact hp.startRegulation ..
    · split
      · exact hp.startPeak ..
      · split
        · exact hp.startPeak ..
        · exact hp.updCas ..

theorem cutRise (k n : Nat) (d : Dev) : p (cutRise k n d) = p d := by
  unfold Machine.cutRise
  dsimp only
  split
  · split
    · rfl
    · rw [hp.setF spokeReg_at, hp.toUs]
  · rfl

theorem regulationOff (k n : Nat) (force : Bool) (d : Dev) : p (regulationOff k n force d) = p d :=
  (whenD_keeps p _ _ (fun _ => hp.raise spokeReg_at _) _).trans (hp.updChan ..)

theorem beginOffWith (k n : Nat) (fault force : Bool) (outlet : Nat) (d : Dev) : p (beginOffWith k n fault force outlet d) = p d := by
  unfold Machine.beginOffWith
  dsimp only
  split
  · split
    · exact hp.regulationOff ..
    · exact (hp.leaveQueue ..).trans (hp.updChan ..)
  · rw [hp.releaseSwitch, whenD_keeps p _ _ (fun _ => hp.raise spokeReg_at _), hp.updChan]
    split
    · rw [hp.feedEvent, hp.cutRise]
    · split
      · rw [hp.cutRise]
      · split
        · rw [hp.feedEvent, hp.cutRise]
        · rw [hp.noTravelEvent, hp.cutRise]

theorem endEntryWith (k n : Nat) (force : Bool) (outlet : Nat) (d : Dev) : p (endEntryWith k n force outlet d) = p d := by
  unfold Machine.endEntryWith
  dsimp only
  rw [hp.updChan, hp.beginOffWith, hp.leaveQueue, hp.updChan]

theorem stopChan (k n : Nat) (force : Bool) (outlet : Nat) (d : Dev) : p (stopChan k n force outlet d) = p d :=
  (hp.endEntryWith ..).trans (hp.updChan ..)

theorem clearQueues (k : Nat) (d : Dev) : p (clearQueues k d) = p d := eachD_keeps p _ _ (fun _ _ => hp.updCas ..) d

theorem stopSpoke (k : Nat) (force : Bool) (outletOf : Nat → Nat) (d : Dev) : p (stopSpoke k force outletOf d) = p d := by
  refine (eachD_keeps p _ _ (fun n e => ?_) _).trans (hp.clearQueues ..)
  split
  · rfl
  · exact hp.stopChan ..

theorem disableDrive (k : Nat) (d : Dev) : p (disableDrive k d) = p d :=
  (hp.lower spokeReg _).trans (eachD_keeps p _ _ (fun _ _ => hp.updChan ..) d)

theorem resumeChan (k n : Nat) (d : Dev) : p (resumeChan k n d) = p d := by
  unfold Machine.resumeChan
  dsimp only
  split
  · exact hp.updChan ..
  · split
    · exact hp.updChan ..
    · split
      · split
        · exact hp.updChan ..
        · rw [hp.riseDue, hp.updChan, hp.updChan]
      · exact hp.updChan ..

/-! ### PWM pairs and control loops -/

theorem settlePair (k c : Nat) (d : Dev) : p (settlePair k c d) = p d := by
  unfold Machine.settlePair
  split
  · rfl
  · exact hp.updPair ..

theorem settlePairs (k : Nat) (d : Dev) : p (settlePairs k d) = p d := by
  refine eachD_keeps p _ _ (fun c e => ?_) d
  split
  · rfl
  · exact hp.settlePair ..

theorem endRegulation (k n : Nat) (d : Dev) : p (endRegulation k n d) = p d := by
  unfold Machine.endRegulation
  split
  · exact hp.regulationOff ..
  · rfl

theorem answerLoop (k ring index status detail : Nat) (d : Dev) : p (answerLoop k ring index status detail d) = p d := hp.waiting _ _ _

theorem overrule (k l : Nat) (d : Dev) : p (overrule k l d) = p d := by
  refine (eachD_keeps p _ _ (fun w e => ?_) _).trans (hp.updLoop ..)
  split
  · exact hp.answerLoop ..
  · rfl

theorem enterFaulted (k l cause act : Nat) (d : Dev) : p (enterFaulted k l cause act d) = p d := by
  unfold Machine.enterFaulted setMode
  rw [hp.overrule, hp.updLoop, hp.raise spokeReg, hp.setF spokeReg_at, hp.setF spokeReg_at]

theorem loopsSafe (k cause : Nat) (d : Dev) : p (loopsSafe k cause d) = p d := by
  refine eachD_keeps p _ _ (fun l e => ?_) d
  split
  · exact hp.enterFaulted ..
  · rfl

theorem loopsDisarm (k : Nat) (d : Dev) : p (loopsDisarm k d) = p d := by
  refine eachD_keeps p _ _ (fun l e => ?_) d
  split
  · rfl
  · split
    · exact (hp.overrule ..).trans (hp.updLoop ..)
    · split
      · rw [hp.updLoop, hp.overrule, setMode, hp.setF spokeReg_at]
      · rfl

end SpokeBlind

end Sys2Proof.Proofs
end

section
/-! What the hub cannot reach. The rings, the buses, the tandem link and the registration engine change every register but the safe causes, and all
of the device but its package time, its balls, its sequencer and the clock of the geometry cycles: `HubBlind` observations see nothing else. -/
namespace Sys2Proof.Proofs
open Sys2Proof Sys2Proof.Machine Sys2Proof.Laws

/-- The clock of the geometry cycles (R208, R210), and when the next prefetch walk is due (R183). -/
def cycleClock (g : Engine) : Nat × Nat × Option Nat × Bool × Nat := (g.cycleStart, g.prevCycle, g.lastGrid, g.evaluating, g.nextWalk)

structure HubBlind {β : Type} (p : Dev → β) : Prop where
  regs : ∀ r w d, r.off ≠ R.PWR_CAUSE.off → p (rput r w d) = p d
  eng : ∀ f d, (∀ g, cycleClock (f g) = cycleClock g) → p (updEng f d) = p d
  free : ∀ n d, p { d with free := n } = p d
  marks : ∀ m d, p { d with marks := m } = p d
  ecc : ∀ l d, p { d with ecc := l } = p d
  out : ∀ l d, p { d with out := l } = p d
  links : ∀ l d, p { d with links := l } = p d
  pcie : ∀ l d, p { d with pcie := l } = p d
  host : ∀ l d, p { d with host := l } = p d
  log : ∀ l d, p { d with log := l } = p d
  health : ∀ l d, p { d with health := l } = p d
  spokes : ∀ l d, p { d with spokes := l } = p d
  can : ∀ l d, p { d with can := l } = p d
  sox : ∀ l d, p { d with sox := l } = p d
  tdm : ∀ l d, p { d with tdm := l } = p d
  lb : ∀ l d, p { d with lb := l } = p d

theorem hubBlind_pwr : HubBlind Dev.pwr := by constructor <;> (intros; rfl)

theorem hubBlind_pt : HubBlind Dev.pt := by constructor <;> (intros; rfl)

theorem hubBlind_clock : HubBlind (fun d => cycleClock d.eng) := by
  constructor
  case eng => exact fun f d h => h d.eng
  all_goals intros; rfl

theorem hubBlind_cause (f : Fld) (hf : f.reg = R.PWR_CAUSE) : HubBlind (getF f) := by
  constructor
  case regs =>
    intro r w d h
    rw [getF, hf, rget_rput_other r _ w d h.symm, getF, hf]
  all_goals intros; rfl

/-- A register that does not lie at the start of the power block is not the one of the safe causes. -/
theorem off_ne_cause {n : Nat} (h : n < 0x200C ∨ 0x200C < n) : n ≠ R.PWR_CAUSE.off := by
  change n ≠ 0x200C
  omega

namespace HubBlind
variable {β : Type} {p : Dev → β} (hp : HubBlind p)
include hp

theorem spoke : SpokeBlind p where
  regs r w d h := hp.regs r w d (fun e => absurd (e ▸ h) (by decide))
  marks := hp.marks
  log := hp.log
  health := hp.health
  spokeRegs r w d h := hp.regs r w d (off_ne_cause (.inr (Nat.lt_of_lt_of_le (by decide) h)))
  free := hp.free
  spokes := hp.spokes
  waiting _ _ d := hp.links _ d

/-! ### The elementary updates -/

theorem updEnd (k : Nat) (side : Side) (f : LinkEnd → LinkEnd) (d : Dev) : p (updEnd k side f d) = p d := by
  cases side <;> exact hp.links _ _

theorem linkSend (k : Nat) (side : Side) (x : Payload) (d : Dev) : p (linkSend k side x d) = p d := hp.updEnd ..
theorem updLink (k : Nat) (f : Link → Link) (d : Dev) : p (updLink k f d) = p d := hp.links _ _
theorem emit (e : OutEvent) (d : Dev) : p (emit e d) = p d := hp.out _ _
theorem updHost (f : HostIf → HostIf) (d : Dev) : p (updHost f d) = p d := hp.host _ _
theorem updRing (i : Nat) (f : Ring → Ring) (d : Dev) : p (updRing i f d) = p d := hp.host _ _
theorem updCan (c : Nat) (f : CanCtl → CanCtl) (d : Dev) : p (updCan c f d) = p d := hp.can _ _
theorem updSox (f : Sox → Sox) (d : Dev) : p (updSox f d) = p d := hp.sox _ _
theorem updTdm (f : Tandem → Tandem) (d : Dev) : p (updTdm f d) = p d := hp.tdm _ _
theorem updOut (o : Nat) (f : OutletSt → OutletSt) (d : Dev) : p (updOut o f d) = p d := hp.eng _ _ (fun _ => rfl)
theorem updEdges (f : List (Nat × EdgeAct) → List (Nat × EdgeAct)) (d : Dev) : p (updEng (fun g => { g with edges := f g.edges }) d) = p d :=
  hp.eng _ _ (fun _ => rfl)
theorem fresh (d : Dev) : p (fresh d).2 = p d := hp.free _ _
theorem setF {f : Fld} (h : f.reg.off < 0x200C ∨ 0x200C < f.reg.off) (v : Nat) (d : Dev) : p (setF f v d) = p d := hp.regs _ _ _ (off_ne_cause h)
theorem countF {f : Fld} (h : f.reg.off < 0x200C ∨ 0x200C < f.reg.off) (d : Dev) : p (countF f d) = p d := hp.setF h _ _
theorem raise {f : Fld} (h : f.reg.off < 0x200C ∨ 0x200C < f.reg.off) (d : Dev) : p (raise f d) = p d := (hp.marks _ _).trans (hp.setF h _ _)
theorem logEvent (code sev : Nat) (src : LogSrc) (a b c : Nat) (d : Dev) : p (logEvent code sev src a b c d) = p d := hp.spoke.logEvent ..
theorem healthEvent (cls i : Nat) (g : Bool) (d : Dev) : p (healthEvent cls i g d).1 = p d := hp.spoke.healthEvent ..

/-! ### Protection crossings (R42 to R45) -/

theorem checkEcc (row u die : Nat) {passed failed : Dev → Dev} (hpass : ∀ d, p (passed d) = p d) (hfail : ∀ d, p (failed d) = p d) (d : Dev) :
    p (checkEcc row u die passed failed d) = p d := by
  unfold Machine.checkEcc
  split
  · exact hpass d
  · dsimp only
    split
    · exact (hpass _).trans ((hp.healthEvent ..).trans (hp.ecc _ _))
    · exact (hfail _).trans (hp.ecc _ _)

theorem crossEcc (row u die r q : Nat) {passed failed : Dev → Dev} (hpass : ∀ d, p (passed d) = p d) (hfail : ∀ d, p (failed d) = p d) (d : Dev) :
    p (crossEcc row u die r q passed failed d) = p d :=
  hp.checkEcc row u die hpass (fun _ => (hfail _).trans (hp.logEvent ..)) d

/-! ### Rings -/

theorem ringStatus {i v : Nat} {f : Fld} (h : f.reg = R.HIF_RING_STATUS i) (d : Dev) : p (Machine.setF f v d) = p d := by
  refine hp.regs _ _ _ ?_
  rw [h]
  change 0x111C + 0x20 * i ≠ 0x200C
  omega

theorem ringError (i c q : Nat) (d : Dev) : p (ringError i c q d) = p d := by
  unfold Machine.ringError
  refine ite_keeps ?_ rfl
  rw [hp.logEvent, hp.ringStatus rfl, hp.ringStatus rfl, setRingState, hp.ringStatus rfl]

theorem writeProgress (slot v : Nat) (d : Dev) : p (writeProgress slot v d) = p d :=
  hp.crossEcc _ _ _ _ _ (fun _ => hp.emit ..) (fun _ => hp.ringError ..) d

theorem msixGo (v : Nat) (d : Dev) : p (msixGo v d) = p d := by
  unfold Machine.msixGo
  exact ite_keeps (hp.out _ _) ((hp.pcie _ _).trans (hp.emit ..))

theorem msixSend (v : Nat) (d : Dev) : p (msixSend v d) = p d := by
  unfold Machine.msixSend
  exact ite_keeps (hp.msixGo ..) (ite_keeps rfl (hp.pcie _ _))

theorem ringMessage (i : Nat) (d : Dev) : p (ringMessage i d) = p d := (hp.msixSend ..).trans (hp.updRing ..)

theorem moderate (i : Nat) (b : Bool) (d : Dev) : p (moderate i b d) = p d := by
  unfold Machine.moderate
  exact ite_keeps (hp.updRing ..) (ite_keeps ((hp.ringMessage ..).trans (hp.updRing ..)) (hp.updRing ..))

theorem writeHost (a : Nat) (bs : List Byte) (d : Dev) : p (writeHost a bs d) = p d := eachD_keeps p _ _ (fun _ _ => hp.emit ..) d

theorem writeCompletion (i : Nat) (x : InDesc) (st dt : Nat) (bs : List Byte) (d : Dev) : p (writeCompletion i x st dt bs d) = p d :=
  (hp.emit ..).trans ((hp.writeHost ..).trans (hp.updRing ..))

theorem putCompletion (i : Nat) (x : InDesc) (st dt : Nat) (bs : List Byte) (d : Dev) : p (putCompletion i x st dt bs d) = p d := by
  unfold Machine.putCompletion
  have hcross := hp.crossEcc 8 i 0 i x.index (fun _ => hp.writeCompletion i x st dt bs _) (fun _ => hp.ringError i 5 x.index _) d
  refine ite_keeps (Eq.trans (ite_keeps ?_ rfl) hcross) rfl
  exact (whenD_keeps p _ _ (fun _ => hp.moderate ..) _).trans (hp.writeProgress ..)

theorem complete (i j st dt : Nat) (bs : List Byte) (d : Dev) : p (complete i j st dt bs d) = p d := by
  unfold Machine.complete
  split
  · rfl
  · exact ite_keeps rfl (hp.putCompletion ..)

theorem noBuf (cls : Nat) (inst : Option Nat) (d : Dev) : p (noBuf cls inst d) = p d :=
  eachD_keeps p _ _ (fun _ _ => ite_keeps ((hp.marks _ _).trans (hp.ringStatus rfl _)) rfl) d

/-! ### The tandem link and the section bus -/

theorem freeBytes (n : Nat) (d : Dev) : p (freeBytes n d).2 = p d := by
  induction n generalizing d with
  | zero => rfl
  | succ n ih => exact (ih _).trans (hp.fresh d)

theorem tdmPayload (f : TdmFrame) (d : Dev) : p (tdmPayload f d).2 = p d := by
  unfold Machine.tdmPayload
  split
  case h_9 => exact (hp.freeBytes ..).trans (hp.fresh d)
  case h_10 => exact (hp.freeBytes ..).trans (hp.fresh d)
  all_goals rfl

theorem tdmPut (f : TdmFrame) (d : Dev) : p (tdmPut f d) = p d := (hp.emit ..).trans ((hp.updTdm ..).trans (hp.tdmPayload ..))

theorem tdmSend (f : TdmFrame) (d : Dev) : p (tdmSend f d) = p d := hp.crossEcc _ _ _ _ _ (fun _ => hp.tdmPut ..) (fun _ => rfl) d

theorem tdmDrain (n : Nat) (d : Dev) : p (tdmDrain n d) = p d := by
  induction n generalizing d with
  | zero => rfl
  | succ n ih =>
    unfold Machine.tdmDrain
    split
    · rfl
    · split
      · exact (ih _).trans ((hp.putCompletion ..).trans (hp.updTdm ..))
      · exact hp.noBuf ..

theorem tdmEvent (c a b : Nat) (d : Dev) : p (tdmEvent c a b d) = p d := by
  unfold Machine.tdmEvent
  exact ite_keeps (hp.countF (by decide) _) ((hp.tdmDrain ..).trans (hp.updTdm ..))

theorem nextCounter (cls : Nat) (d : Dev) : p (nextCounter cls d).2 = p d := by
  unfold Machine.nextCounter
  split
  · exact hp.sox _ _
  · exact (hp.sox _ _).trans (hp.fresh d)

theorem soxQueue (cls dest spec : Nat) (single : Bool) (payload : List Byte) (d : Dev) : p (soxQueue cls dest spec single payload d) = p d := by
  unfold Machine.soxQueue
  exact ite_keeps rfl (hp.crossEcc _ _ _ _ _ (fun _ => (hp.updCan ..).trans (hp.nextCounter ..)) (fun _ => rfl) d)

/-! ### Schedule entries and EDGE frames -/

theorem sendEntry (o a b code : Nat) (act : EdgeAct) (d : Dev) : p (sendEntry o a b code act d) = p d := by
  unfold Machine.sendEntry
  exact ite_keeps rfl (ite_keeps (ite_keeps ((hp.linkSend ..).trans (hp.updOut ..)) (hp.updOut ..))
    ((hp.updEdges (· ++ [(o, act)]) _).trans (hp.updOut ..)))

theorem endOutlet (o at_ : Nat) (d : Dev) : p (endOutlet o at_ d) = p d := by
  unfold Machine.endOutlet
  exact ite_keeps ((hp.updOut ..).trans (ite_keeps (hp.sendEntry ..) rfl)) rfl

theorem endAllEntries (c : Nat) (d : Dev) : p (endAllEntries c d) = p d := eachD_keeps p _ _ (fun _ _ => hp.endOutlet ..) d

theorem edgeFrame (f c : Nat) (es : List EdgeEntry) (d : Dev) : p (edgeFrame f c es d) = p d := by
  unfold Machine.edgeFrame
  exact (hp.updSox ..).trans (hp.soxQueue ..)

theorem edgeFlushOne (c f : Nat) (d : Dev) : p (edgeFlushOne c f d) = p d := by
  unfold Machine.edgeFlushOne
  exact (eachD_keeps p _ (Machine.edgeFrame f c) (fun _ _ => hp.edgeFrame ..) _).trans (hp.updSox ..)

theorem edgeFlush (c : Nat) (d : Dev) : p (edgeFlush c d) = p d :=
  (hp.updEdges (fun _ => []) _).trans (ite_keeps rfl (eachD_keeps p _ _ (fun _ _ => hp.edgeFlushOne ..) d))

theorem dropForces (d : Dev) : p (dropForces d) = p d := eachD_keeps p _ _ (fun _ _ => hp.updOut ..) d

theorem dropEntries (d : Dev) : p (dropEntries d) = p d := eachD_keeps p _ _ (fun _ _ => hp.updOut ..) d

theorem endSpokeIvs (k : Nat) (d : Dev) : p (endSpokeIvs k d) = p d :=
  eachD_keeps p _ _ (fun _ _ => ite_keeps (hp.updOut ..) rfl) d

theorem timeoutLoops (k : Nat) (d : Dev) : p (timeoutLoops k d) = p d :=
  eachD_keeps p _ _ (fun _ _ => ite_keeps (eachD_keeps p _ _ (fun _ _ => hp.complete ..) _) rfl) d

/-! ### Spokes turned off, yield, and the end of a loop-back -/

theorem endLoopChannels (k : Nat) (d : Dev) : p (endLoopChannels k d) = p d :=
  eachD_keeps p _ _ (fun _ _ => ite_keeps (hp.spoke.endRegulation ..) rfl) d

theorem quietSpoke (k : Nat) (force : Bool) (d : Dev) : p (quietSpoke k force d) = p d :=
  (hp.spoke.settlePairs ..).trans ((hp.spoke.disableDrive ..).trans ((hp.endLoopChannels ..).trans (hp.spoke.stopSpoke ..)))

theorem yieldNow (cause : Nat) (d : Dev) : p (yieldNow cause d) = p d := by
  unfold Machine.yieldNow
  refine ite_keeps rfl ?_
  rw [hp.updTdm, hp.tdmEvent, hp.logEvent, hp.raise (by decide), hp.tdmSend]
  refine whenD_keeps p _ _ (fun e => ?_) d
  rw [hp.dropEntries, eachD_keeps p _ _ (fun _ _ => hp.quietSpoke ..), hp.edgeFlush, hp.endAllEntries]

theorem haltSet (c : Nat) (d : Dev) : p (haltSet c d) = p d := by
  have hc : (F.CAN_CFG.HALT c).reg.off < 0x200C ∨ 0x200C < (F.CAN_CFG.HALT c).reg.off := by
    change 0xA000 + 0x800 * c + 0 < 0x200C ∨ 0x200C < 0xA000 + 0x800 * c + 0
    omega
  exact (ite_keeps (hp.updCan ..) rfl).trans (hp.raise hc d)

theorem endLoopback (state : Nat) (d : Dev) : p (endLoopback state d) = p d := by
  unfold Machine.endLoopback
  split
  · rfl
  · have hstate (d : Dev) : p (Machine.setF F.PWR_LB_STATUS.STATE state { d with lb := none }) = p d := (hp.setF (by decide) _ _).trans (hp.lb _ _)
    split
    · exact (hp.updLink ..).trans (hstate d)
    · exact (hp.haltSet ..).trans (hstate d)
    · exact hstate d

end HubBlind

end Sys2Proof.Proofs
end

section
/-! The safe state (R52, R76): what entering it makes of the sequencer, and that the cause bit stays set through the disarm. -/
namespace Sys2Proof.Proofs
open Sys2Proof Sys2Proof.Machine Sys2Proof.Laws

theorem reportBlind_pwr : ReportBlind Dev.pwr := hubBlind_pwr.spoke.toReportBlind

/-- The sequencer in SAFE: self-test, training, precharge and parked entry are given up (R52, R76). -/
def safePwr (p : Pwr) : Pwr := { p with state := .safe, testing := false, trainBy := [], prechargeBy := [], park := .awake, wakeLatched := none }

/-- The device once SAFE has turned its outputs off and ended a loop-back, before the sequencer changes. -/
def quieted (d : Dev) : Dev :=
  d |> eachD (spokeList d) (fun k d => d |> quietSpoke k false |> loopsSafe k 5 |> loopsDisarm k)
    |> dropEntries |> dropForces |> endLoopback 0

theorem HubBlind.quieted {β : Type} {p : Dev → β} (hp : HubBlind p) (d : Dev) : p (quieted d) = p d := by
  rw [Proofs.quieted, hp.endLoopback, hp.dropForces, hp.dropEntries]
  refine eachD_keeps p _ _ (fun k e => ?_) d
  rw [hp.spoke.loopsDisarm, hp.spoke.loopsSafe, hp.quietSpoke]

/-- The device in SAFE, before the logbook takes the record of it. -/
def inSafe (d : Dev) : Dev :=
  quieted d |> setState .safe
    |> updPwr (fun p => { p with testing := false, trainBy := [], prechargeBy := [], park := .awake, wakeLatched := none })

theorem goSafe_eq (d : Dev) : goSafe d = logEvent 0x0102 6 ⟨0, 0, 0⟩ (getF F.PWR_CAUSE.SAFE d) 0 0 (inSafe d) := by
  rw [goSafe, inSafe, quieted]

theorem inSafe_pwr (d : Dev) : (inSafe d).pwr = safePwr d.pwr := by
  rw [inSafe, updPwr_pwr, setState_pwr, hubBlind_pwr.quieted, safePwr]

theorem goSafe_pwr (d : Dev) : (goSafe d).pwr = safePwr d.pwr := by
  rw [goSafe_eq, reportBlind_pwr.logEvent, inSafe_pwr]

@[simp] theorem getF_updPwr (f : Fld) (g : Pwr → Pwr) (d : Dev) : getF f (updPwr g d) = getF f d := rfl

theorem goSafe_cause {f : Fld} (hf : f.reg = R.PWR_CAUSE) (d : Dev) : getF f (goSafe d) = getF f d := by
  rw [goSafe_eq, (hubBlind_cause f hf).logEvent, inSafe, getF_updPwr, setState, getF_updPwr, (hubBlind_cause f hf).quieted]

/-- A safe-state cause arises in a state that has an exit to SAFE. -/
theorem enterSafe_enters {d : Dev} (h : canEnterSafe d) {b : Nat} (hb : b < 7) :
    (enterSafe b d).pwr = safePwr d.pwr ∧ bitOf F.PWR_CAUSE.SAFE b (enterSafe b d) = true := by
  obtain ⟨hcold, hboot, hparked, hsafe⟩ := h
  have hgo : enterSafe b d = goSafe (whenD (safeYields b) (yieldNow 2) (bitF F.PWR_CAUSE.SAFE b true d)) := by
    simp [enterSafe, pstate, hcold, hboot, hparked, hsafe]
  constructor
  · rw [hgo, goSafe_pwr, whenD_keeps Dev.pwr _ _ (fun _ => hubBlind_pwr.yieldNow ..), bitF_pwr]
  · have hcause := hubBlind_cause F.PWR_CAUSE.SAFE rfl
    rw [hgo, bitOf_of_getF ((goSafe_cause rfl _).trans (whenD_keeps _ _ _ (fun _ => hcause.yieldNow ..) _)), bitOf_bitF _ _ _ _ _ (by decide) hb,
      if_pos rfl]

/-- In SAFE itself a cause sets its bit and nothing else (R77). -/
theorem enterSafe_inSafe {d : Dev} (h : d.pwr.state = .safe) (b : Nat) : enterSafe b d = bitF F.PWR_CAUSE.SAFE b true d := by
  simp [enterSafe, pstate, h]

/-- In COLD, BOOT and PARKED a cause is held (R52). -/
theorem enterSafe_holds {d : Dev} (h : d.pwr.state = .cold ∨ d.pwr.state = .boot ∨ d.pwr.state = .parked) (b : Nat) :
    enterSafe b d = updPwr (fun p => { p with heldSafe := true }) (bitF F.PWR_CAUSE.SAFE b true d) := by
  rcases h with h | h | h <;> simp [enterSafe, pstate, h]

/-- What the statement says of a device in SAFE. -/
theorem safePwr_facts (p : Pwr) : (safePwr p).state = .safe ∧ (safePwr p).testing = false ∧ (safePwr p).prechargeBy = [] ∧ (safePwr p).park = .awake :=
  ⟨rfl, rfl, rfl, rfl⟩

theorem canEnterSafe_congr {d e : Dev} (h : e.pwr.state = d.pwr.state) (hd : canEnterSafe d) : canEnterSafe e := by
  simpa only [canEnterSafe, h] using hd

/-- Settles O6: by what entering SAFE makes of the sequencer and of the cause bit. -/
theorem safeCausesEnterSafe : Obligations.SafeCausesEnterSafe := by
  refine ⟨fun s => ⟨fun h => ?fault, fun h dev hdev => ?refclk, fun dev hdev => ?within, fun h die temp ht hdie => ?thermal, rfl⟩,
    fun s => ⟨fun h => ?inSafe, fun h => ?held⟩⟩
  case fault =>
    simp only [List.forall_mem_cons, List.not_mem_nil, IsEmpty.forall_iff, implies_true, and_true]
    constructor
    · obtain ⟨hpwr, hbit⟩ := enterSafe_enters h (b := 5) (by decide)
      refine completes_run rfl ?_
      simp only [hpwr]
      exact ⟨rfl, hbit, rfl, rfl, rfl, trivial⟩
    · obtain ⟨hpwr, hbit⟩ := enterSafe_enters h (b := 0) (by decide)
      have hcmd : safeCmd s.dev = enterSafe 0 s.dev := by
        obtain ⟨hcold, hboot, hparked, -⟩ := h
        simp [safeCmd, pstate, hcold, hboot, hparked]
      refine completes_run rfl ?_
      simp only [hcmd, hpwr]
      exact ⟨rfl, hbit, rfl, rfl, rfl, trivial⟩
  case refclk =>
    have hpwr0 (d : Dev) : (logEvent 0x0109 6 ⟨0, 0, 0⟩ (toBits 32 dev) 0 0 d).pwr = d.pwr := reportBlind_pwr.logEvent ..
    obtain ⟨hpwr, hbit⟩ := enterSafe_enters (d := logEvent 0x0109 6 ⟨0, 0, 0⟩ (toBits 32 dev) 0 0 (updPwr (fun p => { p with persistRef := true }) s.dev))
      (canEnterSafe_congr (by rw [hpwr0]; rfl) h) (b := 1) (by decide)
    rw [hpwr0] at hpwr
    refine completes_run (exec_refclkFail _ _) ?_
    simp only [if_neg (Nat.not_le.mpr hdev), hpwr]
    exact ⟨rfl, hbit, rfl, rfl, rfl, rfl⟩
  case within => simp only [exec_refclkFail, execRefclkFail, run_next, hdev, if_true, updPwr]
  case thermal =>
    have hnot : (decide (temp ≤ 155) || !(die == 0 || hasSpoke die s.dev)) = false := by
      have : ¬ temp ≤ 155 := by omega
      rcases hdie with hd | hd <;> simp [this, hd]
    have hmem : die ∈ if s.dev.pwr.hotDies.contains die then s.dev.pwr.hotDies else die :: s.dev.pwr.hotDies := by
      split <;> simp_all
    obtain ⟨hpwr, hbit⟩ := enterSafe_enters (canEnterSafe_congr (e := updPwr (fun p => { p with
      hotDies := if p.hotDies.contains die then p.hotDies else die :: p.hotDies }) s.dev) rfl h) (b := 4) (by decide)
    refine completes_run (exec_thermal _ _ _) ?_
    simp only [hnot, Bool.false_eq_true, if_false, hpwr]
    exact ⟨rfl, hbit, rfl, rfl, rfl, hmem⟩
  case inSafe => rw [exec_hubFault, execHubFault, run_next, enterSafe_inSafe h]
  case held =>
    refine completes_run rfl ?_
    simp only [enterSafe_holds h]
    exact ⟨by rw [updPwr_pwr, bitF_pwr], (bitOf_bitF _ _ _ _ _ (by decide) (by decide)).trans (if_pos rfl), rfl⟩

end Sys2Proof.Proofs
end

section
/-! Parked entry and wake (R39, R79 to R84): when an entry begins, what its end leaves, and when a wake source acts. -/
namespace Sys2Proof.Proofs
open Sys2Proof Sys2Proof.Machine Sys2Proof.Laws

/-! ### Parked entry -/

theorem parkCmd_begins {d : Dev} (hs : d.pwr.state = .ready ∨ d.pwr.state = .restricted) (hao : d.pwr.aoFail = false) (hp : d.pwr.park = .awake) :
    parkCmd d = parkBegin d := by
  rcases hs with h | h <;> simp [parkCmd, pstate, h, hao, hp]

theorem parkCmd_refused {d : Dev} (hs : d.pwr.state = .ready ∨ d.pwr.state = .armed ∨ d.pwr.state = .restricted) (hao : d.pwr.aoFail = true) :
    parkCmd d = raise F.PWR_ARM.PARK_REFUSED d := by
  rcases hs with h | h | h <;> simp [parkCmd, pstate, isArmed, h, hao]

theorem disarmReady_notArmed {d : Dev} (h : isArmed d = false) : disarmReady d = d := by
  simp [disarmReady, h]

/-- The steps of parked entry are done (R80). -/
theorem parkDone_facts (d : Dev) : (parkDone d).pwr.state = .parked ∧ (parkDone d).pwr.park = .saved ∧ (parkDone d).pins.pwrEn = false ∧
    (parkDone d).pwr.suppliesGood = false := by
  unfold parkDone
  dsimp only
  generalize updEng _ _ = e
  exact ⟨rfl, rfl, rfl, rfl⟩

theorem parkNext_due {d : Dev} (h : d.pwr.parkAt + 250000 ≤ d.pt) : parkNext d = parkDone d := by
  simp [parkNext, ms, h]

theorem parkAbort_facts (d : Dev) : (parkAbort d).pwr.park = .awake ∧ getF F.PWR_ARM.PARK_ABORTED (parkAbort d) = 1 := by
  unfold parkAbort
  dsimp only
  generalize whenD _ _ _ = e
  exact ⟨by rw [raise_pwr, updPwr_pwr], getF_raise_same _ _ (by decide) rfl⟩

/-! ### Wake -/

theorem pulseAfterWake_pwr (d : Dev) : (pulseAfterWake d).pwr = d.pwr := by
  unfold pulseAfterWake
  split <;> rfl

theorem pulseAfterWake_pt (d : Dev) : (pulseAfterWake d).pt = d.pt := by
  unfold pulseAfterWake
  split <;> rfl

/-- The device wakes for a source, its supply to go on within 5 µs (R83). -/
def WakesFor (source : Nat) (d : Dev) : Prop :=
  d.pwr.park = .waking ∧ d.pwr.wakeSource = source ∧ ∃ q, d.pwr.powerAt = some q ∧ d.pt ≤ q ∧ q ≤ d.pt + 1250

theorem wakesFor_pulseAfterWake {source : Nat} {d : Dev} (h : WakesFor source d) : WakesFor source (pulseAfterWake d) := by
  simpa only [WakesFor, pulseAfterWake_pwr, pulseAfterWake_pt] using h

theorem wakesFor_powered (source : Nat) {f : Pwr → Pwr} {d : Dev} (hpark : (f d.pwr).park = .waking) (hs : (f d.pwr).wakeSource = source) {v : Nat}
    (hq : (f d.pwr).powerAt = some (d.pt + v % (us 5 + 1))) : WakesFor source (updPwr f d) := by
  have hv : v % (us 5 + 1) ≤ 1250 := by
    rw [us]
    omega
  exact ⟨hpark, hs, _, hq, Nat.le_add_right _ _, Nat.add_le_add_left hv _⟩

/-- The body of `wakeBegin` is opened with its name generalized: the kernel then meets no rounding of an open number of ticks as a test to evaluate. -/
theorem wakeBegin_wakes (source : Nat) (d : Dev) : WakesFor source (wakeBegin source d) := by
  generalize hf : wakeBegin = f
  delta wakeBegin at hf
  subst hf
  beta_reduce
  rcases parkedInterval d with ⟨n, d⟩
  dsimp only
  rcases divFree _ _ _ with ⟨ao, d'⟩
  exact wakesFor_pulseAfterWake (wakesFor_powered source rfl rfl rfl)

theorem wakeEvent_aborts {source : Nat} {d : Dev} (h : d.pwr.park = .entering) : wakeEvent source false d = parkAbort d := by
  simp [wakeEvent, h]

theorem wakeEvent_latches {source : Nat} {d : Dev} (h : d.pwr.park = .entering) (hl : d.pwr.wakeLatched = none) :
    wakeEvent source true d = updPwr (fun p => { p with wakeLatched := some source }) d := by
  simp [wakeEvent, h, updPwr, hl]

theorem wakeEvent_wakes {source : Nat} {d : Dev} (saving : Bool) (h : d.pwr.park = .saved) (hd : d.pwr.wakeDelay = none) (ht : 250000 ≤ d.pwr.parkTicks) :
    wakeEvent source saving d = wakeBegin source d := by
  simp [wakeEvent, h, hd, ms, ht]

theorem wakeEvent_early {source : Nat} {d : Dev} (saving : Bool) (h : d.pwr.park = .saved) (hd : d.pwr.wakeDelay = none) (ht : d.pwr.parkTicks < 250000) :
    wakeEvent source saving d = updPwr (fun p => { p with wakeLatched := some source, wakeDelay := some 250000 }) d := by
  simp [wakeEvent, h, hd, ms, Nat.not_le.mpr ht]

/-- A command that begins a wake. -/
theorem completes_wake {c : Instr} {s : State} {source : Nat} {d : Dev} (hc : exec c s = .next { s with dev := wakeBegin source d }) {P : State → Prop}
    (hP : ∀ e, WakesFor source e → P { s with dev := e }) : Completes c s P :=
  ⟨_, hc, rfl, hP _ (wakeBegin_wakes source d)⟩

/-- The device with the WAKE ball at its active level. -/
def wakeHigh (d : Dev) : Dev := { d with pins := { d.pins with wake := isSet F.PWR_PARK_CFG.WAKE_POL d } }

theorem execWake_enabled {s : State} (saving : Bool) (h : isSet F.PWR_PARK_CFG.WAKE_EN s.dev = true) :
    exec (.wake saving) s = .next { s with dev := wakeEvent 1 saving (wakeHigh s.dev) } := by
  have hen : isSet F.PWR_PARK_CFG.WAKE_EN (wakeHigh s.dev) = true := h
  rw [exec_wake, execWake, run_next]
  exact congrArg (fun d => Host.Outcome.next { s with dev := d }) (if_pos hen)

theorem execParkTimerExpiry_due {s : State} (saving : Bool) (hen : isSet F.PWR_PARK_CFG.TIMER_EN s.dev = true)
    (hsec : getF F.PWR_PARK_TIMER.SECONDS s.dev ≠ 0) (ht : 250000000 * getF F.PWR_PARK_TIMER.SECONDS s.dev ≤ s.dev.pwr.parkTicks)
    (hp : s.dev.pwr.park = .saved) : exec (.parkTimerExpiry saving) s = .next { s with dev := wakeEvent 2 saving s.dev } := by
  have hlate : ¬ s.dev.pwr.parkTicks < sec (getF F.PWR_PARK_TIMER.SECONDS s.dev) := by simpa [sec] using ht
  simp [execParkTimerExpiry, run_next, hen, hsec, hlate, hp]

theorem execWakeDelayDone_due {s : State} {p : Nat} (hd : s.dev.pwr.wakeDelay = some p) (hle : p ≤ s.dev.pwr.parkTicks)
    (hp : s.dev.pwr.park = .saved) : exec .wakeDelayDone s = .next { s with dev := wakeBegin (s.dev.pwr.wakeLatched.getD 0) s.dev } := by
  have hcond : (decide (s.dev.pwr.park = .saved) && decide (p ≤ s.dev.pwr.parkTicks)) = true := by simp [hp, hle]
  rw [exec_wakeDelayDone, execWakeDelayDone, run_next]
  simp only [hd]
  rw [if_pos hcond]

/-- Settles O8: by what each step of parked entry and each wake source does. -/
theorem parkingAndWaking : Obligations.ParkingAndWaking := by
  refine ⟨fun s => ⟨fun hs hao hp => ?park, fun hs hao => ?refused, fun hs hao hp hdelay hwake hidle => ?auto, fun hp hat => ?parked⟩,
    fun s => ⟨fun hen hp => ?aborts, fun hen hp hl => ?latches, fun hen hp hd ht => ?wakes, fun hen hp hd ht => ?early,
      fun hen hsec ht hp hd => ?timer, fun hen hp hd ht => ?heartbeat, fun p hd hle hp => ?delayed⟩⟩
  case park => rw [exec_park, execPark, run_next, parkCmd_begins hs hao hp, parkBegin, updPwr]
  case refused => rw [exec_park, execPark, run_next, parkCmd_refused hs hao]
  case auto =>
    have hnot : isArmed s.dev = false := by simp [isArmed, hs]
    have hlate : ¬ s.dev.pt < s.dev.pwr.wakeIdle + sec (getF F.PWR_PARK_CFG.PARK_DELAY s.dev) := by simpa [sec] using hidle
    refine completes_run (exec_autoPark s) ?_
    simp only [pstate, hs, hp, hao, hdelay, hwake, hlate, disarmReady_notArmed hnot]
    exact ⟨rfl, hs, rfl⟩
  case parked =>
    refine completes_run (exec_parked s) ?_
    simp only [hp, if_true, parkNext_due hat]
    exact parkDone_facts s.dev
  case aborts =>
    refine ⟨_, execWake_enabled false hen, rfl, ?_⟩
    simp only [wakeEvent_aborts (d := wakeHigh s.dev) hp]
    exact parkAbort_facts _
  case latches =>
    refine ⟨_, execWake_enabled true hen, rfl, ?_⟩
    simp only [wakeEvent_latches (d := wakeHigh s.dev) hp hl]
    exact ⟨hp, rfl⟩
  case wakes =>
    refine completes_wake (source := 1) (d := wakeHigh s.dev) ?_ (fun e he => he)
    rw [execWake_enabled true hen, wakeEvent_wakes (d := wakeHigh s.dev) true hp hd ht]
  case early =>
    refine ⟨_, execWake_enabled true hen, rfl, ?_⟩
    simp only [wakeEvent_early (d := wakeHigh s.dev) true hp hd ht]
    exact ⟨hp, rfl, rfl, rfl⟩
  case timer =>
    refine completes_wake (source := 2) (d := s.dev) ?_ (fun e he => he)
    rw [execParkTimerExpiry_due true hen hsec ht hp, wakeEvent_wakes true hp hd (by omega)]
  case heartbeat =>
    refine completes_wake (source := 3) (d := s.dev) ?_ (fun e he => he)
    rw [exec_heartbeatWake, execHeartbeatWake, run_next, if_pos hen, wakeEvent_wakes true hp hd ht]
  case delayed =>
    exact completes_wake (execWakeDelayDone_due hd hle hp) (fun e ⟨hpark, hsource, hpower⟩ => ⟨hpark, hpower, hsource⟩)

end Sys2Proof.Proofs
end

section
/-! Register accesses of the host (R29, R69, R86, R87, R537 to R540): which of the buses takes an access, and what it does there. -/
namespace Sys2Proof.Proofs
open Sys2Proof Sys2Proof.Machine Sys2Proof.Laws

/-! ### The register commands while the hub is on -/

theorem registerWrite_bus {a size : Nat} {v : Word} {by_ : Agent} {s : State} (hon : hubOn s.dev = true)
    (h : ¬ (a = R.PWR_CMD.off ∧ size = 4)) :
    exec (.registerWrite a size v by_) s = .next { s with dev := busWrite by_ a size v s.dev } := by
  have hn : ¬ (a = R.PWR_CMD.off ∧ size = 4 ∧ wordField v 0 8 = 4) := fun ⟨ha, hs, _⟩ => h ⟨ha, hs⟩
  rw [exec_registerWrite, execRegisterWrite, if_pos hon, storeWrite, if_neg (by simpa [and_assoc] using hn)]

theorem registerRead_bus {a size : Nat} {s : State} (hon : hubOn s.dev = true) :
    exec (.registerRead a size) s = .next { s with dev := hostRead a size s.dev } := by
  rw [exec_registerRead, execRegisterRead, run_next, if_pos hon]

/-! ### The bus an address names -/

theorem inConfig_low {a : Nat} (h : a < 0x44000) : inConfig a = false := by simp [inConfig]; omega

theorem inBar2_low {a : Nat} (h : a < 0x40000) : inBar2 a = false := by simp [inBar2]; omega

theorem windowOf_bounds {a k : Nat} (h : windowOf a = some k) : 0x14000 ≤ a ∧ a < 0x30000 := by
  simp only [windowOf] at h
  split at h
  next hb => simpa using hb
  next => exact absurd h (by simp)

theorem windowOf_low {a : Nat} (h : a < 0x14000) : windowOf a = none := by simp [windowOf]; omega

theorem not_pwrCmd_of_window {a k : Nat} (h : windowOf a = some k) : a ≠ R.PWR_CMD.off := by
  have hb := windowOf_bounds h
  have hoff : R.PWR_CMD.off = 0x2004 := rfl
  omega

theorem not_pwrCmd_of_bar2 {a size : Nat} (h : 0x40000 ≤ a) : ¬ (a = R.PWR_CMD.off ∧ size = 4) := fun e => by
  have hoff : R.PWR_CMD.off = 0x2004 := rfl
  omega

section
variable {a size : Nat} {v : Word} {by_ : Agent} {d : Dev}

theorem busWrite_badAccess (ha : a < 0x44000) (h : size ≠ 4 ∨ a % 4 ≠ 0) : busWrite by_ a size v d = raise F.HIF_STATUS.BAD_ACCESS d := by
  simp [busWrite, inConfig_low ha, h]

theorem hostRead_badAccess (ha : a < 0x44000) (h : size ≠ 4 ∨ a % 4 ≠ 0) : hostRead a size d = emit (.unsupported a) d := by
  simp [hostRead, inConfig_low ha, h]

section
variable (ha : a % 4 = 0) {k : Nat} (hw : windowOf a = some k)
include ha hw

theorem busWrite_window : busWrite by_ a 4 v d =
    if !hasSpoke k d then d
    else if by_ = .spokeFw then (if d.pwr.spokeOn.contains k then regWrite by_ a v d else d)
    else if hubHeld a then regWrite by_ a v d
    else if windowDown k d then d
    else linkSend k .hub (.cmd (.regWrite (windowOff a) v by_)) d := by
  obtain ⟨-, hb⟩ := windowOf_bounds hw
  have h4 : ¬ 0x40000 ≤ a := by omega
  simp [busWrite, inConfig_low (show a < 0x44000 by omega), ha, h4, hw]

theorem hostRead_absent (hk : hasSpoke k d = false) : hostRead a 4 d = emit (.readDone a 0) d := by
  obtain ⟨-, hb⟩ := windowOf_bounds hw
  simp [hostRead, inConfig_low (show a < 0x44000 by omega), inBar2_low (show a < 0x40000 by omega), ha, show ¬ 0x40000 ≤ a by omega, hw, hk]

theorem hostRead_down (hk : hasSpoke k d = true) (hheld : hubHeld a = false) (hdown : windowDown k d = true) :
    hostRead a 4 d = emit (.readDone a 0xFFFFFFFF) d := by
  obtain ⟨-, hb⟩ := windowOf_bounds hw
  simp [hostRead, inConfig_low (show a < 0x44000 by omega), inBar2_low (show a < 0x40000 by omega), ha, show ¬ 0x40000 ≤ a by omega, hw, hk,
    hheld, hdown]

theorem hostRead_remote (hk : hasSpoke k d = true) (hheld : hubHeld a = false) (hdown : windowDown k d = false) :
    hostRead a 4 d = linkSend k .hub (.cmd (.regRead (windowOff a))) (updLink k (fun l => { l with reads := l.reads ++ [a] }) d) := by
  obtain ⟨-, hb⟩ := windowOf_bounds hw
  simp [hostRead, inConfig_low (show a < 0x44000 by omega), inBar2_low (show a < 0x40000 by omega), ha, show ¬ 0x40000 ≤ a by omega, hw, hk,
    hheld, hdown]

end

/-- A register of the hub whose block is on is written where it stands. -/
theorem busWrite_hub (ha : a % 4 = 0) (hlow : a < 0x14000) (hon : blockOff a d = false) : busWrite by_ a 4 v d = regWrite by_ a v d := by
  simp [busWrite, inConfig_low (show a < 0x44000 by omega), ha, show ¬ 0x40000 ≤ a by omega, windowOf_low hlow, hon]

theorem hostRead_hub (ha : a % 4 = 0) (hlow : a < 0x14000) (hon : blockOff a d = false) :
    hostRead a 4 d = emit (.readDone a (regValue a d).1) (readLatch a (regValue a d).2) := by
  simp [hostRead, inConfig_low (show a < 0x44000 by omega), inBar2_low (show a < 0x40000 by omega), ha, show ¬ 0x40000 ≤ a by omega,
    windowOf_low hlow, hon]

end

theorem blockOff_below {a : Nat} (d : Dev) (h : a < 0x6000) : blockOff a d = false := by simp [blockOff]; omega

theorem blockOff_above {a : Nat} (d : Dev) (h : 0x8000 ≤ a) : blockOff a d = false := by simp [blockOff]; omega

/-! ### Reserved offsets -/

theorem regWrite_reserved {by_ : Agent} {a : Nat} {v : Word} {d : Dev} (h : regFind a = none) : regWrite by_ a v d = d := by
  simp [regWrite, h]

theorem regValue_reserved {a : Nat} {d : Dev} (h : regFind a = none) : regValue a d = (0, d) := by simp [regValue, h]

theorem readLatch_other {a : Nat} {d : Dev} (hft : a ≠ R.TIM_FT_LO.off) (hop : a ≠ R.LOG_OPTIME_LO.off) : readLatch a d = d := by
  simp [readLatch, hft, hop]

theorem readLatch_reserved {a : Nat} {d : Dev} (h : regFind a = none) : readLatch a d = d := by
  have hft : regFind R.TIM_FT_LO.off ≠ none := by decide
  have hop : regFind R.LOG_OPTIME_LO.off ≠ none := by decide
  exact readLatch_other (fun e => hft (e ▸ h)) (fun e => hop (e ▸ h))

theorem not_pwrCmd_of_reserved {a : Nat} (h : regFind a = none) : a ≠ R.PWR_CMD.off := by
  have hcmd : regFind R.PWR_CMD.off ≠ none := by decide
  exact fun e => hcmd (e ▸ h)

/-! ### Words taken whole -/

theorem toNat_and_full (w : Word) : w.toNat &&& 0xFFFFFFFF = w.toNat := by
  rw [show (0xFFFFFFFF : Nat) = 2 ^ 32 - 1 from rfl, Nat.and_two_pow_sub_one_eq_mod, Nat.mod_eq_of_lt w.isLt]

/-- With every bit in the mask, the new word replaces the old one. -/
theorem mixWord_full (old new : Word) : mixWord 0xFFFFFFFF old new = new := by
  simp [mixWord, toNat_and_full]

/-- With no bit in the mask, the old word stands. -/
theorem mixWord_none (old new : Word) : mixWord 0 old new = old := by
  simp [mixWord, toNat_and_full]

/-- CAN_SUM_TPL of a controller as the map finds it. -/
def templateHit (c : Nat) : RegHit := ⟨.CAN_SUM_TPL, c, 0, 0, R.CAN_SUM_TPL c, [⟨0, 32, .rw⟩]⟩

theorem regFind_template : ∀ c < 4, regFind (R.CAN_SUM_TPL c).off = some (templateHit c) := by decide

/-- The template word is one RW field without a range: a write replaces it. -/
theorem plainWrite_template (c : Nat) (v : Word) (d : Dev) : plainWrite (templateHit c) v d = rput (R.CAN_SUM_TPL c) v d := by
  have hrw (armed : Bool) : accMask (fun a => a == .rw || (a == .rwa && !armed)) (templateHit c) = 0xFFFFFFFF := rfl
  have hclear : accMask (· == .w1c) (templateHit c) = 0 := rfl
  have hname : (templateHit c).name = .CAN_SUM_TPL := rfl
  simp only [plainWrite, writtenWord, hrw, hclear, hname, fieldsLegal, wordLegal, mixWord_full, Nat.zero_and, Nat.zero_sub, mixWord_none, ite_true]
  rfl

theorem regWrite_template {by_ : Agent} {c : Nat} {v : Word} {d : Dev} (hc : c < 4) (hr : pstate d ≠ .restricted) :
    regWrite by_ (R.CAN_SUM_TPL c).off v d = rput (R.CAN_SUM_TPL c) v d := by
  have hlow : (R.CAN_SUM_TPL c).off < 0x14000 := by simp only [R.CAN_SUM_TPL, canBase]; omega
  have hname : (templateHit c).name = .CAN_SUM_TPL := rfl
  simp [regWrite, regFind_template c hc, writable, hr, windowOf_low hlow, writeHubReg, hname, plainWrite_template]

/-! ### PWR_CMD and the identity -/

/-- PWR_CMD as the map finds it. -/
theorem regFind_pwrCmd : ∃ h, regFind R.PWR_CMD.off = some h ∧ h.name = .PWR_CMD := ⟨_, rfl, rfl⟩

theorem regWrite_pwrCmd (by_ : Agent) (v : Word) (d : Dev) : regWrite by_ R.PWR_CMD.off v d = writePwrCmd v d := by
  obtain ⟨h, hfind, hname⟩ := regFind_pwrCmd
  have hlow : windowOf R.PWR_CMD.off = none := by decide
  simp [regWrite, hfind, writable, hlow, writeHubReg, hname]

theorem busWrite_pwrCmd (by_ : Agent) (v : Word) (d : Dev) : busWrite by_ R.PWR_CMD.off 4 v d = writePwrCmd v d := by
  rw [busWrite_hub (by decide) (by decide) (blockOff_below d (by decide)), regWrite_pwrCmd]

/-- The identity word of the part (R86, R539). -/
theorem regValue_identity (d : Dev) :
    regValue 0 d = ((match d.chip.variant with | .yn2 => 0x59021F3C | .yn4 => 0x59041F3C | .yn8 => 0x59081F3C), d) := by
  have hfind : ∃ h, regFind 0 = some h ∧ h.name = .IDN_ID ∧ readMask h = 0xFFFFFFFF := ⟨_, rfl, rfl, rfl⟩
  obtain ⟨h, hfind, hname, hmask⟩ := hfind
  simp [regValue, hfind, hubLive, hname, hmask, mixWord_full] <;> rfl

/-! ### BAR2 and the configuration space (R86) -/

section
variable {a : Nat} (h4 : a % 4 = 0) (ha : 0x40000 ≤ a) (hb : a < 0x44000)
include h4 ha hb

theorem busWrite_bar2 (by_ : Agent) (v : Word) (d : Dev) : busWrite by_ a 4 v d = whenD (by_ == .host) (bar2Write a v) d := by
  simp [busWrite, inConfig_low hb, inBar2, h4, ha, hb]

theorem hostRead_bar2 (d : Dev) : hostRead a 4 d = emit (.readDone a (bar2Read a d)) d := by
  simp [hostRead, inConfig_low hb, inBar2, h4, ha, hb]

end

/-- The byte offset of word n of the MSI-X table is taken apart again. -/
theorem tableWord (n : Nat) : (0x40000 + 4 * n - 0x40000) / 4 = n := by omega

theorem bar2Write_entry {n : Nat} (h : n < 256) (h12 : n % 4 = 1 ∨ n % 4 = 2) (v : Word) (d : Dev) :
    bar2Write (0x40000 + 4 * n) v d = { d with pcie := { d.pcie with msixWords := kput d.pcie.msixWords n v 0 } } := by
  have h3 : ¬ n % 4 = 3 := by omega
  have h0 : ¬ n % 4 = 0 := by omega
  simp only [bar2Write, tableWord, if_neg (Nat.not_le.mpr h), if_neg h3, if_neg h0]

theorem bar2Write_above {n : Nat} (h : 256 ≤ n) (v : Word) (d : Dev) : bar2Write (0x40000 + 4 * n) v d = d := by
  rw [bar2Write, tableWord, if_pos h]

theorem bar2Read_entry {n : Nat} (h : n < 256) (d : Dev) : bar2Read (0x40000 + 4 * n) d = msixWord n d := by
  rw [bar2Read, if_pos (show 0x40000 + 4 * n - 0x40000 < 0x400 by omega), tableWord]

theorem hostRead_configIdentity (d : Dev) : hostRead 0x44000 4 d =
    emit (.readDone 0x44000 (match d.chip.variant with | .yn2 => 0x59021F3C | .yn4 => 0x59041F3C | .yn8 => 0x59081F3C)) d := rfl

theorem hostRead_configClass (d : Dev) : hostRead 0x44008 4 d = emit (.readDone 0x44008 0x11800011) d := rfl

/-! ### The obligation -/

/-- Settles O52: each access goes to the bus of its address, and these say what the register, the spoke behind the link, the MSI-X table or
the configuration space makes of it. -/
theorem registerAccess : Obligations.RegisterAccess := by
  refine fun s hon => ⟨?bad, ?reserved, ?absent, ?down, ?remote, ?table, ?above, ?config, ?cls, ?ident, ?template, ?command⟩
  case bad =>
    intro a size v by_ ha h
    have hcmd : R.PWR_CMD.off % 4 = 0 := by decide
    rw [registerWrite_bus hon (fun ⟨hp, h4⟩ => h.elim (· h4) (· (hp ▸ hcmd))), registerRead_bus hon, busWrite_badAccess ha h,
      hostRead_badAccess ha h]
    exact ⟨rfl, rfl⟩
  case reserved =>
    intro a v by_ h4 ha h
    have hoff := blockOff_below s.dev ha
    rw [registerWrite_bus hon (fun e => not_pwrCmd_of_reserved h e.1), registerRead_bus hon, busWrite_hub h4 (by omega) hoff, regWrite_reserved h,
      hostRead_hub h4 (by omega) hoff, regValue_reserved h, readLatch_reserved h]
    exact ⟨rfl, rfl⟩
  case absent =>
    intro a k v by_ h4 hw hk
    rw [registerWrite_bus hon (fun e => not_pwrCmd_of_window hw e.1), registerRead_bus hon, busWrite_window h4 hw, hostRead_absent h4 hw hk, hk]
    exact ⟨rfl, rfl⟩
  case down =>
    intro a k h4 hw hk hheld hdown
    refine ⟨by rw [registerRead_bus hon, hostRead_down h4 hw hk hheld hdown]; rfl, fun v => ?_⟩
    rw [registerWrite_bus hon (fun e => not_pwrCmd_of_window hw e.1), busWrite_window h4 hw]
    simp [hk, hheld, hdown]
  case remote =>
    intro a k v h4 hw hk hheld hdown
    refine ⟨⟨_, registerWrite_bus hon (fun e => not_pwrCmd_of_window hw e.1), rfl, ?_⟩, ⟨_, registerRead_bus hon, rfl, ?_⟩⟩
    · have hsend : busWrite .host a 4 v s.dev = linkSend k .hub (.cmd (.regWrite (windowOff a) v .host)) s.dev := by
        rw [busWrite_window h4 hw]
        simp [hk, hheld, hdown]
      exact hsend ▸ ⟨rfl, mem_waiting_linkSend _ _ _ _⟩
    · rw [hostRead_remote h4 hw hk hheld hdown]
      refine ⟨rfl, ?_, mem_waiting_linkSend _ _ _ _⟩
      rw [linkSend, getLink_updEnd_keeps (·.reads) _ _ _ _ (fun _ _ => rfl) (fun _ _ => rfl), getLink_updLink]
      simp
  case table =>
    intro n v hn h12
    have h4 : (0x40000 + 4 * n) % 4 = 0 := by omega
    have hlo : 0x40000 ≤ 0x40000 + 4 * n := by omega
    have hhi : 0x40000 + 4 * n < 0x44000 := by omega
    refine ⟨_, registerWrite_bus hon (not_pwrCmd_of_bar2 hlo), rfl, ?_⟩
    rw [busWrite_bar2 h4 hlo hhi, show ((Agent.host == .host) = true) from rfl, whenD, if_pos rfl, bar2Write_entry hn h12]
    refine ⟨rfl, _, registerRead_bus hon, rfl, ?_⟩
    have h3 : ¬ n % 4 = 3 := by omega
    rw [hostRead_bar2 h4 hlo hhi, bar2Read_entry hn, msixWord, if_neg h3, kget_kput_same]
    rfl
  case above =>
    intro n v by_ hn h4096
    have hlo : 0x40000 ≤ 0x40000 + 4 * n := by omega
    rw [registerWrite_bus hon (not_pwrCmd_of_bar2 hlo), busWrite_bar2 (by omega) hlo (by omega)]
    simp only [whenD, bar2Write_above hn, ite_self]
  case config => exact ⟨_, by rw [registerRead_bus hon, hostRead_configIdentity]; rfl, rfl⟩
  case cls => rw [registerRead_bus hon, hostRead_configClass]; rfl
  case ident =>
    refine ⟨_, ?_, rfl⟩
    rw [registerRead_bus hon, hostRead_hub (by decide) (by decide) (blockOff_below _ (by decide)), regValue_identity,
      readLatch_other (by decide) (by decide)]
    rfl
  case template =>
    intro c v hc hr
    have hoff : (R.CAN_SUM_TPL c).off = 0xA048 + 0x800 * c := by simp only [R.CAN_SUM_TPL, canBase]; omega
    have hne : ¬ ((R.CAN_SUM_TPL c).off = R.PWR_CMD.off ∧ 4 = 4) := fun e => by
      have hcmd : R.PWR_CMD.off = 0x2004 := rfl
      omega
    refine ⟨_, registerWrite_bus hon hne, rfl, fun _ => ?_⟩
    rw [busWrite_hub (by omega) (by omega) (blockOff_above _ (by omega)), regWrite_template hc hr]
    exact ⟨kget_kput_same _ _ _ _, fun off dflt h => kget_kput_other _ _ _ _ _ _ h⟩
  case command =>
    intro v c hc hv
    have hcode : wordField v 0 8 = c.1 := by simpa [wordField] using hv
    simp only [List.mem_cons, List.not_mem_nil, or_false] at hc
    obtain rfl | rfl | rfl | rfl | rfl := hc
    case inr.inr.inr.inl => simp [execRegisterWrite, hon, storeWrite, hcode, execRestart]
    all_goals
      simp [execRegisterWrite, hon, storeWrite, hcode, busWrite_pwrCmd, writePwrCmd, execSafe, execSafeClear, execPark, execSelftest, run_next]

end Sys2Proof.Proofs
end

section
/-! Errors on a link (R17 to R20, R23, R24): bad frames, replays, NAK, and what each slot of a lane carries. -/
namespace Sys2Proof.Proofs
open Sys2Proof Sys2Proof.Machine Sys2Proof.Laws

/-! ### A spoke whose link is lost turns its outputs off (R26) -/

namespace SpokeBlind
variable {β : Type} {p : Dev → β} (hp : SpokeBlind p)
include hp

theorem endLoopChannels (k : Nat) (d : Dev) : p (endLoopChannels k d) = p d := eachD_keeps p _ _ (fun _ _ => ite_keeps (hp.endRegulation ..) rfl) d

/-- Beside the mark at its own end of the link, the off state is work of the spoke's engines. -/
theorem spokeLinkOff (k : Nat) (d : Dev) : p (spokeLinkOff k d) = p (updLink k (fun l => { l with spokeOff := true }) d) := by
  unfold Machine.spokeLinkOff
  rw [hp.settlePairs, hp.loopsSafe, hp.endLoopChannels, hp.stopSpoke]

end SpokeBlind

theorem getLink_updLink_other {j k : Nat} (h : j ≠ k) (f : Link → Link) (d : Dev) : getLink j (updLink k f d) = getLink j d :=
  kget_kupd_other _ _ _ _ _ _ h

theorem getLink_linkSend_other {j k : Nat} (h : j ≠ k) (side : Side) (x : Payload) (d : Dev) : getLink j (linkSend k side x d) = getLink j d := by
  cases side <;> exact getLink_updLink_other h _ d

theorem spokeBlind_spokeOff (k : Nat) : SpokeBlind fun d => (getLink k d).spokeOff where
  regs _ _ _ _ := rfl
  marks _ _ := rfl
  log _ _ := rfl
  health _ _ := rfl
  spokeRegs _ _ _ _ := rfl
  free _ _ := rfl
  spokes _ _ := rfl
  waiting j _ d := by
    by_cases h : k = j
    · subst h
      exact getLink_updEnd_keeps (·.spokeOff) k .spoke _ d (fun _ _ => rfl) (fun _ _ => rfl)
    · exact congrArg Link.spokeOff (getLink_linkSend_other h _ _ d)

theorem spokeLinkOff_spokeOff (k : Nat) (d : Dev) : (getLink k (spokeLinkOff k d)).spokeOff = true := by
  rw [(spokeBlind_spokeOff k).spokeLinkOff, getLink_updLink]

/-! ### Bad frames, replays and NAK -/

section
variable {k : Nat} {d : Dev}

theorem badFrame_hub : badFrame k .hub d = (if (linkEnd k .hub d).nakSent then countF (F.SPK_LINK_COUNT.HUB_RX_BAD k) d
    else updEnd k .hub (fun e => { e with nakSent := true, nakDue := true }) (countF (F.SPK_LINK_COUNT.HUB_RX_BAD k) d)) := rfl

theorem badFrame_counts : getF (F.SPK_LINK_COUNT.HUB_RX_BAD k) (badFrame k .hub d) = min 65535 (getF (F.SPK_LINK_COUNT.HUB_RX_BAD k) d + 1) := by
  have hcount := getF_countF_same (F.SPK_LINK_COUNT.HUB_RX_BAD k) d (Nat.le_of_ble_eq_true rfl)
  rw [badFrame_hub]
  split <;> exact hcount

/-- A spoke counts the bad frame, queues its count, and owes a NAK unless it has sent one in this gap. -/
theorem badFrame_spoke : badFrame k .spoke d = whenD (!(linkEnd k .spoke d).nakSent)
    (updEnd k .spoke fun e => { e with nakSent := true, nakDue := true })
    (linkSend k .spoke (.data (.rxBad (min 65535 ((getLink k d).rxBad + 1))))
      (updLink k (fun l => { l with rxBad := min 65535 ((getLink k d).rxBad + 1) }) d)) := by
  cases hn : (linkEnd k .spoke d).nakSent <;> simp [badFrame, hn, satAdd, whenD]

theorem replayOrLose_replays {side : Side} (h : replaysSpent (linkEnd k side d) = false) : replayOrLose k side d = replayAll k side d := by
  simp [replayOrLose, h]

theorem replayOrLose_hubLoses (h : replaysSpent (linkEnd k .hub d) = true) : replayOrLose k .hub d = linkLost k d := by
  simp [replayOrLose, h]

theorem replayOrLose_spokeOff (h : replaysSpent (linkEnd k .spoke d) = true) : (getLink k (replayOrLose k .spoke d)).spokeOff = true := by
  cases hoff : (getLink k d).spokeOff with
  | true => simp [replayOrLose, h, hoff]
  | false => simp [replayOrLose, h, hoff, spokeLinkOff_spokeOff]

theorem linkEnd_hearFrame (side : Side) (a : Nat) : linkEnd k side (hearFrame k side a d) = { takeAck a (linkEnd k side d) with lastValid := d.pt } :=
  linkEnd_updEnd ..

end

/-! ### A slot of a lane (R18, R20, R23, R24) -/

section
variable {k : Nat} {side : Side} {d : Dev}

theorem sendOn_out (seq typ bits : Nat) : (sendOn k side seq typ bits d).out =
    d.out ++ [.linkFrame k side (frameBytes (ackOf (linkEnd k side d)) seq typ bits)] := rfl

theorem updEnd_out (f : LinkEnd → LinkEnd) : (updEnd k side f d).out = d.out := by cases side <;> rfl

theorem laneSlot_nak (h : (linkEnd k side d).nakDue = true) : laneSlot k side d =
    sendOn k side (linkEnd k side d).nextSeq 0x1 0 (updEnd k side (fun e => { e with nakDue := false }) d) := by
  simp [laneSlot, h]

theorem laneSlot_replay {q : Nat} {rest : List Nat} (h : (linkEnd k side d).nakDue = false) (hr : (linkEnd k side d).resend = q :: rest) :
    laneSlot k side d = sendReplay k side q d := by
  simp [laneSlot, h, hr]

theorem laneSlot_new {p : Payload} {ws : List Payload} (h : (linkEnd k side d).nakDue = false) (hr : (linkEnd k side d).resend = [])
    (hw : (linkEnd k side d).waiting = p :: ws) (hl : (linkEnd k side d).replay.length < 32) : laneSlot k side d = checkNew k side p d := by
  simp [laneSlot, h, hr, hw, hl]

/-- A slot that may carry no new frame carries IDLE. -/
theorem laneSlot_idle (h : (linkEnd k side d).nakDue = false) (hr : (linkEnd k side d).resend = [])
    (hn : (linkEnd k side d).waiting = [] ∨ 32 ≤ (linkEnd k side d).replay.length) : laneSlot k side d = sendIdle k side d := by
  unfold laneSlot
  dsimp only
  rw [h, hr]
  cases hw : (linkEnd k side d).waiting with
  | nil => rfl
  | cons p ws =>
    have hl : ¬ (linkEnd k side d).replay.length < 32 := by simpa [hw] using hn
    simp [hl]

/-- The frame that is due again goes out with its SEQ and its bits as they were. -/
theorem sendReplay_carries {f : SentFrame} (hf : ((linkEnd k side d).replay.find? fun g => g.seq == f.seq) = some f) :
    (sendReplay k side f.seq d).out =
        d.out ++ [.linkFrame k side (frameBytes (ackOf (linkEnd k side d)) f.seq (typeCode f.payload) f.bits)] ∧
      (linkEnd k side (sendReplay k side f.seq d)).resend = (linkEnd k side d).resend.drop 1 := by
  have hend (b : Bool) (g : Fld) (e : Dev) : linkEnd k side (whenD b (countF g) e) = linkEnd k side e :=
    whenD_keeps (linkEnd k side) b _ (linkEnd_countF k side g) e
  have hout (b : Bool) (g : Fld) (e : Dev) : (whenD b (countF g) e).out = e.out := whenD_keeps Dev.out b _ (countF_out g) e
  simp [sendReplay, hf, sendOn_out, hend, hout, updEnd_out, ackOf]

theorem checkNew_clean {p : Payload} (h : d.ecc = []) : checkNew k side p d = sendNew k side p d := by
  cases side <;> simp [checkNew, upsetAt, h]

/-- What sending a new frame does to its end of the link. -/
theorem sendNew_end (p : Payload) : (linkEnd k side (sendNew k side p d)).waiting = (linkEnd k side d).waiting.drop 1 ∧
    (linkEnd k side (sendNew k side p d)).nextSeq = ((linkEnd k side d).nextSeq + 1) % 64 ∧
    (linkEnd k side (sendNew k side p d)).replay.length = (linkEnd k side d).replay.length + 1 := by
  unfold sendNew
  dsimp only
  generalize stamped p _ = x
  simp [linkEnd_congr (payloadBits_links x d)]

/-- A frame whose bits the manual lays out goes out with these (R20, R23). -/
theorem sendNew_out {p : Payload} {bits : Nat} (hs : ∀ t, stamped p t = p) (hb : payloadBits p d = (bits, d)) : (sendNew k side p d).out =
    d.out ++ [.linkFrame k side (frameBytes (ackOf (linkEnd k side d)) (linkEnd k side d).nextSeq (typeCode p) bits)] := by
  simp [sendNew, hs, hb, sendOn_out, updEnd_out, ackOf]

end

/-! ### The obligation -/

/-- Settles O11: the receiver's side by `badFrame`, the sender's by `replayOrLose`, and each slot of a lane by the case of `laneSlot` it is in. -/
theorem linkErrorsAndRetry : Obligations.LinkErrorsAndRetry := by
  refine ⟨fun s k hk => ⟨?first, ?again, ?spoke, ?overdue, ?early, ?lost, ?off, ?nak, ?idle⟩, fun d k side => ⟨?nakSlot, ?replay, ?new, ?full, ?none⟩⟩
  case first =>
    intro hn
    refine completes_onSpoke hk rfl ⟨?_, ?_, badFrame_counts⟩ <;> simp [badFrame_hub, hn]
  case again =>
    intro hn
    refine completes_onSpoke hk rfl ⟨?_, ?_, badFrame_counts⟩ <;> simp [badFrame_hub, hn]
  case spoke =>
    refine completes_onSpoke hk rfl ?_
    rw [badFrame_spoke]
    cases hn : (linkEnd k .spoke s.dev).nakSent with
    | true => simpa [whenD, linkSend, updEnd, linkEnd] using hn
    | false => simp [whenD, linkSend, updEnd, linkEnd]
  case overdue =>
    intro side ha hr
    rw [exec_ackTimeout, execAckTimeout, onSpoke_present k _ s hk, if_pos ha, replayOrLose_replays hr]
    rfl
  case early =>
    intro side ha
    rw [exec_ackTimeout, execAckTimeout, onSpoke_present k _ s hk, ha]
    rfl
  case lost =>
    intro ha hr hup hloop hl
    refine completes_onSpoke hk rfl ?_
    obtain ⟨hdown, hat, -, hbit⟩ := linkLost_declares hk hup hloop hl
    rw [ha, if_pos rfl, replayOrLose_hubLoses hr]
    exact ⟨hdown, hat, hbit⟩
  case off =>
    intro ha hr
    refine completes_onSpoke hk rfl ?_
    rw [ha, if_pos rfl]
    exact replayOrLose_spokeOff hr
  case nak =>
    intro side h hr
    have hs : replaysSpent (linkEnd k side (hearFrame k side h.ack s.dev)) = false := by rw [linkEnd_hearFrame]; exact hr
    refine completes_onSpoke hk rfl ?_
    rw [replayOrLose_replays hs, replayAll, linkEnd_updEnd, linkEnd_hearFrame]
  case idle =>
    intro side h
    rw [exec_idle, execIdle, onSpoke_present k _ s hk]
  case nakSlot =>
    intro h
    rw [laneSlot_nak h]
    simp [sendOn_out, updEnd_out, ackOf]
  case replay =>
    intro f rest h hr hf
    obtain ⟨hout, hresend⟩ := sendReplay_carries hf
    rw [laneSlot_replay h hr, hout, hresend, hr]
    exact ⟨rfl, rfl⟩
  case new =>
    intro p ws h hr hw hl hecc
    obtain ⟨hwait, hnext, hlen⟩ := sendNew_end (k := k) (side := side) (d := d) p
    rw [laneSlot_new h hr hw hl, checkNew_clean hecc, hwait, hw]
    refine ⟨rfl, hnext, hlen, ?_, ?_⟩
    · rintro e rfl
      exact sendNew_out (fun _ => rfl) rfl
    · rintro f rfl
      exact sendNew_out (fun _ => rfl) rfl
  case full => exact fun h hr hl => laneSlot_idle h hr (.inr hl)
  case none => exact fun h hr hw => laneSlot_idle h hr (.inl hw)

end Sys2Proof.Proofs
end

section
/-! Slot levels of the spokes at the hub (R431, R433, R436, R440): what a source of the hub's interrupt controller reaches when its signal changes. -/
namespace Sys2Proof.Proofs
open Sys2Proof Sys2Proof.Machine Sys2Proof.Laws

/-- What p shows does not depend on what a signal of the hub's controller, in word w of the sources, sets going: pending bits of that word,
the state of the controller, and messages to the host. -/
structure IrqBlind (w : Nat) {β : Type} (p : Dev → β) : Prop where
  pend : ∀ v d, p (rput (R.HIC_PEND w) v d) = p d
  marks : ∀ m d, p { d with marks := m } = p d
  out : ∀ l d, p { d with out := l } = p d
  pcie : ∀ l d, p { d with pcie := l } = p d
  hic : ∀ l d, p { d with hic := l } = p d

theorem irqBlind_pwr (w : Nat) : IrqBlind w Dev.pwr := by constructor <;> (intros; rfl)

theorem irqBlind_spokes (w : Nat) : IrqBlind w Dev.spokes := by constructor <;> (intros; rfl)

theorem irqBlind_log (w : Nat) : IrqBlind w Dev.log := by constructor <;> (intros; rfl)

theorem irqBlind_raw (s : Nat) : IrqBlind (s / 32) (srcBit Ctl.hub.rawReg s) where
  pend v d := by
    have hne : (Ctl.hub.rawReg (s / 32)).off ≠ (R.HIC_PEND (s / 32)).off := by
      change 0x3200 + 4 * (s / 32) ≠ 0x3080 + 4 * (s / 32)
      omega
    rw [srcBit, rget_rput_other _ _ _ _ hne, srcBit]
  marks _ _ := rfl
  out _ _ := rfl
  pcie _ _ := rfl
  hic _ _ := rfl

namespace IrqBlind
variable {s : Nat} {β : Type} {p : Dev → β} (hp : IrqBlind (s / 32) p)
include hp

theorem updIrq (f : IrqCtl → IrqCtl) (d : Dev) : p (updIrq .hub f d) = p d := hp.hic _ _

theorem wakeCore (core : Nat) (d : Dev) : p (wakeCore .hub core d) = p d := by
  have hset (c : Bool) (x : Dev) : p (whenD c (setCore .hub core .running) x) = p x := whenD_keeps p c _ (fun _ => hp.updIrq ..) x
  unfold Machine.wakeCore
  split
  · rfl
  · exact hset _ _
  · exact hset _ _

theorem noteEligible (d : Dev) : p (noteEligible .hub d) = p d :=
  eachD_keeps p _ _ (fun core e => (hp.wakeCore core _).trans (hp.updIrq _ e)) d

theorem msixSend (v : Nat) (d : Dev) : p (msixSend v d) = p d := by
  unfold Machine.msixSend msixGo emit
  exact ite_keeps (ite_keeps (hp.out _ _) ((hp.pcie _ _).trans (hp.out _ _))) (ite_keeps rfl (hp.pcie _ _))

theorem withDelivery (srcs : List Nat) (f : Dev → Dev) (d : Dev) : p (withDelivery srcs f d) = p (f d) :=
  (hp.noteEligible _).trans (eachD_keeps p _ _ (fun _ _ => hp.msixSend ..) _)

theorem followSignal (old new : Bool) (d : Dev) : p (followSignal .hub s old new d) = p d := by
  unfold Machine.followSignal
  dsimp only
  generalize (match srcSense .hub s d with | 1 => !old && new | 2 => old && !new | 3 => old != new | _ => false) = edge
  exact ite_keeps (hp.pend _ _) (ite_keeps ((hp.marks _ _).trans (hp.pend _ _)) rfl)

/-- Beside its signal, a source that is no nudge changes nothing that p shows. -/
theorem hubSignal (h : isNudge .hub s = false) (level : Bool) (d : Dev) : p (hubSignal s level d) = p (setSrcBit Ctl.hub.rawReg s level d) := by
  unfold Machine.hubSignal
  rw [h, if_neg Bool.false_ne_true]
  split
  · rfl
  · rw [hp.withDelivery, hp.followSignal]

end IrqBlind

/-! ### Slots -/

/-- The source of slot j of spoke k at the hub (R428). -/
def slotSource (k j : Nat) : Nat := 576 + 64 * (k - 1) + j

theorem slotSource_notNudge (k j : Nat) : isNudge .hub (slotSource k j) = false := by
  have h : ¬ slotSource k j < 128 := by unfold slotSource; omega
  simp [isNudge, isPrivate, h]

theorem slotLevel_keeps {β : Type} {p : Dev → β} {k j : Nat} (hp : IrqBlind (slotSource k j / 32) p) (level : Bool) (d : Dev) :
    p (slotLevel k j level d) = p (setSrcBit Ctl.hub.rawReg (slotSource k j) level d) :=
  hp.hubSignal (slotSource_notNudge k j) level d

theorem srcBit_setSrcBit (r : Nat → Reg) (s : Nat) (on : Bool) (d : Dev) : srcBit r s (setSrcBit r s on d) = on := by
  have h : s % 32 < 32 := Nat.mod_lt _ (by decide)
  rw [srcBit, setSrcBit, rget_rput_same, BitVec.toNat_ofNat, Nat.testBit_mod_two_pow, testBit_putBit, if_pos rfl, decide_eq_true h, Bool.true_and]

/-- The slot takes the level (R440). -/
theorem slotLevel_raw (k j : Nat) (level : Bool) (d : Dev) : srcBit Ctl.hub.rawReg (slotSource k j) (slotLevel k j level d) = level := by
  rw [slotLevel_keeps (irqBlind_raw _), srcBit_setSrcBit]

theorem slotLevel_pwr (k j : Nat) (level : Bool) (d : Dev) : (slotLevel k j level d).pwr = d.pwr := slotLevel_keeps (irqBlind_pwr _) level d

theorem slotLevel_spokes (k j : Nat) (level : Bool) (d : Dev) : (slotLevel k j level d).spokes = d.spokes :=
  slotLevel_keeps (irqBlind_spokes _) level d

theorem slotLevel_log (k j : Nat) (level : Bool) (d : Dev) : (slotLevel k j level d).log = d.log := slotLevel_keeps (irqBlind_log _) level d

theorem clearSlots_pwr (k : Nat) (d : Dev) : (clearSlots k d).pwr = d.pwr := eachD_keeps Dev.pwr _ _ (fun j e => slotLevel_pwr k j false e) d

end Sys2Proof.Proofs
end

section
/-! Loss and recovery of a link (R26 to R28, R54, R441, R478). -/
namespace Sys2Proof.Proofs
open Sys2Proof Sys2Proof.Machine Sys2Proof.Laws

theorem getF_of_regs (f : Fld) {d e : Dev} (h : d.regs = e.regs) : getF f d = getF f e := by rw [getF, rget, h, getF, rget]

/-! ### Retraining (R28, R441) -/

/-- What a link shows apart from the hub's end of it does not change when the hub queues a frame. -/
theorem getLink_hubSend {β : Type} {p : Link → β} (hp : ∀ l e, p { l with hub := e } = p l) (j k : Nat) (x : Payload) (d : Dev) :
    p (getLink k (linkSend j .hub x d)) = p (getLink k d) := by
  by_cases h : k = j
  · subst h
    rw [linkSend, updEnd, getLink_updLink, hp]
  · rw [getLink_linkSend_other h]

section
variable {β : Type} {p : Link → β} (hp : ∀ l e, p { l with hub := e } = p l) (k : Nat)
include hp

theorem getLink_sendEntry (o a b code : Nat) (act : EdgeAct) (d : Dev) : p (getLink k (sendEntry o a b code act d)) = p (getLink k d) := by
  have hsend (j : Nat) (x : Payload) (u : OutletSt → OutletSt) : p (getLink k (linkSend j .hub x (updOut o u d))) = p (getLink k d) :=
    getLink_hubSend hp j k x _
  unfold sendEntry
  exact ite_keeps (p := fun e => p (getLink k e)) rfl (ite_keeps (p := fun e => p (getLink k e))
    (ite_keeps (p := fun e => p (getLink k e)) (hsend ..) rfl) rfl)

theorem getLink_resendEntry (j o : Nat) (d : Dev) : p (getLink k (resendEntry j o d)) = p (getLink k d) := by
  unfold resendEntry
  dsimp only
  split
  · exact getLink_sendEntry hp k ..
  · rfl

end

theorem sendEntry_regs (o a b code : Nat) (act : EdgeAct) (d : Dev) : (sendEntry o a b code act d).regs = d.regs := by
  unfold sendEntry
  exact ite_keeps (p := Dev.regs) rfl (ite_keeps (p := Dev.regs) (ite_keeps (p := Dev.regs) rfl rfl) rfl)

theorem resendEntry_regs (k o : Nat) (d : Dev) : (resendEntry k o d).regs = d.regs := by
  unfold resendEntry
  exact ite_keeps (p := Dev.regs) (sendEntry_regs ..) rfl

theorem getLink_alignPt (k : Nat) (d : Dev) : getLink k (alignPt k d) = { getLink k d with
    ptOff := ((fresh d).1 % 3 : Nat) - (1 : Int), adjs := [], holds := 0, adjLeft := 0, syncSent := none, echoed := none } := by
  rw [alignPt, getLink_updLink]
  rfl

/-- The spoke queues the INT frame of slot j (R441). -/
def sendSlot (k j : Nat) (d : Dev) : Dev := linkSend k .spoke (.int j ((getIrq (.spoke k) d).slots.contains j)) d

def sendSlots (k : Nat) (slots : List Nat) (d : Dev) : Dev := eachD slots (sendSlot k) d

theorem sendSlots_regs (k : Nat) (slots : List Nat) (d : Dev) : (sendSlots k slots d).regs = d.regs :=
  eachD_keeps Dev.regs slots (sendSlot k) (fun _ _ => rfl) d

theorem getLink_sendSlots {β : Type} {p : Link → β} (hp : ∀ l e, p { l with spoke := e } = p l) (k : Nat) (slots : List Nat) (d : Dev) :
    p (getLink k (sendSlots k slots d)) = p (getLink k d) :=
  eachD_keeps (fun e => p (getLink k e)) slots (sendSlot k) (fun _ _ => by rw [sendSlot, linkSend, updEnd, getLink_updLink, hp]) d

theorem mem_sendSlots_of_mem {k : Nat} {q : Payload} (slots : List Nat) {d : Dev} (h : q ∈ (linkEnd k .spoke d).waiting) :
    q ∈ (linkEnd k .spoke (sendSlots k slots d)).waiting := by
  induction slots generalizing d with
  | nil => exact h
  | cons j js ih =>
    refine ih (d := sendSlot k j d) ?_
    rw [sendSlot, linkSend, linkEnd_updEnd]
    exact mem_enqueue_of_mem _ h

/-- Each slot has its INT frame in line. -/
theorem mem_sendSlots (k : Nat) {slots : List Nat} {j : Nat} (hj : j ∈ slots) (d : Dev) :
    .int j ((getIrq (.spoke k) d).slots.contains j) ∈ (linkEnd k .spoke (sendSlots k slots d)).waiting := by
  induction slots generalizing d with
  | nil => exact absurd hj (by simp)
  | cons i is ih =>
    obtain rfl | hj := List.mem_cons.mp hj
    · exact mem_sendSlots_of_mem is (mem_waiting_linkSend _ _ _ _)
    · exact ih hj (sendSlot k i d)

/-- A link up again, its PT loaded, before the frames of R441 and R28 are queued. -/
def relinked (k : Nat) (d : Dev) : Dev :=
  d |> updLink k (fun l => { l with lostAt := none, up := true, hub := freshLane d.pt l.hub, spoke := freshLane d.pt l.spoke })
    |> bitF F.PWR_LINK_STATUS.LINK_UP (k - 1) true |> alignPt k

/-- The current entries of the first n outlets, sent again (R28). -/
def resendEntries (k n : Nat) (d : Dev) : Dev := eachD (List.range n) (resendEntry k) d

theorem resendEntries_regs (k n : Nat) (d : Dev) : (resendEntries k n d).regs = d.regs := eachD_keeps Dev.regs _ _ (resendEntry_regs k) d

theorem getLink_resendEntries {β : Type} {p : Link → β} (hp : ∀ l e, p { l with hub := e } = p l) (k n : Nat) (d : Dev) :
    p (getLink k (resendEntries k n d)) = p (getLink k d) :=
  eachD_keeps (fun e => p (getLink k e)) (List.range n) (resendEntry k) (fun o e => getLink_resendEntry hp k k o e) d

theorem exec_retrained {k : Nat} {s : State} (hk : hasSpoke k s.dev = true) (hl : (getLink k s.dev).lostAt ≠ none) (hi : isIsolated k s.dev = false) :
    exec (.retrainingDone k) s = .next { s with
      dev := updLink k (fun l => { l with resumeDue := true }) (resendEntries k (outlets s.dev).length (sendSlots k (List.range 64) (relinked k s.dev))) } := by
  rw [exec_retrainingDone, execRetrainingDone, onSpoke_present k _ s hk, if_neg (by simp [hi, hl])]
  rfl

/-! ### Isolation (R54, R478) -/

theorem shadowSpoke_state (k : Nat) (d : Dev) : (shadowSpoke k d).pwr.state = d.pwr.state :=
  eachD_keeps (fun e => e.pwr.state) _ _ (fun _ _ => by split <;> rfl) d

/-- What the sequencer keeps of a spoke that loses its power. -/
def darkPwr (k : Nat) (p : Pwr) : Pwr :=
  { p with spokeOn := p.spokeOn.filter (· != k), loaded := p.loaded.filter (· != k), trainBy := kdel p.trainBy k
           prechargeBy := kdel p.prechargeBy k, noCharge := p.noCharge.filter (· != k) }

theorem spokeOff_pwr (k : Nat) (d : Dev) : (spokeOff k d).pwr = darkPwr k (shadowSpoke k d).pwr := by
  unfold spokeOff
  rw [updPwr_pwr, bitF_pwr, bitF_pwr, clearSlots_pwr]
  rfl

/-- A spoke isolated in a state that waits for none: no step of make-ready follows. -/
theorem isolate_ready {k cause : Nat} {d : Dev} (hi : isIsolated k d = false) (hs : d.pwr.state = .ready) : isolate k cause d =
    logEvent 0x0106 5 ⟨k, 0, 0⟩ cause 0 0 (bitF F.PWR_STATE.ISOLATED (k - 1) true
      (spokeOff k (timeoutLoops k (endSpokeIvs k (whenD (carriesChannel k d) (yieldNow 3) d))))) := by
  have hpwr (c : Bool) : (timeoutLoops k (endSpokeIvs k (whenD c (yieldNow 3) d))).pwr = d.pwr := by
    rw [hubBlind_pwr.timeoutLoops, hubBlind_pwr.endSpokeIvs, whenD_keeps Dev.pwr c _ (hubBlind_pwr.yieldNow 3)]
  unfold isolate
  rw [if_neg (by simp [hi])]
  generalize hx : timeoutLoops k (endSpokeIvs k (whenD (carriesChannel k d) (yieldNow 3) d)) = x
  have hready : pstate (logEvent 0x0106 5 ⟨k, 0, 0⟩ cause 0 0 (bitF F.PWR_STATE.ISOLATED (k - 1) true (spokeOff k x))) = .ready := by
    rw [pstate, reportBlind_pwr.logEvent, bitF_pwr, spokeOff_pwr, darkPwr, shadowSpoke_state, ← hx, hpwr, hs]
  generalize logEvent 0x0106 5 ⟨k, 0, 0⟩ cause 0 0 (bitF F.PWR_STATE.ISOLATED (k - 1) true (spokeOff k x)) = y at hready ⊢
  simp [prechargeDone, linkDone, hready]

/-! ### The obligation -/

/-- Settles O13: the spoke's side by `spokeLinkOff`, the hub's by `linkLost`, then what retraining queues, and isolation where none came. -/
theorem linkLossAndRecovery : Obligations.LinkLossAndRecovery := by
  refine fun s k hk => ⟨?spokeLoses, ?spokeHolds, ?hubHolds, ?hubLoses, ?retrained, ?timeout⟩
  case spokeLoses =>
    intro hoff hruns hloop hdead
    have hstep : exec (.spokeDeclaresLinkLost k) s = .next { s with dev := spokeLinkOff k s.dev } := by
      rw [exec_spokeDeclaresLinkLost, execSpokeDeclaresLinkLost, onSpoke_present k _ s hk, if_neg (by simp [hoff, hruns, hloop, hdead])]
    refine ⟨_, hstep, rfl, ?_⟩
    dsimp only
    exact ⟨spokeLinkOff_spokeOff k s.dev, hubBlind_pwr.spoke.spokeLinkOff k s.dev⟩
  case spokeHolds =>
    intro hdead
    rw [exec_spokeDeclaresLinkLost, execSpokeDeclaresLinkLost, onSpoke_present k _ s hk, if_pos (by simp [hdead])]
  case hubHolds =>
    intro hdead
    rw [exec_linkLost, execLinkLost, onSpoke_present k _ s hk, hdead]
    rfl
  case hubLoses =>
    intro hup hloop hdead hl
    refine completes_onSpoke hk rfl ?_
    rw [hdead, if_pos rfl]
    exact linkLost_declares hk hup hloop hl
  case retrained =>
    intro hl hi
    obtain ⟨-, hk7⟩ := hasSpoke_bounds hk
    have hb : k - 1 < 7 := by omega
    have hlink : getLink k (relinked k s.dev) = { getLink k (relinked k s.dev) with up := true, lostAt := none } := by
      simp [relinked, getLink_alignPt]
    have hbit : bitOf F.PWR_LINK_STATUS.LINK_UP (k - 1) (relinked k s.dev) = true := by
      have halign (e : Dev) : bitOf F.PWR_LINK_STATUS.LINK_UP (k - 1) (alignPt k e) = bitOf F.PWR_LINK_STATUS.LINK_UP (k - 1) e := rfl
      rw [relinked, halign, bitOf_bitF _ _ _ _ _ (by decide) hb, if_pos rfl]
    refine ⟨_, exec_retrained hk hl hi, rfl, ?_, ?_, ?_, ?_, fun j hj => ?_⟩
    · rw [getLink_updLink]
      rw [getLink_resendEntries (p := (·.up)) (fun _ _ => rfl), getLink_sendSlots (p := (·.up)) (fun _ _ => rfl), hlink]
    · rw [getLink_updLink]
      rw [getLink_resendEntries (p := (·.lostAt)) (fun _ _ => rfl), getLink_sendSlots (p := (·.lostAt)) (fun _ _ => rfl), hlink]
    · rw [bitOf_updLink, ← hbit]
      exact bitOf_of_getF (getF_of_regs _ ((resendEntries_regs ..).trans (sendSlots_regs ..)))
    · rw [getLink_updLink]
    · have hwait : (linkEnd k .spoke (updLink k (fun l => { l with resumeDue := true })
          (resendEntries k (outlets s.dev).length (sendSlots k (List.range 64) (relinked k s.dev))))).waiting =
          (linkEnd k .spoke (sendSlots k (List.range 64) (relinked k s.dev))).waiting := by
        rw [linkEnd, getLink_updLink, linkEnd]
        exact getLink_resendEntries (p := (·.spoke.waiting)) (fun _ _ => rfl) k _ _
      have hslots : (getIrq (.spoke k) (relinked k s.dev)).slots = (getIrq (.spoke k) s.dev).slots := by
        have halign (e : Dev) : getIrq (.spoke k) (alignPt k e) = getIrq (.spoke k) e := rfl
        rw [relinked, halign, getIrq, bitF_sic, updLink_sic, getIrq]
      rw [hwait, ← hslots]
      exact mem_sendSlots k (List.mem_range.mpr hj) _
  case timeout =>
    intro t hl ht hi hs
    obtain ⟨-, hk7⟩ := hasSpoke_bounds hk
    have hb : k - 1 < 7 := by omega
    have hdue : ¬ s.dev.pt < t + us 100 := Nat.not_lt.mpr ht
    refine ⟨_, onSpoke_present k _ s hk, rfl, fun _ => ?_⟩
    simp only [hl, if_neg hdue]
    rw [isolate_ready hi hs]
    constructor
    · rw [isIsolated, bitOf_of_getF ((reportBlind_field (by decide)).logEvent _ _ _ _ _ _ _), bitOf_bitF _ _ _ _ _ (by decide) hb, if_pos rfl]
    · rw [reportBlind_pwr.logEvent, bitF_pwr, spokeOff_pwr, darkPwr]
      simp

end Sys2Proof.Proofs
end

section
/-! What the frames of a link do once accepted (R18, R23, R26, R29, R32, R35, R94, R200, R440, R537). -/
namespace Sys2Proof.Proofs
open Sys2Proof Sys2Proof.Machine Sys2Proof.Laws

/-! ### RESUME (R26) -/

theorem spokeBlind_eng : SpokeBlind Dev.eng where
  regs _ _ _ _ := rfl
  marks _ _ := rfl
  log _ _ := rfl
  health _ _ := rfl
  spokeRegs _ _ _ _ := rfl
  free _ _ := rfl
  spokes _ _ := rfl
  waiting _ _ _ := rfl

/-- Beside the mark at the link, what RESUME starts again is work of the spoke's engines. -/
theorem SpokeBlind.resumeOutputs {β : Type} {p : Dev → β} (hp : SpokeBlind p) (k : Nat) (d : Dev) :
    p (resumeOutputs k d) = p (updLink k (fun l => { l with spokeOff := false }) d) :=
  (hp.settlePairs ..).trans (eachD_keeps p _ _ (fun _ _ => ite_keeps rfl (hp.resumeChan ..)) _)

theorem resumeOutputs_spokeOff (k : Nat) (d : Dev) : (getLink k (resumeOutputs k d)).spokeOff = false := by
  rw [(spokeBlind_spokeOff k).resumeOutputs, getLink_updLink]

theorem resumeOutputs_eng (k : Nat) (d : Dev) : (resumeOutputs k d).eng = d.eng := spokeBlind_eng.resumeOutputs k d

/-! ### FEED (R23, R200, R249) -/

/-- What a FEED frame of an outlet's channel leaves for the next cycle start. -/
def heldFeed (k o : Nat) (f : FeedP) (d : Dev) : HeldFeed :=
  { outlet := o, at_ := extendPt d.pt f.evtPt, event := f.event, delay := f.delay, late := f.late, slip := f.slip, slipUs := f.slipUs
    fast := !(getChan k f.chan d).lastSlow }

theorem forwardFeed_keeps (o at_ : Nat) (f : FeedP) {d : Dev} (h : d.ecc = []) : Keeps [.free, .out, .tdm] d (forwardFeed o at_ f d) := by
  unfold forwardFeed
  dsimp only
  generalize (isCaptain d || _) = fwd
  cases fwd with
  | true =>
    rw [if_pos rfl, tdmSend, crossEcc_clean _ _ _ _ _ _ _ _ h]
    exact tdmPut_keeps _ d
  | false => exact keeps_refl _ d

theorem getChan_ofSpokes {k n : Nat} {d e : Dev} (h : d.spokes = e.spokes) : getChan k n d = getChan k n e := by
  rw [getChan, getSpoke, h, getChan, getSpoke]

theorem findOutlet_ofEng {key : Nat} {d e : Dev} (h : d.eng = e.eng) : findOutlet key d = findOutlet key e := by
  rw [findOutlet, h, findOutlet]

theorem feedIn_holds {k o : Nat} {f : FeedP} {d : Dev} (hrole : d.sox.role.role ≠ 3) (ho : findOutlet (globalCh k f.chan) d = some o) :
    feedIn k f d = forwardFeed o (extendPt d.pt f.evtPt) f
      (updEng (fun g => { g with feeds := g.feeds ++ [heldFeed k o f d] }) (whenD f.late (raise F.REG_STATUS.LATE) d)) := by
  have hsox : (whenD f.late (raise F.REG_STATUS.LATE) d).sox = d.sox := whenD_keeps Dev.sox _ _ (raise_sox _) d
  have heng : (whenD f.late (raise F.REG_STATUS.LATE) d).eng = d.eng := whenD_keeps Dev.eng _ _ (raise_eng _) d
  have hspokes : (whenD f.late (raise F.REG_STATUS.LATE) d).spokes = d.spokes := whenD_keeps Dev.spokes _ _ (raise_spokes _) d
  unfold feedIn
  dsimp only
  rw [hsox, if_neg hrole, findOutlet_ofEng heng, ho, getChan_ofSpokes hspokes]
  rfl

/-- The event joins those the next cycle start takes; of the registers only LATE may be set (R200). -/
theorem feedIn_effect {k o : Nat} {f : FeedP} {d : Dev} (hrole : d.sox.role.role ≠ 3) (ho : findOutlet (globalCh k f.chan) d = some o)
    (hecc : d.ecc = []) : (feedIn k f d).eng.feeds = d.eng.feeds ++ [heldFeed k o f d] ∧
      (feedIn k f d).regs = (whenD f.late (raise F.REG_STATUS.LATE) d).regs ∧ (feedIn k f d).spokes = d.spokes := by
  have hspokes : (whenD f.late (raise F.REG_STATUS.LATE) d).spokes = d.spokes := whenD_keeps Dev.spokes _ _ (raise_spokes _) d
  have heng : (whenD f.late (raise F.REG_STATUS.LATE) d).eng = d.eng := whenD_keeps Dev.eng _ _ (raise_eng _) d
  have hclean : (whenD f.late (raise F.REG_STATUS.LATE) d).ecc = [] := (whenD_keeps Dev.ecc _ _ (raise_ecc _) d).trans hecc
  rw [feedIn_holds hrole ho]
  have hk := forwardFeed_keeps o (extendPt d.pt f.evtPt) f
    (d := updEng (fun g => { g with feeds := g.feeds ++ [heldFeed k o f d] }) (whenD f.late (raise F.REG_STATUS.LATE) d)) hclean
  refine ⟨?_, (hk .regs (by simp)).1.symm, (hk .spokes (by simp)).symm.trans hspokes⟩
  rw [← show _ = _ from hk .eng (by simp), updEng_eng, heng]

/-! ### The value a read returns leaves the device as it is, but for the open values it uses up (R537) -/

section
variable {β : Type} {p : Dev → β} (hp : ∀ n d, p { d with free := n } = p d)
include hp

theorem divFree_free (a : Int) (b : Nat) (d : Dev) : p (divFree a b d).2 = p d := by
  unfold divFree
  dsimp only
  split
  · rfl
  · exact hp _ _

theorem encSpeed_free (k e t : Nat) (d : Dev) : p (encSpeed k e t d).2 = p d := by
  unfold encSpeed
  split
  · rfl
  · split
    · rfl
    · dsimp only
      split
      · rfl
      · split
        · rfl
        · exact divFree_free hp _ _ _

theorem meanCurrent_free (k n : Nat) (d : Dev) : p (meanCurrent k n d).2 = p d := by
  unfold meanCurrent
  dsimp only
  split <;> exact hp _ _

theorem hubLive_free (h : RegHit) (w : Word) (d : Dev) : p (hubLive h w d).2 = p d := by
  by_cases hsupply : h.name = .PWR_SUPPLY
  · simp only [hubLive, hsupply]
    exact hp _ _
  · unfold hubLive
    split
    case h_5 hn => exact absurd hn hsupply
    all_goals rfl

theorem spokeLive_free (k : Nat) (h : RegHit) (w : Word) (d : Dev) : p (spokeLive k h w d).2 = p d := by
  unfold spokeLive
  dsimp only
  split
  case h_1 => exact hp _ _
  case h_5 => split; exacts [rfl, hp _ _]
  case h_7 => exact hp _ _
  case h_9 => exact meanCurrent_free hp _ _ _
  case h_16 => exact encSpeed_free hp _ _ _ _
  all_goals rfl

theorem regValue_free (off : Nat) (d : Dev) : p (regValue off d).2 = p d := by
  unfold regValue
  split
  · rfl
  · dsimp only
    split
    · exact hubLive_free hp _ _ _
    · split
      · exact spokeLive_free hp _ _ _ _
      · rfl

end

end Sys2Proof.Proofs
end

section
/-! Unloading a loop, PT loaded by the echo of a PTSYNC, and what the frames of a link do together (R32, R94, R296). -/
namespace Sys2Proof.Proofs
open Sys2Proof Sys2Proof.Machine Sys2Proof.Laws

/-! ### A loop is unloaded (R94, R296) -/

theorem loopBlock_ofSpokes {k l : Nat} {d e : Dev} (h : d.spokes = e.spokes) : loopBlock k l d = loopBlock k l e := by
  rw [loopBlock, getLoop, getCtl, getSpoke, h, loopBlock, getLoop, getCtl, getSpoke]

theorem loopMode_ofRegs {k l : Nat} {d e : Dev} (h : d.regs = e.regs) : loopMode k l d = loopMode k l e := getF_of_regs _ h

/-- What remains of a loop once its claims are dropped. -/
def clearedLoop (k l : Nat) (d : Dev) : Dev := d |> updLoop k l (fun _ => {}) |> rput (R.CTL_LOOP_STATUS k l) 0 |> countLoaded k

theorem clearedLoop_block (k l : Nat) (d : Dev) : loopBlock k l (clearedLoop k l d) = none := by
  have h : getLoop k l (clearedLoop k l d) = getLoop k l (updLoop k l (fun _ => {}) d) := rfl
  rw [loopBlock, h, getLoop_updLoop]

theorem clearedLoop_mode (k l : Nat) (d : Dev) : loopMode k l (clearedLoop k l d) = 0 := by
  have hne : (F.CTL_LOOP_STATUS.MODE k l).reg.off ≠ (F.CTL_STATUS.LOADED k).reg.off := by
    change spk k + 0x1840 + 0x10 * l ≠ spk k + 0x1800
    omega
  have hzero (e : Dev) : getF (F.CTL_LOOP_STATUS.MODE k l) (rput (R.CTL_LOOP_STATUS k l) 0 e) = 0 := by
    have hreg : (F.CTL_LOOP_STATUS.MODE k l).reg = R.CTL_LOOP_STATUS k l := rfl
    simp [getF, hreg, wordField]
  rw [loopMode, clearedLoop, countLoaded, getF_setF_otherReg _ _ _ _ hne, hzero]

theorem answerLoop_spokes (k ring index status detail : Nat) (d : Dev) : (answerLoop k ring index status detail d).spokes = d.spokes := rfl

theorem answerLoop_regs (k ring index status detail : Nat) (d : Dev) : (answerLoop k ring index status detail d).regs = d.regs := rfl

/-- A DISABLED loop with a block takes an unload at once. -/
theorem loopCommand_unload {k l ring index : Nat} {d : Dev} (hm : loopMode k l d = 0) {b : LoopBlock} (hb : loopBlock k l d = some b) :
    loopCommand k l ring index .unload d = answerLoop k ring index stOk 0 (clearedLoop k l (dropClaims k b d)) := by
  simp [loopCommand, isSampled, hm, unloadAsked, unloadLoop, hb, clearedLoop]

theorem loopCommand_unloads {k l : Nat} (ring index : Nat) {d : Dev} (hm : loopMode k l d = 0) (hb : (loopBlock k l d).isSome = true) :
    loopBlock k l (loopCommand k l ring index .unload d) = none ∧ loopMode k l (loopCommand k l ring index .unload d) = 0 := by
  obtain ⟨b, hb⟩ := Option.isSome_iff_exists.mp hb
  rw [loopCommand_unload hm hb]
  rw [loopBlock_ofSpokes (answerLoop_spokes ..), loopMode_ofRegs (answerLoop_regs ..)]
  exact ⟨clearedLoop_block k l _, clearedLoop_mode k l _⟩

/-! ### PT loaded by the hub (R32) -/

theorem alignPt_within (k : Nat) (d : Dev) : (getLink k (alignPt k d)).syncSent = none ∧ (getLink k (alignPt k d)).ptOff.natAbs ≤ 1 ∧
    (alignPt k d).pt = d.pt := by
  refine ⟨by rw [getLink_alignPt], ?_, rfl⟩
  rw [getLink_alignPt]
  dsimp only
  omega

/-! ### The obligation -/

/-- Settles O10: each frame in sequence acts on the device that accepted it, which has its links' ends changed only. -/
theorem linkFramesTakeEffect : Obligations.LinkFramesTakeEffect := by
  refine ⟨fun s k h hk => ⟨?resp, ?rxBad, ?stream, ?ptadj, ?resume⟩, fun s k h hk => ⟨?feed, ?int, ?read, ?write, ?unload, ?ptsync⟩⟩
  case resp =>
    intro hs off v hr
    have hreads : (getLink k (accepted k .hub h s.dev)).reads.contains off = true := by
      rw [getLink_accepted_keeps k .hub h s.dev Link.reads (fun _ _ => rfl) (fun _ _ => rfl)]
      exact hr
    refine completes_onFrame hk hs rfl ?_
    dsimp only
    rw [readBack, if_pos hreads]
    simp
  case rxBad =>
    intro hs n
    refine completes_onFrame hk hs rfl ?_
    dsimp only [dataIn]
    rw [getF_setF_same (F.SPK_LINK_COUNT.SPOKE_RX_BAD k) _ _ (Nat.le_of_ble_eq_true rfl), setF_spokes]
    refine ⟨Nat.mod_eq_of_lt ?_, accepted_spokes ..⟩
    exact Nat.lt_of_le_of_lt (Nat.min_le_right ..) (show 65535 < 2 ^ 16 by decide)
  case stream =>
    intro hs i v p
    refine completes_onFrame hk hs rfl ?_
    dsimp only [dataIn]
    rw [getCtl_updCtl]
    exact ⟨kget_kput_same .., accepted_regs ..⟩
  case ptadj =>
    intro hs eff plus
    refine completes_onFrame hk hs rfl ?_
    dsimp only
    rw [getLink_updLink, getLink_accepted_keeps k .spoke h s.dev Link.adjs (fun _ _ => rfl) (fun _ _ => rfl)]
    exact ⟨rfl, accepted_regs .., accepted_spokes ..⟩
  case resume =>
    intro hs
    have hact : (getLink k (resumeOutputs k (accepted k .spoke h s.dev))).spokeOff = false ∧ s.mem = s.mem ∧
        (resumeOutputs k (accepted k .spoke h s.dev)).eng = s.dev.eng :=
      ⟨resumeOutputs_spokeOff k _, rfl, (resumeOutputs_eng k _).trans (accepted_eng ..)⟩
    simp only [List.forall_mem_cons, List.not_mem_nil, IsEmpty.forall_iff, implies_true, and_true]
    refine ⟨completes_onFrame hk hs rfl ?_, completes_onFrame hk hs rfl ?_⟩
    · dsimp only
      exact hact
    · dsimp only [cmdIn]
      exact hact
  case feed =>
    intro hs e o hrole ho
    refine completes_onFrame hk hs rfl fun hecc => ?_
    obtain ⟨hfeeds, hregs, hspokes⟩ := feedIn_effect (d := accepted k .hub h s.dev) (by rw [accepted_sox]; exact hrole)
      (by rw [findOutlet_ofEng (accepted_eng ..)]; exact ho) ((accepted_ecc ..).trans hecc)
    dsimp only
    refine ⟨⟨_, by rw [hfeeds, accepted_eng], rfl, rfl, by rw [heldFeed, accepted_pt], rfl⟩, fun hl => ?_, fun hl => ?_, ?_⟩
    · rw [getF_of_regs _ hregs, hl]
      exact getF_raise_same _ _ (by decide) rfl
    · rw [hregs, hl]
      exact accepted_regs ..
    · exact hspokes.trans (accepted_spokes ..)
  case int =>
    intro hs j level
    refine completes_onFrame hk hs rfl ?_
    dsimp only
    exact ⟨slotLevel_raw k (j % 64) level _, (slotLevel_spokes ..).trans (accepted_spokes ..), (slotLevel_log ..).trans (accepted_log ..)⟩
  case read =>
    intro hs off
    refine completes_onFrame hk hs rfl ?_
    dsimp only [cmdIn]
    exact ⟨(regValue_free (p := Dev.regs) (fun _ _ => rfl) _ _).trans (accepted_regs ..), _, mem_waiting_linkSend _ _ _ _⟩
  case write =>
    intro hs off v by_ hf
    refine completes_onFrame hk hs rfl ?_
    dsimp only [cmdIn]
    rw [regWrite_reserved hf]
    exact ⟨accepted_regs .., accepted_spokes ..⟩
  case unload =>
    intro hs l ring index hl hr hm hb
    have hact : cmdIn k (.loop l ring index .unload) (accepted k .spoke h s.dev) = loopCommand k l ring index .unload (accepted k .spoke h s.dev) := by
      simp [cmdIn, hl, pstate, hr]
    refine completes_onFrame hk hs rfl fun _ => ?_
    dsimp only
    rw [hact]
    exact loopCommand_unloads ring index ((loopMode_ofRegs (accepted_regs ..)).trans hm) (by rw [loopBlock_ofSpokes (accepted_spokes ..)]; exact hb)
  case ptsync =>
    intro hs sent e hsync
    have hsent : (getLink k (accepted k .hub h s.dev)).syncSent = (getLink k s.dev).syncSent :=
      getLink_accepted_keeps k .hub h s.dev Link.syncSent (fun _ _ => rfl) (fun _ _ => rfl)
    have hact : ptsyncIn k .hub (some e) (accepted k .hub h s.dev) = alignPt k (accepted k .hub h s.dev) := by
      have hsome : (getLink k s.dev).syncSent.isSome = true := Option.isSome_iff_ne_none.mpr hsync
      simp [ptsyncIn, hsent, hsome]
    refine completes_onFrame hk hs rfl ?_
    dsimp only
    rw [hact, ← accepted_pt k .hub h s.dev]
    exact alignPt_within k _

end Sys2Proof.Proofs
end

section
/-! What the registration engine cannot reach (R158 to R212): its tiles, outlets, estimators and requests change none of what a `HubBlind`
observation sees; in particular the package time and the clock of the cycles stay as they are. -/
namespace Sys2Proof.Proofs
open Sys2Proof Sys2Proof.Machine Sys2Proof.Laws

/-- What each step of a fold keeps of its accumulator, the fold keeps. -/
theorem foldl_keeps {α γ β : Type} {p : γ → β} {f : γ → α → γ} (h : ∀ a x, p (f a x) = p a) (xs : List α) (a : γ) : p (xs.foldl f a) = p a := by
  induction xs generalizing a with
  | nil => rfl
  | cons x xs ih => exact (ih _).trans (h a x)

namespace HubBlind
variable {β : Type} {p : Dev → β} (hp : HubBlind p)
include hp

/-! ### Tiles (R171 to R187) -/

theorem updTile (u : Tile) (f : Tile → Tile) (d : Dev) : p (updTile u f d) = p d := hp.eng _ _ (fun _ => rfl)

theorem dropTile (u : Tile) (d : Dev) : p (dropTile u d) = p d := hp.eng _ _ (fun _ => rfl)

theorem evictFor (need : Nat) (ts : List Tile) (d : Dev) : p (evictFor need ts d) = p d := by
  induction ts generalizing d with
  | nil => rfl
  | cons t ts ih =>
    unfold Machine.evictFor
    exact ite_keeps rfl ((ih _).trans (hp.dropTile ..))

theorem makeRoom (need : Nat) (d : Dev) : p (makeRoom need d).2 = p d := by
  unfold Machine.makeRoom
  dsimp only
  split
  · exact hp.evictFor ..
  · rfl

theorem lostSeen (f : List (Nat × Nat × Int × Int) → List (Nat × Nat × Int × Int)) (d : Dev) :
    p (updEng (fun g => { g with lostSeen := f g.lostSeen }) d) = p d := hp.eng _ _ (fun _ => rfl)

theorem marksLost (t : Tile) (d : Dev) : p (marksLost t d) = p d := by
  unfold Machine.marksLost
  have hraise := hp.raise (f := F.REG_STATUS.MARK_LOST) (by decide) d
  exact ite_keeps hraise ((hp.countF (by decide) _).trans ((hp.lostSeen (fun l => lostKey t :: l) _).trans hraise))

theorem refreshMerge (t : Tile) (d : Dev) : p (refreshMerge t d) = p d := by
  unfold Machine.refreshMerge
  exact hp.eng _ d (by intro; rfl)

theorem installTile (buf : List Byte) (home : Nat) (d : Dev) : p (installTile buf home d).2 = p d := by
  unfold Machine.installTile
  dsimp only
  split
  · rfl
  · split
    · exact (hp.refreshMerge ..).trans (hp.updTile ..)
    · split
      · dsimp only
        exact (hp.eng _ _ (by intro; rfl)).trans (hp.makeRoom ..)
      · dsimp only
        split
        · exact (hp.updTile ..).trans (hp.makeRoom ..)
        · exact hp.makeRoom ..

/-! ### Completions that a cycle holds back (R542) -/

theorem finishLater (i : Nat) (x : InDesc) (st dt : Nat) (bs : List Byte) (d : Dev) : p (finishLater i x st dt bs d) = p d :=
  (hp.updHost ..).trans (hp.updRing ..)

theorem completeLater (i j st dt : Nat) (bs : List Byte) (d : Dev) : p (completeLater i j st dt bs d) = p d := by
  unfold Machine.completeLater
  split
  · rfl
  · exact ite_keeps rfl (hp.finishLater ..)

theorem releaseFinished (d : Dev) : p (releaseFinished d) = p d :=
  (eachD_keeps p _ _ (fun _ _ => eachD_keeps p _ _ (fun _ _ => ite_keeps (hp.putCompletion ..) rfl) _) _).trans (hp.updHost ..)

/-! ### Invalidation (R143, R185) -/

theorem invalidateDone (w : Nat × Nat) (d : Dev) : p (invalidateDone w d) = p d := whenD_keeps p _ _ (fun _ => hp.completeLater ..) d

theorem dropLater (t : Tile) (d : Dev) : p (dropLater t d) = p d :=
  (eachD_keeps p _ _ (fun _ _ => hp.invalidateDone ..) _).trans (hp.dropTile ..)

theorem invalidateTile (discard : Bool) (desc : Option (Nat × Nat)) (t : Tile) (d : Dev) : p (invalidateTile discard desc t d) = p d := by
  unfold Machine.invalidateTile
  exact ite_keeps (hp.dropLater ..) (ite_keeps ((hp.marksLost ..).trans (hp.dropLater ..)) (hp.updTile ..))

theorem invalidate (all : Bool) (kind : Nat) (e n : Int) (discard : Bool) (desc : Option (Nat × Nat)) (d : Dev) :
    p (invalidate all kind e n discard desc d) = p d := by
  have hsel (ts : List Tile) : p (eachD ts (Machine.invalidateTile discard desc) d) = p d := eachD_keeps p _ _ (fun _ _ => hp.invalidateTile ..) d
  unfold Machine.invalidate
  dsimp only
  split
  · exact (hp.invalidateDone ..).trans (hsel _)
  · exact hsel _

/-! ### Requests (R181 to R184) -/

theorem leaveOut (key : Nat × Int × Int) (d : Dev) : p (leaveOut key d) = p d := by
  unfold Machine.leaveOut
  refine ite_keeps rfl ((hp.eng _ _ (by intro; rfl)).trans ?_)
  exact (hp.countF (by decide) _).trans (hp.raise (by decide) _)

theorem requested (f : List ((Nat × Int × Int) × Nat) → List ((Nat × Int × Int) × Nat)) (d : Dev) :
    p (updEng (fun g => { g with requested := f g.requested }) d) = p d := hp.eng _ _ (fun _ => rfl)

theorem requestTile (kind : Nat) (e n : Int) (need within : Nat) (d : Dev) : p (requestTile kind e n need within d) = p d := by
  unfold Machine.requestTile
  dsimp only
  refine ite_keeps rfl (ite_keeps (hp.leaveOut ..) ?_)
  split
  · exact hp.noBuf ..
  · exact (hp.finishLater ..).trans (hp.requested (fun l => ((kind, e, n), d.pt) :: l.filter fun r => r.1 != (kind, e, n)) d)

/-! ### The prefetch walk (R181) -/

theorem divFree (a : Int) (b : Nat) (d : Dev) : p (divFree a b d).2 = p d := divFree_free hp.free a b d

theorem halfPeriod (r : Outlet) (d : Dev) : p (halfPeriod r d).2 = p d := hp.divFree ..

theorem extFor (q : Pose) (tau : Nat) (d : Dev) : p (extFor q tau d).2 = p d := (hp.fresh _).trans ((hp.fresh _).trans (hp.fresh d))

/-- A walk carries the device along with the list of needs; q shows of the two what p shows of the device. -/
theorem walkOutlet {q : List ((Int × Int) × Nat) × Dev → β} (hq : ∀ l d, q (l, d) = p d) (o c last : Nat) (pose : Pose) (d : Dev)
    (acc : List ((Int × Int) × Nat)) : q (walkOutlet o c last pose d acc) = p d := by
  unfold Machine.walkOutlet
  extract_lets r pts ends lead
  have hhalf := hp.halfPeriod r d
  generalize Machine.halfPeriod r d = x at hhalf ⊢
  obtain ⟨half, e⟩ := x
  refine Eq.trans (foldl_keeps (fun a y => foldl_keeps (fun b h => ?_) _ a) ends (acc, e)) ((hq acc e).trans hhalf)
  obtain ⟨l, f⟩ := b
  have hext := hp.extFor pose (h - pose.tag) f
  dsimp only
  generalize Machine.extFor pose (h - pose.tag) f = x at hext ⊢
  obtain ⟨x, g⟩ := x
  exact (hq _ g).trans (hext.trans (hq l f).symm)

end HubBlind

end Sys2Proof.Proofs
end

section
/-! What the decisions of a cycle cannot reach (R165 to R203): beside the outlets, the tiles and the flags of the engine they change the entries that
go to the spokes, and nothing that a `HubBlind` observation sees. -/
namespace Sys2Proof.Proofs
open Sys2Proof Sys2Proof.Machine Sys2Proof.Laws

namespace HubBlind
variable {β : Type} {p : Dev → β} (hp : HubBlind p)
include hp

/-! ### Misses (R193, R194) -/

theorem missExpire (o : Nat) (d : Dev) : p (missExpire o d) = p d :=
  (hp.logEvent ..).trans ((hp.countF (by decide) _).trans ((hp.raise (by decide) _).trans (hp.updOut ..)))

theorem healthReport (cls i : Nat) (d : Dev) : p (healthReport cls i d) = p d := hp.healthEvent ..

theorem noteMiss (o c : Nat) (miss : Bool) (d : Dev) : p (noteMiss o c miss d) = p d := by
  unfold Machine.noteMiss
  dsimp only
  refine ite_keeps (hp.updOut ..) (ite_keeps ?_ (hp.updOut ..))
  exact (hp.healthReport ..).trans ((hp.countF (by decide) _).trans ((hp.raise (by decide) _).trans (hp.updOut ..)))

/-! ### One outlet (R188 to R198) -/

theorem scheduleOutlet (o c : Nat) (held : Bool) (d : Dev) : p (scheduleOutlet o c held d) = p d := by
  unfold Machine.scheduleOutlet
  dsimp only
  refine ite_keeps rfl (ite_keeps ?planned (ite_keeps (hp.endOutlet ..) (ite_keeps ((hp.sendEntry ..).trans (hp.updOut ..)) rfl)))
  exact ite_keeps ((hp.sendEntry ..).trans (hp.updOut ..)) (ite_keeps (hp.sendEntry ..) (ite_keeps (hp.sendEntry ..) rfl))

theorem decideBlind (o c : Nat) (d : Dev) : p (decideBlind o c d) = p d := by
  unfold Machine.decideBlind
  dsimp only
  rw [hp.scheduleOutlet, hp.updOut, hp.updOut, hp.noteMiss]

theorem dutyOf (r : Outlet) (rates : List Nat) (vo : Nat) (d : Dev) : p (dutyOf r rates vo d).2 = p d := hp.fresh d

theorem noteRefs (cells : List (Option ((Int × Int) × Nat))) (c : Nat) (d : Dev) : p (noteRefs cells c d) = p d := by
  unfold Machine.noteRefs
  exact hp.eng _ d (by intro; rfl)

theorem decideOutlet (o c : Nat) (q : Pose) (held : Bool) (d : Dev) : p (decideOutlet o c q held d) = p d := by
  unfold Machine.decideOutlet
  extract_lets r st pts lead fluid
  have hhalf := hp.halfPeriod r d
  generalize Machine.halfPeriod r d = x at hhalf ⊢
  obtain ⟨half, e⟩ := x
  refine Eq.trans ?_ hhalf
  dsimp only
  rw [hp.scheduleOutlet, hp.updOut]
  refine Eq.trans (ite_keeps (hp.updOut ..) ((hp.updOut ..).trans (hp.dutyOf ..))) ?_
  rw [hp.updOut, whenD_keeps p _ _ (fun _ => hp.missExpire ..), hp.noteMiss, eachD_keeps p _ _ (fun _ _ => hp.requestTile ..),
    eachD_keeps p _ _ (fun _ _ => hp.requestTile ..), hp.noteRefs, hp.extFor, hp.extFor, hp.extFor, hp.extFor,
    whenD_keeps p _ _ (fun _ => hp.raise (by decide) _)]

end HubBlind

end Sys2Proof.Proofs
end

section
/-! What a geometry-cycle start cannot reach (R41, R200, R208, R542): whatever takes effect in it, of the engine only the clock of the cycles stays as
the start has set it. A `CycleBlind` observation is one that none of them moves: that of this clock is one. -/
namespace Sys2Proof.Proofs
open Sys2Proof Sys2Proof.Machine Sys2Proof.Laws

structure CycleBlind {β : Type} (p : Dev → β) : Prop extends HubBlind p where
  allRegs : ∀ r w d, p (rput r w d) = p d
  pwr : ∀ x d, p { d with pwr := x } = p d
  time : ∀ x d, p { d with time := x } = p d

theorem cycleBlind_clock : CycleBlind (fun d => cycleClock d.eng) where
  toHubBlind := hubBlind_clock
  allRegs _ _ _ := rfl
  pwr _ _ := rfl
  time _ _ := rfl

namespace CycleBlind
variable {β : Type} {p : Dev → β} (hp : CycleBlind p)
include hp

/-! ### The elementary updates -/

theorem setF (f : Fld) (v : Nat) (d : Dev) : p (setF f v d) = p d := hp.allRegs _ _ _
theorem lower (f : Fld) (d : Dev) : p (lower f d) = p d := hp.allRegs _ _ _
theorem countF (f : Fld) (d : Dev) : p (countF f d) = p d := hp.allRegs _ _ _
theorem raise (f : Fld) (d : Dev) : p (raise f d) = p d := (hp.marks _ _).trans (hp.allRegs _ _ _)
theorem updPwr (f : Pwr → Pwr) (d : Dev) : p (updPwr f d) = p d := hp.pwr _ _
theorem setState (x : PwrState) (d : Dev) : p (setState x d) = p d := hp.pwr _ _
theorem updTime (f : TimeUnit → TimeUnit) (d : Dev) : p (updTime f d) = p d := hp.time _ _
theorem updHealth (f : Health → Health) (d : Dev) : p (updHealth f d) = p d := hp.health _ _
theorem updBoost (k : Nat) (f : Boost → Boost) (d : Dev) : p (updBoost k f d) = p d := hp.spokes _ _

theorem flag (f : Fld) (b : Bool) (d : Dev) : p (flag f b d) = p d := by
  unfold Machine.flag
  exact ite_keeps (hp.raise ..) (hp.lower ..)

theorem bitF (f : Fld) (i : Nat) (b : Bool) (d : Dev) : p (bitF f i b d) = p d :=
  (whenD_keeps p _ _ (fun _ => hp.marks _ _) _).trans (hp.setF _ _ _)

/-! ### FEED events that were held (R200, R248, R259) -/

theorem estSample (off : Bool) (o m : Nat) (d : Dev) : p (estSample off o m d) = p d := by
  unfold Machine.estSample
  dsimp only
  refine ite_keeps (hp.updOut ..) (ite_keeps (hp.updOut ..) ?_)
  exact (hp.logEvent ..).trans ((hp.health _ _).trans ((hp.updOut ..).trans (hp.updOut ..)))

theorem slipSample (o : Nat) (f : HeldFeed) (d : Dev) : p (slipSample o f d) = p d := by
  unfold Machine.slipSample
  extract_lets lim m1 m2 w num q r
  exact (hp.updOut ..).trans (hp.fresh d)

theorem takeFeed (f : HeldFeed) (d : Dev) : p (takeFeed f d) = p d := by
  unfold Machine.takeFeed
  extract_lets o r openAt opened slipTaken closeAt closed
  have hopened : p opened = p d := hp.updOut ..
  have hslip : p slipTaken = p d :=
    (ite_keeps ((whenD_keeps p _ _ (fun _ => hp.slipSample ..) _).trans (hp.updOut ..)) rfl).trans hopened
  have hclosed : p closed = p d := hp.updOut ..
  refine ite_keeps (hp.updOut ..) ?_
  split
  · exact (ite_keeps (hp.estSample ..) rfl).trans hslip
  · exact (ite_keeps (hp.estSample ..) rfl).trans hclosed
  · exact hp.updOut ..
  · exact hp.updOut ..

/-! ### Tables, rates and tiles (R143, R151, R175, R178, R185, R218) -/

theorem takeWaiting (ops : List Nat) {f : Nat → InDesc → Dev → Dev} (hf : ∀ i x d, p (f i x d) = p d) (d : Dev) :
    p (takeWaiting ops f d) = p d := by
  refine eachD_keeps p _ _ (fun w e => ?_) d
  split
  · exact (hf _ _ _).trans (hp.eng _ _ (by intro; rfl))
  · rfl

theorem commitEnds (ring index st dt : Nat) (d : Dev) : p (commitEnds ring index st dt d) = p d :=
  (hp.complete ..).trans (hp.eng _ _ (by intro; rfl))

theorem endCommit (d : Dev) : p (endCommit d) = p d := by
  unfold Machine.endCommit
  split
  · exact hp.commitEnds ..
  · rfl

theorem dropConflict (r : Outlet) (d : Dev) : p (dropConflict r d) = p d := by
  unfold Machine.dropConflict
  exact ite_keeps rfl (eachD_keeps p _ _ (fun _ _ => hp.lower ..) d)

theorem resetRise (k n : Nat) (d : Dev) : p (resetRise k n d) = p d := hp.spoke.updChan ..

theorem heldTravel (k n : Nat) (d : Dev) : p (heldTravel k n d) = p d := by
  unfold Machine.heldTravel
  exact ite_keeps rfl ((hp.lower ..).trans (hp.lower ..))

theorem takeOwner (k n profile : Nat) (d : Dev) : p (takeOwner k n profile d) = p d := by
  unfold Machine.takeOwner
  dsimp only
  rw [hp.heldTravel, whenD_keeps p _ _ (fun _ => hp.resetRise ..), hp.spoke.updChan, hp.setF, hp.setF]

theorem settleOwner (k n : Nat) (d : Dev) : p (settleOwner k n d) = p d := by
  unfold Machine.settleOwner
  refine ite_keeps ?_ rfl
  rw [hp.heldTravel, hp.resetRise, hp.allRegs, hp.spoke.updChan]

theorem releaseChannel (r : Outlet) (d : Dev) : p (releaseChannel r d) = p d := by
  have hone (k n : Nat) (e : Dev) : p (if getF (F.DRV_CH_CFG.OWNER k n) e = 1 then
      Machine.settleOwner k n (updChan k n (fun c => { c with releasing := true }) (stopChan k n false (outletOf k n e) e)) else e) = p e :=
    ite_keeps (by rw [hp.settleOwner, hp.spoke.updChan, hp.spoke.stopChan]) rfl
  unfold Machine.releaseChannel
  exact ite_keeps ((whenD_keeps p _ _ (fun _ => hone ..) _).trans (hone ..)) rfl

theorem ownChannel (r : Outlet) (d : Dev) : p (ownChannel r d) = p d := by
  have hown (k n m profile : Nat) (f g : Fld) (b : Bool) (e : Dev) : p (Machine.lower g (Machine.flag f b (Machine.takeOwner k n profile e))) = p e := by
    rw [hp.lower, hp.flag, hp.takeOwner]
  have hodd (k n profile : Nat) (f : Fld) (b : Bool) (e : Dev) : p (Machine.flag f b (Machine.takeOwner k n profile e)) = p e := by
    rw [hp.flag, hp.takeOwner]
  unfold Machine.ownChannel
  refine ite_keeps rfl ((whenD_keeps p _ _ (fun _ => hodd ..) _).trans ((whenD_keeps p _ _ (fun _ => hown _ _ 0 _ _ _ _ _) _).trans ?_))
  exact (eachD_keeps p _ _ (fun _ _ => hp.raise ..) _).trans (hp.dropConflict ..)

theorem activateTable (d : Dev) : p (activateTable d) = p d := by
  unfold Machine.activateTable
  split
  · refine ite_keeps (hp.eng _ _ (by intro; rfl)) (ite_keeps (hp.commitEnds ..) ?_)
    rw [hp.complete, hp.logEvent, hp.setF, hp.setF, hp.setF, hp.lower, hp.raise, hp.updHealth, hp.updSox,
      eachD_keeps p _ _ (fun _ _ => hp.ownChannel ..)]
    refine (hp.eng _ _ (by intro; rfl)).trans ?_
    rw [eachD_keeps p _ _ (fun _ _ => hp.releaseChannel ..), eachD_keeps p _ _ (fun _ _ => hp.releaseChannel ..),
      eachD_keeps p _ _ (fun _ _ => hp.dropConflict ..)]
  · rfl

theorem applyFieldSet (i : Nat) (x : InDesc) (d : Dev) : p (applyFieldSet i x d) = p d := by
  unfold Machine.applyFieldSet
  dsimp only
  rw [hp.complete, hp.logEvent, hp.setF, hp.setF]
  refine (hp.eng _ _ (by intro; rfl)).trans ((hp.eng _ _ (fun g => ?_)).trans (hp.invalidate ..))
  split <;> rfl

theorem applyTableDesc (i : Nat) (x : InDesc) (d : Dev) : p (applyTableDesc i x d) = p d := by
  unfold Machine.applyTableDesc
  split
  · exact hp.applyFieldSet ..
  · exact (hp.complete ..).trans (hp.eng _ _ (by intro; rfl))
  · exact hp.activateTable ..

theorem applyPush (i : Nat) (x : InDesc) (d : Dev) : p (applyPush i x d) = p d := by
  unfold Machine.applyPush
  have h := hp.installTile x.buf (paramAt x 24 8) d
  generalize installTile x.buf (paramAt x 24 8) d = r at h ⊢
  exact (hp.completeLater ..).trans h

theorem applyInvalidate (i : Nat) (x : InDesc) (d : Dev) : p (applyInvalidate i x d) = p d := by
  unfold Machine.applyInvalidate
  exact hp.invalidate ..

theorem applyTile (i : Nat) (x : InDesc) (d : Dev) : p (applyTile i x d) = p d := by
  unfold Machine.applyTile
  extract_lets e
  have he : p e = p d := hp.eng _ _ (by intro; rfl)
  exact ite_keeps ((hp.applyPush ..).trans he) ((hp.applyInvalidate ..).trans he)

/-! ### Arming, disarming, proof and forces (R70 to R75, R195, R196) -/

theorem startPrecharge (k : Nat) (d : Dev) : p (startPrecharge k d) = p d := by
  unfold Machine.startPrecharge settleConverter
  exact (hp.updBoost ..).trans (hp.updPwr _ d)

theorem prechargeAll (d : Dev) : p (prechargeAll d) = p d := eachD_keeps p _ _ (fun _ _ => ite_keeps (hp.startPrecharge ..) rfl) d

theorem disarmReady (d : Dev) : p (disarmReady d) = p d := by
  unfold Machine.disarmReady toReady disarm
  refine ite_keeps ?_ rfl
  rw [hp.prechargeAll, hp.setState]
  refine ite_keeps rfl ?_
  rw [hp.dropForces, hp.dropEntries]
  exact eachD_keeps p _ _ (fun _ _ => (hp.spoke.loopsDisarm ..).trans (hp.quietSpoke ..)) d

theorem enableSpoke (k : Nat) (d : Dev) : p (enableSpoke k d) = p d := (hp.spoke.settlePairs ..).trans (hp.raise ..)

theorem enterArmed (d : Dev) : p (enterArmed d) = p d := by
  unfold Machine.enterArmed
  rw [hp.setState]
  refine (whenD_keeps p _ _ (fun e => ?_) _).trans (hp.endCommit d)
  exact eachD_keeps p _ _ (fun _ _ => ite_keeps (hp.enableSpoke ..) rfl) e

theorem tryArm (d : Dev) : p (tryArm d).1 = p d := by
  unfold Machine.tryArm
  split
  · exact hp.enterArmed d
  · split
    · rfl
    · exact hp.setF ..

theorem applyArm (i : Nat) (x : InDesc) (d : Dev) : p (applyArm i x d) = p d := by
  unfold Machine.applyArm
  exact ite_keeps rfl ((hp.complete ..).trans ((hp.tryArm _).trans (hp.updPwr ..)))

theorem applyDisarm (i : Nat) (x : InDesc) (d : Dev) : p (applyDisarm i x d) = p d := by
  unfold Machine.applyDisarm
  exact ite_keeps rfl ((hp.complete ..).trans ((hp.disarmReady _).trans (hp.updPwr ..)))

theorem applyProof (c i : Nat) (x : InDesc) (d : Dev) : p (applyProof c i x d) = p d := by
  unfold Machine.applyProof
  refine (hp.complete ..).trans ((hp.eng _ _ (by intro; rfl)).trans ?_)
  exact ite_keeps ((hp.edgeFlush ..).trans (hp.endAllEntries ..)) rfl

theorem applyForce (i : Nat) (x : InDesc) (d : Dev) : p (applyForce i x d) = p d := by
  unfold Machine.applyForce
  exact ite_keeps (hp.complete ..) ((hp.complete ..).trans (eachD_keeps p _ _ (fun _ _ => hp.updOut ..) d))

theorem applyOverride (c i : Nat) (x : InDesc) (d : Dev) : p (applyOverride c i x d) = p d := by
  unfold Machine.applyOverride
  split
  · exact hp.applyArm ..
  · exact hp.applyDisarm ..
  · exact hp.applyProof ..
  · exact hp.applyForce ..

end CycleBlind

end Sys2Proof.Proofs
end

section
/-! A whole geometry cycle leaves its clock as the start set it (R41, R208 to R210): arming and attachment, the decisions, and what is sent. -/
namespace Sys2Proof.Proofs
open Sys2Proof Sys2Proof.Machine Sys2Proof.Laws

namespace CycleBlind
variable {β : Type} {p : Dev → β} (hp : CycleBlind p)
include hp

/-! ### The section bus (R401, R402, R418, R424) -/

theorem probeAnswer (desc : Option (Nat × Nat)) (st dt : Nat) (d : Dev) : p (probeAnswer desc st dt d) = p d := by
  unfold Machine.probeAnswer
  split
  · exact hp.complete ..
  · rfl

theorem soxDrain (n : Nat) (d : Dev) : p (soxDrain n d) = p d := by
  induction n generalizing d with
  | zero => rfl
  | succ n ih =>
    unfold Machine.soxDrain
    split
    · rfl
    · split
      · exact (ih _).trans ((hp.putCompletion ..).trans (hp.updSox ..))
      · exact hp.noBuf ..

theorem soxEvent (code addr : Nat) (a b : Int) (d : Dev) : p (soxEvent code addr a b d) = p d := by
  unfold Machine.soxEvent
  exact ite_keeps (hp.countF ..) ((hp.soxDrain ..).trans (hp.updSox ..))

theorem leaveLocked (d : Dev) : p (leaveLocked d) = p d := whenD_keeps p _ _ (fun _ => (hp.soxEvent ..).trans (hp.raise ..)) d

theorem setRole (r : RoleRec) (d : Dev) : p (setRole r d) = p d := by
  unfold Machine.setRole
  dsimp only
  rw [hp.updSox, hp.updTime, whenD_keeps p _ _ (fun _ => (hp.allRegs _ _ _).trans (hp.allRegs _ _ _)), hp.allRegs, hp.lower, hp.lower, hp.setF,
    hp.lower, hp.lower, hp.allRegs, hp.setF, hp.setF, hp.flag, hp.flag, hp.setF, hp.leaveLocked]

theorem roleCycle (d : Dev) : p (roleCycle d) = p d := by
  unfold Machine.roleCycle
  split
  · rfl
  · exact ite_keeps ((hp.probeAnswer ..).trans (hp.updSox ..)) ((hp.probeAnswer ..).trans (hp.setRole ..))

theorem edgeDisarm (d : Dev) : p (edgeDisarm d) = p d := by
  unfold Machine.edgeDisarm
  exact ite_keeps ((hp.disarmReady ..).trans (hp.updSox ..)) rfl

theorem edgeArmNow (d : Dev) : p (edgeArmNow d) = p d := by
  unfold Machine.edgeArmNow
  exact ite_keeps ((hp.tryArm ..).trans (hp.updSox ..)) rfl

/-! ### The tandem link (R494, R500 to R503) -/

theorem detachNow (d : Dev) : p (detachNow d) = p d := by
  unfold Machine.detachNow
  dsimp only
  refine ite_keeps rfl ?_
  rw [whenD_keeps p _ _ (fun _ => (hp.tdmEvent ..).trans (hp.logEvent ..)), hp.updTdm, hp.setF, hp.lower, hp.lower, hp.lower, hp.setF]

theorem detachCycle (c : Nat) (d : Dev) : p (detachCycle c d) = p d := by
  unfold Machine.detachCycle
  split
  · rfl
  · dsimp only
    refine ite_keeps rfl ?_
    unfold detachYielding
    dsimp only
    rw [hp.probeAnswer, hp.updTdm, hp.updTdm, hp.detachNow]
    split
    · rw [hp.complete, whenD_keeps p _ _ (fun _ => hp.disarmReady _)]
    · exact whenD_keeps p _ _ (fun _ => hp.disarmReady _) d

theorem attachOver (d : Dev) : p (attachOver d) = p d := whenD_keeps p _ _ (fun _ => hp.setF ..) d

theorem holdFeed (x : TdmFeed) (d : Dev) : p (holdFeed x d) = p d := by
  unfold Machine.holdFeed
  exact hp.eng _ _ (by intro; rfl)

theorem loadItem (x : XferItem) (d : Dev) : p (loadItem x d) = p d := by
  unfold Machine.loadItem
  split
  · exact ite_keeps (hp.updOut ..) rfl
  · exact ite_keeps ((hp.spoke.updChan ..).trans (hp.setF ..)) rfl
  · exact ite_keeps ((hp.spoke.updLoop ..).trans (hp.setF ..)) rfl

theorem xferSend (d : Dev) : p (xferSend d) = p d := by
  unfold Machine.xferSend
  split
  · rfl
  · exact ite_keeps ((hp.updTdm ..).trans (hp.tdmSend ..)) (hp.updTdm ..)

theorem attachCycle (d : Dev) : p (attachCycle d) = p d := by
  unfold Machine.attachCycle
  split
  · rfl
  · rename_i a _
    refine ite_keeps ((hp.updTdm ..).trans (hp.attachOver ..)) (ite_keeps rfl (ite_keeps ?synced (ite_keeps ?loaded (ite_keeps ?taken rfl))))
    case synced =>
      rw [hp.complete, hp.tdmEvent, hp.logEvent, hp.updTdm, hp.setF, whenD_keeps p _ _ (fun _ => hp.raise ..), hp.setF]
    case loaded =>
      refine Eq.trans (ite_keeps ?_ rfl) (hp.updTdm (fun t => { t with attach := some { a with synced := true, received := [], blocks := [], held := [] } }) d)
      exact (eachD_keeps p _ _ (fun _ _ => hp.holdFeed ..) _).trans (eachD_keeps p _ _ (fun _ _ => hp.loadItem ..) _)
    case taken => exact (hp.xferSend ..).trans (hp.updTdm ..)

theorem resumeCycle (d : Dev) : p (resumeCycle d) = p d := by
  unfold Machine.resumeCycle
  extract_lets e
  have he : p e = p d := hp.updTdm ..
  exact ite_keeps rfl (ite_keeps ((eachD_keeps p _ _ (fun _ _ => ite_keeps (hp.enableSpoke ..) rfl) e).trans he) he)

theorem yieldCycle (c : Nat) (d : Dev) : p (yieldCycle c d) = p d := by
  unfold Machine.yieldCycle
  split
  · rfl
  · extract_lets e
    have he : p e = p d := hp.updTdm ..
    refine ite_keeps ((hp.probeAnswer ..).trans he) ?_
    rw [hp.updTdm, hp.tdmEvent, hp.logEvent, hp.raise, hp.tdmSend, hp.dropEntries, eachD_keeps p _ _ (fun _ _ => hp.quietSpoke ..),
      hp.endAllEntries, he]

theorem syncLost (why : Nat) (d : Dev) : p (syncLost why d) = p d := by
  unfold Machine.syncLost
  exact ite_keeps ((hp.tdmEvent ..).trans (hp.lower ..)) rfl

theorem compareDigest (start theirs own : Nat) (d : Dev) : p (compareDigest start theirs own d) = p d := by
  unfold Machine.compareDigest
  extract_lets first e
  have he : p e = p d := by
    dsimp only [e]
    rw [hp.healthReport, whenD_keeps p _ _ (fun _ => hp.logEvent ..), hp.raise, hp.countF, hp.updTdm]
  exact ite_keeps (hp.updTdm ..) (ite_keeps ((hp.syncLost ..).trans he) he)

theorem digestCycle (c : Nat) (d : Dev) : p (digestCycle c d) = p d := by
  unfold Machine.digestCycle
  extract_lets g at_ e
  have he : p e = p d := hp.updTdm ..
  refine ite_keeps rfl (ite_keeps (hp.tdmSend ..) ?_)
  split
  · exact (hp.compareDigest ..).trans ((hp.updTdm ..).trans he)
  · exact he

theorem sendLoopState (d : Dev) : p (sendLoopState d) = p d := by
  unfold Machine.sendLoopState
  exact ite_keeps rfl (eachD_keeps p _ _ (fun _ _ => hp.tdmSend ..) d)

/-! ### Pose, decisions and marks (R165 to R203) -/

theorem notePose (c : Nat) (d : Dev) : p (notePose c d) = p d := by
  unfold Machine.notePose
  extract_lets live old new
  cases hpose : d.eng.pose with
  | none =>
    dsimp only
    rw [eachD_keeps p _ _ (fun _ _ => whenD_keeps p _ _ (fun _ => hp.healthReport ..) _),
      whenD_keeps p _ _ (fun _ => hp.logEvent ..), hp.setF, hp.setF, hp.setF,
      eachD_keeps p _ _ (fun _ _ => whenD_keeps p _ _ (fun _ => hp.bitF ..) _), hp.allRegs]
  | some q =>
    have hus : p (Machine.toUs (c - q.tag) d).2 = p d := hp.spoke.toUs ..
    dsimp only
    generalize Machine.toUs (c - q.tag) d = x at hus ⊢
    obtain ⟨a, e⟩ := x
    dsimp only at hus ⊢
    rw [eachD_keeps p _ _ (fun _ _ => whenD_keeps p _ _ (fun _ => hp.healthReport ..) _),
      whenD_keeps p _ _ (fun _ => hp.logEvent ..), hp.setF, hp.setF, hp.setF,
      eachD_keeps p _ _ (fun _ _ => whenD_keeps p _ _ (fun _ => hp.bitF ..) _), hp.allRegs]
    exact hus

theorem decideAll (c : Nat) (d : Dev) : p (decideAll c d) = p d := by
  refine eachD_keeps p _ _ (fun o e => ?_) d
  split
  · exact hp.decideBlind ..
  · exact hp.decideOutlet ..

theorem settleIvs (o c : Nat) (d : Dev) : p (settleIvs o c d) = p d := by
  unfold Machine.settleIvs
  exact hp.updOut ..

theorem markCell (t : Int × Int) (n : Nat) (lost : Bool) (d : Dev) : p (markCell t n lost d) = p d := by
  unfold Machine.markCell
  extract_lets new mark
  refine ite_keeps (hp.marksLost ..) ?_
  split
  · exact hp.updTile ..
  · have hroom := hp.makeRoom 1 d
    generalize makeRoom 1 d = x at hroom ⊢
    obtain ⟨room, e⟩ := x
    exact (ite_keeps (hp.eng _ _ (by intro; rfl)) (hp.marksLost ..)).trans hroom

theorem markAll (c : Nat) (d : Dev) : p (markAll c d) = p d := by
  refine eachD_keeps p _ _ (fun o e => ?_) d
  extract_lets r f st on g
  have hg : p g = p e := (hp.updOut ..).trans (hp.settleIvs ..)
  refine Eq.trans (ite_keeps rfl ?_) hg
  split
  · exact hp.raise ..
  · rename_i q _
    extract_lets h
    have hext := hp.extFor q h.1 g
    generalize extFor q h.1 g = x at hext ⊢
    obtain ⟨x, y⟩ := x
    refine Eq.trans (eachD_keeps p _ _ (fun cell z => ?_) y) hext
    split
    · exact hp.markCell ..
    · rfl

/-! ### What the cycle sends (R212, R276, R392) -/

theorem sendStreams (c : Nat) (d : Dev) : p (sendStreams c d) = p d := by
  refine eachD_keeps p _ _ (fun s e => ite_keeps rfl ?_) d
  extract_lets lo hi live sum
  have hdiv := hp.divFree sum.1 sum.2 e
  generalize divFree sum.1 sum.2 e = x at hdiv ⊢
  obtain ⟨v, y⟩ := x
  exact (eachD_keeps p _ _ (fun _ _ => ite_keeps (hp.linkSend ..) rfl) y).trans hdiv

theorem summaryChange (c : Nat) (d : Dev) : p (summaryChange c d) = p d := by
  unfold Machine.summaryChange queueSummary
  exact ite_keeps (hp.updCan ..) rfl

theorem noteReport (d : Dev) : p (noteReport d) = p d := by
  unfold Machine.noteReport
  exact ite_keeps rfl (ite_keeps (hp.eng _ _ (by intro; rfl)) (hp.eng _ _ (by intro; rfl)))

end CycleBlind

end Sys2Proof.Proofs
end

section
/-! The commands of the geometry cycle (R40, R41, R183, R194, R208 to R212). -/
namespace Sys2Proof.Proofs
open Sys2Proof Sys2Proof.Machine Sys2Proof.Laws

/-! ### A cycle starts (R208) -/

/-- The clock of the cycles is set to a cycle that starts at c, before anything takes effect in it. -/
def openCycle (c : Nat) (d : Dev) : Dev :=
  updEng (fun g => { g with prevCycle := g.cycleStart, cycleStart := c, cycleAt := some d.pt, evaluating := true, lanesOn := true, cacheOn := true, lateCycle := false, shortTiles := [] }) d

theorem CycleBlind.cycleActs {β : Type} {p : Dev → β} (hp : CycleBlind p) (c : Nat) (d : Dev) : p (cycleActs c d) = p (openCycle c d) := by
  unfold Machine.cycleActs
  dsimp only
  rw [hp.noteReport, eachD_keeps p _ _ hp.summaryChange, hp.digestCycle, hp.sendLoopState, hp.sendStreams, hp.edgeFlush, hp.markAll, hp.decideAll,
    hp.notePose, hp.roleCycle, hp.yieldCycle, hp.resumeCycle, hp.edgeArmNow, hp.attachCycle, hp.detachCycle, hp.edgeDisarm,
    hp.takeWaiting _ (hp.applyOverride c), hp.takeWaiting _ hp.applyTile, hp.activateTable, hp.takeWaiting _ hp.applyTableDesc,
    eachD_keeps p _ _ hp.takeFeed, hp.eng _ _ (by intro; rfl)]
  rfl

theorem runCycle_clock (c : Nat) (d : Dev) :
    cycleClock (runCycle c d).eng = (c, d.eng.cycleStart, d.eng.lastGrid, true, d.eng.nextWalk) :=
  (hubBlind_clock.releaseFinished _).trans (cycleBlind_clock.cycleActs c d)

/-- At an instant of the grid at which no cycle has started, the engine starts one, or notes an overrun. -/
theorem cycleStart_onGrid {d : Dev} {c : Nat} (hg : gridReached (cyclePeriod d) 0 d.pt = some c) (hl : d.eng.lastGrid ≠ some c)
    (hr : engineRuns d = true) : cycleStart d =
      (let e := updEng (fun g => { g with lastGrid := some c }) d
       if !e.eng.evaluating then runCycle c e
       else if e.eng.lateCycle then countF F.REG_CYCLE_STATS.SKIPPED e
       else
        let r := healthEvent 12 0 false
          (raise F.REG_STATUS.OVERRUN (countF F.REG_CYCLE_STATS.OVERRUNS (updEng (fun g => { g with lateCycle := true }) e)))
        whenD r.2 (enterSafe 2) r.1) := by
  simp [cycleStart, hg, hl, hr]

/-- The start of a cycle while the one before is still evaluated: it is late, and the overrun is counted. -/
def overrun (d : Dev) : Dev :=
  raise F.REG_STATUS.OVERRUN (countF F.REG_CYCLE_STATS.OVERRUNS (updEng (fun g => { g with lateCycle := true }) d))

theorem overrun_marks (d : Dev) : (overrun d).eng = { d.eng with lateCycle := true } ∧ getF F.REG_STATUS.OVERRUN (overrun d) = 1 ∧
    getF F.REG_CYCLE_STATS.OVERRUNS (overrun d) = min 65535 (getF F.REG_CYCLE_STATS.OVERRUNS d + 1) ∧ getInst 12 0 (overrun d) = getInst 12 0 d := by
  refine ⟨rfl, getF_raise_same _ _ (by decide) rfl, ?_, rfl⟩
  unfold overrun
  rw [getF_raise_otherField _ (by decide) (.inl (by decide)), getF_countF_same _ _ (by decide)]
  rfl

/-! ### An evaluation ends (R209) -/

/-- What an evaluation took is the last time, and the longest where none was longer. -/
def noteCycleTime (t : Nat) (d : Dev) : Dev :=
  d |> setF F.REG_CYCLE_TIME.LAST t |> setF F.REG_CYCLE_TIME.MAX (max t (getF F.REG_CYCLE_TIME.MAX d))

theorem noteCycleTime_le {t : Nat} (ht : t ≤ 0xFFFF) (d : Dev) :
    getF F.REG_CYCLE_TIME.LAST (noteCycleTime t d) ≤ getF F.REG_CYCLE_TIME.MAX (noteCycleTime t d) := by
  have hbound : getF F.REG_CYCLE_TIME.MAX d < 2 ^ F.REG_CYCLE_TIME.MAX.len := wordField_lt ..
  have hlen : F.REG_CYCLE_TIME.LAST.len = 16 := rfl
  have hlen' : F.REG_CYCLE_TIME.MAX.len = 16 := rfl
  unfold noteCycleTime
  rw [getF_setF_otherField (f := F.REG_CYCLE_TIME.MAX) (g := F.REG_CYCLE_TIME.LAST) _ _ (by decide) (.inr ⟨rfl, by decide⟩),
    getF_setF_same F.REG_CYCLE_TIME.LAST _ _ (by decide), getF_setF_same F.REG_CYCLE_TIME.MAX _ _ (by decide), hlen, hlen']
  rw [hlen'] at hbound
  generalize getF F.REG_CYCLE_TIME.MAX d = m at hbound ⊢
  omega

theorem noteCycleTime_eng (t : Nat) (d : Dev) : (noteCycleTime t d).eng = d.eng := by rw [noteCycleTime, setF_eng, setF_eng]

theorem inLead_of {d e : Dev} (hp : getF F.REG_CYCLE.PERIOD d = getF F.REG_CYCLE.PERIOD e) (ht : d.pt = e.pt) : inLead d = inLead e := by
  rw [inLead, cyclePeriod, hp, ht, inLead, cyclePeriod]

theorem inLead_noteCycleTime (t : Nat) (d : Dev) : inLead (noteCycleTime t d) = inLead d := by
  unfold noteCycleTime
  refine inLead_of ?_ ?_
  · rw [getF_setF_otherReg _ _ _ _ (by decide), getF_setF_otherReg _ _ _ _ (by decide)]
  · rw [setF_pt, setF_pt]

/-- The end of an evaluation in time leaves the lanes on in the lead of the next cycle alone. -/
theorem evaluationDone_inTime {d : Dev} (he : d.eng.evaluating = true) (hl : d.eng.lateCycle = false) :
    ∃ t ≤ 0xFFFF, ∃ n, let e := noteCycleTime t { d with free := n }
      evaluationDone d = updEng (fun g => { g with evaluating := false, lanesOn := inLead e, lateCycle := false }) e := by
  have hfree : ∃ n, (divFree (d.pt - d.eng.cycleStart) 25 d).2 = { d with free := n } := by
    unfold divFree
    split
    · exact ⟨d.free, rfl⟩
    · exact ⟨_, rfl⟩
  unfold evaluationDone
  generalize divFree (d.pt - d.eng.cycleStart) 25 d = x at hfree ⊢
  obtain ⟨t, e⟩ := x
  obtain ⟨n, rfl⟩ := hfree
  refine ⟨min 0xFFFF t.toNat, Nat.min_le_left .., n, ?_⟩
  dsimp only
  have hlate : (noteCycleTime (min 0xFFFF t.toNat) { d with free := n }).eng.lateCycle = false := hl
  rw [noteCycleTime] at hlate ⊢
  rw [if_neg (by simp [he]), hlate]
  rfl

theorem evaluationDone_effect {d : Dev} (he : d.eng.evaluating = true) (hl : d.eng.lateCycle = false) :
    (evaluationDone d).eng = { d.eng with evaluating := false, lanesOn := inLead d, lateCycle := false } ∧
      getF F.REG_CYCLE_TIME.LAST (evaluationDone d) ≤ getF F.REG_CYCLE_TIME.MAX (evaluationDone d) := by
  obtain ⟨t, ht, n, h⟩ := evaluationDone_inTime he hl
  dsimp only at h
  have hlead : inLead { d with free := n } = inLead d := inLead_of rfl rfl
  rw [h, inLead_noteCycleTime, hlead]
  constructor
  · rw [updEng, noteCycleTime_eng]
  · rw [getF_of_regs F.REG_CYCLE_TIME.LAST (updEng_regs ..), getF_of_regs F.REG_CYCLE_TIME.MAX (updEng_regs ..)]
    exact noteCycleTime_le ht _

/-! ### Misses, the prefetch walk and the report (R183, R194, R212) -/

theorem missExpire_effect (o : Nat) (d : Dev) :
    (getOut o (missExpire o d)).expired = true ∧ getF F.REG_STATUS.MISS_EXPIRED (missExpire o d) = 1 := by
  have heng (e : Dev) : (logEvent 0x0304 3 ⟨0, 2, 0⟩ o 0 0 e).eng = e.eng := spokeBlind_eng.logEvent ..
  unfold missExpire
  constructor
  · rw [getOut, heng, countF_eng, raise_eng, ← getOut, getOut_updOut]
  · rw [(reportBlind_field (by decide)).logEvent, countF, getF_setF_otherReg _ _ _ _ (by decide), getF_raise_same _ _ (by decide) rfl]

theorem HubBlind.walkOutlets {β : Type} {p : Dev → β} (hp : HubBlind p) {q : List ((Int × Int) × Nat) × Dev → β} (hq : ∀ l d, q (l, d) = p d)
    (c last : Nat) (pose : Pose) (os : List Nat) (x : List ((Int × Int) × Nat) × Dev) :
    q (os.foldl (fun a o => Machine.walkOutlet o c last pose a.2 a.1) x) = q x := by
  refine foldl_keeps (fun a o => ?_) os x
  obtain ⟨l, d⟩ := a
  exact (hp.walkOutlet hq ..).trans (hq l d).symm

/-- A walk that is due changes, of what the registration engine cannot reach, the time of the next one. -/
theorem HubBlind.prefetchWalk {β : Type} {p : Dev → β} (hp : HubBlind p) {d : Dev} {pose : Pose} (hc : d.eng.cycleAt = some d.pt)
    (hw : d.eng.nextWalk ≤ d.eng.cycleStart) (hpose : d.eng.pose = some pose) :
    p (prefetchWalk d) = p (updEng (fun g => { g with nextWalk := d.eng.cycleStart + ms (getF F.REG_PREFETCH.PERIOD d) }) d) := by
  unfold Machine.prefetchWalk
  dsimp only
  rw [if_neg (by simp [hc, hw]), hpose]
  dsimp only
  generalize updEng (fun g => { g with nextWalk := d.eng.cycleStart + ms (getF F.REG_PREFETCH.PERIOD d) }) d = e
  generalize hx : List.foldl (fun a o => Machine.walkOutlet o _ _ pose a.2 a.1) _ _ = x
  have h : p x.2 = p e := by
    rw [← hx]
    exact hp.walkOutlets (q := fun y => p y.2) (fun _ _ => rfl) _ _ _ _ ([], e)
  rw [hp.releaseFinished, eachD_keeps p _ _ (fun x z => ?_), h]
  exact ite_keeps (hp.requestTile ..) ((hp.requestTile ..).trans (hp.requestTile ..))

/-- A report that is due is written between two copies of its sequence number. -/
theorem decisionReport_clean {d : Dev} (hdue : d.eng.reportDue = true) (hen : isSet F.REG_REPORT_CFG.EN d = true) (hbase : reportBase d ≠ 0)
    (hecc : d.ecc = []) : ∃ body, let seq := (d.eng.reportSeq + 1) % 2 ^ 32
      decisionReport d = (updEng (fun g => { g with reportDue := false, reportSeq := seq }) d
        |> emit (.hostWrite (reportBase d) (leBytes 4 seq)) |> emit (.hostWrite (reportBase d + 4) body)
        |> emit (.hostWrite (reportBase d + 8288) (leBytes 4 seq))) := by
  unfold decisionReport
  dsimp only
  rw [if_neg (by simp [hdue, hen, hbase]), crossEcc_clean _ _ _ _ _ _ _ _ ((updEng_ecc ..).trans hecc)]
  exact ⟨_, rfl⟩

/-! ### The obligation -/

/-- Settles O15: the start of a cycle sets the clock, which nothing that takes effect in it moves; the walk likewise; the other commands set what they
name on the device they find. -/
theorem engineCycleCommands : Obligations.EngineCycleCommands := by
  refine ⟨fun s hr => ⟨?lanes, ?start, ?late, ?skipped, ?done⟩, fun s => ⟨?miss, ?walk, ?report⟩⟩
  case lanes =>
    intro c hg
    have hdo : lanePowerUp s.dev = updEng (fun g => { g with lanesOn := true, cacheOn := true }) s.dev := by
      have hg' : gridReached (cyclePeriod s.dev) (cyclePeriod s.dev - us 4) s.dev.pt = some c := hg
      simp [lanePowerUp, hg', hr]
    change execLanePowerUp s = _
    rw [execLanePowerUp, run, hdo, updEng]
  case start =>
    intro c hg hl he
    have hdo : cycleStart s.dev = runCycle c (updEng (fun g => { g with lastGrid := some c }) s.dev) := by
      rw [cycleStart_onGrid hg hl hr]
      exact if_pos (by simp [updEng, he])
    refine completes_run rfl fun _ => ?_
    dsimp only
    rw [hdo]
    have hclock := runCycle_clock c (updEng (fun g => { g with lastGrid := some c }) s.dev)
    simp only [cycleClock, Prod.mk.injEq] at hclock
    obtain ⟨hstart, hprev, hgrid, heval, -⟩ := hclock
    exact ⟨hstart, hprev, hgrid, heval⟩
  case late =>
    intro c hg hl he hnl hlast
    obtain ⟨heng, hflag, hcount, hinst⟩ := overrun_marks (updEng (fun g => { g with lastGrid := some c }) s.dev)
    have hdo : cycleStart s.dev = (healthEvent 12 0 false (overrun (updEng (fun g => { g with lastGrid := some c }) s.dev))).1 := by
      have hno := healthEvent_ofLasting (cls := 12) (i := 0) (d := overrun (updEng (fun g => { g with lastGrid := some c }) s.dev)) false
        (by rw [hinst]; exact hlast)
      rw [overrun] at hno ⊢
      rw [cycleStart_onGrid hg hl hr]
      dsimp only
      rw [if_neg (by simp [updEng, he]), if_neg (by simp [updEng, hnl]), hno]
      rfl
    refine completes_run rfl ?_
    dsimp only
    rw [hdo, spokeBlind_eng.healthEvent, isSet, (reportBlind_field (by decide)).healthEvent, (reportBlind_field (by decide)).healthEvent,
      heng, hflag, hcount, getF_of_regs _ (updEng_regs ..)]
    exact ⟨rfl, rfl, rfl, rfl⟩
  case skipped =>
    intro c hg hl he hlate
    have hdo : cycleStart s.dev = countF F.REG_CYCLE_STATS.SKIPPED (updEng (fun g => { g with lastGrid := some c }) s.dev) := by
      rw [cycleStart_onGrid hg hl hr]
      dsimp only
      rw [if_neg (by simp [updEng, he]), if_pos (by simp [updEng, hlate])]
    refine completes_run rfl ?_
    dsimp only
    rw [hdo, getF_countF_same _ _ (by decide), getF_of_regs _ (updEng_regs ..)]
    exact ⟨rfl, rfl, rfl⟩
  case done =>
    intro he hl
    obtain ⟨heng, hle⟩ := evaluationDone_effect he hl
    refine completes_run rfl ?_
    dsimp only
    rw [heng]
    exact ⟨rfl, rfl, rfl, hle⟩
  case miss =>
    intro o m ho hm hx ht
    have hdo : missGraceExpiry o s.dev = missExpire o s.dev := by
      rw [missGraceExpiry, hm]
      exact if_pos (by simp [hx, ms, ht])
    refine ⟨_, onHub_present o 2048 (missGraceExpiry o) s ho, rfl, ?_⟩
    dsimp only
    rw [hdo]
    exact missExpire_effect o s.dev
  case walk =>
    intro pose hc hw hpose
    refine completes_run rfl fun _ => ?_
    dsimp only
    have hclock := hubBlind_clock.prefetchWalk hc hw hpose
    simp only [cycleClock, Prod.mk.injEq] at hclock
    obtain ⟨-, -, -, -, hnext⟩ := hclock
    exact ⟨hnext, hubBlind_pt.prefetchWalk hc hw hpose⟩
  case report =>
    intro hdue hen hbase
    refine completes_run rfl fun hecc => ?_
    obtain ⟨body, hdo⟩ := decisionReport_clean hdue hen hbase hecc
    dsimp only at hdo ⊢
    rw [hdo]
    exact ⟨rfl, rfl, rfl, body, by simp [emit, updEng]⟩

end Sys2Proof.Proofs
end

section
/-! Commands that stand for the write of a set-up register: restricted service discards it (R69). -/
namespace Sys2Proof.Proofs
open Sys2Proof Sys2Proof.Machine Sys2Proof.Laws

theorem getF_lower_same (f : Fld) (d : Dev) (h : f.lo + f.len ≤ 32) : getF f (lower f d) = 0 := by
  rw [lower, getF_setF_same _ _ _ h, Nat.zero_mod]

theorem setUp_restricted (f : Dev → Dev) {d : Dev} (h : d.pwr.state = .restricted) : setUp f d = d := if_pos h

theorem setUp_open (f : Dev → Dev) {d : Dev} (h : d.pwr.state ≠ .restricted) : setUp f d = f d := if_neg h

/-- In restricted service the write of a set-up register of the hub is discarded. -/
theorem onHub_restricted {n m : Nat} (f : Dev → Dev) {s : State} (hn : n < m) (h : s.dev.pwr.state = .restricted) :
    onHub n m (setUp f) s = .next s := by rw [onHub_present _ _ _ _ hn, setUp_restricted f h]

theorem onHub_open {n m : Nat} (f : Dev → Dev) {s : State} (hn : n < m) (h : s.dev.pwr.state ≠ .restricted) :
    onHub n m (setUp f) s = .next { s with dev := f s.dev } := by rw [onHub_present _ _ _ _ hn, setUp_open f h]

/-- As `onHub_restricted`, of a set-up register of a spoke. -/
theorem onUnit_restricted {k n m : Nat} (f : Dev → Dev) {s : State} (hk : hasSpoke k s.dev = true) (hn : n < m) (h : s.dev.pwr.state = .restricted) :
    onUnit k n m (setUp f) s = .next s := by rw [onUnit_present _ _ _ _ _ hk hn, setUp_restricted f h]

theorem onUnit_open {k n m : Nat} (f : Dev → Dev) {s : State} (hk : hasSpoke k s.dev = true) (hn : n < m) (h : s.dev.pwr.state ≠ .restricted) :
    onUnit k n m (setUp f) s = .next { s with dev := f s.dev } := by rw [onUnit_present _ _ _ _ _ hk hn, setUp_open f h]

theorem completes_next {c : Instr} {s : State} {e : Dev} {P : State → Prop} (hc : exec c s = .next { s with dev := e })
    (h : P { s with dev := e }) : Completes c s P :=
  ⟨_, hc, rfl, h⟩

end Sys2Proof.Proofs
end

section
/-! The bus state of a CAN controller (R69, R368, R370, R372, R387, R388). -/
namespace Sys2Proof.Proofs
open Sys2Proof Sys2Proof.Machine Sys2Proof.Laws

/-! ### EN (R368, R372) -/

@[simp] theorem getF_updCan (f : Fld) (c : Nat) (g : CanCtl → CanCtl) (d : Dev) : getF f (updCan c g d) = getF f d := rfl

theorem canEnable_fresh {c : Nat} {d : Dev} (h : isSet (F.CAN_CFG.EN c) d = false) : canEnable c d =
    updCan c (fun x => { x with tec := 0, rec_ := 0, busOff := false, recover := false }) (raise (F.CAN_CFG.EN c) d) := by
  simp [canEnable, h]

/-- What EN 0 leaves of a controller: it takes no part, its queues are empty, and no dedicated buffer holds new data (R372). -/
def emptied (x : CanCtl) : CanCtl :=
  { x with joined := false, excWait := false, fifo := [], summary := none, nextSum := none, onBus := .none, rx := [], haltAt := none, cfgLog := []
           bufs := (x.bufs.map fun b => (b.1, { b.2 with nd := false, rec_ := [] })).filter (fun b => b.2 != {}) }

theorem emptied_bufs (x : CanCtl) : ∀ b ∈ (emptied x).bufs, b.2.nd = false ∧ b.2.rec_ = [] := by
  intro b hb
  obtain ⟨a, -, rfl⟩ := List.mem_map.mp (List.mem_filter.mp hb).1
  exact ⟨rfl, rfl⟩

theorem canDisable_started {c : Nat} {d : Dev} (h : isSet (F.CAN_CFG.EN c) d = true) : canDisable c d =
    eachD (getCan c d).fifo (fun e => endEntryTx c e stAborted) (updCan c emptied (lower (F.CAN_CFG.EN c) d)) := by
  rw [canDisable, if_neg (by simp [h])]
  rfl

/-- Where no buffer word is upset, a completion changes its ring, the boundary and the pending messages only. -/
theorem complete_clean (i j st dt : Nat) (bs : List Byte) {d : Dev} (h : d.ecc = []) : Keeps [.out, .pcie, .host] d (complete i j st dt bs d) := by
  unfold complete
  split
  · exact keeps_refl _ d
  · split
    · exact keeps_refl _ d
    · exact putCompletion_clean i _ st dt bs d h

/-- A frame that is withdrawn reports to the ring that sent it, if one did. -/
theorem endEntryTx_aborted_clean (c : Nat) (e : TxEntry) {d : Dev} (h : d.ecc = []) :
    Keeps [.out, .pcie, .host] d (endEntryTx c e stAborted d) := by
  unfold endEntryTx
  split
  · exact complete_clean _ _ _ _ _ h
  · exact keeps_refl _ d
  · exact keeps_refl _ d
  · exact keeps_refl _ d

/-- Operations in a row keep what each of them keeps while no buffer word is upset. -/
theorem eachD_clean {α : Type} {ps : List Part} (hecc : Part.ecc ∉ ps) (xs : List α) (f : α → Dev → Dev)
    (h : ∀ x d, d.ecc = [] → Keeps ps d (f x d)) {d : Dev} (hd : d.ecc = []) : Keeps ps d (eachD xs f d) := by
  induction xs generalizing d with
  | nil => exact keeps_refl ps d
  | cons x xs ih =>
    have hx : Keeps ps d (f x d) := h x d hd
    exact keeps_trans hx (ih ((hx .ecc hecc).symm.trans hd))

theorem canDisable_empties {c : Nat} {d : Dev} (h : isSet (F.CAN_CFG.EN c) d = true) (hecc : d.ecc = []) :
    getCan c (canDisable c d) = emptied (getCan c d) ∧ getF (F.CAN_CFG.EN c) (canDisable c d) = 0 := by
  have hk : Keeps [.out, .pcie, .host] (updCan c emptied (lower (F.CAN_CFG.EN c) d)) (canDisable c d) := by
    rw [canDisable_started h]
    exact eachD_clean (by simp) _ _ (fun e _ => endEntryTx_aborted_clean c e) hecc
  constructor
  · have hcan : (updCan c emptied (lower (F.CAN_CFG.EN c) d)).can = (canDisable c d).can := hk .can (by simp)
    rw [getCan, ← hcan]
    exact getCan_updCan c emptied (lower (F.CAN_CFG.EN c) d)
  · have hregs := hk .regs (by simp)
    rw [← getF_of_regs _ hregs.1, getF_updCan]
    exact getF_lower_same _ _ (Nat.le_of_ble_eq_true rfl)

/-! ### A protocol exception (R370) -/

theorem protocolException_waits {c : Nat} {d : Dev} (hs : canSees c d = true) (hb : (getCan c d).onBus = .none)
    (hfd : isSet (F.CAN_CFG.FD_EN c) d = false) : (getCan c (protocolException c d)).excWait = true ∧ canSees c (protocolException c d) = false ∧
      getF (F.CAN_STATUS.EXC_SEEN c) (protocolException c d) = 1 := by
  have hjoined : (getCan c d).joined = true := by simp_all [canSees]
  have hact : protocolException c d = raise (F.CAN_STATUS.EXC_SEEN c) (countF (F.CAN_COUNT.EXCEPTIONS c)
      (updCan c (fun x => { x with excWait := x.joined }) (frameOver c d))) := by
    simp [protocolException, canReceives, hs, hb, hfd]
  have hwait : (getCan c (protocolException c d)).excWait = true := by
    rw [hact, getCan, raise_can, countF_can, ← getCan, getCan_updCan, frameOver, getCan_updCan]
    exact hjoined
  refine ⟨hwait, by simp [canSees, hwait], ?_⟩
  rw [hact]
  exact getF_raise_same _ _ (Nat.le_of_ble_eq_true rfl) rfl

/-! ### The obligation -/

/-- Settles O38: each clause by what the operation does in the state it names. -/
theorem canBusState : Obligations.CanBusState := by
  refine fun s c hc => ⟨?restricted, fun hr hen => ?enable, fun hr hen => ?disable, fun hr hh hl => ?haltClears, fun hr hh hl => ?timingBad,
    fun hp hcold hen hh => ?integrates, fun hs hb hfd => ?exception, fun hr hb => ?recover, fun hb hrec => ?recovers, fun hb hrec hauto => ?stays⟩
  case restricted =>
    simp only [List.forall_mem_cons, List.not_mem_nil, IsEmpty.forall_iff, implies_true, and_true]
    and_intros
    all_goals exact onHub_restricted _ hc
  case enable =>
    refine completes_next (onHub_open _ hc hr) ?_
    dsimp only
    rw [canEnable_fresh hen, getF_updCan, getF_raise_same _ _ (Nat.le_of_ble_eq_true rfl) rfl, getCan_updCan]
    exact ⟨rfl, rfl, rfl, rfl⟩
  case disable =>
    refine completes_next (onHub_open _ hc hr) fun hecc => ?_
    obtain ⟨hcan, hen0⟩ := canDisable_empties hen hecc
    dsimp only
    rw [hcan]
    exact ⟨hen0, rfl, rfl, rfl, emptied_bufs _⟩
  case haltClears =>
    rw [exec_haltClear, execHaltClear, onHub_open _ hc hr, haltClear, if_neg (by simp [hh]), if_pos hl, lower]
  case timingBad =>
    rw [exec_haltClear, execHaltClear, onHub_open _ hc hr, haltClear, if_neg (by simp [hh]), if_neg (by simp [hl])]
  case integrates =>
    have hpower : hcanPower s.dev = true := by simp [hcanPower, pstate, hp, hcold]
    rw [exec_busIntegration, execBusIntegration, onHub_present _ _ _ _ hc, busIntegration, if_pos (by simp [hpower, hen, hh])]
  case exception => exact completes_next (onHub_present _ _ _ _ hc) (protocolException_waits hs hb hfd)
  case recover => rw [exec_recover, execRecover, onHub_open _ hc hr, canRecover, if_pos hb]
  case recovers =>
    rw [exec_busOffRecovery, execBusOffRecovery, onHub_present _ _ _ _ hc, busOffRecovery, if_pos (by simp [hb, hrec])]
  case stays =>
    rw [exec_busOffRecovery, execBusOffRecovery, onHub_present _ _ _ _ hc, busOffRecovery, if_neg (by simp [hrec, hauto])]

end Sys2Proof.Proofs
end

section
/-! Enabling a PWM pair, its trips and its latch (R69, R309, R320, R324 to R329). -/
namespace Sys2Proof.Proofs
open Sys2Proof Sys2Proof.Machine Sys2Proof.Laws

/-! ### What a trip reaches (R325 to R328) -/

/-- What p shows does not depend on what a trip of pairs of spoke k changes: the spoke, the status and the counts of the pairs, and what a report
changes. -/
structure TripBlind (k : Nat) {β : Type} (p : Dev → β) : Prop extends ReportBlind p where
  spokes : ∀ m d, p { d with spokes := m } = p d
  status : ∀ c w d, p (rput (R.PWM_STATUS k c) w d) = p d
  counts : ∀ c w d, p (rput (R.PWM_COUNT k c) w d) = p d

theorem tripBlind_field {k : Nat} {g : Fld} (hrep : 0x14000 ≤ g.reg.off) (hstatus : ∀ c, g.reg.off ≠ (R.PWM_STATUS k c).off)
    (hcount : ∀ c, g.reg.off ≠ (R.PWM_COUNT k c).off) : TripBlind k (getF g) where
  toReportBlind := reportBlind_field fun h => by
    have hlow : g.reg.off < 0x14000 := (by decide : ∀ n ∈ reportRegs, n < 0x14000) _ h
    omega
  spokes _ _ := rfl
  status c w d := by rw [getF, rget_rput_other _ _ _ _ (hstatus c), getF]
  counts c w d := by rw [getF, rget_rput_other _ _ _ _ (hcount c), getF]

theorem tripBlind_pwmCfg (k c : Nat) (f : Fld) (hf : f.reg = R.PWM_CFG k c) : TripBlind k (getF f) := by
  refine tripBlind_field (by rw [hf]; exact spokeReg_at) (fun b => ?_) (fun b => ?_)
  all_goals
    rw [hf]
    simp only [R.PWM_CFG, R.PWM_STATUS, R.PWM_COUNT]
    omega

theorem tripBlind_tripStatus (k : Nat) (f : Fld) (hf : f.reg = R.PWM_TRIP_STATUS k) : TripBlind k (getF f) := by
  refine tripBlind_field (by rw [hf]; exact spokeReg) (fun b => ?_) (fun b => ?_)
  all_goals
    rw [hf]
    simp only [R.PWM_TRIP_STATUS, R.PWM_STATUS, R.PWM_COUNT]
    omega

namespace TripBlind
variable {k : Nat} {β : Type} {p : Dev → β} (hp : TripBlind k p)
include hp

theorem updPair (j c : Nat) (f : Pair → Pair) (d : Dev) : p (updPair j c f d) = p d := hp.spokes _ _

theorem setStatus {c : Nat} {f : Fld} (hf : f.reg = R.PWM_STATUS k c) (v : Nat) (d : Dev) : p (setF f v d) = p d := by
  rw [setF, hf]
  exact hp.status _ _ _

theorem raiseStatus {c : Nat} {f : Fld} (hf : f.reg = R.PWM_STATUS k c) (d : Dev) : p (Machine.raise f d) = p d :=
  (hp.marks _ _).trans (hp.setStatus hf _ _)

theorem settlePair (j c : Nat) (d : Dev) : p (settlePair j c d) = p d := by
  unfold Machine.settlePair
  exact ite_keeps rfl (hp.updPair ..)

theorem latchPair (c : Nat) (d : Dev) : p (latchPair k c d) = p d := by
  unfold Machine.latchPair
  dsimp only
  rw [hp.raise (by decide), hp.logEvent, hp.logEvent, hp.raiseStatus (c := c) rfl, hp.raiseStatus (c := c) rfl]

theorem countTrip (c : Nat) (d : Dev) : p (countTrip k c d) = p d := by
  have hcount (e : Dev) : p (Machine.countF (F.PWM_COUNT.TRIPS k c) e) = p e := hp.counts _ _ _
  have htrips (e : Dev) : p (Machine.countF (F.PWM_STATUS.TRIP_CNT k c) e) = p e := hp.status _ _ _
  have hone (f : Inst → Inst) (g : Pair → Pair) : p (updInst 6 (12 * (k - 1) + c) f (Machine.countF (F.PWM_STATUS.TRIP_CNT k c)
      (Machine.raise (F.PWM_STATUS.TRIPPED k c) (Machine.countF (F.PWM_COUNT.TRIPS k c) (Machine.updPair k c g d))))) = p d := by
    rw [updInst, hp.health, htrips, hp.raiseStatus (c := c) rfl, hcount, hp.updPair]
  unfold Machine.countTrip
  exact ite_keeps rfl (ite_keeps ((hp.latchPair ..).trans (hone ..)) (hone ..))

theorem tripPair (c : Nat) (d : Dev) : p (tripPair k c d) = p d := by
  unfold Machine.tripPair
  rw [hp.settlePair, hp.countTrip, hp.updPair]

end TripBlind

/-! ### EN (R309, R320, R324) -/

/-- The word PWM_ENABLE writes: PWM_CFG with EN set or cleared. -/
def enableWord (w : Word) (on : Bool) : Word := BitVec.ofNat 32 (putBit w.toNat 0 on)

/-- PWM_CFG as a write of a word leaves it: the upper half is reserved. -/
def lowHalf (w : Word) : Word := BitVec.ofNat 32 (w.toNat % 65536)

theorem wordField_testBit (w : Word) (lo len i : Nat) : (wordField w lo len).testBit i = (decide (i < len) && w.toNat.testBit (lo + i)) := by
  rw [wordField, Nat.testBit_mod_two_pow, Nat.testBit_shiftRight]

theorem wordField_enableWord (w : Word) (on : Bool) {lo len : Nat} (hlo : 1 ≤ lo) (h : lo + len ≤ 32) :
    wordField (enableWord w on) lo len = wordField w lo len := by
  refine Nat.eq_of_testBit_eq fun i => ?_
  rw [wordField_testBit, wordField_testBit, enableWord, BitVec.toNat_ofNat, Nat.testBit_mod_two_pow, testBit_putBit, if_neg (by omega)]
  by_cases hi : i < len
  · simp [hi, show lo + i < 32 by omega]
  · simp [hi]

theorem wordField_lowHalf (w : Word) {lo len : Nat} (h : lo + len ≤ 16) : wordField (lowHalf w) lo len = wordField w lo len := by
  refine Nat.eq_of_testBit_eq fun i => ?_
  rw [wordField_testBit, wordField_testBit, lowHalf, BitVec.toNat_ofNat, Nat.testBit_mod_two_pow, show 65536 = 2 ^ 16 from rfl,
    Nat.testBit_mod_two_pow]
  by_cases hi : i < len
  · simp [hi, show lo + i < 32 by omega, show lo + i < 16 by omega]
  · simp [hi]

theorem enableWord_odd (w : Word) (on : Bool) : ((enableWord w on).toNat % 2 = 1) ↔ on = true := by
  have h : (enableWord w on).toNat.testBit 0 = on := by
    rw [enableWord, BitVec.toNat_ofNat, Nat.testBit_mod_two_pow, testBit_putBit, if_pos rfl]
    rfl
  rw [Nat.testBit_zero] at h
  exact decide_eq_true_iff.symm.trans (by rw [h])

theorem enableWord_idle (w : Word) (on : Bool) : (enableWord w on).toNat / 1024 % 4 = w.toNat / 1024 % 4 := by
  simpa [wordField, Nat.shiftRight_eq_div_pow] using wordField_enableWord w on (lo := 10) (len := 2) (by decide) (by decide)

section
variable {k p : Nat} {d : Dev}

theorem writePwmCfg_claimed {v : Word} (hen : isSet (F.PWM_CFG.EN k p) d = true) (hv : ¬ v.toNat % 2 = 1) (hc : (getPair k p d).claim ≠ none) :
    writePwmCfg k p v d = raise (F.PWM_STATUS.CFG_LOCKED k p) d := by
  simp [writePwmCfg, hen, hv, Option.isSome_iff_ne_none.mpr hc]

/-- EN 0 stops the counter of a pair that no loop holds. -/
theorem writePwmCfg_stops {v : Word} (hen : isSet (F.PWM_CFG.EN k p) d = true) (hv : ¬ v.toNat % 2 = 1) (hc : (getPair k p d).claim = none) :
    writePwmCfg k p v d = settlePair k p
      (updPair k p (fun x => { x with started := false, tripPer := false, riseAt := none, fallAt := none }) (lower (F.PWM_CFG.EN k p) d)) := by
  simp [writePwmCfg, hen, hv, hc]

theorem settlePair_started (k p : Nat) (d : Dev) : (getPair k p (settlePair k p d)).started = (getPair k p d).started := by
  unfold settlePair
  split
  · rfl
  · rw [getPair_updPair]

theorem settlePair_regs (k p : Nat) (d : Dev) : (settlePair k p d).regs = d.regs := by
  unfold settlePair
  exact ite_keeps (p := Dev.regs) rfl rfl

/-- With EN 0 a write of PWM_CFG is judged by the times it would give (R320). -/
theorem writePwmCfg_judged {v : Word} (hen : isSet (F.PWM_CFG.EN k p) d = false) (hv : v.toNat / 1024 % 4 ≠ 3) :
    writePwmCfg k p v d =
      if periodLegal (periodTicks k p (rput (R.PWM_CFG k p) (lowHalf v) d))
          (deadMax (isSet (F.PWM_CFG.DT_MODE k p) (rput (R.PWM_CFG k p) (lowHalf v) d)) (rget (R.PWM_DT k p) d) (rget (R.PWM_ADT k p) d))
          (getF (F.PWM_PULSE.MIN_PULSE k p) d) then
        whenD (isSet (F.PWM_CFG.EN k p) (rput (R.PWM_CFG k p) (lowHalf v) d) && tripActive k p (rput (R.PWM_CFG k p) (lowHalf v) d)) (tripPair k p)
          (settlePair k p (rput (R.PWM_CFG k p) (lowHalf v) d))
      else raise (F.PWM_STATUS.CFG_LOCKED k p) d := by
  simp only [writePwmCfg, hen, Bool.false_eq_true, if_false, if_neg hv]
  rfl

/-- Setting EN leaves the other fields of PWM_CFG. -/
theorem getF_enabled {f : Fld} (hf : f.reg = R.PWM_CFG k p) (hlo : 1 ≤ f.lo) (h : f.lo + f.len ≤ 16) :
    getF f (rput (R.PWM_CFG k p) (lowHalf (enableWord (rget (R.PWM_CFG k p) d) true)) d) = getF f d := by
  rw [getF, hf, rget_rput_same, wordField_lowHalf _ h, wordField_enableWord _ _ hlo (by omega), getF, hf]

theorem en_enabled : getF (F.PWM_CFG.EN k p) (rput (R.PWM_CFG k p) (lowHalf (enableWord (rget (R.PWM_CFG k p) d) true)) d) = 1 := by
  change wordField (rget (R.PWM_CFG k p) (rput (R.PWM_CFG k p) _ d)) 0 1 = 1
  rw [rget_rput_same, wordField_lowHalf _ (by decide)]
  exact (enableWord_odd _ true).mpr rfl

theorem periodTicks_enabled : periodTicks k p (rput (R.PWM_CFG k p) (lowHalf (enableWord (rget (R.PWM_CFG k p) d) true)) d) = periodTicks k p d := by
  have hper : (F.PWM_PER.PER k p).reg.off ≠ (R.PWM_CFG k p).off := by
    simp only [F.PWM_PER.PER, R.PWM_PER, R.PWM_CFG]
    omega
  have hsame : getF (F.PWM_PER.PER k p) (rput (R.PWM_CFG k p) (lowHalf (enableWord (rget (R.PWM_CFG k p) d) true)) d) = getF (F.PWM_PER.PER k p) d := by
    rw [getF, rget_rput_other _ _ _ _ hper, getF]
  rw [periodTicks, periodCounts, countTicks, isSet, hsame, getF_enabled (f := F.PWM_CFG.MODE k p) rfl (Nat.le_of_ble_eq_true rfl) (Nat.le_of_ble_eq_true rfl),
    getF_enabled (f := F.PWM_CFG.PRESC k p) rfl (Nat.le_of_ble_eq_true rfl) (Nat.le_of_ble_eq_true rfl)]
  rfl

/-- Setting EN where the other fields stay is judged by the times in force (R320). -/
theorem writePwmCfg_enables (hen : isSet (F.PWM_CFG.EN k p) d = false) (hidle : (rget (R.PWM_CFG k p) d).toNat / 1024 % 4 ≠ 3) :
    (periodLegal (periodTicks k p d) (deadMax (isSet (F.PWM_CFG.DT_MODE k p) d) (rget (R.PWM_DT k p) d) (rget (R.PWM_ADT k p) d))
        (getF (F.PWM_PULSE.MIN_PULSE k p) d) = true →
      getF (F.PWM_CFG.EN k p) (writePwmCfg k p (enableWord (rget (R.PWM_CFG k p) d) true) d) = 1) ∧
    (periodLegal (periodTicks k p d) (deadMax (isSet (F.PWM_CFG.DT_MODE k p) d) (rget (R.PWM_DT k p) d) (rget (R.PWM_ADT k p) d))
        (getF (F.PWM_PULSE.MIN_PULSE k p) d) = false →
      writePwmCfg k p (enableWord (rget (R.PWM_CFG k p) d) true) d = raise (F.PWM_STATUS.CFG_LOCKED k p) d) := by
  have hmode : isSet (F.PWM_CFG.DT_MODE k p) (rput (R.PWM_CFG k p) (lowHalf (enableWord (rget (R.PWM_CFG k p) d) true)) d) =
      isSet (F.PWM_CFG.DT_MODE k p) d := by
    rw [isSet, getF_enabled (f := F.PWM_CFG.DT_MODE k p) rfl (Nat.le_of_ble_eq_true rfl) (Nat.le_of_ble_eq_true rfl), isSet]
  have hblind : TripBlind k (getF (F.PWM_CFG.EN k p)) := tripBlind_pwmCfg k p _ rfl
  rw [writePwmCfg_judged hen (by rw [enableWord_idle]; exact hidle), periodTicks_enabled, hmode]
  constructor
  · intro hl
    rw [if_pos hl, whenD_keeps _ _ _ (hblind.tripPair p), hblind.settlePair, en_enabled]
  · intro hl
    rw [if_neg (by simp [hl])]

end

/-! ### Trip inputs (R325, R326) -/

section
variable {k i : Nat} {d : Dev}

/-- With a filter, an input that becomes active is noted with its time, to act later. -/
theorem tripInput_filters (hlevel : bitOf (F.PWM_TRIP_STATUS.LEVEL k) i d = false) (hf : 0 < tripFilter k i d) (hin : kget (getCtl k d).tripIn i 0 = 0) :
    tripInput k i true d = updCtl k (fun c => { c with tripIn := kput c.tripIn i (spokePt k d + 1) 0 }) d := by
  simp [tripInput, hlevel, hf.ne', hin]

/-- The trip status of an input that has just become active, before the pairs that select it trip. -/
def tripSeen (k i : Nat) (d : Dev) : Dev := bitF (F.PWM_TRIP_STATUS.SEEN k) i true (bitF (F.PWM_TRIP_STATUS.LEVEL k) i true d)

theorem tripLevel_rises (hlevel : bitOf (F.PWM_TRIP_STATUS.LEVEL k) i d = false) : tripLevel k i true d =
    eachD (List.range 12) (fun p e => if bitOf (F.PWM_CFG.TRIP_SEL k p) i e then tripPair k p e else e) (tripSeen k i d) := by
  simp [tripLevel, hlevel, tripSeen]

theorem tripSeen_bits (hi : i < 4) : bitOf (F.PWM_TRIP_STATUS.LEVEL k) i (tripSeen k i d) = true ∧
    bitOf (F.PWM_TRIP_STATUS.SEEN k) i (tripSeen k i d) = true := by
  have hother : getF (F.PWM_TRIP_STATUS.LEVEL k) (tripSeen k i d) = getF (F.PWM_TRIP_STATUS.LEVEL k) (bitF (F.PWM_TRIP_STATUS.LEVEL k) i true d) :=
    getF_bitF_otherField _ _ _ (Nat.le_of_ble_eq_true rfl) (.inr ⟨rfl, .inl (Nat.le_of_ble_eq_true rfl)⟩)
  rw [bitOf_of_getF hother, tripSeen, bitOf_bitF _ _ _ _ _ (Nat.le_of_ble_eq_true rfl) hi, bitOf_bitF _ _ _ _ _ (Nat.le_of_ble_eq_true rfl) hi]
  exact ⟨if_pos rfl, if_pos rfl⟩

/-- Without a filter it is seen at once. -/
theorem tripInput_seen (hi : i < 4) (hlevel : bitOf (F.PWM_TRIP_STATUS.LEVEL k) i d = false) (hf : tripFilter k i d = 0) :
    bitOf (F.PWM_TRIP_STATUS.LEVEL k) i (tripInput k i true d) = true ∧ bitOf (F.PWM_TRIP_STATUS.SEEN k) i (tripInput k i true d) = true := by
  have hact : tripInput k i true d = tripLevel k i true d := by simp [tripInput, hf]
  have hkeep (f : Fld) (hreg : f.reg = R.PWM_TRIP_STATUS k) : bitOf f i (tripInput k i true d) = bitOf f i (tripSeen k i d) := by
    have hblind := tripBlind_tripStatus k f hreg
    rw [hact, tripLevel_rises hlevel]
    exact bitOf_of_getF (eachD_keeps (getF f) _ _ (fun p e => ite_keeps (hblind.tripPair p e) rfl) _)
  rw [hkeep _ rfl, hkeep _ rfl]
  exact tripSeen_bits hi

end

/-! ### CLEAR (R329) -/

section
variable {k p : Nat} {d : Dev} (hl : isSet (F.PWM_STATUS.LATCHED k p) d = true)
include hl

theorem clearPair_refused (ha : tripActive k p d = true) : clearPair k p d = raise (F.PWM_STATUS.CLEAR_REFUSED k p) d := by
  simp [clearPair, hl, ha]

theorem clearPair_clears (ha : tripActive k p d = false) :
    (clearPair k p d).regs = (lower (F.PWM_STATUS.LATCHED k p) (lower (F.PWM_STATUS.TRIP_CNT k p) d)).regs := by
  simp only [clearPair, hl, ha, Bool.not_true, Bool.false_eq_true, if_false]
  exact settlePair_regs ..

theorem clearPair_status (ha : tripActive k p d = false) :
    getF (F.PWM_STATUS.LATCHED k p) (clearPair k p d) = 0 ∧ getF (F.PWM_STATUS.TRIP_CNT k p) (clearPair k p d) = 0 := by
  have hregs := clearPair_clears hl ha
  rw [getF_of_regs _ hregs, getF_of_regs _ hregs]
  refine ⟨getF_lower_same _ _ (Nat.le_of_ble_eq_true rfl), ?_⟩
  rw [lower, getF_setF_otherField (f := F.PWM_STATUS.LATCHED k p) (g := F.PWM_STATUS.TRIP_CNT k p) _ _ (Nat.le_of_ble_eq_true rfl)
    (.inr ⟨rfl, .inr (Nat.le_of_ble_eq_true rfl)⟩)]
  exact getF_lower_same _ _ (Nat.le_of_ble_eq_true rfl)

end

/-! ### The obligation -/

/-- Settles O24: EN by the write of PWM_CFG it stands for, trips by what a trip of a pair leaves alone. -/
theorem pwmEnableAndTrips : Obligations.PwmEnableAndTrips := by
  refine ⟨fun s k p hk hp => ⟨fun on hr => ?restricted, fun hr hen hc => ?stops, fun hr hen hc => ?claimed, fun hr hen hidle hl => ?enables,
      fun hr hen hidle hl => ?illegal⟩,
    fun s k hk => ⟨fun i hi hlevel hf hin => ?filters, fun i hi hlevel hf => ?seen, fun p hp hr hl ha => ?clears, fun p hp hr hl ha => ?refused,
      fun p hp hr => ?clearRestricted⟩⟩
  case restricted => exact onUnit_restricted _ hk hp hr
  case stops =>
    have hv : ¬ (enableWord (rget (R.PWM_CFG k p) s.dev) false).toNat % 2 = 1 := by simp [enableWord_odd]
    refine completes_next ((onUnit_open _ hk hp hr).trans (congrArg (fun e => Host.Outcome.next { s with dev := e }) (writePwmCfg_stops hen hv hc))) ?_
    dsimp only
    rw [getF_of_regs _ (settlePair_regs ..), settlePair_started, getPair_updPair]
    exact ⟨(getF_of_regs _ (updSpoke_regs ..)).trans (getF_lower_same _ _ (Nat.le_of_ble_eq_true rfl)), rfl⟩
  case claimed =>
    have hv : ¬ (enableWord (rget (R.PWM_CFG k p) s.dev) false).toNat % 2 = 1 := by simp [enableWord_odd]
    exact (onUnit_open _ hk hp hr).trans (congrArg (fun e => Host.Outcome.next { s with dev := e }) (writePwmCfg_claimed hen hv hc))
  case enables => exact completes_next (onUnit_open _ hk hp hr) ((writePwmCfg_enables hen hidle).1 hl)
  case illegal =>
    exact (onUnit_open _ hk hp hr).trans (congrArg (fun e => Host.Outcome.next { s with dev := e }) ((writePwmCfg_enables hen hidle).2 hl))
  case filters =>
    refine completes_next (onUnit_present _ _ _ _ _ hk hi) ?_
    dsimp only
    rw [tripInput_filters hlevel hf hin, getCtl_updCtl]
    exact ⟨rfl, kget_kput_same (getCtl k s.dev).tripIn i (spokePt k s.dev + 1) 0⟩
  case seen => exact completes_next (onUnit_present _ _ _ _ _ hk hi) (tripInput_seen hi hlevel hf)
  case clears => exact completes_next (onUnit_open _ hk hp hr) (clearPair_status hl ha)
  case refused => rw [exec_clear, execClear, onUnit_open _ hk hp hr, clearPair_refused hl ha]
  case clearRestricted => exact onUnit_restricted _ hk hp hr

end Sys2Proof.Proofs
end

section
/-! The state after reset (R51, R85, R543). -/
namespace Sys2Proof.Proofs
open Sys2Proof Sys2Proof.Machine Sys2Proof.Laws

/-- The reset lists three registers; every other one reads its reset value. -/
theorem reset_regs {off : Nat} (dflt : Word) (hp : off ≠ R.PWR_CAUSE.off) (hl : off ≠ R.LOG_PCYC.off) (hh : off ≠ R.HLT_PKG.off) :
    kget State.reset.dev.regs off dflt = dflt := by
  exact (if_neg (Ne.symm hp)).trans ((if_neg (Ne.symm hl)).trans (if_neg (Ne.symm hh)))

theorem reset_ringState {i : Nat} (hi : i < 32) : ringState i State.reset.dev = .stopped := by
  have hoff : (F.HIF_RING_STATUS.STATE i).reg.off < 0x200C := by
    simp only [F.HIF_RING_STATUS.STATE, R.HIF_RING_STATUS]
    omega
  have hget : rget (F.HIF_RING_STATUS.STATE i).reg State.reset.dev = (F.HIF_RING_STATUS.STATE i).reg.reset :=
    reset_regs _ (Nat.ne_of_lt hoff) (Nat.ne_of_lt (Nat.lt_trans hoff (by decide))) (Nat.ne_of_lt (Nat.lt_trans hoff (by decide)))
  have hstate : getF (F.HIF_RING_STATUS.STATE i) State.reset.dev = 0 := by
    rw [getF, hget]
    rfl
  simp only [ringState, hstate]

/-- Settles O56: the state after reset is a literal; only the registers it does not list need an argument. -/
theorem resetState : Obligations.ResetState :=
  ⟨reset_memOk, rfl, rfl, rfl, rfl, by decide, by decide, by decide, fun _ => reset_regs, fun _ hi => ⟨reset_ringState hi, rfl⟩,
    fun _ _ => rfl, rfl⟩

end Sys2Proof.Proofs
end

section
/-! What the interrupt controllers cannot reach (R427 to R442): a signal that changes moves their registers and state, messages to the host and to
spoke cores, and the INT frames that wait at a spoke's end of its link. -/
namespace Sys2Proof.Proofs
open Sys2Proof Sys2Proof.Machine Sys2Proof.Laws

/-- What p shows does not depend on what a controller changes; its registers lie above those of the power block. -/
structure CtlBlind {β : Type} (p : Dev → β) : Prop where
  regs : ∀ r w d, 0x3080 ≤ r.off → p (rput r w d) = p d
  marks : ∀ m d, p { d with marks := m } = p d
  out : ∀ l d, p { d with out := l } = p d
  pcie : ∀ l d, p { d with pcie := l } = p d
  hic : ∀ l d, p { d with hic := l } = p d
  sic : ∀ l d, p { d with sic := l } = p d
  waiting : ∀ k x d, p (linkSend k .spoke x d) = p d

theorem ctlBlind_field {f : Fld} (hf : f.reg.off < 0x3080) : CtlBlind (getF f) where
  regs r w d h := by rw [getF, rget_rput_other _ _ _ _ (by omega), getF]
  marks _ _ := rfl
  out _ _ := rfl
  pcie _ _ := rfl
  hic _ _ := rfl
  sic _ _ := rfl
  waiting _ _ _ := rfl

theorem ctlBlind_pwr : CtlBlind Dev.pwr := by constructor <;> (intros; rfl)

theorem ctlBlind_pins : CtlBlind Dev.pins := by constructor <;> (intros; rfl)

theorem ctlBlind_pt : CtlBlind Dev.pt := by constructor <;> (intros; rfl)

theorem ctlBlind_chip : CtlBlind Dev.chip := by constructor <;> (intros; rfl)

theorem ctlBlind_eng : CtlBlind Dev.eng := by constructor <;> (intros; rfl)

namespace CtlBlind
variable {β : Type} {p : Dev → β} (hp : CtlBlind p)
include hp

theorem updIrq (c : Ctl) (f : IrqCtl → IrqCtl) (d : Dev) : p (updIrq c f d) = p d := by
  cases c with
  | hub => exact hp.hic _ _
  | spoke k => exact hp.sic _ _

theorem setRaw (c : Ctl) (s : Nat) (on : Bool) (d : Dev) : p (setSrcBit c.rawReg s on d) = p d := by
  cases c with
  | hub => exact hp.regs _ _ _ (by simp only [Ctl.rawReg, R.HIC_RAW]; omega)
  | spoke k => exact hp.regs _ _ _ (Nat.le_trans (by decide) (Nat.le_add_right_of_le (spokeReg (k := k))))

theorem setPend (c : Ctl) (s : Nat) (on : Bool) (d : Dev) : p (setSrcBit c.pendReg s on d) = p d := by
  cases c with
  | hub => exact hp.regs _ _ _ (by simp only [Ctl.pendReg, R.HIC_PEND]; omega)
  | spoke k => exact hp.regs _ _ _ (Nat.le_trans (by decide) (Nat.le_add_right_of_le (spokeReg (k := k))))

theorem wakeCore (c : Ctl) (core : Nat) (d : Dev) : p (wakeCore c core d) = p d := by
  have hset (b : Bool) (e : Dev) : p (whenD b (setCore c core .running) e) = p e := whenD_keeps p b _ (fun _ => hp.updIrq ..) e
  unfold Machine.wakeCore
  split
  · rfl
  · exact hset _ _
  · exact hset _ _

theorem noteEligible (c : Ctl) (d : Dev) : p (noteEligible c d) = p d :=
  eachD_keeps p _ _ (fun core e => (hp.wakeCore c core _).trans (hp.updIrq c _ e)) d

theorem followSignal (c : Ctl) (s : Nat) (old new : Bool) (d : Dev) : p (followSignal c s old new d) = p d := by
  unfold Machine.followSignal
  dsimp only
  generalize (match srcSense c s d with | 1 => !old && new | 2 => old && !new | 3 => old != new | _ => false) = edge
  exact ite_keeps (hp.setPend ..) (ite_keeps ((hp.marks _ _).trans (hp.setPend ..)) rfl)

theorem msixSend (v : Nat) (d : Dev) : p (msixSend v d) = p d := by
  unfold Machine.msixSend msixGo emit
  exact ite_keeps (ite_keeps (hp.out _ _) ((hp.pcie _ _).trans (hp.out _ _))) (ite_keeps rfl (hp.pcie _ _))

theorem withDelivery (srcs : List Nat) (f : Dev → Dev) (d : Dev) : p (withDelivery srcs f d) = p (f d) :=
  (hp.noteEligible .hub _).trans (eachD_keeps p _ _ (fun _ _ => hp.msixSend ..) _)

theorem hubSignal (s : Nat) (level : Bool) (d : Dev) : p (hubSignal s level d) = p d := by
  unfold Machine.hubSignal
  refine ite_keeps rfl (ite_keeps (hp.setRaw .hub ..) ?_)
  rw [hp.withDelivery, hp.followSignal, hp.setRaw .hub]

theorem clearSlots (k : Nat) (d : Dev) : p (clearSlots k d) = p d := eachD_keeps p _ _ (fun _ _ => hp.hubSignal ..) d

theorem levelPend (c : Ctl) (s : Nat) (d : Dev) : p (levelPend c s d) = p d := by
  unfold Machine.levelPend
  exact ite_keeps (hp.setPend ..) rfl

theorem levelsPend (c : Ctl) (d : Dev) : p (levelsPend c d) = p d := eachD_keeps p _ _ (fun _ _ => hp.levelPend ..) d

theorem spokeSettle (k : Nat) (d : Dev) : p (spokeSettle k d) = p d := by
  refine (hp.noteEligible (.spoke k) _).trans ((eachD_keeps p _ _ (fun j e => ?_) _).trans (hp.updIrq (.spoke k) _ d))
  exact hp.waiting ..

theorem spokeSignal (k s : Nat) (level : Bool) (d : Dev) : p (spokeSignal k s level d) = p d := by
  unfold Machine.spokeSignal
  exact ite_keeps rfl ((hp.spokeSettle ..).trans ((hp.followSignal ..).trans (hp.setRaw ..)))

theorem resumeSources (d : Dev) : p (resumeSources d) = p d :=
  eachD_keeps p _ _ (fun _ _ => ite_keeps (hp.hubSignal ..) rfl) d

theorem settleSources (d : Dev) : p (settleSources d) = p d := by
  refine (eachD_keeps p _ _ (fun k e => eachD_keeps p _ _ (fun s e => ?_) e) _).trans (eachD_keeps p _ _ (fun s e => ?_) d)
  · split
    · exact ite_keeps rfl (hp.spokeSignal ..)
    · rfl
  · split
    · exact ite_keeps rfl (hp.hubSignal ..)
    · rfl

end CtlBlind

end Sys2Proof.Proofs
end

section
/-! The supplies and the boot (R48, R49, R53). -/
namespace Sys2Proof.Proofs
open Sys2Proof Sys2Proof.Machine Sys2Proof.Laws

theorem hubBlind_pins : HubBlind Dev.pins := by constructor <;> (intros; rfl)

/-- Where no cause bit is set, no cause is held back either: leaving COLD, BOOT or PARKED goes on. -/
theorem heldCause_clear {d : Dev} (h : getF F.PWR_CAUSE.SAFE d = 0) : heldCause d = updPwr (fun p => { p with heldSafe := false }) d := by
  have hno : (d.pwr.heldSafe && getF F.PWR_CAUSE.SAFE (updPwr (fun p => { p with heldSafe := false }) d) != 0) = false := by
    rw [getF_updPwr, h]
    exact Bool.and_false _
  rw [heldCause, hno, whenD_false]

/-- The device once every supply is good and the pairs it had tripped have settled. -/
def pairsSettled (d : Dev) : Dev := eachD d.pwr.loaded settlePairs (updPwr (fun p => { p with lowSpokes := [] }) d)

theorem HubBlind.pairsSettled {β : Type} {p : Dev → β} (hp : HubBlind p) (d : Dev) :
    p (pairsSettled d) = p (updPwr (fun p => { p with lowSpokes := [] }) d) :=
  eachD_keeps p _ _ (fun _ _ => hp.spoke.settlePairs ..) _

/-- Settles O3: each command by the branch its premises choose. -/
theorem suppliesAndBootComplete : Obligations.SuppliesAndBootComplete := by
  refine fun s => ⟨fun hen hdl => ?good, fun p hp hpt hno hatt => ?again, fun p hp hpt hno hatt => ?third, fun p hp hpt => ?retry,
    fun hgood hcold => ?pll, fun a b hboot hsafe => ?flash⟩
  case good =>
    have hwait : ((pairsSettled s.dev).pins.pwrEn && (pairsSettled s.dev).pwr.pgDeadline.isSome) = true := by
      rw [hubBlind_pins.pairsSettled, hubBlind_pwr.pairsSettled]
      simp [updPwr, hen, Option.isSome_iff_ne_none.mpr hdl]
    have hdo : exec .suppliesGood s =
        .next { s with dev := updPwr (fun p => { p with suppliesGood := true, pgDeadline := none }) (pairsSettled s.dev) } :=
      congrArg (fun e : Dev => (Host.Outcome.next { s with dev := e } : Host.Outcome State Fault Refusal)) (if_pos hwait)
    exact completes_next hdo ⟨rfl, rfl, rfl⟩
  case again =>
    refine completes_run (exec_supplyTimeout _) ?_
    simp only [hp, hno, Bool.or_false, decide_eq_true_eq, if_neg (Nat.not_lt.mpr hpt), if_pos hatt]
    exact ⟨rfl, rfl, rfl, rfl⟩
  case third =>
    refine completes_run (exec_supplyTimeout _) ?_
    simp only [hp, hno, Bool.or_false, decide_eq_true_eq, if_neg (Nat.not_lt.mpr hpt), if_neg (Nat.not_lt.mpr hatt)]
    exact ⟨rfl, rfl, rfl, rfl⟩
  case retry =>
    refine completes_run (exec_supplyRetry _) ?_
    simp only [hp, if_neg (Nat.not_lt.mpr hpt)]
    exact ⟨rfl, rfl, rfl, rfl, rfl⟩
  case pll =>
    simp [exec_pllLocked, execPllLocked, run_next, hgood, pstate, hcold]
  case flash =>
    refine completes_run rfl ?_
    simp only [pstate, hboot, if_true]
    rw [heldCause_clear (by exact hsafe)]
    exact ⟨rfl, rfl, rfl, rfl⟩

end Sys2Proof.Proofs
end

section
/-! READY is entered, and SAFE and ARMED are left (R51, R61, R72, R73, R77, R78, R402). -/
namespace Sys2Proof.Proofs
open Sys2Proof Sys2Proof.Machine Sys2Proof.Laws

/-! ### READY is entered -/

/-- Precharge changes the spokes and the times by which rails have to be charged. -/
theorem prechargeAll_keeps {β : Type} {p : Dev → β} (hby : ∀ l d, p (updPwr (fun q => { q with prechargeBy := l }) d) = p d)
    (hspokes : ∀ l d, p { d with spokes := l } = p d) (d : Dev) : p (prechargeAll d) = p d := by
  refine eachD_keeps p _ _ (fun k e => ite_keeps ?_ rfl) d
  rw [startPrecharge, settleConverter]
  exact (hspokes _ _).trans (hby _ e)

theorem toReady_state (d : Dev) : (toReady d).pwr.state = .ready :=
  prechargeAll_keeps (p := fun d => d.pwr.state) (fun _ _ => rfl) (fun _ _ => rfl) _

theorem toReady_armAccepted (d : Dev) : (toReady d).pwr.armAccepted = d.pwr.armAccepted :=
  prechargeAll_keeps (p := fun d => d.pwr.armAccepted) (fun _ _ => rfl) (fun _ _ => rfl) _

theorem toReady_pins (d : Dev) : (toReady d).pins = d.pins :=
  prechargeAll_keeps (p := Dev.pins) (fun _ _ => rfl) (fun _ _ => rfl) _

/-- What p shows does not depend on what queueing a frame of the section bus changes: the protection words and their reports, the free values, the
bus controllers and the engine of the section bus (R45, R396 to R399). -/
structure SoxBlind {β : Type} (p : Dev → β) : Prop extends ReportBlind p where
  free : ∀ n d, p { d with free := n } = p d
  ecc : ∀ l d, p { d with ecc := l } = p d
  can : ∀ l d, p { d with can := l } = p d
  sox : ∀ l d, p { d with sox := l } = p d

theorem HubBlind.toSox {β : Type} {p : Dev → β} (hp : HubBlind p) : SoxBlind p where
  toReportBlind := hp.spoke.toReportBlind
  free := hp.free
  ecc := hp.ecc
  can := hp.can
  sox := hp.sox

theorem soxBlind_field {f : Fld} (h : f.reg.off ∉ reportRegs) : SoxBlind (getF f) where
  toReportBlind := reportBlind_field h
  free _ _ := rfl
  ecc _ _ := rfl
  can _ _ := rfl
  sox _ _ := rfl

namespace SoxBlind
variable {β : Type} {p : Dev → β} (hp : SoxBlind p)
include hp

theorem crossEcc (row u die r q : Nat) {passed failed : Dev → Dev} (hpass : ∀ d, p (passed d) = p d) (hfail : ∀ d, p (failed d) = p d) (d : Dev) :
    p (crossEcc row u die r q passed failed d) = p d := by
  unfold Machine.crossEcc checkEcc
  split
  · exact hpass d
  · dsimp only
    split
    · exact (hpass _).trans ((hp.healthEvent ..).trans (hp.ecc _ _))
    · exact (hfail _).trans ((hp.logEvent ..).trans (hp.ecc _ _))

theorem nextCounter (cls : Nat) (d : Dev) : p (nextCounter cls d).2 = p d := by
  unfold Machine.nextCounter
  split
  · exact hp.sox _ _
  · exact (hp.sox _ _).trans (hp.free _ d)

theorem soxQueue (cls dest spec : Nat) (single : Bool) (payload : List Byte) (d : Dev) : p (soxQueue cls dest spec single payload d) = p d := by
  unfold Machine.soxQueue
  exact ite_keeps rfl (hp.crossEcc _ _ _ _ _ (fun _ => (hp.can _ _).trans (hp.nextCounter ..)) (fun _ => rfl) d)

theorem freeBytes (n : Nat) (d : Dev) : p (freeBytes n d).2 = p d := by
  induction n generalizing d with
  | zero => rfl
  | succ n ih => exact (ih _).trans (hp.free _ d)

theorem probeSend (d : Dev) : p (probeSend d) = p d := by
  unfold Machine.probeSend
  split
  · rfl
  · exact (hp.sox _ _).trans (hp.soxQueue ..)

theorem probeStart (role : Option RoleRec) (desc : Option (Nat × Nat)) (d : Dev) : p (probeStart role desc d) = p d := by
  have hbytes := hp.freeBytes 8 d
  unfold Machine.probeStart
  generalize Machine.freeBytes 8 d = x at hbytes ⊢
  exact (hp.probeSend _).trans ((hp.sox _ _).trans hbytes)

end SoxBlind

/-- In READY, as its entry leaves it before a host-less follower probes its address. -/
def readyNoted (d : Dev) : Dev := updPwr (fun p => { p with reachedReady := true }) (toReady d)

theorem SoxBlind.enterReady {β : Type} {p : Dev → β} (hp : SoxBlind p) (d : Dev) : p (enterReady d) = p (readyNoted d) := by
  unfold Machine.enterReady
  dsimp only
  split
  · rfl
  · exact ite_keeps (hp.probeStart ..) rfl

/-- Make-ready as it ends: whether it reached READY before a wake is noted. -/
def makeReadyOver (d : Dev) : Dev := updPwr (fun p => { p with reachedReady := p.reachedReady || p.readyBefore, readyBefore := false }) d

/-- Without a cause for restricted service make-ready ends in READY. -/
theorem finishReady_open {d : Dev} (hc : getF F.PWR_CAUSE.FW_COMBO d = 0) (ha : getF F.PWR_CAUSE.ABI d = 0) :
    finishReady d = enterReady (makeReadyOver d) := by
  have hno : restrictedCause (makeReadyOver d) = false := by simp [restrictedCause, isSet, makeReadyOver, hc, ha]
  exact if_neg (by rw [← makeReadyOver, hno]; decide)

theorem finishReady_state {d : Dev} (hc : getF F.PWR_CAUSE.FW_COMBO d = 0) (ha : getF F.PWR_CAUSE.ABI d = 0) :
    (finishReady d).pwr.state = .ready ∧ (finishReady d).pwr.reachedReady = true := by
  rw [finishReady_open hc ha, hubBlind_pwr.toSox.enterReady]
  exact ⟨toReady_state _, rfl⟩

/-! ### The ARM ball goes low -/

theorem HubBlind.disarm {β : Type} {p : Dev → β} (hp : HubBlind p) (force : Bool) (d : Dev) : p (disarm force d) = p d := by
  unfold Machine.disarm
  refine ite_keeps rfl ?_
  rw [hp.dropForces, hp.dropEntries]
  exact eachD_keeps p _ _ (fun _ _ => (hp.spoke.loopsDisarm ..).trans (hp.quietSpoke ..)) d

/-- The ARM ball is low and what had been accepted to arm is withdrawn. -/
def armWithdrawn (d : Dev) : Dev :=
  { d with pins := { d.pins with arm := false } } |> hubSignal 225 false |> updPwr (fun p => { p with armAccepted := [] })

/-- The descriptors that waited to arm have completed; a package that was armed still is. -/
def armAnswered (d : Dev) : Dev :=
  let e := armWithdrawn d
  e |> updSox (fun s => { s with edgeArm := false }) |> whenD (d.pwr.armAccepted ≠ [] || e.sox.edgeArm) (setF F.PWR_ARM.REFUSE 1)
    |> eachD d.pwr.armAccepted (fun w => complete w.1 w.2 stNotArmed 1 [])

theorem HubBlind.armAnswered {β : Type} {p : Dev → β} (hp : HubBlind p) (d : Dev) : p (armAnswered d) = p (armWithdrawn d) :=
  (eachD_keeps p _ _ (fun _ _ => hp.complete ..) _).trans ((whenD_keeps p _ _ (fun _ => hp.setF (by decide) ..) _).trans (hp.updSox ..))

theorem armAnswered_pwr (d : Dev) : (armAnswered d).pwr = { d.pwr with armAccepted := [] } := by
  rw [hubBlind_pwr.armAnswered, armWithdrawn, updPwr_pwr, ctlBlind_pwr.hubSignal]

theorem armAnswered_pins (d : Dev) : (armAnswered d).pins = { d.pins with arm := false } := by
  rw [hubBlind_pins.armAnswered, armWithdrawn, updPwr_pins, ctlBlind_pins.hubSignal]

theorem armBallLow_eq (d : Dev) : armBallLow d = if isArmed (armAnswered d) then
    logEvent 0x0103 5 ⟨0, 0, 0⟩ 0 0 0 (raise F.PWR_ARM.ARM_DROP (toReady (disarm true (armAnswered d)))) else armAnswered d := rfl

theorem isArmed_armAnswered (d : Dev) : isArmed (armAnswered d) = isArmed d := by rw [isArmed, armAnswered_pwr, isArmed]

/-- The record of a drop changes neither the sequencer nor a ball, and the flag is up. -/
theorem armDropped_facts (d : Dev) : let e := logEvent 0x0103 5 ⟨0, 0, 0⟩ 0 0 0 (raise F.PWR_ARM.ARM_DROP d)
    e.pwr = d.pwr ∧ e.pins = d.pins ∧ getF F.PWR_ARM.ARM_DROP e = 1 := by
  refine ⟨?_, ?_, ?_⟩
  · rw [reportBlind_pwr.logEvent, raise_pwr]
  · rw [hubBlind_pins.logEvent, raise_pins]
  · rw [(reportBlind_field (by decide)).logEvent, getF_raise_same _ _ (by decide) rfl]

/-! ### The obligation -/

/-- Settles O7: SAFE_CLEAR by what ends make-ready, the ARM ball by what the disarm and the answers cannot reach. -/
theorem safeAndArmedAreLeft : Obligations.SafeAndArmedAreLeft := by
  refine ⟨fun s => ⟨fun hsafe hno hready hc ha => ?cleared, fun hsafe hno hready hman => ?again, fun hsafe hset => ?cause, fun hsafe => ?outside⟩,
    fun s => ⟨fun harm => ?armed, fun harm => ?other⟩⟩
  case cleared =>
    have hdo : safeClearCmd s.dev = finishReady s.dev := by simp [safeClearCmd, pstate, hsafe, hno, hready]
    refine completes_run rfl ?_
    dsimp only
    rw [hdo]
    exact (finishReady_state hc ha).1
  case again =>
    have hdo : safeClearCmd s.dev = againFromSpokes s.dev := by simp [safeClearCmd, pstate, hsafe, hno, hready]
    refine completes_run rfl ?_
    dsimp only
    rw [hdo, againFromSpokes, if_neg (by simpa using hman)]
    exact ⟨rfl, rfl⟩
  case cause => simp [exec_safeClear, execSafeClear, run_next, safeClearCmd, pstate, hsafe, hset]
  case outside => simp [exec_safeClear, execSafeClear, run_next, safeClearCmd, pstate, hsafe]
  case armed =>
    obtain ⟨hpwr, hpins, hdrop⟩ := armDropped_facts (toReady (disarm true (armAnswered s.dev)))
    refine completes_run rfl ?_
    dsimp only
    rw [armBallLow_eq, isArmed_armAnswered, if_pos (by simp [isArmed, harm]), hpwr, hpins, hdrop, toReady_state, toReady_pins, toReady_armAccepted,
      hubBlind_pins.disarm, hubBlind_pwr.disarm, armAnswered_pins, armAnswered_pwr]
    exact ⟨rfl, rfl, rfl, rfl⟩
  case other =>
    refine completes_run rfl ?_
    dsimp only
    rw [armBallLow_eq, isArmed_armAnswered, if_neg (by simp [isArmed, harm]), armAnswered_pins, armAnswered_pwr]
    exact ⟨rfl, rfl, rfl⟩

end Sys2Proof.Proofs
end

section
/-! What the clocks cannot reach (R31 to R37, R347, R352 to R361, R408): `ClockBlind` observations see no register, no time unit, no controller and
not TPULSE. They see PT and the sequencer, which the passing of a tick changes in `tickPt` and `tickPower` alone. -/
namespace Sys2Proof.Proofs
open Sys2Proof Sys2Proof.Machine Sys2Proof.Laws

structure ClockBlind {β : Type} (p : Dev → β) : Prop extends HubBlind p where
  allRegs : ∀ r w d, p (rput r w d) = p d
  time : ∀ t d, p { d with time := t } = p d
  hic : ∀ l d, p { d with hic := l } = p d
  sic : ∀ l d, p { d with sic := l } = p d
  pulse : ∀ b d, p { d with pins := { d.pins with timePulse := b } } = p d

theorem clockBlind_pt : ClockBlind Dev.pt where
  toHubBlind := hubBlind_pt
  allRegs _ _ _ := rfl
  time _ _ := rfl
  hic _ _ := rfl
  sic _ _ := rfl
  pulse _ _ := rfl

theorem hubBlind_chip : HubBlind Dev.chip := by constructor <;> (intros; rfl)

theorem clockBlind_chip : ClockBlind Dev.chip where
  toHubBlind := hubBlind_chip
  allRegs _ _ _ := rfl
  time _ _ := rfl
  hic _ _ := rfl
  sic _ _ := rfl
  pulse _ _ := rfl

namespace ClockBlind
variable {β : Type} {p : Dev → β} (hp : ClockBlind p)
include hp

theorem ctl : CtlBlind p where
  regs r w d _ := hp.allRegs r w d
  marks := hp.marks
  out := hp.out
  pcie := hp.pcie
  hic := hp.hic
  sic := hp.sic
  waiting _ _ _ := hp.links _ _

theorem trip (k : Nat) : TripBlind k p where
  toReportBlind := hp.spoke.toReportBlind
  spokes := hp.spokes
  status _ _ _ := hp.allRegs _ _ _
  counts _ _ _ := hp.allRegs _ _ _

theorem putF (f : Fld) (v : Nat) (d : Dev) : p (setF f v d) = p d := hp.allRegs _ _ _
theorem raiseF (f : Fld) (d : Dev) : p (Machine.raise f d) = p d := (hp.marks _ _).trans (hp.putF ..)
theorem lowerF (f : Fld) (d : Dev) : p (lower f d) = p d := hp.putF ..
theorem flagF (f : Fld) (b : Bool) (d : Dev) : p (flag f b d) = p d := ite_keeps (hp.raiseF ..) (hp.lowerF ..)
theorem setBit (f : Fld) (b : Nat) (on : Bool) (d : Dev) : p (bitF f b on d) = p d :=
  (whenD_keeps p _ _ (fun _ => hp.marks _ _) _).trans (hp.putF ..)

theorem updTime (f : TimeUnit → TimeUnit) (d : Dev) : p (updTime f d) = p d := hp.time _ _

/-! ### The time unit (R352 to R361) -/

theorem holdPulse (d : Dev) : p (holdPulse d) = p d := by
  unfold Machine.holdPulse
  exact ite_keeps rfl ((hp.pulse false _).trans (hp.updTime ..))

theorem setUnc (n : Nat) (d : Dev) : p (setUnc n d) = p d := by
  unfold Machine.setUnc
  dsimp only
  rw [hp.holdPulse, hp.updTime, whenD_keeps p _ _ (fun _ => hp.raiseF ..), hp.putF]

theorem ftMagnitude (x : Int) (d : Dev) : p (ftMagnitude x d).2 = p d := divFree_free hp.free x.natAbs (10 ^ 12) d

theorem dropSlew (d : Dev) : p (dropSlew d) = p d := by
  unfold Machine.dropSlew
  rw [hp.lowerF, hp.lowerF, hp.updTime]

theorem enterHoldover (more : Nat) (d : Dev) : p (enterHoldover more d) = p d := by
  have hunc (n : Nat) (e : Dev) : p (if ftValid e then Machine.setUnc n e else e) = p e := ite_keeps (hp.setUnc ..) rfl
  have hslew := hp.ftMagnitude d.time.slew d
  unfold Machine.enterHoldover
  generalize Machine.ftMagnitude d.time.slew d = x at hslew ⊢
  obtain ⟨a, e⟩ := x
  have hstep := hp.ftMagnitude (e.time.step.getD 0) e
  dsimp only
  generalize Machine.ftMagnitude (e.time.step.getD 0) e = y at hstep ⊢
  refine ite_keeps (hunc ..) ((hp.logEvent ..).trans ((hunc ..).trans ?_))
  rw [hp.updTime, hp.raiseF, hp.raiseF, hp.dropSlew, hstep, hslew]

theorem tickField (d : Dev) : p (tickField d) = p d := by
  unfold Machine.tickField
  exact ite_keeps rfl (hp.updTime ..)

theorem tickHoldover (d : Dev) : p (tickHoldover d) = p d := by
  unfold Machine.tickHoldover
  exact ite_keeps rfl (ite_keeps (hp.updTime ..) (Eq.trans (ite_keeps (hp.setUnc ..) rfl) (hp.updTime (fun t => { t with holdTicks := 0 }) d)))

/-! ### Adjustments of PT (R33, R35, R353, R408) -/

theorem adjustAll (plus : Bool) (d : Dev) : p (adjustAll plus d) = p d := by
  unfold Machine.adjustAll
  refine (eachD_keeps p _ _ (fun _ _ => ite_keeps (hp.linkSend ..) rfl) _).trans ((hp.updTime ..).trans ?_)
  exact hp.free _ d

theorem adjustSpoke (k : Nat) (d : Dev) : p (adjustSpoke k d) = p d := by
  unfold Machine.adjustSpoke
  refine (hp.linkSend ..).trans ((hp.updLink ..).trans ((hp.updTime ..).trans ?_))
  exact hp.free _ d

theorem tickSteer (d : Dev) : p (tickSteer d) = p d := by
  unfold Machine.tickSteer
  exact (ite_keeps rfl (ite_keeps (hp.adjustAll ..) (ite_keeps (hp.adjustAll ..) rfl))).trans (hp.flagF F.TIM_STATUS.STEER_LIMIT _ d)

theorem tickRate (d : Dev) : p (tickRate d) = p d := by
  unfold Machine.tickRate
  refine Eq.trans (ite_keeps rfl (ite_keeps ?_ (ite_keeps ?_ rfl))) (hp.updTime (fun t => { t with rateAcc := d.time.rateAcc + 4 * d.time.rate }) d)
  · exact (hp.adjustAll ..).trans (hp.updTime ..)
  · exact (hp.adjustAll ..).trans (hp.updTime ..)

theorem tickSpokes (d : Dev) : p (tickSpokes d) = p d := by
  unfold Machine.tickSpokes
  refine ite_keeps rfl ?_
  split
  · exact hp.adjustSpoke ..
  · rfl

/-! ### What follows the sequencer in a tick: epochs, erases, trips, sources and lanes -/

theorem tickEpoch (d : Dev) : p (tickEpoch d) = p d := by
  unfold Machine.tickEpoch
  split
  · rfl
  · exact ite_keeps rfl (ite_keeps rfl ((eachD_keeps p _ _ (fun _ _ => hp.linkSend ..) _).trans (hp.updTime ..)))

theorem tickErase (d : Dev) : p (tickErase d) = p d := by
  unfold Machine.tickErase
  exact ite_keeps rfl ((hp.log _ _).trans (hp.free _ d))

theorem tripLevel (k i : Nat) (level : Bool) (d : Dev) : p (tripLevel k i level d) = p d := by
  unfold Machine.tripLevel
  refine Eq.trans (ite_keeps ?_ rfl) (hp.setBit (F.PWM_TRIP_STATUS.LEVEL k) i level d)
  exact (eachD_keeps p _ _ (fun _ _ => ite_keeps ((hp.trip k).tripPair ..) rfl) _).trans (hp.setBit ..)

theorem tickTrips (d : Dev) : p (tickTrips d) = p d :=
  eachD_keeps p _ _ (fun _ _ => eachD_keeps p _ _ (fun _ _ => (hp.tripLevel ..).trans (hp.spokes _ _)) _) d

theorem tickSources (d : Dev) : p (tickSources d) = p d := by
  unfold Machine.tickSources
  exact ite_keeps rfl (hp.ctl.settleSources d)

theorem sendIdle (k : Nat) (s : Side) (d : Dev) : p (sendIdle k s d) = p d := hp.emit ..

theorem sendReplay (k : Nat) (s : Side) (q : Nat) (d : Dev) : p (sendReplay k s q d) = p d := by
  unfold Machine.sendReplay
  dsimp only
  split
  · exact (hp.sendIdle ..).trans (hp.updEnd ..)
  · exact (hp.emit ..).trans ((whenD_keeps p _ _ (fun _ => hp.putF ..) _).trans ((hp.updEnd ..).trans (hp.updEnd ..)))

theorem payloadBits (x : Payload) (d : Dev) : p (payloadBits x d).2 = p d := by
  unfold Machine.payloadBits
  split
  · rfl
  · rfl
  · exact hp.free _ d

theorem sendNew (k : Nat) (s : Side) (x : Payload) (d : Dev) : p (sendNew k s x d) = p d := by
  unfold Machine.sendNew
  exact (hp.emit ..).trans ((hp.updEnd ..).trans (hp.payloadBits ..))

theorem withdrawEntry (k : Nat) (x : Payload) (d : Dev) : p (withdrawEntry k x d) = p d := by
  unfold Machine.withdrawEntry
  split
  · split
    · exact hp.updOut ..
    · rfl
  · rfl

theorem withheldFeed (k : Nat) (x : Payload) (d : Dev) : p (withheldFeed k x d) = p d := by
  unfold Machine.withheldFeed
  split
  · exact hp.linkSend ..
  · rfl

theorem checkNew (k : Nat) (s : Side) (x : Payload) (d : Dev) : p (checkNew k s x d) = p d := by
  unfold Machine.checkNew
  cases s <;> refine hp.crossEcc _ _ _ _ _ (fun e => ?_) (fun e => ?_) d
  · split
    · exact hp.sendNew ..
    · exact hp.sendIdle ..
  · exact (hp.withdrawEntry ..).trans ((hp.updEnd ..).trans (hp.sendIdle ..))
  · split
    · exact hp.sendNew ..
    · exact hp.sendIdle ..
  · exact (hp.withheldFeed ..).trans ((hp.updEnd ..).trans (hp.sendIdle ..))

theorem laneSlot (k : Nat) (s : Side) (d : Dev) : p (laneSlot k s d) = p d := by
  unfold Machine.laneSlot
  refine ite_keeps ((hp.emit ..).trans (hp.updEnd ..)) ?_
  split
  · exact hp.sendReplay ..
  · exact ite_keeps (hp.checkNew ..) (hp.sendIdle ..)
  · exact hp.sendIdle ..

theorem releaseResume (k : Nat) (d : Dev) : p (releaseResume k d) = p d := by
  unfold Machine.releaseResume
  exact ite_keeps ((hp.linkSend ..).trans (hp.updLink ..)) rfl

theorem laneSlots (d : Dev) : p (laneSlots d) = p d := by
  unfold Machine.laneSlots
  refine ite_keeps rfl (eachD_keeps p _ _ (fun k e => ite_keeps ?_ rfl) d)
  exact (hp.releaseResume ..).trans ((hp.laneSlot ..).trans (hp.laneSlot ..))

end ClockBlind

end Sys2Proof.Proofs
end

section
/-! Cold resets and the time at which PWR_EN goes high (R53, R85, R466, R467, R543). -/
namespace Sys2Proof.Proofs
open Sys2Proof Sys2Proof.Machine Sys2Proof.Laws

/-! ### A cold reset -/

theorem HubBlind.idleRails {β : Type} {p : Dev → β} (hp : HubBlind p) (d : Dev) : p (idleRails d).2 = p d := by
  unfold Machine.idleRails
  refine foldl_keeps (p := fun a : KMap Spoke × Dev => p a.2) (fun a k => ?_) _ _
  exact (hp.fresh _).trans (hp.fresh a.2)

theorem HubBlind.logAfterPower {β : Type} {p : Dev → β} (hp : HubBlind p) (d : Dev) : p (logAfterPower d) = p d := by
  unfold Machine.logAfterPower eraseCut
  exact (hp.log _ _).trans (ite_keeps ((hp.log _ _).trans (hp.log _ d)) rfl)

/-- The part is the same one after the power of the logbook went and the rails fell. -/
theorem coldReset_chip (b : Nat) (go : Bool) (d : Dev) : (coldReset b go d).chip = d.chip := by
  unfold coldReset
  rw [setF_chip, setF_chip, setF_chip, setF_chip]
  exact (hubBlind_chip.idleRails _).trans (hubBlind_chip.logAfterPower d)

/-- The reset names itself; what it stores after that lies in the logbook's registers. -/
theorem coldReset_cause {b : Nat} (hb : b < 4) (go : Bool) (d : Dev) : getF F.PWR_CAUSE.RESET (coldReset b go d) = 2 ^ b := by
  have hlen : 2 ^ b % 2 ^ F.PWR_CAUSE.RESET.len = 2 ^ b := Nat.mod_eq_of_lt (Nat.pow_lt_pow_right (by decide) hb)
  unfold coldReset
  dsimp only
  rw [getF_setF_otherReg _ _ _ _ (by decide), getF_setF_otherReg _ _ _ _ (by decide), getF_setF_same _ _ _ (by decide), hlen]

/-- What the statement says of a device a cold reset has cleared. -/
theorem coldReset_cleared {b : Nat} (hb : b < 4) (go : Bool) (d : Dev) : let t := coldReset b go d
    t.pwr.state = .cold ∧ t.pt = 0 ∧ t.eng = {} ∧ t.can = [] ∧ t.tdm = {} ∧ t.time = {} ∧ t.chip = d.chip ∧ getF F.PWR_CAUSE.RESET t = 2 ^ b ∧
      t.pins.pwrEn = false ∧ t.pins.resetN = d.pins.resetN ∧ t.pwr.powerFrom = if go then some 0 else none := by
  refine ⟨rfl, rfl, rfl, rfl, rfl, rfl, coldReset_chip .., coldReset_cause hb .., rfl, ?_, rfl⟩
  unfold coldReset
  rw [setF_pins, setF_pins, setF_pins, setF_pins]
  change (idleRails (logAfterPower d)).2.pins.resetN = d.pins.resetN
  rw [hubBlind_pins.idleRails, hubBlind_pins.logAfterPower]

/-- A reset that clears the hub clears the byte memories with it. -/
theorem completes_cleared {c : Instr} {f : Dev → Dev} {s : State} {P : State → Prop} (hc : exec c s = run f (clearMems s))
    (h : P { pending := s.pending, mem := {}, dev := f s.dev }) : Completes c s P :=
  ⟨_, hc, rfl, h⟩

/-! ### PWR_EN goes high in a tick -/

/-- What a tick shows of the supplies and of what make-ready waits for. -/
def supplyView (d : Dev) : Option Nat × Option Nat × Nat × Option Nat × Bool × Bool :=
  (d.pwr.powerFrom, d.pwr.powerAt, d.pwr.attempts, d.pwr.pgDeadline, d.pins.pwrEn, d.pins.testMode)

theorem clockBlind_supply : ClockBlind supplyView := by
  constructor
  case toHubBlind => constructor <;> (intros; rfl)
  all_goals intros; rfl

/-- PT goes on by one tick, or stands for a tick the hub holds. -/
theorem tickPt_pt (d : Dev) : ∃ n ≤ 1, (tickPt d).pt = (d.pt + n) % 2 ^ 64 := by
  refine ⟨(if d.time.holds = 0 then 1 else 0 : Int).toNat, by split <;> decide, ?_⟩
  unfold tickPt
  rw [operate_pt]
  cases d.time.holds != 0 <;> rfl

theorem tickPt_supply (d : Dev) : supplyView (tickPt d) = supplyView d := by
  have hop (n : Nat) (e : Dev) : supplyView (operate n e) = supplyView e := by
    unfold operate
    split <;> rfl
  unfold tickPt
  rw [hop]
  cases d.time.holds != 0 <;> rfl

/-- A tick as far as the sequencer sees it: the clocks before it, the traffic after it. -/
def beforePower (d : Dev) : Dev :=
  { d with marks := [], ticks := d.ticks + 1, pcie := { d.pcie with sent := [] } } |> tickField |> tickPt |> tickHoldover |> tickSteer |> tickRate |> tickSpokes

def afterPower (d : Dev) : Dev := d |> tickEpoch |> tickErase |> tickTrips |> tickSources |> laneSlots

theorem tickDev_awake {d : Dev} (hao : d.pins.vbatAo = true) (hrst : d.pins.resetN = true) (hpark : d.pwr.park ≠ .saved) :
    tickDev d = afterPower (tickPower (beforePower d)) := by
  simp only [tickDev, hao, hrst, Bool.not_true, Bool.or_self, Bool.false_eq_true, if_false, if_neg hpark]
  rfl

theorem ClockBlind.afterPower {β : Type} {p : Dev → β} (hp : ClockBlind p) (d : Dev) : p (afterPower d) = p d := by
  rw [Proofs.afterPower, hp.laneSlots, hp.tickSources, hp.tickTrips, hp.tickErase, hp.tickEpoch]

theorem beforePower_supply (d : Dev) : supplyView (beforePower d) = supplyView d := by
  have hp := clockBlind_supply
  rw [beforePower, hp.tickSpokes, hp.tickRate, hp.tickSteer, hp.tickHoldover, tickPt_supply, hp.tickField]
  rfl

theorem beforePower_pt {d : Dev} (h : d.pt + 2 < 2 ^ 64) : d.pt ≤ (beforePower d).pt := by
  have hp := clockBlind_pt
  rw [beforePower, hp.tickSpokes, hp.tickRate, hp.tickSteer, hp.tickHoldover]
  obtain ⟨n, hn, hpt⟩ := tickPt_pt (tickField { d with marks := [], ticks := d.ticks + 1, pcie := { d.pcie with sent := [] } })
  rw [hpt, hp.tickField]
  show d.pt ≤ (d.pt + n) % 2 ^ 64
  rw [Nat.mod_eq_of_lt (by omega)]
  omega

/-- From 40 µs after t0 the time at which PWR_EN goes high is settled: no later than 60 µs after t0. -/
theorem tickPower_settles {d : Dev} {t : Nat} (hfrom : d.pwr.powerFrom = some t) (hat : d.pwr.powerAt = none) (hpt : t + 10000 ≤ d.pt) :
    ∃ q, t + 10000 ≤ q ∧ q ≤ t + 15000 ∧
      supplyView (tickPower d) = (none, some q, d.pwr.attempts, d.pwr.pgDeadline, d.pins.pwrEn, d.pins.testMode) := by
  refine ⟨t + us 40 + Config.freeNat d.free % (us 20 + 1), ?_, ?_, ?_⟩
  · simp only [us]
    omega
  · simp only [us]
    omega
  · unfold tickPower
    rw [hfrom, hat]
    dsimp only
    rw [if_neg (by simp only [us]; omega)]
    rfl

/-- At the time settled PWR_EN goes high, and the first attempt begins. -/
theorem tickPower_switches {d : Dev} {q : Nat} (htest : d.pins.testMode = false) (hat : d.pwr.powerAt = some q) (hpt : q ≤ d.pt) :
    tickPower d = { d with pins := { d.pins with pwrEn := true },
                           pwr := { d.pwr with powerAt := none, attempts := 1, pgDeadline := some (d.pt + ms 20) } } := by
  have hgo : (d.pins.testMode || decide (d.pt < q)) = false := by simp [htest, hpt]
  unfold tickPower
  rw [hat]
  cases d.pwr.powerFrom <;> simp [hgo]

/-! ### The obligation -/

/-- Settles O1: the resets by what they store, the ticks by what the clocks before the sequencer and the traffic after it cannot reach. -/
theorem coldResetsClearTheDevice : Obligations.ColdResetsClearTheDevice := by
  refine fun s => ⟨?power, ?external, fun hlow => ?rises, fun p hnone hao hrst hpark hwrap hfrom hat hpt => ?settles,
    fun q hnone hao hrst hpark hwrap htest hat hpt => ?switches⟩
  case power =>
    have hclear := coldReset_cleared (b := 0) (by decide) s.dev.pins.resetN { s.dev with pins := { s.dev.pins with vbatAo := true } }
    refine completes_cleared (exec_powerOnReset s) ?_
    dsimp only at hclear ⊢
    generalize coldReset 0 s.dev.pins.resetN { s.dev with pins := { s.dev.pins with vbatAo := true } } = t at hclear ⊢
    obtain ⟨hstate, hpt, heng, hcan, htdm, htime, hchip, hcause, hen, -, hfrom⟩ := hclear
    exact ⟨rfl, hstate, hpt, heng, hcan, htdm, htime, hchip, hcause, hen, hfrom⟩
  case external =>
    have hclear := coldReset_cleared (b := 1) (by decide) false { s.dev with pins := { s.dev.pins with resetN := false } }
    refine completes_cleared ((exec_externalReset false s).trans (if_neg Bool.false_ne_true)) ?_
    dsimp only at hclear ⊢
    generalize coldReset 1 false { s.dev with pins := { s.dev.pins with resetN := false } } = t at hclear ⊢
    obtain ⟨hstate, hpt, heng, hcan, -, -, hchip, hcause, hen, hlow, hfrom⟩ := hclear
    exact ⟨rfl, hstate, hpt, heng, hcan, hchip, hcause, hen, hlow, hfrom⟩
  case rises =>
    refine completes_run ((exec_externalReset true s).trans (if_pos rfl)) ?_
    dsimp only
    rw [hlow]
    exact ⟨rfl, rfl, rfl, rfl, rfl⟩
  case settles =>
    have hview := beforePower_supply s.dev
    simp only [supplyView, hfrom, hat, Prod.mk.injEq] at hview
    obtain ⟨hfrom', hat', -, -, hen, -⟩ := hview
    obtain ⟨q, hlo, hhi, hq⟩ := tickPower_settles hfrom' hat' (Nat.le_trans hpt (beforePower_pt hwrap))
    rw [← clockBlind_supply.afterPower, ← tickDev_awake hao hrst hpark] at hq
    simp only [supplyView, Prod.mk.injEq] at hq
    obtain ⟨-, hq, -, -, hen', -⟩ := hq
    exact ⟨_, q, step_empty hnone, hq, hlo, hhi, hen'.trans hen⟩
  case switches =>
    have hview := beforePower_supply s.dev
    simp only [supplyView, hat, htest, Prod.mk.injEq] at hview
    obtain ⟨-, hat', -, -, -, htest'⟩ := hview
    have hdo := tickPower_switches htest' hat' (Nat.le_trans hpt (beforePower_pt hwrap))
    have hsup := clockBlind_supply.afterPower (tickPower (beforePower s.dev))
    have hnow := clockBlind_pt.afterPower (tickPower (beforePower s.dev))
    rw [← tickDev_awake hao hrst hpark, hdo] at hsup hnow
    simp only [supplyView, Prod.mk.injEq] at hsup
    obtain ⟨-, hat'', hatt, hdl, hen, -⟩ := hsup
    refine ⟨_, step_empty hnone, hen, hat'', hatt, ?_⟩
    rw [hdl, hnow, ms]

end Sys2Proof.Proofs
end

section
/-! Resets that keep PT or the part: watchdog, restart and PCIe (R51, R85, R136, R543). -/
namespace Sys2Proof.Proofs
open Sys2Proof Sys2Proof.Machine Sys2Proof.Laws

/-! ### Tables of registers -/

theorem kget_filter_out {α : Type} {m : KMap α} {q : Nat × α → Bool} {k : Nat} (e : α) (h : ∀ x, q x = true → x.1 ≠ k) :
    kget (m.filter q) k e = e := by
  induction m with
  | nil => rfl
  | cons x m ih =>
    rw [List.filter_cons]
    split
    · exact (if_neg (h x ‹_›)).trans ih
    · exact ih

theorem kget_foldl_kput_other {m l : KMap Word} {k : Nat} (e : Word) (h : ∀ x ∈ l, x.1 ≠ k) :
    kget (l.foldl (fun m x => kput m x.1 x.2 0) m) k e = kget m k e := by
  induction l generalizing m with
  | nil => rfl
  | cons x l ih =>
    rw [List.foldl_cons, ih fun y hy => h y (List.mem_cons_of_mem _ hy), kget_kput_other _ _ _ _ _ _ (Ne.symm (h x List.mem_cons_self))]

theorem mem_supplyWord {k : Nat} {d : Dev} {x : Nat × Word} (h : x ∈ supplyWord k d) : x.1 = (R.SPK_SUPPLY k).off := by
  rw [supplyWord, kput] at h
  split at h
  · simp [kdel] at h
  · rw [kins, List.mem_singleton] at h
    rw [h]

/-- The words of the supply monitors lie in the blocks of the spokes. -/
theorem mem_supplyWords {d : Dev} {x : Nat × Word} (h : x ∈ supplyWords d) : 0x14000 ≤ x.1 := by
  obtain ⟨k, -, hx⟩ := List.mem_flatMap.mp h
  rw [mem_supplyWord hx]
  exact spokeReg

/-! ### Watchdog and restart -/

/-- What a watchdog or restart reset leaves, before the causes are stored and the sources seen again: PWR_CAUSE is at its reset value. -/
theorem clearHub_kept (b : Nat) (fromStore : Bool) (d : Dev) : ∃ e : Dev, ∃ i c, clearHub b fromStore d =
      resumeSources (bitF F.PWR_CAUSE.RESET b true (setF F.PWR_CAUSE.SAFE c (setF F.HLT_PKG.PKG_ILIM i e))) ∧
    e.pwr.state = .images ∧ e.pwr.fromStore = fromStore ∧ e.eng = {} ∧ getF F.PWR_CAUSE.RESET e = 0 ∧
    e.chip = (idleRails (enterHoldover 0 (detachNow (dropRings ringDrop d)))).2.chip := by
  refine ⟨_, _, _, rfl, rfl, rfl, rfl, ?_, rfl⟩
  rw [getF, rget]
  dsimp only
  have hother (x : Nat × Word) (hx : 0x14000 ≤ x.1) : x.1 ≠ F.PWR_CAUSE.RESET.reg.off := by
    change x.1 ≠ 0x200C
    omega
  rw [kget_foldl_kput_other _ fun x hx => hother x (mem_supplyWords hx), kget_filter_out _ fun x hx hk => by
    rw [hk] at hx
    exact absurd hx (by decide)]
  rfl

/-- Dropping the rings reaches what a drop of one ring does, and the ring engine. -/
theorem dropRings_keeps {β : Type} {p : Dev → β} {drop : Nat → Dev → Dev} (hdrop : ∀ i d, p (drop i d) = p d)
    (hhost : ∀ l d, p { d with host := l } = p d) (d : Dev) : p (dropRings drop d) = p d :=
  (hhost _ _).trans (eachD_keeps p _ _ (fun _ _ => ite_keeps rfl (hdrop ..)) d)

theorem ringDrop_chip (i : Nat) (d : Dev) : (ringDrop i d).chip = d.chip := by
  rw [ringDrop, setRingState, setF_chip]
  rfl

theorem dropRings_chip (d : Dev) : (dropRings ringDrop d).chip = d.chip := dropRings_keeps (p := Dev.chip) ringDrop_chip (fun _ _ => rfl) d

theorem ringDrop_pcie (i : Nat) (d : Dev) : (ringDrop i d).pcie = d.pcie := by
  rw [ringDrop, setRingState, setF_pcie]
  rfl

theorem dropRings_pcie (d : Dev) : (dropRings ringClear d).pcie = d.pcie :=
  dropRings_keeps (p := Dev.pcie) (drop := ringClear) (fun _ _ => by rw [ringClear, setF_pcie, setF_pcie, ringDrop_pcie]) (fun _ _ => rfl) d

theorem cycleBlind_chip : CycleBlind Dev.chip where
  toHubBlind := hubBlind_chip
  allRegs _ _ _ := rfl
  pwr _ _ := rfl
  time _ _ := rfl

/-- What the statement says of a hub that starts again. -/
theorem clearHub_facts {b : Nat} (hb : b < 4) (fromStore : Bool) (d : Dev) : let t := clearHub b fromStore d
    t.pwr.state = .images ∧ t.pwr.fromStore = fromStore ∧ getF F.PWR_CAUSE.RESET t = 2 ^ b ∧ t.eng = {} ∧ t.chip = d.chip := by
  obtain ⟨e, i, c, hdo, hstate, hfrom, heng, hcause, hchip⟩ := clearHub_kept b fromStore d
  have hlen : 2 ^ b % 2 ^ F.PWR_CAUSE.RESET.len = 2 ^ b := Nat.mod_eq_of_lt (Nat.pow_lt_pow_right (by decide) hb)
  dsimp only
  rw [hdo, ctlBlind_pwr.resumeSources, (ctlBlind_field (by decide)).resumeSources, ctlBlind_eng.resumeSources, ctlBlind_chip.resumeSources]
  refine ⟨?_, ?_, ?_, ?_, ?_⟩
  · rw [bitF_pwr, setF_pwr, setF_pwr, hstate]
  · rw [bitF_pwr, setF_pwr, setF_pwr, hfrom]
  · rw [getF_bitF _ _ _ _ (by decide),
      getF_setF_otherField (f := F.PWR_CAUSE.SAFE) (g := F.PWR_CAUSE.RESET) _ _ (by decide) (.inr ⟨rfl, by decide⟩),
      getF_setF_otherReg _ _ _ _ (by decide), hcause, putBit, if_pos rfl, Nat.zero_or, hlen]
  · rw [bitF_eng, setF_eng, setF_eng, heng]
  · rw [bitF_chip, setF_chip, setF_chip, hchip, hubBlind_chip.idleRails, clockBlind_chip.enterHoldover, cycleBlind_chip.detachNow,
      dropRings_chip]

theorem enterSafe_chip (b : Nat) (d : Dev) : (enterSafe b d).chip = d.chip := by
  have hgo (e : Dev) : (goSafe e).chip = e.chip := by
    rw [goSafe_eq, hubBlind_chip.logEvent, inSafe, cycleBlind_chip.updPwr, cycleBlind_chip.setState, hubBlind_chip.quieted]
  unfold enterSafe
  refine Eq.trans (ite_keeps rfl (ite_keeps rfl ?_)) (bitF_chip F.PWR_CAUSE.SAFE b true d)
  exact (hgo _).trans (whenD_keeps Dev.chip _ _ (fun _ => hubBlind_chip.yieldNow ..) _)

/-! ### A PCIe reset -/

theorem spokeBlind_pcie : SpokeBlind Dev.pcie := by
  constructor
  case toReportBlind => constructor <;> (intros; rfl)
  all_goals intros; rfl

theorem SpokeBlind.quietSpoke {β : Type} {p : Dev → β} (hp : SpokeBlind p) (k : Nat) (force : Bool) (d : Dev) : p (quietSpoke k force d) = p d :=
  (hp.settlePairs ..).trans ((hp.disableDrive ..).trans ((hp.endLoopChannels ..).trans (hp.stopSpoke ..)))

theorem disarmReady_pcie (d : Dev) : (disarmReady d).pcie = d.pcie := by
  have hout (o : Nat) (f : OutletSt → OutletSt) (e : Dev) : (updOut o f e).pcie = e.pcie := rfl
  unfold disarmReady toReady disarm
  refine ite_keeps (p := Dev.pcie) ?_ rfl
  rw [prechargeAll_keeps (p := Dev.pcie) (fun _ _ => rfl) (fun _ _ => rfl)]
  refine ite_keeps (p := Dev.pcie) rfl ?_
  refine (eachD_keeps Dev.pcie _ _ (fun _ _ => hout ..) _).trans ((eachD_keeps Dev.pcie _ _ (fun _ _ => hout ..) _).trans ?_)
  exact eachD_keeps Dev.pcie _ _ (fun _ _ => (spokeBlind_pcie.loopsDisarm ..).trans (spokeBlind_pcie.quietSpoke ..)) d

theorem endLoopback_pcie (state : Nat) (d : Dev) : (endLoopback state d).pcie = d.pcie := by
  have hstate (e : Dev) : (setF F.PWR_LB_STATUS.STATE state { e with lb := none }).pcie = e.pcie := setF_pcie ..
  have hhalt (c : Nat) (e : Dev) : (haltSet c e).pcie = e.pcie := by
    unfold haltSet haltSettle
    rw [← raise_pcie (F.CAN_CFG.HALT c) e]
    generalize raise (F.CAN_CFG.HALT c) e = x
    exact ite_keeps (p := Dev.pcie) rfl rfl
  unfold endLoopback
  split
  · rfl
  · split
    · exact hstate d
    · exact (hhalt ..).trans (hstate d)
    · exact hstate d

/-- Of the endpoint a PCIe reset keeps whether the link is up. -/
theorem pcieReset_pcie (d : Dev) : (pcieReset d).pcie = { linkUp := d.pcie.linkUp } := by
  unfold pcieReset
  dsimp only
  rw [lower_pcie, setF_pcie, dropRings_pcie, endLoopback_pcie, disarmReady_pcie]

theorem pcieReset_regs (d : Dev) :
    (pcieReset d).regs = (lower F.HIF_STATUS.ATOMIC_ACTIVE (setF F.HIF_EPOCH.EPOCH 0 (dropRings ringClear (endLoopback 0 (disarmReady d))))).regs := rfl

/-! ### The obligation -/

/-- Settles O2: the resets by what they keep of the hub, the PCIe reset by what disarming and dropping the rings cannot reach. -/
theorem hubResetsStartFromImages : Obligations.HubResetsStartFromImages := by
  refine fun s => ⟨fun hcold hparked => ?watchdog, fun hfrom => ?restart, fun hready hrestricted => ?refused, fun down => ?pcie⟩
  case watchdog =>
    have hfacts := clearHub_facts (b := 2) (by decide) false (enterSafe 3 s.dev)
    have hno : (pstate s.dev = .cold || pstate s.dev = .parked) = false := by simp [pstate, hcold, hparked]
    refine completes_cleared (f := fun d => clearHub 2 false (enterSafe 3 d)) ((exec_watchdog s).trans (if_neg (by simp [hno]))) ?_
    dsimp only at hfacts ⊢
    rw [enterSafe_chip] at hfacts
    exact ⟨rfl, hfacts⟩
  case restart =>
    have hfacts := clearHub_facts (b := 3) (by decide) true s.dev
    have hdo : restartCmd s = restart s := if_pos (by rcases hfrom with h | h <;> simp [pstate, h])
    refine completes_cleared (f := clearHub 3 true) ((exec_restart s).trans (by rw [execRestart, hdo, restart]; rfl)) ?_
    dsimp only at hfacts ⊢
    exact ⟨rfl, hfacts⟩
  case refused =>
    have hdo : restartCmd s = { s with dev := raise F.PWR_ARM.CMD_REFUSED s.dev } := if_neg (by simp [pstate, hready, hrestricted])
    rw [exec_restart, execRestart, hdo]
  case pcie =>
    refine completes_run (exec_pcieReset down s) ?_
    dsimp only
    rw [pcieReset_pcie, getF_of_regs _ (pcieReset_regs _), isSet, getF_of_regs _ (pcieReset_regs _)]
    refine ⟨rfl, rfl, ?_, ?_⟩
    · rw [lower, getF_setF_otherReg _ _ _ _ (by decide), getF_setF_same _ _ _ (by decide)]
      rfl
    · rw [getF_lower_same _ _ (by decide)]
      rfl

end Sys2Proof.Proofs
end

section
/-! A spoke loses its power and is isolated (R47, R54, R63, R478), in a state of which neither is the end. -/
namespace Sys2Proof.Proofs
open Sys2Proof Sys2Proof.Machine Sys2Proof.Laws

/-! ### The sequencer -/

/-- Of the sequencer the shadow of a spoke changes the shadow alone. -/
theorem shadowSpoke_sees {β : Type} {p : Pwr → β} (hp : ∀ l x, p { x with shadow := l } = p x) (k : Nat) (d : Dev) :
    p (shadowSpoke k d).pwr = p d.pwr :=
  eachD_keeps (fun e => p e.pwr) _ _ (fun _ e => by
    split
    · rfl
    · exact hp _ e.pwr) d

/-- Beside the shadow a spoke that loses its power is struck from the sequencer's lists. -/
theorem spokeOff_sees {β : Type} {p : Pwr → β} (hp : ∀ l x, p { x with shadow := l } = p x) (k : Nat) (d : Dev) :
    p (spokeOff k d).pwr = p (darkPwr k d.pwr) := by
  rw [spokeOff_pwr]
  exact shadowSpoke_sees (p := fun x => p (darkPwr k x)) (fun l x => hp l (darkPwr k x)) k d

theorem spokeOff_state (k : Nat) (d : Dev) : (spokeOff k d).pwr.state = d.pwr.state := spokeOff_sees (p := Pwr.state) (fun _ _ => rfl) k d

theorem spokeOff_loaded (k : Nat) (d : Dev) : (spokeOff k d).pwr.loaded = d.pwr.loaded.filter (· != k) :=
  spokeOff_sees (p := Pwr.loaded) (fun _ _ => rfl) k d

/-! ### PT and the registers of the hub -/

theorem kget_filter_in {α : Type} {m : KMap α} {q : Nat × α → Bool} {k : Nat} (e : α) (h : ∀ x, x.1 = k → q x = true) :
    kget (m.filter q) k e = kget m k e := by
  induction m with
  | nil => rfl
  | cons x m ih =>
    rw [List.filter_cons]
    split
    · exact if_congr Iff.rfl rfl ih
    · have hne : ¬ x.1 = k := fun hx => absurd (h x hx) ‹_›
      exact ih.trans (if_neg hne).symm

theorem clearSlots_sees {β : Type} {p : Dev → β} (hp : CtlBlind p) (hhealth : ∀ l d, p { d with health := l } = p d) (k : Nat) (d : Dev) :
    p (clearSlots k (clearSpokeInsts k d)) = p d := (hp.clearSlots ..).trans (hhealth _ d)

theorem shadowSpoke_keeps {β : Type} {p : Dev → β} (hp : ∀ x d, p { d with pwr := x } = p d) (k : Nat) (d : Dev) : p (shadowSpoke k d) = p d :=
  eachD_keeps p _ _ (fun _ e => by
    split
    · rfl
    · exact hp _ e) d

theorem spokeOff_pt (k : Nat) (d : Dev) : (spokeOff k d).pt = d.pt := by
  unfold spokeOff
  rw [updPwr_pt, bitF_pt, bitF_pt, clearSlots_sees ctlBlind_pt (fun _ _ => rfl)]
  exact shadowSpoke_keeps (p := Dev.pt) (fun _ _ => rfl) k d

/-- A register of the hub that tells nothing of the spokes stands when one loses its power. -/
theorem getF_spokeOff {f : Fld} (hlow : f.reg.off < 0x3080) (hlink : f.reg.off ≠ R.PWR_LINK_STATUS.off)
    (hpre : f.reg.off ≠ R.PWR_STATE.off ∨ f.reg = R.PWR_STATE ∧ (f.lo + f.len ≤ 8 ∨ 15 ≤ f.lo)) (k : Nat) (d : Dev) :
    getF f (spokeOff k d) = getF f d := by
  have hspoke (x : Nat × Word) (h : x.1 = f.reg.off) : (!spokeOffset k x.1) = true := by
    have := spk_ge k
    have hno : ¬ spk k ≤ x.1 := by omega
    simp [spokeOffset, hno]
  have hsupply (d : Dev) (x : Nat × Word) (h : x ∈ supplyWord k d) : x.1 ≠ f.reg.off := by
    have hoff : 0x14000 ≤ (R.SPK_SUPPLY k).off := spokeReg
    rw [mem_supplyWord h]
    omega
  unfold spokeOff
  rw [getF_updPwr, getF_bitF_otherField (f := F.PWR_STATE.PRECHARGED) _ _ _ (by decide) hpre,
    getF_bitF_otherField (f := F.PWR_LINK_STATUS.LINK_UP) _ _ _ (by decide) (.inl hlink), clearSlots_sees (ctlBlind_field hlow) (fun _ _ => rfl)]
  rw [← shadowSpoke_keeps (p := getF f) (fun _ _ => rfl) k d]
  unfold getF rget
  rw [kget_foldl_kput_other _ (hsupply _), kget_filter_in _ hspoke]
  rfl

/-! ### Isolation -/

/-- What ends at a spoke to be isolated before its power goes. -/
def isolating (k : Nat) (d : Dev) : Dev := d |> whenD (carriesChannel k d) (yieldNow 3) |> endSpokeIvs k |> timeoutLoops k

/-- Spoke k isolated, before a step of make-ready may follow. -/
def isolated (k cause : Nat) (d : Dev) : Dev :=
  isolating k d |> spokeOff k |> bitF F.PWR_STATE.ISOLATED (k - 1) true |> logEvent 0x0106 5 ⟨k, 0, 0⟩ cause 0 0

theorem HubBlind.isolating {β : Type} {p : Dev → β} (hp : HubBlind p) (k : Nat) (d : Dev) : p (isolating k d) = p d :=
  (hp.timeoutLoops ..).trans ((hp.endSpokeIvs ..).trans (whenD_keeps p _ _ (fun _ => hp.yieldNow ..) d))

theorem isolated_sees {β : Type} {p : Pwr → β} (hp : ∀ l x, p { x with shadow := l } = p x) (k cause : Nat) (d : Dev) :
    p (isolated k cause d).pwr = p (darkPwr k d.pwr) := by
  rw [isolated, reportBlind_pwr.logEvent, bitF_pwr, spokeOff_sees hp, hubBlind_pwr.isolating]

theorem isolated_state (k cause : Nat) (d : Dev) : (isolated k cause d).pwr.state = d.pwr.state :=
  isolated_sees (p := Pwr.state) (fun _ _ => rfl) k cause d

theorem isolated_bit {k : Nat} (hk : k - 1 < 7) (cause : Nat) (d : Dev) : isIsolated k (isolated k cause d) = true := by
  rw [isIsolated, isolated, bitOf_of_getF ((reportBlind_field (by decide)).logEvent ..), bitOf_bitF _ _ _ _ _ (by decide) hk, if_pos rfl]

theorem getF_isolated {f : Fld} (hf : f.reg = R.PWR_CAUSE) (k cause : Nat) (d : Dev) : getF f (isolated k cause d) = getF f d := by
  have hcause := hubBlind_cause f hf
  rw [isolated, hcause.logEvent, getF_bitF_otherField _ _ _ (by decide) (.inl (by rw [hf]; decide)),
    getF_spokeOff (by rw [hf]; decide) (by rw [hf]; decide) (.inl (by rw [hf]; decide)), hcause.isolating]

/-- No step of make-ready waits for a spoke but those of PRECHARGE and LINK. -/
theorem isolate_settled {k cause : Nat} {d : Dev} (hi : isIsolated k d = false) (hp : d.pwr.state ≠ .precharge) (hl : d.pwr.state ≠ .link) :
    isolate k cause d = isolated k cause d := by
  have hpre : pstate (isolated k cause d) ≠ .precharge := by rwa [pstate, isolated_state]
  have hlink : pstate (isolated k cause d) ≠ .link := by rwa [pstate, isolated_state]
  have hdone : linkDone (prechargeDone (isolated k cause d)) = isolated k cause d := by
    generalize isolated k cause d = e at hpre hlink ⊢
    simp [prechargeDone, linkDone, hpre, hlink]
  unfold isolate
  rw [if_neg (by simp [hi])]
  exact hdone

end Sys2Proof.Proofs
end

section
/-! Spokes are brought up, tested and reset (R53, R54, R58, R59, R62, R63, R85, R479, R530). -/
namespace Sys2Proof.Proofs
open Sys2Proof Sys2Proof.Machine Sys2Proof.Laws

/-! ### The slot of a spoke (R53) -/

/-- The next spoke's slot has come: its switch closes where it is off and not isolated. -/
def spokeSlot (d : Dev) : Dev :=
  d |> whenD (!isIsolated d.pwr.nextSpoke d && !d.pwr.spokeOn.contains d.pwr.nextSpoke) (spokeSwitch d.pwr.nextSpoke)
    |> updPwr (fun p => { p with nextSpoke := d.pwr.nextSpoke + 1 })

theorem spokeSlot_switches {d : Dev} (hi : isIsolated d.pwr.nextSpoke d = false) (hoff : d.pwr.spokeOn.contains d.pwr.nextSpoke = false) :
    spokeSlot d = updPwr (fun p => { p with nextSpoke := d.pwr.nextSpoke + 1 }) (spokeSwitch d.pwr.nextSpoke d) := by
  rw [spokeSlot, hi, hoff]
  rfl

theorem spokeSlot_isolated {d : Dev} (hi : isIsolated d.pwr.nextSpoke d = true) :
    spokeSlot d = { d with pwr := { d.pwr with nextSpoke := d.pwr.nextSpoke + 1 } } := by
  rw [spokeSlot, hi]
  rfl

theorem exec_spokeSlot {s : State} (hs : s.dev.pwr.state = .spokes) (hslot : s.dev.pwr.slotAt + 25000 * (s.dev.pwr.nextSpoke - 1) ≤ s.dev.pt)
    (hk : s.dev.pwr.nextSpoke ≤ nSpokes s.dev) : exec .spokePowerSwitch s = .next { s with
      dev := if s.dev.pwr.nextSpoke = nSpokes (spokeSlot s.dev) then linkDone (setState .link (spokeSlot s.dev)) else spokeSlot s.dev } := by
  have hus : us (100 * (s.dev.pwr.nextSpoke - 1)) = 25000 * (s.dev.pwr.nextSpoke - 1) := by
    simp only [us]
    omega
  rw [exec_spokePowerSwitch, execSpokePowerSwitch, run_next]
  dsimp only
  rw [if_neg (by simp [pstate, hs, hus, Nat.not_lt.mpr hslot, Nat.not_lt.mpr hk])]
  rfl

theorem nSpokes_spokeSlot (d : Dev) : nSpokes (spokeSlot d) = nSpokes d := by
  have hchip : (spokeSlot d).chip = d.chip := whenD_keeps Dev.chip _ (spokeSwitch d.pwr.nextSpoke) (fun _ => rfl) d
  rw [nSpokes, hchip, nSpokes]

/-- LINK does not end while a spoke of the part neither runs nor is isolated. -/
theorem linkDone_waits {k : Nat} {d : Dev} (hk : k ∈ spokeList d) (hr : spokeRuns k d = false) (hi : isIsolated k d = false) : linkDone d = d := by
  have hno : (spokeList d).all (fun k => spokeRuns k d || isIsolated k d) = false :=
    List.all_eq_false.mpr ⟨k, hk, by simp [hr, hi]⟩
  exact if_neg (by simp [hno])

theorem nSpokes_mem (d : Dev) : nSpokes d ∈ spokeList d := by
  unfold spokeList nSpokes
  cases d.chip.variant <;> decide

theorem linkDone_spokeSlot {d : Dev} (hi : isIsolated d.pwr.nextSpoke d = false) (hoff : d.pwr.spokeOn.contains d.pwr.nextSpoke = false)
    (hr : spokeRuns d.pwr.nextSpoke d = false) (hlast : d.pwr.nextSpoke = nSpokes d) :
    linkDone (setState .link (spokeSlot d)) = setState .link (spokeSlot d) := by
  rw [spokeSlot_switches hi hoff]
  exact linkDone_waits (k := d.pwr.nextSpoke) (by rw [hlast]; exact nSpokes_mem d) hr hi

/-! ### A spoke has loaded (R53, R218, R343) -/

namespace SpokeBlind
variable {β : Type} {p : Dev → β} (hp : SpokeBlind p)
include hp

theorem dropConflict (r : Outlet) (d : Dev) : p (dropConflict r d) = p d := by
  unfold Machine.dropConflict
  exact ite_keeps rfl (eachD_keeps p _ _ (fun _ _ => hp.lower spokeReg_at _) d)

theorem heldTravel (k n : Nat) (d : Dev) : p (heldTravel k n d) = p d := by
  unfold Machine.heldTravel
  exact ite_keeps rfl ((hp.lower spokeReg_at _).trans (hp.lower spokeReg_at _))

theorem takeOwner (k n profile : Nat) (d : Dev) : p (takeOwner k n profile d) = p d := by
  unfold Machine.takeOwner resetRise
  dsimp only
  rw [hp.heldTravel, whenD_keeps p _ _ (fun _ => hp.updChan ..), hp.updChan, hp.setF spokeReg_at, hp.setF spokeReg_at]

theorem flag {f : Fld} (h : 0x14000 ≤ f.reg.off) (b : Bool) (d : Dev) : p (flag f b d) = p d := ite_keeps (hp.raise h _) (hp.lower h _)

theorem ownChannel (r : Outlet) (d : Dev) : p (ownChannel r d) = p d := by
  unfold Machine.ownChannel
  refine ite_keeps rfl ((whenD_keeps p _ _ (fun _ => ?odd) _).trans ((whenD_keeps p _ _ (fun _ => ?even) _).trans ?_))
  case odd => exact (hp.flag spokeReg_at ..).trans (hp.takeOwner ..)
  case even => exact (hp.lower spokeReg_at _).trans ((hp.flag spokeReg_at ..).trans (hp.takeOwner ..))
  exact (eachD_keeps p _ _ (fun _ _ => hp.raise spokeReg_at _) _).trans (hp.dropConflict ..)

theorem notchMoved (k i : Nat) (d : Dev) : p (notchMoved k i d) = p d := by
  unfold Machine.notchMoved
  exact (hp.setF spokeReg_at ..).trans (hp.spokes _ d)

theorem testRds (k : Nat) (x : RefMeas) (d : Dev) : p (testRds k x d) = p d := by
  have hor (o : Option Nat) (e : Dev) : p (measuredOr o 65536 e).2 = p e := by
    unfold measuredOr
    split
    · rfl
    · exact hp.free _ e
  have hmeas (a b : Nat) : p (measured a b 65536 d).2 = p d := by
    unfold measured
    split
    · exact hor none d
    · exact (hor _ _).trans (divFree_free hp.free a b d)
  exact (hp.setF spokeReg_at ..).trans (hmeas ..)

end SpokeBlind

/-- What loading a spoke makes of the sequencer, before LINK may end: the spoke is among those that run. -/
theorem spokeLoaded_eq (k : Nat) (d : Dev) : ∃ e, spokeLoaded k d = linkDone (whenD (pstate d == .ready) prechargeAll e) ∧
    e.pwr.state = d.pwr.state ∧ e.pwr.loaded = d.pwr.loaded ++ [k] := by
  have hput {es : List (Nat × Word)} {f : Nat × Word → Dev → Dev} (hf : ∀ x e, (f x e).pwr = e.pwr) (e : Dev) : (eachD es f e).pwr = e.pwr :=
    eachD_keeps Dev.pwr es f hf e
  have hload (e : Dev) (f : Pwr → Pwr) (rs : List Outlet) : (eachD rs ownChannel (settlePairs k (eachD (List.range 3) (notchMoved k)
      (spokeSettle k (levelsPend (.spoke k) (alignPt k (updPwr f e))))))).pwr = f e.pwr := by
    have hspoke := hubBlind_pwr.spoke
    rw [eachD_keeps Dev.pwr _ _ (fun _ _ => hspoke.ownChannel ..), hspoke.settlePairs, eachD_keeps Dev.pwr _ _ (fun _ _ => hspoke.notchMoved ..),
      ctlBlind_pwr.spokeSettle, ctlBlind_pwr.levelsPend]
    rfl
  refine ⟨_, rfl, ?_, ?_⟩
  all_goals
    rw [hload, hput, hput]
    all_goals
      intro x e
      split
      · rfl
      · exact ite_keeps (p := Dev.pwr) rfl rfl

theorem spokeLoaded_runs {k : Nat} {d : Dev} (hs : d.pwr.state = .spokes) :
    spokeRuns k (spokeLoaded k d) = true ∧ (spokeLoaded k d).pwr.state = .spokes := by
  obtain ⟨e, hdo, hstate, hloaded⟩ := spokeLoaded_eq k d
  have hlink : linkDone e = e := if_neg (by simp [pstate, hstate, hs])
  have hready : (pstate d == .ready) = false := by simp [pstate, hs]
  rw [hdo, hready, whenD_false, hlink, spokeRuns, hloaded, hstate]
  exact ⟨by simp, hs⟩

/-! ### Precharge ends (R58, R59) -/

/-- The end of PRECHARGE is a step of the sequencer alone. -/
theorem prechargeDone_keeps {β : Type} {p : Dev → β} (hp : ∀ x d, p { d with pwr := x } = p d) (d : Dev) : p (prechargeDone d) = p d :=
  ite_keeps (hp _ d) rfl

theorem reportBlind_getSpoke (k : Nat) : ReportBlind (getSpoke k) := by constructor <;> (intros; rfl)

theorem getSpoke_bitF (j : Nat) (f : Fld) (b : Nat) (on : Bool) (d : Dev) : getSpoke j (bitF f b on d) = getSpoke j d := by
  rw [getSpoke, bitF_spokes, getSpoke]

/-- The boost of a spoke whose precharge has ended at a rail, its bit in PWR_STATE noted. -/
theorem railNoted {k : Nat} (hk : k - 1 < 7) (rail : Nat) {f : Fld} (hf : f.lo + f.len ≤ 32) (hlen : f.len = 7) (d : Dev) :
    let e := bitF f (k - 1) true (updBoost k (fun b => { b with rail := rail, charging := false }) d)
    bitOf f (k - 1) e = true ∧ (getSpoke k e).boost.rail = rail ∧ (getSpoke k e).boost.charging = false := by
  have hspoke (g : Boost → Boost) : (getSpoke k (updBoost k g d)).boost = g (getSpoke k d).boost := by rw [updBoost, getSpoke_updSpoke]
  dsimp only
  rw [getSpoke_bitF, hspoke, bitOf_bitF _ _ _ _ _ hf (by omega), if_pos rfl]
  exact ⟨rfl, rfl, rfl⟩

/-! ### Self-test (R62, R63, R530, R531) -/

/-- A self-test that is over. -/
def testOver (d : Dev) : Dev := updPwr (fun p => { p with testing := false }) d

theorem exec_selftestDone_passed {loads : List (Nat × List RefMeas)} {s : State} (hs : s.dev.pwr.state = .selftest) :
    exec (.selftestDone loads [] none) s = .next { s with dev := finishReady (eachD loads (fun x => spokeLoads x.1 x.2) (testOver s.dev)) } := by
  rw [exec_selftestDone, execSelftestDone, run_next]
  exact congrArg (fun e : Dev => (Host.Outcome.next { s with dev := e } : Host.Outcome State Fault Refusal)) (if_neg (by simp [pstate, hs]))

theorem exec_selftestDone_device {n : Nat} {s : State} (hs : s.dev.pwr.state = .selftest) :
    exec (.selftestDone [] [] (some n)) s = .next { s with dev := enterSafe 5 (logEvent 0x0108 6 ⟨0, 0, 0⟩ n 0 0 (testOver s.dev)) } := by
  rw [exec_selftestDone, execSelftestDone, run_next]
  exact congrArg (fun e : Dev => (Host.Outcome.next { s with dev := e } : Host.Outcome State Fault Refusal)) (if_neg (by simp [pstate, hs]))

/-- What a reference-load test that no channel fails leaves: the measures of its spoke alone. -/
theorem SpokeBlind.spokeLoads_passed {β : Type} {p : Dev → β} (hp : SpokeBlind p) {k : Nat} {tests : List RefMeas} {d : Dev}
    (hpass : (tests.any fun x => refStep x != 0) = false) : p (spokeLoads k tests d) = p d := by
  unfold spokeLoads
  refine ite_keeps rfl ?_
  dsimp only
  rw [if_neg (by simp [hpass])]
  exact eachD_keeps p _ _ (fun _ _ => hp.testRds ..) d

/-- A powered spoke with a channel that fails is isolated, its measures and a free number for the record aside. -/
theorem spokeLoads_failed {k : Nat} {tests : List RefMeas} {d : Dev} (hon : d.pwr.spokeOn.contains k = true)
    (hfail : (tests.any fun x => refStep x != 0) = true) : ∃ v n, spokeLoads k tests d = spokeFails k v { eachD tests (testRds k) d with free := n } := by
  unfold spokeLoads
  rw [if_neg (by simpa using hon)]
  dsimp only
  rw [if_pos hfail]
  exact ⟨_, _, rfl⟩

theorem spokeBlind_isolatedField : SpokeBlind (getF F.PWR_STATE.ISOLATED) where
  toReportBlind := reportBlind_field (by decide)
  spokeRegs r w d h := by
    rw [getF, rget_rput_other _ _ _ _ (fun e => absurd (e ▸ h) (by decide)), getF]
  free _ _ := rfl
  spokes _ _ := rfl
  waiting _ _ _ := rfl

/-- Make-ready ends in READY with the isolated spokes as they were. -/
theorem finishReady_isolated {k : Nat} {d : Dev} (hc : getF F.PWR_CAUSE.FW_COMBO d = 0) (ha : getF F.PWR_CAUSE.ABI d = 0) :
    isIsolated k (finishReady d) = isIsolated k d := by
  rw [isIsolated, isIsolated, finishReady_open hc ha]
  refine bitOf_of_getF (((soxBlind_field (by decide)).enterReady _).trans ?_)
  exact prechargeAll_keeps (p := getF F.PWR_STATE.ISOLATED) (fun _ _ => rfl) (fun _ _ => rfl) _

/-- The device on which a self-test that found what it found makes ready. -/
theorem selftest_ends {k : Nat} {tests : List RefMeas} {d : Dev} (hs : d.pwr.state = .selftest) (hc : getF F.PWR_CAUSE.FW_COMBO d = 0)
    (ha : getF F.PWR_CAUSE.ABI d = 0) (hk : k - 1 < 7) (hon : d.pwr.spokeOn.contains k = true) (hi : isIsolated k d = false) :
    let e := spokeLoads k tests d
    getF F.PWR_CAUSE.FW_COMBO e = 0 ∧ getF F.PWR_CAUSE.ABI e = 0 ∧ isIsolated k e = tests.any fun x => refStep x != 0 := by
  have hmeas {β : Type} {p : Dev → β} (hp : SpokeBlind p) (n : Nat) : p { eachD tests (testRds k) d with free := n } = p d :=
    (hp.free _ _).trans (eachD_keeps p _ _ (fun _ _ => hp.testRds ..) d)
  have hcombo := hubBlind_cause F.PWR_CAUSE.FW_COMBO rfl
  have habi := hubBlind_cause F.PWR_CAUSE.ABI rfl
  cases hfail : tests.any fun x => refStep x != 0 with
  | false =>
    refine ⟨(hcombo.spoke.spokeLoads_passed hfail).trans hc, (habi.spoke.spokeLoads_passed hfail).trans ha, ?_⟩
    exact (bitOf_of_getF (spokeBlind_isolatedField.spokeLoads_passed hfail)).trans hi
  | true =>
    obtain ⟨v, n, hdo⟩ := spokeLoads_failed hon hfail
    have hstate : ({ eachD tests (testRds k) d with free := n } : Dev).pwr.state = .selftest := by rw [hmeas hubBlind_pwr.spoke, hs]
    have hiso : isIsolated k { eachD tests (testRds k) d with free := n } = false := (bitOf_of_getF (hmeas spokeBlind_isolatedField n)).trans hi
    dsimp only
    rw [hdo, spokeFails, isolate_settled hiso (by rw [hstate]; decide) (by rw [hstate]; decide), hcombo.logEvent, habi.logEvent, getF_isolated rfl,
      getF_isolated rfl, hmeas hcombo.spoke, hmeas habi.spoke, isIsolated, bitOf_of_getF ((reportBlind_field (by decide)).logEvent ..)]
    exact ⟨hc, ha, isolated_bit hk 2 _⟩

/-! ### SPOKE_RESET (R85, R475, R479, R506) -/

/-- A spoke about to be reset: a loop-back, its counters, and what runs on it have ended. -/
def spokeCleared (k : Nat) (d : Dev) : Dev :=
  d |> endLoopback 0 |> whenD (isIsolated k d) (clearInst 7 (k - 1)) |> clearInst 5 (k - 1) |> endSpokeIvs k |> timeoutLoops k

theorem HubBlind.spokeCleared {β : Type} {p : Dev → β} (hp : HubBlind p) (k : Nat) (d : Dev) : p (spokeCleared k d) = p d := by
  have hinst (c i : Nat) (e : Dev) : p (clearInst c i e) = p e := hp.health _ e
  rw [Proofs.spokeCleared, hp.timeoutLoops, hp.endSpokeIvs, hinst, whenD_keeps p _ _ (fun _ => hinst ..), hp.endLoopback]

theorem spokeReset_eq {k : Nat} {d : Dev} (hok : spokeResetOk k d = true) :
    spokeReset k d = spokeSwitch k (bitF F.PWR_STATE.ISOLATED (k - 1) false (spokeOff k (spokeCleared k d))) := if_neg (by simp [hok])

/-- The states in which SPOKE_RESET is taken. -/
theorem spokeResetOk_of {k : Nat} {d : Dev} (h : d.pwr.state = .ready ∨ d.pwr.state = .restricted ∨ d.pwr.state = .safe ∨
    (isIsolated k d = true ∧ d.pwr.state ∉ [.armed, .cold, .parked])) : spokeResetOk k d = true := by
  rcases h with h | h | h | ⟨hi, h⟩
  · simp [spokeResetOk, pstate, h]
  · simp [spokeResetOk, pstate, h]
  · simp [spokeResetOk, pstate, h]
  · simpa [spokeResetOk, pstate, hi, and_assoc] using h

/-- In ARMED, and for a spoke the part lacks, it is refused. -/
theorem spokeResetCmd_refused {k : Nat} {d : Dev} (h : d.pwr.state = .armed ∨ hasSpoke k d = false) :
    spokeResetCmd k d = raise F.PWR_ARM.CMD_REFUSED d := by
  rcases h with harmed | hk
  · have hno : spokeResetOk k d = false := by simp [spokeResetOk, pstate, harmed]
    simp [spokeResetCmd, spokeReset, hno]
  · simp [spokeResetCmd, hk]

/-- A spoke that is reset has its power again, is not loaded, and has 100 µs to train. -/
theorem spokeReset_facts {k : Nat} {d : Dev} (hok : spokeResetOk k d = true) : let t := spokeReset k d
    t.pwr.spokeOn.contains k = true ∧ spokeRuns k t = false ∧ kget t.pwr.trainBy k 0 = d.pt + 25000 ∧ t.pwr.state = d.pwr.state := by
  have hpt : (bitF F.PWR_STATE.ISOLATED (k - 1) false (spokeOff k (spokeCleared k d))).pt = d.pt := by
    rw [bitF_pt, spokeOff_pt, hubBlind_pt.spokeCleared]
  have hloaded : (bitF F.PWR_STATE.ISOLATED (k - 1) false (spokeOff k (spokeCleared k d))).pwr.loaded = d.pwr.loaded.filter (· != k) := by
    rw [bitF_pwr, spokeOff_loaded, hubBlind_pwr.spokeCleared]
  have hstate : (bitF F.PWR_STATE.ISOLATED (k - 1) false (spokeOff k (spokeCleared k d))).pwr.state = d.pwr.state := by
    rw [bitF_pwr, spokeOff_state, hubBlind_pwr.spokeCleared]
  dsimp only
  rw [spokeReset_eq hok]
  generalize bitF F.PWR_STATE.ISOLATED (k - 1) false (spokeOff k (spokeCleared k d)) = e at hpt hloaded hstate ⊢
  rw [spokeSwitch, updPwr_pwr, spokeRuns, updPwr_pwr, kget_kins_same, hpt, hloaded, hstate]
  exact ⟨by simp, by simp, rfl, rfl⟩

/-! ### The obligation -/

/-- Settles O5: the commands of make-ready by the branch their premises choose, isolation by what it leaves of the sequencer and of PWR_STATE. -/
theorem spokesAreBroughtUpAndReset : Obligations.SpokesAreBroughtUpAndReset := by
  refine ⟨fun s => ⟨fun hs hslot hlt hi hoff => ?slot, fun hs hslot hlt hi => ?stays, fun hs hslot hlast hi hoff hruns => ?last,
      fun k e hk htrain hpt => ?trained, fun k e hk htrain hpt hi hs => ?untrained, fun k hk hup hon hruns hs => ?loaded,
      fun k rail hk hpre hrail => ?rail, fun k rail e hk hpre hpt => ?norail⟩,
    fun s => ⟨fun hs => ?selftest, fun hs => ?notReady, fun hs hc ha => ?passed, fun n hs => ?device, fun k tests hs hc ha hk hon hi => ?load,
      fun k hk hs => ?reset, fun k hs => ?refused⟩⟩
  case slot =>
    refine ⟨_, exec_spokeSlot hs hslot (Nat.le_of_lt hlt), rfl, ?_⟩
    dsimp only
    rw [if_neg (by rw [nSpokes_spokeSlot]; omega), spokeSlot_switches hi hoff]
    exact ⟨rfl, hs, rfl, kget_kins_same .., rfl⟩
  case stays =>
    rw [exec_spokeSlot hs hslot (Nat.le_of_lt hlt), if_neg (by rw [nSpokes_spokeSlot]; omega), spokeSlot_isolated hi]
  case last =>
    refine ⟨_, exec_spokeSlot hs hslot (Nat.le_of_eq hlast), rfl, ?_⟩
    dsimp only
    rw [if_pos (by rw [nSpokes_spokeSlot]; exact hlast), linkDone_spokeSlot hi hoff hruns hlast, spokeSlot_switches hi hoff]
    exact ⟨rfl, rfl, kget_kins_same ..⟩
  case trained =>
    have hk7 := (hasSpoke_bounds hk).2
    refine completes_onSpoke hk (exec_spokeLinkTrained k s) ?_
    simp only [htrain, if_neg (Nat.not_lt.mpr hpt)]
    refine ⟨?_, ?_, ?_⟩
    · rw [bitOf_bitF _ _ _ _ _ (by decide) (by change k - 1 < 7; omega), if_pos rfl]
    · rw [bitF_pwr]
      rfl
    · rw [bitF_pwr]
      rfl
  case untrained =>
    have hk7 := (hasSpoke_bounds hk).2
    refine completes_onSpoke hk (exec_spokeTrainTimeout k s) ?_
    simp only [htrain, if_neg (Nat.not_le.mpr hpt)]
    rw [isolate_settled hi (by rw [hs]; decide) (by rw [hs]; decide), isolated_state,
      isolated_sees (p := Pwr.spokeOn) (fun _ _ => rfl)]
    exact ⟨isolated_bit (by omega) .., hs, by simp [darkPwr]⟩
  case loaded =>
    have hgo : ((getLink k s.dev).up && s.dev.pwr.spokeOn.contains k && !spokeRuns k s.dev) = true := by rw [hup, hon, hruns]; rfl
    refine completes_onSpoke hk (exec_spokeLoaded k s) ?_
    dsimp only
    rw [if_pos hgo]
    exact spokeLoaded_runs hs
  case rail =>
    have hk7 := (hasSpoke_bounds hk).2
    have hgo : ((s.dev.pwr.prechargeBy.any fun e => e.1 == k) && decide (2 * getF (F.DRV_BOOST_CFG.TARGET k) s.dev ≤ rail)) = true := by
      rw [hpre, decide_eq_true hrail]
      rfl
    refine completes_onSpoke hk (exec_railAtTarget k rail s) ?_
    dsimp only
    rw [if_pos hgo, prechargeDone_keeps (p := bitOf F.PWR_STATE.PRECHARGED (k - 1)) (fun _ _ => rfl),
      prechargeDone_keeps (p := getSpoke k) (fun _ _ => rfl)]
    exact railNoted (by omega) rail (by decide) rfl _
  case norail =>
    have hk7 := (hasSpoke_bounds hk).2
    refine completes_onSpoke hk (exec_prechargeTimeout k rail s) ?_
    simp only [hpre, if_neg (Nat.not_lt.mpr hpt)]
    rw [prechargeDone_keeps (p := bitOf F.PWR_STATE.PRECHARGE_FAIL (k - 1)) (fun _ _ => rfl),
      prechargeDone_keeps (p := getSpoke k) (fun _ _ => rfl), bitOf_of_getF ((reportBlind_field (by decide)).logEvent ..),
      (reportBlind_getSpoke k).logEvent]
    exact railNoted (by omega) rail (by decide) rfl _
  case selftest =>
    have hdo : selftestCmd s.dev = updPwr (fun p => { p with testing := true }) (setState .selftest s.dev) := if_pos hs
    refine completes_run (exec_selftest s) ?_
    dsimp only
    rw [hdo]
    exact ⟨rfl, rfl, rfl⟩
  case notReady => simp [exec_selftest, execSelftest, run_next, selftestCmd, pstate, hs]
  case passed => exact completes_next (exec_selftestDone_passed hs) (finishReady_state hc ha)
  case device =>
    have hstate : (logEvent 0x0108 6 ⟨0, 0, 0⟩ n 0 0 (testOver s.dev)).pwr.state = .selftest := by
      rw [reportBlind_pwr.logEvent]
      exact hs
    have hcan : canEnterSafe (logEvent 0x0108 6 ⟨0, 0, 0⟩ n 0 0 (testOver s.dev)) := by simp [canEnterSafe, hstate]
    obtain ⟨hpwr, -⟩ := enterSafe_enters hcan (b := 5) (by decide)
    refine completes_next (exec_selftestDone_device hs) ?_
    dsimp only
    rw [hpwr]
    exact ⟨rfl, rfl⟩
  case load =>
    have hk7 := (hasSpoke_bounds hk).2
    obtain ⟨hc', ha', hbit⟩ := selftest_ends (d := testOver s.dev) (tests := tests) hs hc ha (by omega) hon hi
    exact completes_next (exec_selftestDone_passed hs) ⟨(finishReady_state hc' ha').1, (finishReady_isolated hc' ha').trans hbit⟩
  case reset =>
    have hdo : spokeResetCmd k s.dev = spokeReset k s.dev := if_pos hk
    refine completes_run (exec_spokeReset k s) ?_
    dsimp only
    rw [hdo]
    exact spokeReset_facts (spokeResetOk_of hs)
  case refused => rw [exec_spokeReset, execSpokeReset, run_next, spokeResetCmd_refused hs]

end Sys2Proof.Proofs
end

section
/-! Reads of host memory (R86) and the doorbell polls (R90, R97 to R100). -/
namespace Sys2Proof.Proofs
open Sys2Proof Sys2Proof.Machine Sys2Proof.Laws

/-- A command about unit n of the hub is carried out, and what it makes of the device meets P. -/
theorem completes_onHub {c : Instr} {n m : Nat} {f : Dev → Dev} {s : State} {P : State → Prop} (hn : n < m) (hc : exec c s = onHub n m f s)
    (h : P { s with dev := f s.dev }) : Completes c s P :=
  ⟨_, hc.trans (onHub_present n m f s hn), rfl, h⟩

/-- As `completes_onHub`, for an effect that crosses a protection boundary. -/
theorem delivers_onHub {c : Instr} {n m : Nat} {f : Dev → Dev} {s : State} {P : State → Prop} (hn : n < m) (hc : exec c s = onHub n m f s)
    (h : s.dev.ecc = [] → P { s with dev := f s.dev }) : Delivers c s P :=
  completes_onHub (P := fun t => s.dev.ecc = [] → P t) hn hc h

/-! ### The reads outstanding -/

/-- The device with other reads outstanding and waiting, and with reads issued. -/
def withReads (reads waits : List HostRead) (es : List OutEvent) (d : Dev) : Dev :=
  { d with host := { d.host with reads := reads, readWait := waits }, out := d.out ++ es }

theorem eachD_emit {α : Type} (xs : List α) (f : α → OutEvent) (d : Dev) : eachD xs (fun x => emit (f x)) d = { d with out := d.out ++ xs.map f } := by
  induction xs generalizing d with
  | nil => simp
  | cons x xs ih => simp [ih, emit]

theorem withReads_self (d : Dev) : withReads d.host.reads d.host.readWait [] d = d := by simp [withReads]

/-- The request that a read puts on the PCIe link. -/
def readEvent (r : HostRead) : OutEvent := .hostRead r.addr r.len

theorem issueReads_eq (d : Dev) : issueReads d =
    withReads (d.host.reads ++ d.host.readWait.take (32 - d.host.reads.length)) (d.host.readWait.drop (d.host.readWait.take (32 - d.host.reads.length)).length)
      ((d.host.readWait.take (32 - d.host.reads.length)).map readEvent) d :=
  eachD_emit _ readEvent _

/-- Where no read waits for a place, none is issued. -/
theorem issueReads_idle {d : Dev} (h : d.host.readWait = []) : issueReads d = d :=
  calc issueReads d = withReads d.host.reads d.host.readWait [] d := by simp [issueReads_eq, h]
    _ = d := withReads_self d

/-- A read that ends frees its place, and may let others out. -/
theorem readEnded_reads (q : HostReq) (d : Dev) : ∃ rs ws es, readEnded q d = withReads rs ws es d := by
  unfold readEnded
  split
  · exact ⟨_, _, _, issueReads_eq _⟩
  · exact ⟨_, _, _, (withReads_self d).symm⟩

theorem readEnded_idle (q : HostReq) {d : Dev} (h : d.host.readWait = []) :
    ∃ rs, rs.length ≤ d.host.reads.length ∧ readEnded q d = withReads rs [] [] d := by
  unfold readEnded
  split
  · rename_i r _
    refine ⟨d.host.reads.erase r, List.length_erase_le, ?_⟩
    rw [issueReads_idle (by exact h)]
    simp [withReads, updHost, h]
  · exact ⟨d.host.reads, le_rfl, by simp [withReads, ← h]⟩

/-- The reads of a buffer end together. -/
theorem readsEnded_reads (q : HostReq) (d : Dev) : ∃ rs ws es, readsEnded q d = withReads rs ws es d := by
  unfold readsEnded
  dsimp only
  rw [show (fun r : HostRead => emit (.hostRead r.addr r.len)) = fun r => emit (readEvent r) from rfl, eachD_emit, issueReads_eq]
  exact ⟨_, _, _, by simp only [withReads, updHost, List.append_assoc]; rfl⟩

/-- A read that ends leaves the rings, the registers, the sequencer and the upset words alone. -/
theorem withReads_keeps {rs ws : List HostRead} {es : List OutEvent} {d e : Dev} (h : e = withReads rs ws es d) :
    e.host.rings = d.host.rings ∧ e.host.fetchCount = d.host.fetchCount ∧ e.regs = d.regs ∧ e.ecc = d.ecc ∧ e.pwr = d.pwr := by
  subst h
  exact ⟨rfl, rfl, rfl, rfl, rfl⟩

/-- A read short enough for one request goes out at once where there is a place for it. -/
theorem readHost_one (q : HostReq) (a : Nat) {n : Nat} (hn : 0 < n) (hlen : n ≤ 128) {d : Dev} (hw : d.host.readWait = []) (hr : d.host.reads.length < 32) :
    readHost q a n d = withReads (d.host.reads ++ [⟨q, a, n⟩]) [] [.hostRead a n] d := by
  have hsize : 128 ≤ max 128 (min 512 d.pcie.mrrs) := le_max_left ..
  have hcount : (n + max 128 (min 512 d.pcie.mrrs) - 1) / max 128 (min 512 d.pcie.mrrs) = 1 :=
    Nat.div_eq_of_lt_le (by omega) (by omega)
  have htake : (1 : Nat) ≤ 32 - d.host.reads.length := by omega
  have hmin : min (max 128 (min 512 d.pcie.mrrs)) n = n := min_eq_right (hlen.trans hsize)
  simp only [readHost, hcount, issueReads_eq, updHost, hw]
  simp [withReads, hmin, List.take_of_length_le, htake, readEvent]

section
variable (reads waits : List HostRead) (es : List OutEvent) (d : Dev)

@[simp] theorem withReads_host : (withReads reads waits es d).host = { d.host with reads := reads, readWait := waits } := rfl
@[simp] theorem withReads_regs : (withReads reads waits es d).regs = d.regs := rfl
@[simp] theorem withReads_pcie : (withReads reads waits es d).pcie = d.pcie := rfl
@[simp] theorem withReads_out : (withReads reads waits es d).out = d.out ++ es := rfl
@[simp] theorem getF_withReads (f : Fld) : getF f (withReads reads waits es d) = getF f d := rfl

end

@[simp] theorem getF_updHost (f : Fld) (g : HostIf → HostIf) (d : Dev) : getF f (updHost g d) = getF f d := rfl

/-! ### Polls -/

theorem doorbellPoll_reads {d : Dev} (hw : d.host.readWait = []) (hr : d.host.reads.length < 32) (hrun : anyRunning d = true) (hlive : hostReachable d = true)
    (hp : d.host.polling = false) (hdue : d.host.nextPoll ≤ d.pt) :
    doorbellPoll d = withReads (d.host.reads ++ [⟨.doorbell, dbBase d + 128, 4⟩]) [] [.hostRead (dbBase d + 128) 4]
      (updHost (fun h => { h with polling := true, readingTails := false, nextPoll := d.pt + 25 * getF F.HIF_CFG.DB_PERIOD d }) d) := by
  have hgo : (anyRunning d && hostReachable d && !d.host.polling && decide (d.host.nextPoll ≤ d.pt)) = true := by simp [hrun, hlive, hp, hdue]
  unfold doorbellPoll
  dsimp only
  rw [if_pos hgo]
  exact readHost_one _ _ (by decide) (by decide) hw hr

/-- A poll that ends well leaves the rings, the registers and the boundary alone. -/
theorem pollEnd_good (d : Dev) : pollEnd false d =
    updHost (fun h => { h with polling := false, readingTails := false, lateStart := [], failedPolls := 0 }) d := rfl

/-- The first and second failed poll in a row set DB_READ_ERR and nothing more (R100). -/
theorem pollEnd_failed {d : Dev} (h : d.host.failedPolls < 2) : pollEnd true d = raise F.HIF_STATUS.DB_READ_ERR
    (updHost (fun h => { h with polling := false, readingTails := false, lateStart := [], failedPolls := h.failedPolls + 1 }) d) := by
  have hfew : ¬ 3 ≤ d.host.failedPolls + 1 := by omega
  simp [pollEnd, updHost, hfew]

section
variable {bs : List Byte} {d : Dev} (hp : d.host.polling = true)
include hp

theorem doorbellRead_d3hot (r : ReadResult) (hw : d.host.readWait = []) (hd : d.pcie.d3hot = true) :
    ∃ rs, doorbellRead r d = pollEnd false (withReads rs [] [] d) := by
  obtain ⟨rs, -, he⟩ := readEnded_idle .doorbell hw
  exact ⟨rs, by simp [doorbellRead, he, hp, hd]⟩

theorem doorbellRead_mismatch (hw : d.host.readWait = []) (hd : d.pcie.d3hot = false) (ht : d.host.readingTails = false)
    (hepoch : leAt bs 2 2 ≠ getF F.HIF_EPOCH.EPOCH d) :
    ∃ rs, doorbellRead (.ok bs) d = pollEnd false (countF F.HIF_STATUS.MISMATCH_COUNT (raise F.HIF_STATUS.EPOCH_MISMATCH (withReads rs [] [] d))) := by
  obtain ⟨rs, -, he⟩ := readEnded_idle .doorbell hw
  exact ⟨rs, by simp [doorbellRead, he, hp, hd, ht, hepoch]⟩

/-- A change word that moved, or a ring started since, makes the tails be read (R97, R132). -/
theorem doorbellRead_changed (hw : d.host.readWait = []) (hr : d.host.reads.length < 32) (hd : d.pcie.d3hot = false) (ht : d.host.readingTails = false)
    (hepoch : leAt bs 2 2 = getF F.HIF_EPOCH.EPOCH d) (hc : leAt bs 0 2 ≠ d.host.lastChange ∨ d.host.startedSince = true) :
    ∃ rs qs, doorbellRead (.ok bs) d =
      withReads qs [] [.hostRead (dbBase d) 128] (updHost (fun h => { h with readingTails := true, changeSeen := leAt bs 0 2 }) (withReads rs [] [] d)) := by
  obtain ⟨rs, hle, he⟩ := readEnded_idle .doorbell hw
  have hread := readHost_one .doorbell (dbBase d) (n := 128) (by decide) (by decide)
    (d := updHost (fun h => { h with readingTails := true, changeSeen := leAt bs 0 2 }) (withReads rs [] [] d)) rfl (Nat.lt_of_le_of_lt hle hr)
  refine ⟨rs, _, Eq.trans ?_ hread⟩
  simp [doorbellRead, he, hp, hd, ht, hepoch, hc]
  rfl

theorem doorbellRead_failed {r : ReadResult} (hd : d.pcie.d3hot = false) (hr : r = .unsupported ∨ r = .abort ∨ r = .poisoned) :
    ∃ rs ws es, doorbellRead r d = pollEnd true (withReads rs ws es d) := by
  obtain ⟨rs, ws, es, he⟩ := readEnded_reads .doorbell d
  refine ⟨rs, ws, es, ?_⟩
  rcases hr with rfl | rfl | rfl <;> simp [doorbellRead, he, hp, hd]

theorem requestTimeout_doorbell : ∃ rs ws es, requestTimeout .doorbell d = pollEnd true (withReads rs ws es d) := by
  obtain ⟨rs, ws, es, he⟩ := readEnded_reads .doorbell d
  exact ⟨rs, ws, es, by simp [requestTimeout, he, hp]⟩

end

/-- A poll that fails, and not for the third time in a row, has ended, is counted and noted. -/
theorem pollEnd_notes {d : Dev} (h : d.host.failedPolls < 2) : (pollEnd true d).host.polling = false ∧
    (pollEnd true d).host.failedPolls = d.host.failedPolls + 1 ∧ getF F.HIF_STATUS.DB_READ_ERR (pollEnd true d) = 1 := by
  rw [pollEnd_failed h]
  exact ⟨rfl, rfl, getF_raise_same _ _ (by decide) rfl⟩

/-! ### The obligation -/

/-- Settles O28: a poll begins and goes on with one read (`readHost_one`), a read that ends leaves all but the places alone (`readEnded_idle`), and
the end of a poll is `pollEnd`. -/
theorem doorbellPolling : Obligations.DoorbellPolling := by
  refine fun s => ⟨fun hw hr hrun hlive hp hdue => ?due, fun bs hw hp hd ht he => ?mismatch, fun bs hw hr hp hd ht he hc => ?changed,
    fun r hw hp hd => ?d3hot, fun r hp hd hr hf => ?failed, fun hp hf => ?timeout⟩
  case due =>
    refine completes_run (exec_doorbellPoll s) ?_
    dsimp only
    rw [doorbellPoll_reads hw hr hrun hlive hp hdue]
    exact ⟨rfl, rfl, rfl, rfl⟩
  case mismatch =>
    obtain ⟨rs, hread⟩ := doorbellRead_mismatch hp hw hd ht he
    refine completes_run (exec_doorbellReadComplete (.ok bs) s) ?_
    dsimp only
    rw [hread, pollEnd_good]
    refine ⟨rfl, by simp, ?_⟩
    rw [getF_updHost]
    exact (getF_setF_otherField _ _ (by decide) (by decide)).trans (getF_raise_same _ _ (by decide) rfl)
  case changed =>
    obtain ⟨rs, qs, hread⟩ := doorbellRead_changed hp hw hr hd ht he hc
    refine completes_run (exec_doorbellReadComplete (.ok bs) s) ?_
    dsimp only
    rw [hread]
    exact ⟨rfl, rfl, by simp⟩
  case d3hot =>
    obtain ⟨rs, hread⟩ := doorbellRead_d3hot hp r hw hd
    refine completes_run (exec_doorbellReadComplete r s) ?_
    dsimp only
    rw [hread, pollEnd_good]
    exact ⟨rfl, by simp, rfl⟩
  case failed =>
    obtain ⟨rs, ws, es, hread⟩ := doorbellRead_failed hp hd hr
    refine completes_run (exec_doorbellReadComplete r s) ?_
    dsimp only
    rw [hread]
    exact pollEnd_notes hf
  case timeout =>
    obtain ⟨rs, ws, es, hread⟩ := requestTimeout_doorbell hp
    refine completes_run (exec_completionTimeout .doorbell s) ?_
    dsimp only
    rw [hread]
    obtain ⟨hpoll, -, herr⟩ := pollEnd_notes (d := withReads rs ws es s.dev) hf
    exact ⟨hpoll, herr⟩

end Sys2Proof.Proofs
end

section
/-! What a completion reaches (R42 to R45, R121 to R128): the words of its ring, host memory and the pending messages, and where a check of its
words fails the status register of a ring and the reports. `RingBlind` observations see nothing of it. -/
namespace Sys2Proof.Proofs
open Sys2Proof Sys2Proof.Machine Sys2Proof.Laws

structure RingBlind {β : Type} (p : Dev → β) : Prop extends ReportBlind p where
  status : ∀ i w d, p (rput (R.HIF_RING_STATUS i) w d) = p d
  ecc : ∀ l d, p { d with ecc := l } = p d
  out : ∀ l d, p { d with out := l } = p d
  pcie : ∀ x d, p { d with pcie := x } = p d
  rings : ∀ r d, p { d with host := { d.host with rings := r } } = p d

theorem ringBlind_field {f : Fld} (h : f.reg.off ∉ reportRegs) (hs : ∀ i, f.reg.off ≠ (R.HIF_RING_STATUS i).off) : RingBlind (getF f) where
  toReportBlind := reportBlind_field h
  status i _ _ := by simp [getF, rget_rput_other _ _ _ _ (hs i)]
  ecc _ _ := rfl
  out _ _ := rfl
  pcie _ _ := rfl
  rings _ _ := rfl

namespace RingBlind
variable {β : Type} {p : Dev → β} (hp : RingBlind p)
include hp

theorem emit (e : OutEvent) (d : Dev) : p (emit e d) = p d := hp.out _ _

theorem updRing (i : Nat) (f : Ring → Ring) (d : Dev) : p (updRing i f d) = p d := hp.rings _ _

theorem checkEcc (row u die : Nat) {passed failed : Dev → Dev} (hpass : ∀ d, p (passed d) = p d) (hfail : ∀ d, p (failed d) = p d) (d : Dev) :
    p (checkEcc row u die passed failed d) = p d := by
  unfold Machine.checkEcc
  split
  · exact hpass d
  · exact ite_keeps ((hpass _).trans ((hp.healthEvent ..).trans (hp.ecc _ _))) ((hfail _).trans (hp.ecc _ _))

theorem crossEcc (row u die r q : Nat) {passed failed : Dev → Dev} (hpass : ∀ d, p (passed d) = p d) (hfail : ∀ d, p (failed d) = p d) (d : Dev) :
    p (crossEcc row u die r q passed failed d) = p d :=
  hp.checkEcc row u die hpass (fun _ => (hfail _).trans (hp.logEvent ..)) d

theorem ringError (i c q : Nat) (d : Dev) : p (ringError i c q d) = p d :=
  ite_keeps ((hp.logEvent ..).trans ((hp.status ..).trans ((hp.status ..).trans (hp.status ..)))) rfl

theorem writeProgress (slot v : Nat) (d : Dev) : p (writeProgress slot v d) = p d :=
  hp.crossEcc _ _ _ _ _ (fun _ => hp.emit ..) (fun _ => hp.ringError ..) d

theorem msixSend (v : Nat) (d : Dev) : p (msixSend v d) = p d := by
  have hgo : p (msixGo v d) = p d := ite_keeps (hp.out _ _) ((hp.pcie _ _).trans (hp.emit ..))
  exact ite_keeps hgo (ite_keeps rfl (hp.pcie _ _))

theorem ringMessage (i : Nat) (d : Dev) : p (ringMessage i d) = p d := (hp.msixSend ..).trans (hp.updRing ..)

theorem moderate (i : Nat) (b : Bool) (d : Dev) : p (moderate i b d) = p d :=
  ite_keeps (hp.updRing ..) (ite_keeps ((hp.ringMessage ..).trans (hp.updRing ..)) (hp.updRing ..))

theorem writeCompletion (i : Nat) (x : InDesc) (st dt : Nat) (bs : List Byte) (d : Dev) : p (writeCompletion i x st dt bs d) = p d :=
  (hp.emit ..).trans ((eachD_keeps p _ _ (fun _ _ => hp.emit ..) _).trans (hp.updRing ..))

theorem putCompletion (i : Nat) (x : InDesc) (st dt : Nat) (bs : List Byte) (d : Dev) : p (putCompletion i x st dt bs d) = p d := by
  have hcross := hp.crossEcc 8 i 0 i x.index (fun _ => hp.writeCompletion i x st dt bs _) (fun _ => hp.ringError i 5 x.index _) d
  refine ite_keeps (Eq.trans (ite_keeps ?_ rfl) hcross) rfl
  exact (whenD_keeps p _ _ (fun _ => hp.moderate ..) _).trans (hp.writeProgress ..)

theorem complete (i j st dt : Nat) (bs : List Byte) (d : Dev) : p (complete i j st dt bs d) = p d := by
  unfold Machine.complete
  split
  · rfl
  · exact ite_keeps rfl (hp.putCompletion ..)

end RingBlind

/-! ### Rings and their state -/

@[simp] theorem getRing_updRing (i : Nat) (f : Ring → Ring) (d : Dev) : getRing i (updRing i f d) = f (getRing i d) := kget_kupd_same ..

theorem getRing_of_rings {i : Nat} {d e : Dev} (h : e.host.rings = d.host.rings) : getRing i e = getRing i d := by
  rw [getRing, h, getRing]

theorem inFlight_of_ring {i j : Nat} {d e : Dev} (h : getRing i e = getRing i d) : inFlight i j e = inFlight i j d := by
  rw [inFlight, h, inFlight]

theorem ringState_of_field {i : Nat} {d e : Dev} (h : getF (F.HIF_RING_STATUS.STATE i) e = getF (F.HIF_RING_STATUS.STATE i) d) :
    ringState i e = ringState i d := by
  rw [ringState, h, ringState]

theorem ringState_of_regs {i : Nat} {d e : Dev} (h : e.regs = d.regs) : ringState i e = ringState i d :=
  ringState_of_field (getF_of_regs _ h)

theorem ringLive_of_state {i : Nat} {d e : Dev} (h : ringState i e = ringState i d) : ringLive i e = ringLive i d := by
  rw [ringLive, h, ringLive]

@[simp] theorem ringState_setRingState (i : Nat) (s : RingState) (d : Dev) : ringState i (setRingState i s d) = s := by
  have h : ∀ n, getF (F.HIF_RING_STATUS.STATE i) (setF (F.HIF_RING_STATUS.STATE i) n d) = n % 4 := fun n =>
    getF_setF_same _ _ _ (by simp [F.HIF_RING_STATUS.STATE])
  cases s <;> simp [ringState, setRingState, h]

/-- Another field of the status register leaves the state of its ring alone. -/
theorem ringState_setF {i : Nat} {f : Fld} (v : Nat) (d : Dev) (hf : f.reg = R.HIF_RING_STATUS i) (hlo : 2 ≤ f.lo) (h : f.lo + f.len ≤ 32) :
    ringState i (setF f v d) = ringState i d :=
  ringState_of_field (getF_setF_otherField _ _ h (.inr ⟨hf.symm, .inl hlo⟩))

theorem ringState_raise {i : Nat} {f : Fld} (d : Dev) (hf : f.reg = R.HIF_RING_STATUS i) (hlo : 2 ≤ f.lo) (h : f.lo + f.len ≤ 32) :
    ringState i (raise f d) = ringState i d :=
  ringState_setF 1 d hf hlo h

theorem status_notReport {i : Nat} (hi : i < 32) : (R.HIF_RING_STATUS i).off ∉ reportRegs := by
  change 0x111C + 0x20 * i ∉ [R.LOG_GDROP_LO.off, R.LOG_GDROP_HI.off, R.LOG_STATUS.off, R.HLT_STATUS.off]
  simp only [R.LOG_GDROP_LO, R.LOG_GDROP_HI, R.LOG_STATUS, R.HLT_STATUS, List.mem_cons, List.not_mem_nil, or_false]
  omega

/-- No report reaches a field of the status register of a ring. -/
theorem reportBlind_status {i : Nat} (hi : i < 32) {f : Fld} (hf : f.reg = R.HIF_RING_STATUS i) : ReportBlind (getF f) :=
  reportBlind_field (hf ▸ status_notReport hi)

theorem reportBlind_ringState {i : Nat} (hi : i < 32) : ReportBlind (ringState i) where
  regs r w d h := ringState_of_field ((reportBlind_status hi rfl).regs r w d h)
  marks _ _ := rfl
  log _ _ := rfl
  health _ _ := rfl

theorem reportBlind_getRing (i : Nat) : ReportBlind (getRing i) := by constructor <;> (intros; rfl)

/-- A ring that acts enters ERROR with its cause (R134). -/
theorem ringError_enters {i : Nat} (hi : i < 32) {d : Dev} (hl : ringLive i d = true) (c q : Nat) :
    ringState i (ringError i c q d) = .error ∧ getF (F.HIF_RING_STATUS.ERR_CAUSE i) (ringError i c q d) = c % 16 := by
  simp only [ringError, if_pos hl]
  rw [(reportBlind_ringState hi).logEvent, (reportBlind_status hi rfl).logEvent]
  constructor
  · rw [ringState_setF _ _ rfl (by simp [F.HIF_RING_STATUS.ERR_SEQ]) (by simp [F.HIF_RING_STATUS.ERR_SEQ]),
      ringState_setF _ _ rfl (by simp [F.HIF_RING_STATUS.ERR_CAUSE]) (by simp [F.HIF_RING_STATUS.ERR_CAUSE]), ringState_setRingState]
  · refine (getF_setF_otherField (f := F.HIF_RING_STATUS.ERR_SEQ i) (g := F.HIF_RING_STATUS.ERR_CAUSE i) _ _ ?_ ?_).trans ?_
    · simp [F.HIF_RING_STATUS.ERR_SEQ]
    · simp [F.HIF_RING_STATUS.ERR_SEQ, F.HIF_RING_STATUS.ERR_CAUSE]
    · exact getF_setF_same _ _ _ (by simp [F.HIF_RING_STATUS.ERR_CAUSE])

theorem ringError_ring (i c q : Nat) (d : Dev) : (ringError i c q d).host = d.host := (ringError_keeps i c q d .host (by decide)).symm

theorem ringError_out (i c q : Nat) (d : Dev) : (ringError i c q d).out = d.out := (ringError_keeps i c q d .out (by decide)).symm

/-! ### A check that passes, corrects or fails (R42 to R45) -/

section
variable {row u : Nat} {d : Dev} (die r q : Nat) (passed failed : Dev → Dev)

theorem crossEcc_good (h : upsetAt row u d = none) : crossEcc row u die r q passed failed d = passed d := by
  rw [crossEcc, checkEcc, h]

theorem crossEcc_corrected {x : Upset} (h : upsetAt row u d = some x) (hx : x.fixable = true) :
    crossEcc row u die r q passed failed d = passed (healthReport 18 die { d with ecc := d.ecc.erase x }) := by
  simp [crossEcc, checkEcc, h, hx]

theorem crossEcc_failed {x : Upset} (h : upsetAt row u d = some x) (hx : x.fixable = false) : crossEcc row u die r q passed failed d =
    failed (logEvent 0x0203 4 (crossingSrc row u die r) row r (q % 65536) { d with ecc := d.ecc.erase x }) := by
  simp [crossEcc, checkEcc, h, hx]

end

theorem upsetAt_clean (row u : Nat) {d : Dev} (h : d.ecc = []) : upsetAt row u d = none := by simp [upsetAt, h]

theorem progBase_of_regs {d e : Dev} (h : e.regs = d.regs) : progBase e = progBase d := by simp only [progBase, rget, h]

/-! ### A completion is written (R121 to R128) -/

section
variable (i : Nat) (x : InDesc) (st dt : Nat) (bs : List Byte) (d : Dev)

/-- The ring once the completion of a descriptor of it is written. -/
def completedRing (index : Nat) (r : Ring) : Ring :=
  { r with inflight := r.inflight.filter fun y => y.index != index, cqTail := (r.cqTail + 1) % 2 ^ 32 }

theorem writeCompletion_regs : (writeCompletion i x st dt bs d).regs = d.regs := (writeCompletion_keeps i x st dt bs d .regs (by decide)).1.symm

theorem writeCompletion_ecc : (writeCompletion i x st dt bs d).ecc = d.ecc := (writeCompletion_keeps i x st dt bs d .ecc (by decide)).symm

theorem getRing_writeCompletion : getRing i (writeCompletion i x st dt bs d) = completedRing x.index (getRing i d) := by
  have hhost : ∀ e, (writeHost x.addr bs e).host = e.host := fun e => (writeHost_keeps x.addr bs e .host (by decide)).symm
  simp only [writeCompletion, getRing, emit_host, hhost]
  exact getRing_updRing i _ d

/-- Moderation changes of its ring only what is not yet signalled. -/
theorem getRing_moderate {β : Type} {p : Ring → β} (hp : ∀ r u o m, p { r with unsignalled := u, oldest := o, modTime := m } = p r) (b : Bool) :
    p (getRing i (moderate i b d)) = p (getRing i d) := by
  have hmsg : ∀ e, p (getRing i (ringMessage i e)) = p (getRing i e) := fun e => by
    have hsend : (ringMessage i e).host = (updRing i (fun r => { r with unsignalled := 0, oldest := none }) e).host :=
      (msixSend_keeps _ _ .host (by decide)).symm
    rw [getRing_of_rings (congrArg HostIf.rings hsend), getRing_updRing]
    exact hp ..
  unfold moderate
  dsimp only
  have hcount : ∀ f : Ring → Ring, (∀ r, p (f r) = p r) → p (getRing i (updRing i f d)) = p (getRing i d) := fun f hf => by
    rw [getRing_updRing, hf]
  split
  · exact hcount _ fun r => hp ..
  · split
    · exact (hmsg _).trans (hcount _ fun r => hp ..)
    · exact hcount _ fun r => hp ..

/-- The entry of the progress block that follows a completion (R127). -/
def progressEvent (n : Nat) (d : Dev) : OutEvent := .hostWrite (progBase d + 4 * (32 + i)) (leBytes 4 ((n + 1) % 2 ^ 32))

variable {i x st dt bs d}

/-- A completion whose words pass, corrected on the way or not: its bytes, the progress entry and the message. -/
theorem putCompletion_passes {e : Dev} (hl : ringLive i d = true) (hstate : ringState i e = ringState i d)
    (h8 : crossEcc 8 i 0 i x.index (writeCompletion i x st dt bs) (ringError i 5 x.index) d = writeCompletion i x st dt bs e)
    (h18 : upsetAt 18 ((32 + i) % 32) e = none) :
    putCompletion i x st dt bs d =
      moderate i (st != stOk || x.irq) (emit (progressEvent i (getRing i d).cqTail e) (writeCompletion i x st dt bs e)) := by
  have hle : ringLive i (writeCompletion i x st dt bs e) = true := by
    rw [ringLive_of_state (ringState_of_regs (writeCompletion_regs i x st dt bs e)), ringLive_of_state hstate, hl]
  have hup : upsetAt 18 ((32 + i) % 32) (writeCompletion i x st dt bs e) = none := by rw [upsetAt, writeCompletion_ecc, ← upsetAt, h18]
  have hlp : ∀ v, ringLive i (emit v (writeCompletion i x st dt bs e)) = true := fun _ => hle
  simp only [putCompletion, hl, if_true, h8, hle, writeProgress, crossEcc_good _ _ _ _ _ hup, hlp, whenD_true, progressEvent,
    progBase_of_regs (writeCompletion_regs i x st dt bs e)]

/-- What moderation leaves of a ring whose completion has passed its checks. -/
theorem getRing_putCompletion_passes {e : Dev} (hl : ringLive i d = true) (hring : getRing i e = getRing i d) (hstate : ringState i e = ringState i d)
    (h8 : crossEcc 8 i 0 i x.index (writeCompletion i x st dt bs) (ringError i 5 x.index) d = writeCompletion i x st dt bs e)
    (h18 : upsetAt 18 ((32 + i) % 32) e = none) {β : Type} {p : Ring → β}
    (hp : ∀ r u o m, p { r with unsignalled := u, oldest := o, modTime := m } = p r) :
    p (getRing i (putCompletion i x st dt bs d)) = p (completedRing x.index (getRing i d)) := by
  rw [putCompletion_passes hl hstate h8 h18, getRing_moderate _ _ hp]
  change p (getRing i (writeCompletion i x st dt bs e)) = _
  rw [getRing_writeCompletion, hring]

theorem putCompletion_sound (hl : ringLive i d = true) (he : d.ecc = []) : putCompletion i x st dt bs d =
    moderate i (st != stOk || x.irq) (emit (progressEvent i (getRing i d).cqTail d) (writeCompletion i x st dt bs d)) :=
  putCompletion_passes hl rfl (crossEcc_clean _ _ _ _ _ _ _ _ he) (upsetAt_clean _ _ he)

theorem getRing_putCompletion (hl : ringLive i d = true) (he : d.ecc = []) {β : Type} {p : Ring → β}
    (hp : ∀ r u o m, p { r with unsignalled := u, oldest := o, modTime := m } = p r) :
    p (getRing i (putCompletion i x st dt bs d)) = p (completedRing x.index (getRing i d)) :=
  getRing_putCompletion_passes hl rfl rfl (crossEcc_clean _ _ _ _ _ _ _ _ he) (upsetAt_clean _ _ he) hp

variable {j : Nat}

theorem inFlight_index (h : inFlight i j d = some x) : x.index = j := by simpa using List.find?_some h

theorem complete_unfinished (hx : inFlight i j d = some x) (hs : x.stage ≠ .done) : complete i j st dt bs d = putCompletion i x st dt bs d := by
  simp [complete, hx, hs]

theorem find_completedRing (k : Nat) (r : Ring) : ((completedRing k r).inflight.find? fun y => y.index == k) = none := by
  simp [completedRing, List.find?_eq_none]

section
variable (hl : ringLive i d = true) (he : d.ecc = []) (hx : inFlight i j d = some x) (hs : x.stage ≠ .done)
include hl he hx hs

theorem getRing_complete {β : Type} {p : Ring → β} (hp : ∀ r u o m, p { r with unsignalled := u, oldest := o, modTime := m } = p r) :
    p (getRing i (complete i j st dt bs d)) = p (completedRing j (getRing i d)) := by
  rw [complete_unfinished hx hs, getRing_putCompletion hl he hp, inFlight_index hx]

/-- A descriptor that completes is in flight no more. -/
theorem inFlight_complete : inFlight i j (complete i j st dt bs d) = none := by
  rw [inFlight, getRing_complete hl he hx hs (p := Ring.inflight) (fun _ _ _ _ => rfl), find_completedRing]

end

theorem complete_regs (he : d.ecc = []) : (complete i j st dt bs d).regs = d.regs := (complete_clean i j st dt bs he .regs (by decide)).1.symm

end

end Sys2Proof.Proofs
end

section
/-! Descriptors and their buffers arrive (R101, R106 to R108, R112, R134). -/
namespace Sys2Proof.Proofs
open Sys2Proof Sys2Proof.Machine Sys2Proof.Laws

/-! ### A descriptor arrives -/

section
variable (i : Nat) (bs : List Byte) (d : Dev)

/-- The descriptor that the next 64 bytes of ring i hold. -/
def arriving : InDesc := parseDesc (getRing i d).head d.host.fetchCount bs

/-- The ring once a descriptor of index n has been counted in HEAD. -/
def ringArrived (n : Nat) (x : InDesc) (r : Ring) : Ring := { r with head := n + 1, inflight := r.inflight ++ [x] }

/-- The device once the 64 bytes have been counted in HEAD and in the progress block. -/
def arrived : Dev :=
  writeProgress i (((getRing i d).head + 1) % 2 ^ 32)
    (updHost (fun h => { h with fetchCount := h.fetchCount + 1 }) (updRing i (ringArrived (getRing i d).head (arriving i bs d)) d))

/-- As `arrived`, with the failed check of its CRC recorded (R106). -/
def arrivedBad : Dev := raise (F.HIF_RING_STATUS.BAD_CRC_SEEN i) (crcFail 1 i (getRing i d).head (arrived i bs d))

variable {i bs d}

section
variable (he : d.ecc = [])
include he

theorem arrived_clean : arrived i bs d = emit (.hostWrite (progBase d + 4 * i) (leBytes 4 (((getRing i d).head + 1) % 2 ^ 32)))
    (updHost (fun h => { h with fetchCount := h.fetchCount + 1 }) (updRing i (ringArrived (getRing i d).head (arriving i bs d)) d)) :=
  crossEcc_clean _ _ _ _ _ _ _ _ he

theorem getRing_arrived : getRing i (arrived i bs d) = ringArrived (getRing i d).head (arriving i bs d) (getRing i d) := by
  rw [arrived_clean he]
  exact getRing_updRing i (ringArrived (getRing i d).head (arriving i bs d)) d

theorem inFlight_arrived (hn : inFlight i (getRing i d).head d = none) :
    inFlight i (getRing i d).head (arrived i bs d) = some (arriving i bs d) := by
  rw [inFlight, getRing_arrived he, ringArrived, List.find?_append, ← inFlight, hn]
  simp [arriving, parseDesc]

theorem ringState_arrived (j : Nat) : ringState j (arrived i bs d) = ringState j d := by
  rw [arrived_clean he]
  rfl

theorem ecc_arrived : (arrived i bs d).ecc = [] := by
  rw [arrived_clean he]
  exact he

theorem pwr_arrived : (arrived i bs d).pwr = d.pwr := by
  rw [arrived_clean he]
  rfl

end

section
variable {q : Dev} (hq : readEnded (.descriptor i) q = d) (hl : ringLive i d = true) (hg : (getRing i d).head < (getRing i d).issued)
include hq hl hg

/-- Its CRC fails (R106): stage one completes it at once. -/
theorem descArrival_badCrc (hcrc : leAt bs 60 4 ≠ crc32c (bs.take 60)) :
    descArrival i (.ok bs) q = complete i (getRing i d).head stBadCrc 1 [] (arrivedBad i bs d) := by
  have hno : ¬ (getRing i d).issued ≤ (getRing i d).head := by omega
  simp only [descArrival, hq]
  simp [hl, hno, stageOne, hcrc]
  rfl

/-- One that passes stage one and has no input buffer may start (R112). -/
theorem descArrival_ready
    (hs : stageOne i (arriving i bs d) (leAt bs 60 4 == crc32c (bs.take 60)) (leAt bs 2 2 == (getRing i d).head % 65536) (leAt bs 1 1) (leAt bs 59 1)
      (arrived i bs d) = none) (hw : opWaits (leAt bs 0 1) = false) (hsend : leAt bs 0 1 ≠ 0x80) (hbuf : opBuf (leAt bs 0 1) ≠ .input) :
    descArrival i (.ok bs) q = arrived i bs d := by
  have hno : ¬ (getRing i d).issued ≤ (getRing i d).head := by omega
  simp only [descArrival, hq]
  unfold arrived ringArrived arriving at hs
  simp only [hl, hno, decide_false, Bool.not_true, Bool.or_self, hs]
  rw [if_neg (by decide), if_neg (by simp [parseDesc, hw, hsend]), if_neg (by simp [parseDesc, hbuf])]
  rfl

theorem descArrival_failed {r : ReadResult} (hr : r = .unsupported ∨ r = .abort) :
    descArrival i r q = ringError i 1 (getRing i d).head d := by
  have hno : ¬ (getRing i d).issued ≤ (getRing i d).head := by omega
  rcases hr with rfl | rfl <;> simp [descArrival, hq, hl, hno, readCause]

end

end

/-- The descriptor of a NOP whose reserved bytes are 0 passes stage one (R104, R110, R112). -/
theorem stageOne_nop {i : Nat} {bs : List Byte} {d e : Dev} (hop : leAt bs 0 1 = 0) (hflags : leAt bs 1 1 < 4) (hlast : leAt bs 59 1 = 0)
    (haddr : leAt bs 8 8 = 0) (hlen : leAt bs 16 4 = 0) (hbuf : leAt bs 20 4 = 0) (hmask : overMask ((bs.drop 24).take 35) [] = false)
    (hs : pstate e ≠ .restricted) : stageOne i (arriving i bs d) true true (leAt bs 1 1) (leAt bs 59 1) e = none := by
  simp [stageOne, arriving, parseDesc, opClass, hop, Nat.not_le.mpr hflags, hs, lengthLegal, bufferLegal, opBuf, paramLegal, paramMask, haddr, hlen,
    hbuf, hlast, hmask]

/-! ### A buffer arrives -/

section
variable {i : Nat} {x : InDesc} {bs : List Byte} {d q : Dev} (hq : readsEnded (.buffer i x.index) q = d) (hx : inFlight i x.index d = some x)
  (hs : x.stage = .reading) (hl : ringLive i d = true) (hlen : bs.length = x.len) (hop : x.opcode ≠ 0x30)
include hq hx hs hl hlen hop

/-- A whole buffer whose check passes makes its descriptor ready (R107). -/
theorem bufferRead_ready (hcrc : crc32c bs = x.bufCrc) :
    bufferRead i x.index (.ok bs) q = updDesc i x.index (fun y => { y with stage := .ready, buf := bs }) d := by
  simp [bufferRead, hq, hx, hs, hl, hlen, hop, hcrc]

theorem bufferRead_badCrc (hcrc : crc32c bs ≠ x.bufCrc) :
    bufferRead i x.index (.ok bs) q = complete i x.index stBadCrc 3 [] (crcFail 1 i x.index d) := by
  simp [bufferRead, hq, hx, hs, hl, hlen, hop, hcrc]

end

/-! ### The obligation -/

/-- A failed check is recorded before its descriptor completes (R45, R106, R107). -/
theorem crcFail_ring (row i q j : Nat) (d : Dev) : getRing j (crcFail row i q d) = getRing j d := (reportBlind_getRing j).logEvent ..

theorem crcFail_ecc (row i q : Nat) (d : Dev) : (crcFail row i q d).ecc = d.ecc := (logEvent_keeps _ _ _ _ _ _ d .ecc (by decide)).symm

theorem crcFail_ringState {row i q j : Nat} (hj : j < 32) (d : Dev) : ringState j (crcFail row i q d) = ringState j d :=
  (reportBlind_ringState hj).logEvent ..

section
variable {i : Nat} (hi : i < 32) {d : Dev} (hl : ringLive i d = true) (he : d.ecc = [])
include hi hl he

theorem badCrc_ends {bs : List Byte} (hn : inFlight i (getRing i d).head d = none) :
    let t := complete i (getRing i d).head stBadCrc 1 [] (arrivedBad i bs d)
    (getRing i t).head = (getRing i d).head + 1 ∧ inFlight i (getRing i d).head t = none ∧ getF (F.HIF_RING_STATUS.BAD_CRC_SEEN i) t = 1 := by
  intro t
  have hring : getRing i (arrivedBad i bs d) = getRing i (arrived i bs d) :=
    (getRing_of_rings (by rw [arrivedBad, raise_host])).trans (crcFail_ring 1 i (getRing i d).head i (arrived i bs d))
  have hclean : (arrivedBad i bs d).ecc = [] := by rw [arrivedBad, raise_ecc, crcFail_ecc, ecc_arrived he]
  have hx := (inFlight_of_ring hring).trans (inFlight_arrived he hn)
  have hs : (arriving i bs d).stage ≠ .done := by simp [arriving, parseDesc]
  have hlive : ringLive i (arrivedBad i bs d) = true := by
    rw [arrivedBad, ringLive_of_state (ringState_raise _ rfl (by simp [F.HIF_RING_STATUS.BAD_CRC_SEEN]) (by simp [F.HIF_RING_STATUS.BAD_CRC_SEEN])),
      ringLive_of_state (crcFail_ringState hi _), ringLive_of_state (ringState_arrived he i), hl]
  refine ⟨?_, inFlight_complete hlive hclean hx hs, ?_⟩
  · refine (getRing_complete hlive hclean hx hs (p := Ring.head) (fun _ _ _ _ => rfl)).trans ?_
    rw [hring, getRing_arrived he]
    rfl
  · exact (getF_of_regs _ (complete_regs hclean)).trans (getF_raise_same _ _ (by simp [F.HIF_RING_STATUS.BAD_CRC_SEEN]) rfl)

theorem badBuffer_ends {x : InDesc} (hx : inFlight i x.index d = some x) (hs : x.stage ≠ .done) :
    let t := complete i x.index stBadCrc 3 [] (crcFail 1 i x.index d)
    inFlight i x.index t = none ∧ ringState i t = ringState i d := by
  have hclean : (crcFail 1 i x.index d).ecc = [] := (crcFail_ecc ..).trans he
  have hlive : ringLive i (crcFail 1 i x.index d) = true := (ringLive_of_state (crcFail_ringState hi d)).trans hl
  exact ⟨inFlight_complete hlive hclean ((inFlight_of_ring (crcFail_ring ..)).trans hx) hs,
    (ringState_of_regs (complete_regs hclean)).trans (crcFail_ringState hi d)⟩

end

/-- Settles O29: what arrives frees its places (`readEnded_reads`, `readsEnded_reads`), and then the check that fails or the descriptor decides. -/
theorem descriptorsAndBuffersArrive : Obligations.DescriptorsAndBuffersArrive := by
  intro s i hi hl
  obtain ⟨_, _, _, hread⟩ := readEnded_reads (.descriptor i) s.dev
  obtain ⟨hrings, hcount, hregs, hecc, hpwr⟩ := withReads_keeps hread
  generalize hq : readEnded (.descriptor i) s.dev = d at hrings hcount hregs hecc hpwr
  have hring : getRing i d = getRing i s.dev := getRing_of_rings hrings
  have hlive : ringLive i d = true := (ringLive_of_state (ringState_of_regs hregs)).trans hl
  refine ⟨fun bs hg hn hcrc => ?badCrc, fun bs hg hn hcrc hseq hop hflags hlast haddr hlen hbuf hmask hs => ?nop, fun r hg hr => ?failed,
    fun hg => ?timeout, fun x bs hx hs hlen hop hcrc => ?whole, fun x bs hx hs hlen hop hcrc => ?badBuffer, fun x hx hs => ?bufferTimeout⟩
  case badCrc =>
    refine delivers_onHub hi (exec_descriptorArrival i (.ok bs) s) fun he => ?_
    rw [← inFlight_of_ring hring] at hn
    rw [← hring] at hg hn ⊢
    dsimp only
    rw [descArrival_badCrc hq hlive hg hcrc]
    exact badCrc_ends hi hlive (hecc.trans he) hn
  case nop =>
    refine delivers_onHub hi (exec_descriptorArrival i (.ok bs) s) fun he => ?_
    rw [← inFlight_of_ring hring] at hn
    rw [← hring] at hg hn hseq ⊢
    dsimp only
    have hclean := hecc.trans he
    rw [descArrival_ready hq hlive hg ?_ (by rw [hop]; rfl) (by rw [hop]; decide) (by rw [hop]; decide)]
    · exact ⟨congrArg Ring.head (getRing_arrived hclean), (inFlight_arrived hclean hn).trans (by rw [arriving, hcount])⟩
    · rw [hcrc, hseq]
      simp only [beq_self_eq_true]
      exact stageOne_nop hop hflags hlast haddr hlen hbuf hmask (by rw [pstate, pwr_arrived hclean, hpwr]; exact hs)
  case failed =>
    refine completes_onHub hi (exec_descriptorArrival i r s) ?_
    dsimp only
    rw [descArrival_failed hq hlive (by rw [hring]; exact hg) hr]
    exact ringError_enters hi hlive 1 _
  case timeout =>
    refine completes_onHub hi (exec_completionTimeout (.descriptor i) s) ?_
    simp only [requestTimeout, hq, hring, decide_eq_true hg, if_true]
    exact ringError_enters hi hlive 2 _
  all_goals
    obtain ⟨_, _, _, hread⟩ := readsEnded_reads (.buffer i x.index) s.dev
    obtain ⟨hrings, -, hregs, hecc, -⟩ := withReads_keeps hread
    generalize hq : readsEnded (.buffer i x.index) s.dev = d at hrings hregs hecc
    have hlive : ringLive i d = true := (ringLive_of_state (ringState_of_regs hregs)).trans hl
    rw [← inFlight_of_ring (getRing_of_rings hrings)] at hx
  case whole =>
    rw [exec_bufferReadDone, execBufferReadDone, onHub_present _ _ _ _ hi, bufferRead_ready hq hx hs hlive hlen hop hcrc]
  case badBuffer =>
    refine delivers_onHub hi (exec_bufferReadDone i x.index (.ok bs) s) fun he => ?_
    dsimp only
    rw [bufferRead_badCrc hq hx hs hlive hlen hop hcrc]
    obtain ⟨hgone, hstate⟩ := badBuffer_ends hi hlive (hecc.trans he) hx (by rw [hs]; decide)
    exact ⟨hgone, hstate.trans (ringState_of_regs hregs)⟩
  case bufferTimeout =>
    refine completes_onHub hi (exec_completionTimeout (.buffer i x.index) s) ?_
    simp only [requestTimeout, hq, hx, hs, beq_self_eq_true, if_true]
    exact ringError_enters hi hlive 7 _

end Sys2Proof.Proofs
end

section
/-! Completions are written (R121 to R127), and what a failed check of a buffer word does at its crossing (R42 to R45). -/
namespace Sys2Proof.Proofs
open Sys2Proof Sys2Proof.Machine Sys2Proof.Laws

/-! ### A completion without data -/

theorem splitWrite_nil (a : Nat) {n : Nat} (h : 0 < n) : splitWrite a n [] = [] := by
  have hcount : ([] : List Byte).length + n - 1 < n := by simp only [List.length_nil]; omega
  rw [splitWrite, Nat.div_eq_of_lt hcount]
  rfl

theorem writeHost_nil (a : Nat) (d : Dev) : writeHost a [] d = d := by
  rw [writeHost, splitWrite_nil a (lt_of_lt_of_le (by decide) (le_max_left ..))]
  rfl

theorem completionBytes_length (x : InDesc) (phase : Bool) (st dt pt : Nat) (data : List Byte) : (completionBytes x phase st dt pt data).length = 32 := by
  simp [completionBytes, leBytes_length]

/-- A ring without messages only counts its completions. -/
theorem moderate_silent {i : Nat} {b : Bool} {d : Dev} (h : getF (F.HIF_RING_MOD.MSIX_EN i) d = 0) :
    (moderate i b d).out = d.out ∧ (moderate i b d).regs = d.regs := by
  have hoff : ∀ f, (!isSet (F.HIF_RING_MOD.MSIX_EN i) (updRing i f d)) = true := fun f => by
    simp [isSet, getF_of_regs (F.HIF_RING_MOD.MSIX_EN i) (updRing_regs i f d), h]
  simp only [moderate, hoff, if_true]
  exact ⟨rfl, rfl⟩

/-- The entry of the completion queue that the next completion of ring i takes (R121). -/
def cqEvent (i : Nat) (x : InDesc) (st dt : Nat) (d : Dev) : OutEvent :=
  .hostWrite (cqBase i d + 32 * ((getRing i d).cqTail % ringEntries i d))
    (completionBytes x ((getRing i d).cqTail / ringEntries i d % 2 == 0) st dt d.pt [])

theorem writeCompletion_out (i : Nat) (x : InDesc) (st dt : Nat) (d : Dev) : (writeCompletion i x st dt [] d).out = d.out ++ [cqEvent i x st dt d] := by
  simp only [writeCompletion, writeHost_nil]
  rfl

/-! ### A completion whose words are upset (rows 8 and 18 of R45) -/

section
variable {i j st dt : Nat} {x : InDesc} {d : Dev} {u : Upset} (hi : i < 32) (hl : ringLive i d = true) (hx : inFlight i j d = some x)
  (hs : x.stage ≠ .done) (hu : upsetAt 8 i d = some u)
include hi hl hx hs hu

/-- One beyond correction withholds the completion. -/
theorem complete_withheld (hf : u.fixable = false) : complete i j st dt [] d =
    ringError i 5 x.index (logEvent 0x0203 4 (crossingSrc 8 i 0 i) 8 i (x.index % 65536) { d with ecc := d.ecc.erase u }) := by
  have hlive : ringLive i (logEvent 0x0203 4 (crossingSrc 8 i 0 i) 8 i (x.index % 65536) { d with ecc := d.ecc.erase u }) = true :=
    (ringLive_of_state ((reportBlind_ringState hi).logEvent ..)).trans hl
  have hdead : ringLive i (ringError i 5 x.index (logEvent 0x0203 4 (crossingSrc 8 i 0 i) 8 i (x.index % 65536) { d with ecc := d.ecc.erase u })) = false := by
    rw [ringLive, (ringError_enters hi hlive 5 _).1]
    rfl
  rw [complete_unfinished hx hs]
  simp only [putCompletion, hl, if_true, crossEcc_failed _ _ _ _ _ hu hf, hdead, Bool.false_eq_true, if_false]

theorem withheld_effect (hf : u.fixable = false) : let t := complete i j st dt [] d
    ringState i t = .error ∧ getF (F.HIF_RING_STATUS.ERR_CAUSE i) t = 5 ∧ inFlight i j t = some x ∧ t.out = d.out := by
  intro t
  have ht : t = _ := complete_withheld hi hl hx hs hu hf
  have hlive : ringLive i (logEvent 0x0203 4 (crossingSrc 8 i 0 i) 8 i (x.index % 65536) { d with ecc := d.ecc.erase u }) = true :=
    (ringLive_of_state ((reportBlind_ringState hi).logEvent ..)).trans hl
  obtain ⟨hstate, hcause⟩ := ringError_enters hi hlive 5 x.index
  rw [ht]
  refine ⟨hstate, hcause, ?_, ?_⟩
  · rw [inFlight_of_ring ((getRing_of_rings (by rw [ringError_ring])).trans ((reportBlind_getRing i).logEvent ..))]
    exact hx
  · exact (ringError_out ..).trans (logEvent_keeps _ _ _ _ _ _ _ .out (by decide)).symm

end

theorem healthEvent_counts (cls i : Nat) (g : Bool) (d : Dev) :
    (getInst cls i (healthEvent cls i g d).1).events = min 65535 ((getInst cls i d).events + 1) := by
  have hreport : ∀ e : Dev, ∀ code sev src a b c, (raise F.HLT_STATUS.LASTING_SEEN (logEvent code sev src a b c e)).health = e.health :=
    fun e code sev src a b c => (raise_health ..).trans (logEvent_keeps code sev src a b c e .health (by decide)).symm
  unfold healthEvent
  dsimp only
  split
  · rw [getInst_updInst]; rfl
  · split
    · rw [getInst, hreport, ← getInst, getInst_updInst]; rfl
    · rw [getInst_updInst]; rfl

theorem find_erase_none {α : Type} [BEq α] {p : α → Bool} {l : List α} (a : α) (h : l.find? p = none) : (l.erase a).find? p = none :=
  List.find?_eq_none.mpr fun x hx => List.find?_eq_none.mp h x (List.mem_of_mem_erase hx)

/-- A corrected word is counted and the completion goes on. -/
theorem corrected_effect {i j st dt : Nat} {x : InDesc} {d : Dev} {u : Upset} (hi : i < 32) (hl : ringLive i d = true)
    (hx : inFlight i j d = some x) (hs : x.stage ≠ .done) (hu : upsetAt 8 i d = some u) (hf : u.fixable = true)
    (h18 : upsetAt 18 i d = none) : let t := complete i j st dt [] d
    inFlight i j t = none ∧ (getRing i t).cqTail = ((getRing i d).cqTail + 1) % 2 ^ 32 ∧
      (getInst 18 0 t).events = min 65535 ((getInst 18 0 d).events + 1) := by
  intro t
  obtain ⟨e, he⟩ : ∃ e, e = healthReport 18 0 { d with ecc := d.ecc.erase u } := ⟨_, rfl⟩
  have h8 : crossEcc 8 i 0 i x.index (writeCompletion i x st dt []) (ringError i 5 x.index) d = writeCompletion i x st dt [] e := by
    rw [crossEcc_corrected _ _ _ _ _ hu hf, he]
  have hring : getRing i e = getRing i d := by rw [he, (reportBlind_getRing i).healthReport]; rfl
  have hstate : ringState i e = ringState i d := by rw [he, (reportBlind_ringState hi).healthReport]; rfl
  have hecc : e.ecc = d.ecc.erase u := by rw [he]; exact (healthReport_keeps _ _ _ .ecc (by decide)).symm
  have hunit : (32 + i) % 32 = i := by omega
  have h18' : upsetAt 18 ((32 + i) % 32) e = none := by rw [upsetAt, hecc, hunit]; exact find_erase_none u h18
  have ht : t = putCompletion i x st dt [] d := complete_unfinished hx hs
  have hkeep := fun {β : Type} {p : Ring → β} (hp : ∀ r u o m, p { r with unsignalled := u, oldest := o, modTime := m } = p r) =>
    getRing_putCompletion_passes (st := st) (dt := dt) (bs := []) hl hring hstate h8 h18' hp
  rw [ht]
  refine ⟨?_, hkeep (p := Ring.cqTail) fun _ _ _ _ => rfl, ?_⟩
  · rw [inFlight, hkeep (p := Ring.inflight) fun _ _ _ _ => rfl, ← inFlight_index hx, find_completedRing]
  · have hhealth : (putCompletion i x st dt [] d).health = e.health := by
      rw [putCompletion_passes hl hstate h8 h18']
      exact (moderate_keeps _ _ _ .health (by decide)).symm.trans (writeCompletion_keeps i x st dt [] e .health (by decide)).symm
    rw [getInst, hhealth, he]
    exact healthEvent_counts ..

/-! ### A frame withheld at its crossing (rows 3 and 5 of R45) -/

section
variable {k : Nat} {side : Side} {d : Dev} {p : Payload} {ws : List Payload} {u : Upset}

/-- The link once the frame of its head payload is withheld: the slot carries IDLE and the payload leaves the queue. -/
def withheldSlot (row die k : Nat) (side : Side) (u : Upset) (d : Dev) : Dev :=
  unqueue k side (sendIdle k side (logEvent 0x0203 4 (crossingSrc row k die 0) row 0 (0 % 65536) { d with ecc := d.ecc.erase u }))

theorem logged_links (row die : Nat) : (logEvent 0x0203 4 (crossingSrc row k die 0) row 0 (0 % 65536) { d with ecc := d.ecc.erase u }).links = d.links :=
  (logEvent_keeps _ _ _ _ _ _ _ .links (by decide)).symm

theorem withheldSlot_out (row die : Nat) : (withheldSlot row die k side u d).out =
    d.out ++ [.linkFrame k side (frameBytes (ackOf (linkEnd k side d)) (linkEnd k side d).nextSeq 0x0 0)] := by
  have hlinks := linkEnd_congr (k := k) (side := side) (logged_links (k := k) (d := d) (u := u) row die)
  rw [withheldSlot, unqueue, updEnd_out, sendIdle, sendOn_out, hlinks, (logEvent_keeps _ _ _ _ _ _ _ .out (by decide)).symm]

theorem withheldSlot_waiting (row die : Nat) (hw : (linkEnd k side d).waiting = p :: ws) :
    (linkEnd k side (withheldSlot row die k side u d)).waiting = ws := by
  have hlinks := linkEnd_congr (k := k) (side := side) (logged_links (k := k) (d := d) (u := u) row die)
  simp [withheldSlot, unqueue, hlinks, hw]

variable (hn : (linkEnd k side d).nakDue = false) (hr : (linkEnd k side d).resend = []) (hw : (linkEnd k side d).waiting = p :: ws)
  (hl : (linkEnd k side d).replay.length < 32) (hf : u.fixable = false)
include hn hr hw hl hf

theorem laneSlot_withheld_hub (hside : side = .hub) (hu : upsetAt 3 k d = some u) :
    laneSlot k side d = withdrawEntry k p (withheldSlot 3 0 k side u d) := by
  subst hside
  rw [laneSlot_new hn hr hw hl]
  unfold checkNew
  dsimp only
  rw [crossEcc_failed _ _ _ _ _ hu hf]
  rfl

theorem laneSlot_withheld_spoke (hside : side = .spoke) (hu : upsetAt 5 k d = some u) :
    laneSlot k side d = withheldFeed k p (withheldSlot 5 k k side u d) := by
  subst hside
  rw [laneSlot_new hn hr hw hl]
  unfold checkNew
  dsimp only
  rw [crossEcc_failed _ _ _ _ _ hu hf]
  rfl

end

/-- A schedule entry is withdrawn and its outlet taken as off. -/
theorem withheldEntry_effect {k o : Nat} {e : SchedP} {ws : List Payload} {d : Dev} {u : Upset} (hn : (linkEnd k .hub d).nakDue = false)
    (hr : (linkEnd k .hub d).resend = []) (hw : (linkEnd k .hub d).waiting = .sched e :: ws) (hl : (linkEnd k .hub d).replay.length < 32)
    (hu : upsetAt 3 k d = some u) (hf : u.fixable = false) (ho : findOutlet (globalCh k e.chan) d = some o) : let t := laneSlot k .hub d
    t.out = d.out ++ [.linkFrame k .hub (frameBytes (ackOf (linkEnd k .hub d)) (linkEnd k .hub d).nextSeq 0x0 0)] ∧
      (linkEnd k .hub t).waiting = ws ∧ (getOut o t).entryOn = false ∧ (getOut o t).planOn = false := by
  intro t
  obtain ⟨m, hm⟩ : ∃ m, m = withheldSlot 3 0 k .hub u d := ⟨_, rfl⟩
  have heng : d.eng = m.eng := by rw [hm]; exact logEvent_keeps _ _ _ _ _ _ { d with ecc := d.ecc.erase u } .eng (by decide)
  have ht : t = updOut o (fun x => { x with planOn := false, entryOn := false, runEnd := min x.runEnd m.pt }) m := by
    rw [show t = _ from laneSlot_withheld_hub hn hr hw hl hf rfl hu, ← hm, withdrawEntry, ← findOutlet_ofEng heng, ho]
  have hout : t.out = m.out := by rw [ht]; rfl
  have hlinks : linkEnd k .hub t = linkEnd k .hub m := by rw [ht]; rfl
  refine ⟨?_, ?_, ?_, ?_⟩
  · rw [hout, hm, withheldSlot_out]
  · rw [hlinks, hm, withheldSlot_waiting 3 0 hw]
  · rw [ht, getOut_updOut]
  · rw [ht, getOut_updOut]

/-- A channel event goes again as one whose travel was not seen. -/
theorem withheldFeed_effect {k : Nat} {f : FeedP} {ws : List Payload} {d : Dev} {u : Upset} (hn : (linkEnd k .spoke d).nakDue = false)
    (hr : (linkEnd k .spoke d).resend = []) (hw : (linkEnd k .spoke d).waiting = .feed f :: ws) (hl : (linkEnd k .spoke d).replay.length < 32)
    (hu : upsetAt 5 k d = some u) (hf : u.fixable = false) : let t := laneSlot k .spoke d
    t.out = d.out ++ [.linkFrame k .spoke (frameBytes (ackOf (linkEnd k .spoke d)) (linkEnd k .spoke d).nextSeq 0x0 0)] ∧
      (linkEnd k .spoke t).waiting = enqueue (.feed { f with event := .endedNoTravel, delay := 0xFFFF }) ws := by
  intro t
  have ht : t = linkSend k .spoke (.feed { f with event := .endedNoTravel, delay := 0xFFFF }) (withheldSlot 5 k k .spoke u d) :=
    laneSlot_withheld_spoke hn hr hw hl hf rfl hu
  rw [ht, linkSend, updEnd_out, withheldSlot_out, linkEnd_updEnd, withheldSlot_waiting 5 k hw]
  exact ⟨rfl, rfl⟩

/-! ### A galley entry dropped at its crossing (row 12 of R45) -/

theorem galleyDrop_eq (s : Nat) (d : Dev) : ∃ f, galleyDrop s d = noteDrop s (raise F.LOG_STATUS.GALLEY_DROP_SEEN (countF f d)) := by
  unfold galleyDrop
  split
  · exact ⟨_, rfl⟩
  · exact ⟨_, rfl⟩

theorem galleyDrop_seen (s : Nat) (d : Dev) : isSet F.LOG_STATUS.GALLEY_DROP_SEEN (galleyDrop s d) = true := by
  obtain ⟨f, hf⟩ := galleyDrop_eq s d
  have hnote : ∀ e, (noteDrop s e).regs = e.regs := fun e => (noteDrop_keeps s e .regs (by decide)).1.symm
  rw [isSet, hf, getF_of_regs _ (hnote _), getF_raise_same _ _ (by decide) (by decide)]
  rfl

theorem galleyDrop_log (s : Nat) (d : Dev) : (galleyDrop s d).log.galley = d.log.galley ∧ (galleyDrop s d).log.store = d.log.store := by
  obtain ⟨f, hf⟩ := galleyDrop_eq s d
  rw [hf, noteDrop, raise_log, countF_log]
  exact ⟨rfl, rfl⟩

theorem storeHead_dropped {e : LogEntry} {rest : List LogEntry} {d : Dev} {u : Upset} (hg : d.log.galley = e :: rest)
    (hm : mayStore d = true) (hu : upsetAt 12 0 d = some u) (hf : u.fixable = false) :
    storeHead d = galleyDrop e.sev { d with log := { d.log with galley := rest }, ecc := d.ecc.erase u } := by
  have hu' : upsetAt 12 0 { d with log := { d.log with galley := rest } } = some u := hu
  simp only [storeHead, hg, hm, if_true, storeChecked, checkEcc, hu', hf, Bool.false_eq_true, if_false]

/-- Settles O30: a completion that passes, is withheld and is corrected, and the other three crossings, each by its own lemma. -/
theorem completionsAreWritten : Obligations.CompletionsAreWritten := by
  refine ⟨?_, fun d u => ⟨?_, ?_, ?_, ?_, ?_⟩⟩
  · intro d i j st dt x hl hx hs hm he
    obtain ⟨hout, -⟩ := moderate_silent (b := st != stOk || x.irq)
      (d := emit (progressEvent i (getRing i d).cqTail d) (writeCompletion i x st dt [] d))
      ((getF_of_regs _ (writeCompletion_regs i x st dt [] d)).trans hm)
    refine ⟨inFlight_complete hl he hx hs, getRing_complete hl he hx hs (p := Ring.cqTail) fun _ _ _ _ => rfl, ?_,
      completionBytes_length .., complete_regs he⟩
    rw [complete_unfinished hx hs, putCompletion_sound hl he, hout, emit_out, writeCompletion_out, List.append_assoc]
    rfl
  · intro i j st dt x hi hl hx hs hu hf
    exact withheld_effect hi hl hx hs hu hf
  · intro i j st dt x hi hl hx hs hu hf h18
    exact corrected_effect hi hl hx hs hu hf h18
  · intro k e ws o hn hr hw hl hu hf ho
    exact withheldEntry_effect hn hr hw hl hu hf ho
  · intro k f ws hn hr hw hl hu hf
    exact withheldFeed_effect hn hr hw hl hu hf
  · intro e rest hg hm hu hf
    obtain ⟨hgalley, hstore⟩ := galleyDrop_log e.sev { d with log := { d.log with galley := rest }, ecc := d.ecc.erase u }
    rw [storeHead_dropped hg hm hu hf]
    exact ⟨hgalley, hstore, galleyDrop_seen ..⟩

end Sys2Proof.Proofs
end

section
/-! The order in which a ring starts its descriptors (R109), and the commands of a ring (R128, R129, R135). -/
namespace Sys2Proof.Proofs
open Sys2Proof Sys2Proof.Machine Sys2Proof.Laws

/-! ### The descriptor a ring starts next -/

/-- Only the first descriptor that no longer waits can start: it is ready, it is the first in flight where it carries FENCE, and no descriptor that
holds up the ring waits. -/
theorem nextDesc_some {i : Nat} {d : Dev} {x : InDesc} (h : nextDesc i d = some x) :
    ((getRing i d).inflight.find? fun y => y.stage != .waiting) = some x ∧ x.stage = .ready ∧ ringLive i d = true ∧
      (x.fence = true → ∃ y rest, (getRing i d).inflight = y :: rest ∧ y.index = x.index) ∧
      ((getRing i d).inflight.any fun y => y.opcode == 0x21 && y.stage == .waiting) = false := by
  unfold nextDesc at h
  dsimp only at h
  split at h
  · simp at h
  · rename_i y hy
    rw [Option.ite_none_right_eq_some] at h
    obtain ⟨hgo, hx⟩ := h
    obtain rfl := Option.some.inj hx
    simp only [Bool.and_eq_true, Bool.or_eq_true, Bool.not_eq_true', Bool.or_eq_false_iff] at hgo
    obtain ⟨⟨⟨hready, hfirst⟩, hheld⟩, hlive⟩ := hgo
    refine ⟨hy, by simpa using hready, hlive, fun hfence => ?_, hheld⟩
    replace hfirst := hfirst.resolve_right (by simp [hfence])
    split at hfirst
    · rename_i z rest hlist
      exact ⟨z, rest, hlist, by simpa using hfirst⟩
    · simp at hfirst

theorem nextDesc_live {i : Nat} {d : Dev} {x : InDesc} (h : nextDesc i d = some x) : ringLive i d = true := (nextDesc_some h).2.2.1

/-- Settles O35: the inversion of `nextDesc`, each test read off it. -/
theorem startOrderKeepsFences : Obligations.StartOrderKeepsFences := by
  intro i d x h
  obtain ⟨hfind, hready, hlive, hfirst, hheld⟩ := nextDesc_some h
  refine ⟨hlive, List.mem_of_find?_eq_some hfind, hready, hfirst, fun y hy hwait hop => ?_⟩
  have hnone := List.any_eq_false.mp hheld y hy
  simp [hwait, hop] at hnone

/-! ### Writes of the command register of a ring (R135) -/

section
variable {i : Nat} {d : Dev} (f : Dev → Dev)

theorem ringWrite_refused (h : d.pwr.state = .restricted) (hc : classRestricted (ringClass i d) = false) : ringWrite i f d = d := by
  simp [ringWrite, pstate, h, hc]

theorem ringWrite_permitted (h : d.pwr.state = .restricted → classRestricted (ringClass i d) = true) : ringWrite i f d = f d := by
  unfold ringWrite
  refine if_neg fun hno => ?_
  obtain ⟨hr, hc⟩ := (Bool.and_eq_true ..).mp hno
  simp [h (of_decide_eq_true hr)] at hc

end

section
variable {i : Nat} {d : Dev}

theorem ringStart_refused (h : startRefused i d = true) : ringStart i d = raise (F.HIF_RING_STATUS.START_REFUSED i) d := by rw [ringStart, if_pos h]

/-- A started ring keeps its moderation alone, and its two progress entries are written. -/
theorem ringStart_starts (h : startRefused i d = false) (he : d.ecc = []) : ∃ g es, ringStart i d =
    updHost g { setRingState i .running (updRing i keepModeration d) with out := d.out ++ es } ∧
      (∀ x, (g x).rings = x.rings ∧ (g x).startedSince = true) := by
  have hgood : ∀ slot v (e : Dev), e.ecc = [] → writeProgress slot v e = emit (.hostWrite (progBase e + 4 * slot) (leBytes 4 v)) e :=
    fun slot v e hecc => crossEcc_clean _ _ _ _ _ _ _ _ hecc
  have hecc : (setRingState i .running (updRing i keepModeration d)).ecc = [] := he
  rw [ringStart, if_neg (by simp [h])]
  dsimp only
  rw [hgood _ _ _ hecc, hgood _ _ _ (by exact hecc)]
  rw [emit, emit, List.append_assoc]
  exact ⟨_, [_, _], rfl, fun x => ⟨rfl, rfl⟩⟩

theorem ringClass_setRingState (s : RingState) : ringClass i (setRingState i s d) = ringClass i d := by
  have hne : (F.HIF_RING_CFG.CLASS i).reg.off ≠ (F.HIF_RING_STATUS.STATE i).reg.off := by
    simp [F.HIF_RING_CFG.CLASS, F.HIF_RING_STATUS.STATE, R.HIF_RING_CFG, R.HIF_RING_STATUS]
  exact getF_setF_otherReg _ _ _ _ hne

theorem ringStop_refused (h : ringState i d ≠ .running) : ringStop i d = raise (F.HIF_RING_STATUS.START_REFUSED i) d := by
  simp [ringStop, h]

/-- STOP of a ring with nothing in flight only begins stopping. -/
theorem ringStop_empty (h : ringState i d = .running) (hc : ringClass i d ≠ 8) (hr : (getRing i d).inflight = []) :
    ringStop i d = setRingState i .stopping d := by
  have hring : (getRing i (setRingState i .stopping d)).inflight = [] := hr
  simp [ringStop, h, ringClass_setRingState, hc, hring]

theorem ringStopped_empty (h : ringState i d = .stopping) (hr : (getRing i d).inflight = []) (hi : (getRing i d).issued = (getRing i d).head) :
    ringStopped i d = setRingState i .stopped d := by
  simp [ringStopped, h, hr, hi]

theorem ringReset_refused (h : ringState i d = .running ∨ ringState i d = .stopping) :
    ringReset i d = raise (F.HIF_RING_STATUS.START_REFUSED i) d := by
  rcases h with h | h <;> simp [ringReset, h]

theorem ringReset_accepted (h : ringState i d = .error ∨ ringState i d = .stopped) : ringReset i d = issueReads (ringClear i d) := by
  rcases h with h | h <;> simp [ringReset, h]

theorem getRing_ringClear : getRing i (ringClear i d) = keepModeration (getRing i d) := by
  have hforget : getRing i (forgetReads i (forgetRing i d)) = getRing i d := getRing_of_rings rfl
  have hrings : getRing i (ringClear i d) = getRing i (updRing i keepModeration (forgetReads i (forgetRing i d))) :=
    getRing_of_rings (by simp only [ringClear, ringDrop, setRingState, setF_host])
  rw [hrings, getRing_updRing, hforget]

theorem ringClear_out : (ringClear i d).out = d.out := by
  simp only [ringClear, ringDrop, setRingState, setF_out, updRing_out]
  rfl

theorem ringClear_readWait (h : d.host.readWait = []) : (ringClear i d).host.readWait = [] := by
  have hkeep : (forgetRing i d).host.readWait = d.host.readWait := rfl
  simp only [ringClear, ringDrop, setRingState, setF_host, updRing, updHost, forgetReads, hkeep, h, List.filter_nil]

theorem ringClear_state : ringState i (ringClear i d) = .stopped := by
  rw [ringClear, ringState_setF _ _ rfl (by simp [F.HIF_RING_STATUS.ERR_SEQ]) (by simp [F.HIF_RING_STATUS.ERR_SEQ]),
    ringState_setF _ _ rfl (by simp [F.HIF_RING_STATUS.ERR_CAUSE]) (by simp [F.HIF_RING_STATUS.ERR_CAUSE]), ringDrop, ringState_setRingState]

theorem ringClear_cause : getF (F.HIF_RING_STATUS.ERR_CAUSE i) (ringClear i d) = 0 := by
  refine (getF_setF_otherField (f := F.HIF_RING_STATUS.ERR_SEQ i) (g := F.HIF_RING_STATUS.ERR_CAUSE i) _ _ ?_ ?_).trans ?_
  · simp [F.HIF_RING_STATUS.ERR_SEQ]
  · simp [F.HIF_RING_STATUS.ERR_SEQ, F.HIF_RING_STATUS.ERR_CAUSE]
  · exact getF_setF_same _ _ _ (by simp [F.HIF_RING_STATUS.ERR_CAUSE])

theorem ringClear_seq : getF (F.HIF_RING_STATUS.ERR_SEQ i) (ringClear i d) = 0 :=
  getF_setF_same _ _ _ (by simp [F.HIF_RING_STATUS.ERR_SEQ])

theorem ringMessage_regs : (ringMessage i d).regs = d.regs := (msixSend_keeps _ _ .regs (by decide)).1.symm

theorem getRing_ringMessage : getRing i (ringMessage i d) = { getRing i d with unsignalled := 0, oldest := none } := by
  have hhost : (ringMessage i d).host = _ := (msixSend_keeps _ _ .host (by decide)).symm
  rw [getRing_of_rings (congrArg HostIf.rings hhost), getRing_updRing]

theorem moderationTimer_due {p : Nat} (ho : (getRing i d).oldest = some p) (hm : (getRing i d).modTime ≠ 0)
    (hp : p + 250 * (getRing i d).modTime ≤ d.pt) (hs : isSet (F.HIF_RING_MOD.MSIX_EN i) d = true) : moderationTimer i d = ringMessage i d := by
  have hdue : p + us (getRing i d).modTime ≤ d.pt := hp
  simp [moderationTimer, ho, hm, hdue, hs]

end

/-! ### The obligation -/

/-- Settles O31: a ring that may be commanded answers with `ringStart`, `ringStop` and `ringReset`, and each branch of them has its lemma. -/
theorem ringCommandsAct : Obligations.RingCommands := by
  intro s i hi
  have hexec {c : Instr} {f : Dev → Dev} {e : Dev} (hc : exec c s = onHub i 32 f s) (hf : f s.dev = e) : exec c s = .next { s with dev := e } := by
    rw [hc, onHub_present _ _ _ _ hi, hf]
  refine ⟨fun hr hc => ⟨?_, ?_, ?_⟩, fun hp ha => ?start, fun hp hr => ?startRefused, fun hp hst hc he => ?stop, fun hp hst => ?stopRefused,
    fun hst he hh => ?stopped, fun hp hst => ?reset, fun hp hst => ?resetRefused, fun p ho hm hd hs => ?timer⟩
  · exact hexec (exec_ringStart i s) (ringWrite_refused _ hr hc)
  · exact hexec (exec_ringStop i s) (ringWrite_refused _ hr hc)
  · exact hexec (exec_ringReset i s) (ringWrite_refused _ hr hc)
  case start =>
    refine delivers_onHub hi (exec_ringStart i s) fun he => ?_
    dsimp only
    obtain ⟨g, es, hstart, hg⟩ := ringStart_starts ha he
    rw [ringWrite_permitted _ hp, hstart]
    refine ⟨(ringState_of_regs rfl).trans (ringState_setRingState i .running _), ?_, (hg _).2⟩
    have hring : getRing i (updHost g { setRingState i .running (updRing i keepModeration s.dev) with out := s.dev.out ++ es }) =
        getRing i (updRing i keepModeration s.dev) := getRing_of_rings (hg _).1
    rw [hring, getRing_updRing]
  case startRefused => exact hexec (exec_ringStart i s) ((ringWrite_permitted _ hp).trans (ringStart_refused hr))
  case stop => exact hexec (exec_ringStop i s) ((ringWrite_permitted _ hp).trans (ringStop_empty hst hc he))
  case stopRefused => exact hexec (exec_ringStop i s) ((ringWrite_permitted _ hp).trans (ringStop_refused hst))
  case stopped => exact hexec (exec_ringStopped i s) (ringStopped_empty hst he hh)
  case reset =>
    refine completes_onHub hi (exec_ringReset i s) ?_
    dsimp only
    rw [ringWrite_permitted _ hp, ringReset_accepted hst]
    have hkeep := withReads_keeps (issueReads_eq (ringClear i s.dev))
    obtain ⟨hrings, -, hregs, -, -⟩ := hkeep
    refine ⟨(ringState_of_regs hregs).trans ringClear_state, (getRing_of_rings hrings).trans getRing_ringClear,
      (getF_of_regs _ hregs).trans ringClear_cause, (getF_of_regs _ hregs).trans ringClear_seq, fun hw => ?_⟩
    rw [issueReads_idle (ringClear_readWait hw), ringClear_out]
  case resetRefused => exact hexec (exec_ringReset i s) ((ringWrite_permitted _ hp).trans (ringReset_refused hst))
  case timer =>
    refine completes_onHub hi (exec_moderationTimer i s) ?_
    dsimp only
    rw [moderationTimer_due ho hm hd hs, getRing_ringMessage]
    exact ⟨rfl, rfl, ringMessage_regs⟩

end Sys2Proof.Proofs
end

section
/-! Commands of the endpoint: the power state of the function, the write of HIF_CFG and the MSI-X side (R89, R90, R137, R437). -/
namespace Sys2Proof.Proofs
open Sys2Proof Sys2Proof.Machine Sys2Proof.Laws

/-- What no message changes: a message is an event at the boundary, one more in the list of those sent, or a pending bit. -/
structure MessageBlind {β : Type} (p : Dev → β) : Prop where
  out : ∀ l d, p { d with out := l } = p d
  sent : ∀ l d, p { d with pcie := { d.pcie with sent := l } } = p d
  pba : ∀ l d, p { d with pcie := { d.pcie with pba := l } } = p d

namespace MessageBlind
variable {β : Type} {p : Dev → β} (hp : MessageBlind p)
include hp

theorem msixGo (v : Nat) (d : Dev) : p (msixGo v d) = p d := ite_keeps (hp.out _ _) ((hp.sent _ _).trans (hp.out _ _))

theorem msixSend (v : Nat) (d : Dev) : p (msixSend v d) = p d := ite_keeps (hp.msixGo v d) (ite_keeps rfl (hp.pba _ _))

theorem msixRelease (d : Dev) : p (msixRelease d) = p d := (eachD_keeps p _ _ (fun _ _ => hp.msixGo ..) _).trans (hp.pba _ _)

/-- Of a write of the MSI-X control word stays what it sets. -/
theorem msixControl (enable mask : Bool) (d : Dev) :
    p (msixControl enable mask d) = p { d with pcie := { d.pcie with msixEnable := enable, funcMask := mask } } :=
  (hp.msixRelease _).trans (whenD_keeps p _ _ (fun _ => eachD_keeps p _ _ (fun _ _ => hp.msixSend ..) _) _)

end MessageBlind

theorem messageBlind_regs : MessageBlind Dev.regs := ⟨fun _ _ => rfl, fun _ _ => rfl, fun _ _ => rfl⟩
theorem messageBlind_nextPoll : MessageBlind fun d => d.host.nextPoll := ⟨fun _ _ => rfl, fun _ _ => rfl, fun _ _ => rfl⟩
theorem messageBlind_d3hot : MessageBlind fun d => d.pcie.d3hot := ⟨fun _ _ => rfl, fun _ _ => rfl, fun _ _ => rfl⟩
theorem messageBlind_unmasked : MessageBlind fun d => d.pcie.unmasked := ⟨fun _ _ => rfl, fun _ _ => rfl, fun _ _ => rfl⟩
theorem messageBlind_msixEnable : MessageBlind fun d => d.pcie.msixEnable := ⟨fun _ _ => rfl, fun _ _ => rfl, fun _ _ => rfl⟩
theorem messageBlind_funcMask : MessageBlind fun d => d.pcie.funcMask := ⟨fun _ _ => rfl, fun _ _ => rfl, fun _ _ => rfl⟩
theorem messageBlind_linkUp : MessageBlind fun d => d.pcie.linkUp := ⟨fun _ _ => rfl, fun _ _ => rfl, fun _ _ => rfl⟩

/-! ### D3hot and D0 (R89, R90) -/

theorem disarmReady_state (d : Dev) : (disarmReady d).pwr.state ≠ .armed := by
  unfold disarmReady
  split
  · simp [toReady_state]
  · rename_i h
    exact fun harmed => h (by simp [isArmed, harmed])

/-- Left D3hot, a device polls at the next point of its period. -/
def d0Reached (d : Dev) : Dev := { d with pcie := { d.pcie with d3hot := false }, host := { d.host with nextPoll := nextPeriod d } }

theorem nextPeriod_bounds {d : Dev} (h : 0 < getF F.HIF_CFG.DB_PERIOD d) :
    d.pt < nextPeriod d ∧ nextPeriod d ≤ max d.host.nextPoll (d.pt + 25 * getF F.HIF_CFG.DB_PERIOD d) := by
  unfold nextPeriod
  dsimp only
  split
  · exact ⟨‹_›, le_max_left ..⟩
  · rename_i hlate
    have hpos : 0 < 25 * getF F.HIF_CFG.DB_PERIOD d := by omega
    have hdiv := Nat.div_add_mod (d.pt - d.host.nextPoll) (25 * getF F.HIF_CFG.DB_PERIOD d)
    have hmod := Nat.mod_lt (d.pt - d.host.nextPoll) hpos
    rw [Nat.mul_succ]
    refine ⟨by omega, le_max_of_le_right (by omega)⟩

/-! ### The write of HIF_CFG (R137) -/

theorem getF_flag_same {f : Fld} (b : Bool) (d : Dev) (h : f.lo + f.len ≤ 32) (hl : f.len = 1) : getF f (flag f b d) = if b then 1 else 0 := by
  cases b with
  | true => exact getF_raise_same _ _ h hl
  | false => exact getF_lower_same _ _ h

theorem getF_flag_otherField {f g : Fld} (b : Bool) (d : Dev) (hf : f.lo + f.len ≤ 32)
    (h : g.reg.off ≠ f.reg.off ∨ g.reg = f.reg ∧ (g.lo + g.len ≤ f.lo ∨ f.lo + f.len ≤ g.lo)) : getF g (flag f b d) = getF g d := by
  cases b with
  | true => exact getF_raise_otherField _ hf h
  | false => exact getF_setF_otherField _ _ hf h

/-- HIF_CFG as a legal write leaves it. -/
def hifCfgTaken (v : Nat) (d : Dev) : Dev := flag F.HIF_CFG.ATOMIC_EN (v.testBit 10) (setF F.HIF_CFG.DB_PERIOD (v % 1024) d)

/-- Compare-and-swap is tried again where the write allows it. -/
def casRetried (on : Bool) (d : Dev) : Dev := if on then { d with eng := { d.eng with casWithdrawn := false } } else d

theorem casRetried_keeps (on : Bool) (d : Dev) : (casRetried on d).regs = d.regs ∧ (casRetried on d).pcie = d.pcie := by
  cases on <;> exact ⟨rfl, rfl⟩

theorem writeHifCfg_legal {v : Nat} (d : Dev) (hlo : 5 ≤ v % 1024) (hhi : v % 1024 ≤ 1000) :
    writeHifCfg v d = settleAtomics (casRetried (v.testBit 10) (hifCfgTaken v d)) := by
  have hlegal : (decide (5 ≤ v % 1024) && decide (v % 1024 ≤ 1000)) = true := by simp [hlo, hhi]
  unfold writeHifCfg
  dsimp only
  rw [hlegal, whenD_true]
  rfl

theorem getF_atomicActive (d : Dev) : getF F.HIF_STATUS.ATOMIC_ACTIVE (settleAtomics d) = 1 ↔
    isSet F.HIF_CFG.ATOMIC_EN d = true ∧ d.pcie.atomicReq = true ∧ d.eng.casWithdrawn = false := by
  rw [settleAtomics, getF_flag_same _ _ (by decide) rfl]
  split <;> simp_all

/-- What a legal write of HIF_CFG leaves: the period, and the atomics in use where both the write and the requester allow them. -/
theorem writeHifCfg_effect {v : Nat} {d : Dev} (hlo : 5 ≤ v % 1024) (hhi : v % 1024 ≤ 1000) :
    getF F.HIF_CFG.DB_PERIOD (writeHifCfg v d) = v % 1024 ∧ (writeHifCfg v d).pcie = d.pcie ∧
      (getF F.HIF_STATUS.ATOMIC_ACTIVE (writeHifCfg v d) = 1 ↔ v.testBit 10 = true ∧ d.pcie.atomicReq = true) := by
  obtain ⟨hregs, hpcie⟩ := casRetried_keeps (v.testBit 10) (hifCfgTaken v d)
  have htaken : (hifCfgTaken v d).pcie = d.pcie := by rw [hifCfgTaken, flag_pcie, setF_pcie]
  have hen : isSet F.HIF_CFG.ATOMIC_EN (casRetried (v.testBit 10) (hifCfgTaken v d)) = v.testBit 10 := by
    rw [isSet, getF_of_regs _ hregs, hifCfgTaken, getF_flag_same _ _ (by decide) rfl]
    cases v.testBit 10 <;> rfl
  rw [writeHifCfg_legal d hlo hhi]
  refine ⟨?_, by rw [settleAtomics, flag_pcie, hpcie, htaken], ?_⟩
  · have hperiod : getF F.HIF_CFG.DB_PERIOD (hifCfgTaken v d) = v % 1024 % 2 ^ 10 :=
      (getF_flag_otherField _ _ (by decide) (by decide)).trans (getF_setF_same _ _ _ (by decide))
    refine (getF_flag_otherField _ _ (by decide) (by decide)).trans ((getF_of_regs _ hregs).trans (hperiod.trans ?_))
    omega
  · rw [getF_atomicActive, hen, hpcie, htaken]
    refine ⟨fun ⟨hon, hreq, _⟩ => ⟨hon, hreq⟩, fun ⟨hon, hreq⟩ => ⟨hon, hreq, ?_⟩⟩
    rw [hon]
    rfl

/-! ### The obligation -/

/-- Settles O32: the power state, the write of HIF_CFG and each change at the MSI-X side by its own lemma; messages change none of what is read. -/
theorem endpointCommands : Obligations.EndpointCommands := by
  intro s
  refine ⟨?d3hot, ?d0, fun hd hp => ?period, fun v req hlo hhi => ?cfg, fun v hv => ?unmask, fun v hv => ?mask,
    fun on => ?enable, fun on => ?function, ?link⟩
  case d3hot => exact completes_run (exec_d3hot s) ⟨congrArg Pcie.d3hot (disarmReady_pcie _), disarmReady_state _⟩
  case d0 =>
    refine completes_run (exec_d0Entry s) ?_
    dsimp only
    cases hd : s.dev.pcie.d3hot with
    | true =>
      rw [if_pos rfl]
      exact ⟨messageBlind_d3hot.msixRelease (d0Reached s.dev), messageBlind_regs.msixRelease (d0Reached s.dev)⟩
    | false => exact ⟨hd, rfl⟩
  case period =>
    refine completes_run (exec_d0Entry s) ?_
    dsimp only
    have hpoll := messageBlind_nextPoll.msixRelease (d0Reached s.dev)
    rw [if_pos hd]
    change s.dev.pt < (msixRelease (d0Reached s.dev)).host.nextPoll ∧ (msixRelease (d0Reached s.dev)).host.nextPoll ≤ _
    rw [hpoll]
    exact nextPeriod_bounds hp
  case cfg =>
    obtain ⟨hperiod, hpcie, hactive⟩ := writeHifCfg_effect (d := { s.dev with pcie := { s.dev.pcie with atomicReq := req } }) hlo hhi
    exact completes_run (exec_hifCfgWrite v req s) ⟨hperiod, congrArg Pcie.atomicReq hpcie, hactive⟩
  case unmask =>
    refine completes_onHub hv (exec_msixUnmask (.vector v false) s) ?_
    exact (messageBlind_unmasked.msixRelease _).symm ▸ List.mem_cons_self
  case mask =>
    refine completes_onHub hv (exec_msixUnmask (.vector v true) s) ?_
    have hgone : v ∉ s.dev.pcie.unmasked.filter (· != v) := by simp
    exact (messageBlind_unmasked.msixRelease _).symm ▸ hgone
  case enable => exact completes_run (exec_msixUnmask (.enable on) s) (messageBlind_msixEnable.msixControl ..)
  case function => exact completes_run (exec_msixUnmask (.functionMask on) s) (messageBlind_funcMask.msixControl ..)
  case link => exact completes_run (exec_msixUnmask .linkUp s) (messageBlind_linkUp.msixRelease _)

end Sys2Proof.Proofs
end

section
/-! How a descriptor starts (R109 to R116): one that a ring starts next is in flight and unfinished, and its opcode acts on the device before it. -/
namespace Sys2Proof.Proofs
open Sys2Proof Sys2Proof.Machine Sys2Proof.Laws

/-! ### The descriptor that starts -/

/-- What starts next is in flight under its index and is not done: all before it wait. -/
theorem nextDesc_inFlight {i : Nat} {d : Dev} {x : InDesc} (h : nextDesc i d = some x) : ∃ y, inFlight i x.index d = some y ∧ y.stage ≠ .done := by
  obtain ⟨hfind, hready, -⟩ := nextDesc_some h
  obtain ⟨-, before, after, hlist, hwait⟩ := List.find?_eq_some_iff_append.mp hfind
  rw [inFlight, hlist, List.find?_append]
  cases hearly : before.find? fun y => y.index == x.index with
  | some y =>
    have hstage : y.stage = .waiting := by simpa using hwait y (List.mem_of_find?_eq_some hearly)
    exact ⟨y, rfl, by simp [hstage]⟩
  | none => exact ⟨x, by simp, by simp [hready]⟩

section
variable {i op : Nat} {x : InDesc} {s : State} {c : Instr} {f : InDesc → Dev → Dev} (hs : Starts i op x s.dev)
include hs

/-- The opcode of the descriptor that starts acts on the device. -/
theorem exec_starts (hc : exec c s = onHub i 32 (startDesc i op f) s) : exec c s = .next { s with dev := f x s.dev } := by
  obtain ⟨hi, hnext, hop⟩ := hs
  rw [hc, onHub_present _ _ _ _ hi, startDesc_starts _ _ _ _ _ hnext hop]

theorem completes_starts {P : State → Prop} (hc : exec c s = onHub i 32 (startDesc i op f) s) (h : P { s with dev := f x s.dev }) : Completes c s P :=
  ⟨_, exec_starts hs hc, rfl, h⟩

theorem delivers_starts {P : State → Prop} (hc : exec c s = onHub i 32 (startDesc i op f) s)
    (h : s.dev.ecc = [] → P { s with dev := f x s.dev }) : Delivers c s P :=
  completes_starts (P := fun t => s.dev.ecc = [] → P t) hs hc h

end

/-- The descriptor that starts completes, whatever its opcode made of the rest of the device. -/
theorem inFlight_completed {i st dt : Nat} {bs : List Byte} {x : InDesc} {d e : Dev} (h : nextDesc i d = some x) (hring : getRing i e = getRing i d)
    (hstate : ringState i e = ringState i d) (he : e.ecc = []) : inFlight i x.index (complete i x.index st dt bs e) = none := by
  obtain ⟨y, hy, hdone⟩ := nextDesc_inFlight h
  exact inFlight_complete ((ringLive_of_state hstate).trans (nextDesc_live h)) he ((inFlight_of_ring hring).trans hy) hdone

/-- As `inFlight_completed`, where only a register that is not of a ring changed. -/
theorem inFlight_completed_setF {i st dt v : Nat} {bs : List Byte} {x : InDesc} {d : Dev} {f : Fld} (h : nextDesc i d = some x) (he : d.ecc = [])
    (hf : (R.HIF_RING_STATUS i).off ≠ f.reg.off) : inFlight i x.index (complete i x.index st dt bs (setF f v d)) = none :=
  inFlight_completed h rfl (ringState_of_field (getF_setF_otherReg _ _ _ _ hf)) ((setF_ecc ..).trans he)

/-! ### Opcodes that wait (R113, R148, R178, R185, R195, R196, R294) -/

theorem drainRx_empty {c : Nat} (n : Nat) {d : Dev} (h : (getCan c d).rx = []) : drainRx c n d = d := by
  cases n <;> simp [drainRx, h]

theorem healthDeliver_empty {told : Bool} (n : Nat) {d : Dev} (h : d.health.held = none) : healthDeliver told n d = d := by
  cases n <;> simp [healthDeliver, h]

theorem tdmDrain_empty (n : Nat) {d : Dev} (h : d.tdm.events = []) : tdmDrain n d = d := by
  cases n <;> simp [tdmDrain, h]

theorem soxDrain_empty (n : Nat) {d : Dev} (h : d.sox.events = []) : soxDrain n d = d := by
  cases n <;> simp [soxDrain, h]

/-- A buffer with nothing to put into it waits. -/
theorem exec_waits {i op : Nat} {x : InDesc} {s : State} {c : Instr} (f : Dev → Dev) (hs : Starts i op x s.dev)
    (hc : exec c s = onHub i 32 (fun d => f (waitDesc i op d)) s) (hf : f (holdDesc i x s.dev) = holdDesc i x s.dev) :
    exec c s = .next { s with dev := holdDesc i x s.dev } := by
  obtain ⟨hi, hnext, hop⟩ := hs
  rw [hc, onHub_present _ _ _ _ hi, waitDesc, startDesc_starts _ _ _ _ _ hnext hop, hf]

theorem mem_updDesc {i j : Nat} {f : InDesc → InDesc} {d : Dev} {y : InDesc} (hy : y ∈ (getRing i (updDesc i j f d)).inflight)
    (hj : y.index = j) : ∃ x, y = f x := by
  rw [updDesc, getRing_updRing] at hy
  obtain ⟨x, -, hx⟩ := List.mem_map.mp hy
  split at hx
  · exact ⟨x, hx.symm⟩
  · rename_i hne
    subst hx
    exact absurd hj hne

/-- A loop command waits 10 ms for its spoke: its descriptor holds the time, and at most the link has a command to send (R294). -/
theorem passLoop_waits (i : Nat) (x : InDesc) (c : LoopCmd) (d : Dev) :
    (passLoop i x c d).regs = d.regs ∧ (passLoop i x c d).spokes = d.spokes ∧
      ∀ y ∈ (getRing i (passLoop i x c d)).inflight, y.index = x.index → y.stage = .waiting ∧ y.aux = d.pt + 2500000 := by
  obtain ⟨e, he⟩ : ∃ e, e = updDesc i x.index (fun x => { x with stage := .waiting, aux := d.pt + ms 10 }) d := ⟨_, rfl⟩
  have hsent : passLoop i x c d = e ∨ ∃ k p, passLoop i x c d = linkSend k .hub p e := by
    unfold passLoop
    dsimp only
    rw [← he]
    split
    · exact .inr ⟨_, _, rfl⟩
    · exact .inl rfl
  have hkeep : (passLoop i x c d).regs = e.regs ∧ (passLoop i x c d).spokes = e.spokes ∧ getRing i (passLoop i x c d) = getRing i e := by
    rcases hsent with h | ⟨k, p, h⟩ <;> rw [h] <;> exact ⟨rfl, rfl, rfl⟩
  obtain ⟨hregs, hspokes, hring⟩ := hkeep
  rw [hring, hregs, hspokes, he]
  refine ⟨rfl, rfl, fun y hy hj => ?_⟩
  obtain ⟨z, rfl⟩ := mem_updDesc (f := fun z => { z with stage := .waiting, aux := d.pt + ms 10 }) hy hj
  have htime : ms 10 = 2500000 := rfl
  exact ⟨rfl, by rw [← htime]⟩

theorem loopCmdTimeout_due {i j : Nat} {x : InDesc} {d : Dev} (hx : inFlight i j d = some x) (hc : ringClass i d = 6) (hw : x.stage = .waiting)
    (hp : x.aux ≤ d.pt) : loopCmdTimeout i j d = complete i j stTimeout 0 [] d := by
  simp [loopCmdTimeout, hx, hc, hw, hp]

/-- Settles O34: an opcode that waits leaves its descriptor held, alone or for the cycle start (`exec_starts`, `exec_waits`), and the check of the
three that may be refused has passed. -/
theorem descriptorsWait : Obligations.DescriptorsWait := by
  intro s i x
  refine ⟨fun h => exec_starts h (exec_tileRequest i s), fun h => exec_starts h (exec_wbBuffer i s), fun h => exec_starts h (exec_gnssBuffer i s),
    fun h he => ?can,
    fun h he => exec_waits (healthDeliver false 2) h (exec_healthBuffer i s) (healthDeliver_empty _ he),
    fun h he => exec_waits (tdmDrain 17) h (exec_tdmBuffer i s) (tdmDrain_empty _ he),
    fun h he => exec_waits (soxDrain 17) h (exec_sbBuffer i s) (soxDrain_empty _ he),
    fun h ha => (exec_starts h (exec_fieldSet i s)).trans ?fieldWaits, fun h ha => (exec_starts h (exec_fieldSet i s)).trans ?fieldBusy,
    fun h => exec_starts h (exec_rateTable i s), fun h hp => (exec_starts h (exec_tilePush i s)).trans ?push,
    fun h => exec_starts h (exec_tileInvalidate i s), fun h => exec_starts h (exec_proof i s),
    fun h hb => (exec_starts h (exec_outletForce i s)).trans ?force, fun c hc h => ?loop, fun hi hx hc hw hp => ?timeout,
    fun h ha => ?commit, fun h ha => (exec_starts h (exec_tableCommit i s)).trans ?commitBusy⟩
  case can =>
    obtain ⟨hi, hnext, hop⟩ := h
    rw [exec_canBuffer, execCanBuffer, onHub_present _ _ _ _ hi, waitDesc, startDesc_starts _ _ _ _ _ hnext hop]
    exact congrArg (fun d => Host.Outcome.next { s with dev := d }) (drainRx_empty 65 (d := holdDesc i x s.dev) he)
  case fieldWaits => rw [fieldDesc, if_neg (by simp [ha])]
  case fieldBusy => rw [fieldDesc, if_pos ha]
  case push =>
    rw [pushDesc, hp]
    rfl
  case force => rw [forceDesc, hb, if_neg (by decide)]
  case loop =>
    simp only [List.mem_cons, List.not_mem_nil, or_false] at hc
    rcases hc with rfl | rfl | rfl
    · exact completes_starts h (exec_loopSetpoint i s) (passLoop_waits ..)
    · exact completes_starts h (exec_loopMode i s) (passLoop_waits ..)
    · exact completes_starts h (exec_loopCoeff i s) (passLoop_waits ..)
  case timeout => rw [exec_loopCommandTimeout, execLoopCommandTimeout, onHub_present _ _ _ _ hi, loopCmdTimeout_due hx hc hw hp]
  case commit =>
    refine completes_starts h (exec_tableCommit i s) ?_
    dsimp only
    rw [if_neg (by simp [ha])]
    exact ⟨rfl, rfl⟩
  case commitBusy => rw [if_pos ha]

end Sys2Proof.Proofs
end

section
/-! Opcodes that act at once (R110 to R116). -/
namespace Sys2Proof.Proofs
open Sys2Proof Sys2Proof.Machine Sys2Proof.Laws

/-! ### The write that a freeze lets end (R462, R466) -/

/-- What a store of the logbook changes beside its records: its counters and flags. -/
def storeRegs : List Nat := [R.LOG_NEXT_SEQ.off, R.LOG_DROP_LO.off, R.LOG_DROP_HI.off, R.LOG_STATUS.off]

/-- What p shows of a device does not depend on what a store of the logbook changes. -/
structure StoreBlind {β : Type} (p : Dev → β) : Prop where
  regs : ∀ r w d, r.off ∈ storeRegs → p (rput r w d) = p d
  marks : ∀ m d, p { d with marks := m } = p d
  log : ∀ l d, p { d with log := l } = p d

theorem storeBlind_field {g : Fld} (h : g.reg.off ∉ storeRegs) : StoreBlind (getF g) where
  regs r w d hr := by
    have hne : g.reg.off ≠ r.off := fun e => h (e ▸ hr)
    simp [getF, rget_rput_other _ _ _ _ hne]
  marks _ _ := rfl
  log _ _ := rfl

namespace StoreBlind
variable {β : Type} {p : Dev → β} (hp : StoreBlind p)
include hp

theorem raise {f : Fld} (h : f.reg.off ∈ storeRegs) (d : Dev) : p (raise f d) = p d := (hp.marks _ _).trans (hp.regs _ _ _ h)

theorem storeDrop (s : Nat) (d : Dev) : p (storeDrop s d) = p d := by
  refine (hp.log _ _).trans ((hp.raise (by decide) _).trans ?_)
  split
  · exact hp.regs _ _ _ (List.mem_cons_of_mem _ (List.mem_cons_self ..))
  · exact hp.regs _ _ _ (List.mem_cons_of_mem _ (List.mem_cons_of_mem _ (List.mem_cons_self ..)))

theorem writeSlot (slot : Nat) (e : LogEntry) (d : Dev) : p (writeSlot slot e d) = p d :=
  (hp.regs _ _ _ (List.mem_cons_self ..)).trans (hp.log _ _)

theorem storeSummary (e : LogEntry) (d : Dev) : p (storeSummary e d) = p d := by
  unfold Machine.storeSummary
  split
  · rfl
  · exact (hp.log _ _).trans (hp.writeSlot ..)

theorem storeEntry (e : LogEntry) (d : Dev) : p (storeEntry e d) = p d := by
  unfold Machine.storeEntry
  dsimp only
  split
  · exact (hp.writeSlot ..).trans (hp.storeSummary ..)
  · exact (hp.storeDrop ..).trans (hp.storeSummary ..)

/-- The write under way ends; its word passes where none is upset. -/
theorem finishWrite {d : Dev} (he : d.ecc = []) : p (finishWrite d) = p d := by
  unfold Machine.finishWrite
  split
  · rfl
  · refine ite_keeps (hp.storeSummary ..) ?_
    unfold storeHead
    split
    · refine ite_keeps ?_ rfl
      rw [storeChecked, checkEcc, upsetAt_clean _ _ (by exact he)]
      exact (hp.storeEntry ..).trans (hp.log _ _)
    · rfl

end StoreBlind

theorem storeBlind_ringState {i : Nat} (hi : i < 32) : StoreBlind (ringState i) := by
  have hout : (R.HIF_RING_STATUS i).off ∉ storeRegs := by
    change 0x111C + 0x20 * i ∉ [R.LOG_NEXT_SEQ.off, R.LOG_DROP_LO.off, R.LOG_DROP_HI.off, R.LOG_STATUS.off]
    simp only [R.LOG_NEXT_SEQ, R.LOG_DROP_LO, R.LOG_DROP_HI, R.LOG_STATUS, List.mem_cons, List.not_mem_nil, or_false]
    omega
  exact ⟨fun r w d h => ringState_of_field ((storeBlind_field (g := F.HIF_RING_STATUS.STATE i) hout).regs r w d h), fun _ _ => rfl, fun _ _ => rfl⟩

theorem storeBlind_getRing (i : Nat) : StoreBlind (getRing i) := ⟨fun _ _ _ _ => rfl, fun _ _ => rfl, fun _ _ => rfl⟩
theorem storeBlind_ecc : StoreBlind Dev.ecc := ⟨fun _ _ _ _ => rfl, fun _ _ => rfl, fun _ _ => rfl⟩
theorem storeBlind_pt : StoreBlind Dev.pt := ⟨fun _ _ _ _ => rfl, fun _ _ => rfl, fun _ _ => rfl⟩

/-! ### Reads of the logbook (R467) -/

theorem storeSeen_keeps (d : Dev) : ∃ n, (storeSeen d).2 = { d with free := n } := by
  unfold storeSeen
  split
  · exact ⟨d.free, rfl⟩
  · exact ⟨d.free + 1, rfl⟩

/-! ### The obligation -/

theorem complete_health {i j st dt : Nat} {bs : List Byte} {d : Dev} (he : d.ecc = []) : (complete i j st dt bs d).health = d.health :=
  (complete_clean i j st dt bs he .health (by decide)).symm

theorem complete_log {i j st dt : Nat} {bs : List Byte} {d : Dev} (he : d.ecc = []) : (complete i j st dt bs d).log = d.log :=
  (complete_clean i j st dt bs he .log (by decide)).symm

section
variable {s : State} {i : Nat} {x : InDesc}

/-- As `inFlight_completed_setF`, for a flag that hardware sets. -/
theorem inFlight_completed_raise {st dt : Nat} {bs : List Byte} {d : Dev} {f : Fld} (h : nextDesc i d = some x) (he : d.ecc = [])
    (hf : (R.HIF_RING_STATUS i).off ≠ f.reg.off) : inFlight i x.index (complete i x.index st dt bs (raise f d)) = none := by
  have hring : getRing i (raise f d) = getRing i d := getRing_of_rings (by rw [raise_host])
  have hstate : ringState i (raise f d) = ringState i d :=
    ringState_of_field (by rw [raise, getF_markBits, getF_setF_otherReg _ _ _ _ hf])
  exact inFlight_completed h hring hstate ((raise_ecc ..).trans he)

/-- A refused ARM says why, in REFUSE and in its completion. -/
theorem armDesc_refused (h : nextDesc i s.dev = some x) (hi : i < 32) (he : s.dev.ecc = []) (ha : isArmed s.dev = false)
    (hr : armRefusal s.dev.eng.table.isSome s.dev ≠ 0) : inFlight i x.index (armDesc i x s.dev) = none ∧
      getF F.PWR_ARM.REFUSE (armDesc i x s.dev) = armRefusal s.dev.eng.table.isSome s.dev := by
  obtain ⟨c, hc⟩ : ∃ c, c = armRefusal s.dev.eng.table.isSome s.dev := ⟨_, rfl⟩
  have hdesc : armDesc i x s.dev = complete i x.index stNotArmed c [] (setF F.PWR_ARM.REFUSE c s.dev) := by
    unfold armDesc
    rw [if_neg (by simp [ha]), ← hc]
    cases c with
    | zero => exact absurd hc.symm hr
    | succ n => rfl
  have hsmall : c < 2 ^ 4 := by
    rw [hc]
    unfold armRefusal
    repeat' split
    all_goals decide
  have hne : (R.HIF_RING_STATUS i).off ≠ F.PWR_ARM.REFUSE.reg.off := by
    simp only [R.HIF_RING_STATUS, F.PWR_ARM.REFUSE, R.PWR_ARM]
    omega
  rw [hdesc, ← hc]
  refine ⟨inFlight_completed_setF h he hne, ?_⟩
  rw [getF_of_regs _ (complete_regs (by exact he)), getF_setF_same _ _ _ (by decide)]
  exact Nat.mod_eq_of_lt hsmall

/-- LOG_FREEZE lets the write under way end and then holds the store for the time of LOG_CFG. -/
theorem logFreezeDesc_freezes (h : nextDesc i s.dev = some x) (hi : i < 32) (he : s.dev.ecc = []) (hf : s.dev.log.frozen = none)
    (hb : s.dev.log.erasing = false) :
    (logFreezeDesc i x s.dev).log.frozen = some (s.dev.pt + 250000000 * getF F.LOG_CFG.FREEZE_TO s.dev) ∧
      inFlight i x.index (logFreezeDesc i x s.dev) = none := by
  obtain ⟨e, hwritten⟩ : ∃ e, e = finishWrite s.dev := ⟨_, rfl⟩
  have hecc : e.ecc = [] := by rw [hwritten, storeBlind_ecc.finishWrite he, he]
  have hpt : e.pt = s.dev.pt := by rw [hwritten]; exact storeBlind_pt.finishWrite he
  have htime : getF F.LOG_CFG.FREEZE_TO e = getF F.LOG_CFG.FREEZE_TO s.dev := by
    rw [hwritten]; exact (storeBlind_field (by decide)).finishWrite he
  have hring : getRing i e = getRing i s.dev := by rw [hwritten]; exact (storeBlind_getRing i).finishWrite he
  have hstate : ringState i e = ringState i s.dev := by rw [hwritten]; exact (storeBlind_ringState hi).finishWrite he
  have hdesc : logFreezeDesc i x s.dev = complete i x.index stOk 0 [] { e with log := { e.log with
      frozen := some (e.pt + sec (getF F.LOG_CFG.FREEZE_TO e)) } } := by
    unfold logFreezeDesc
    rw [if_neg (by simp [hf, hb]), ← hwritten]
  rw [hdesc]
  constructor
  · rw [complete_log (by exact hecc), hpt, htime]
    rfl
  · exact inFlight_completed (e := { e with log := { e.log with frozen := some (e.pt + sec (getF F.LOG_CFG.FREEZE_TO e)) } }) h hring hstate hecc

theorem logReadDesc_reads (h : nextDesc i s.dev = some x) (he : s.dev.ecc = []) (hb : s.dev.log.erasing = false) :
    inFlight i x.index (logReadDesc i x s.dev) = none ∧ (logReadDesc i x s.dev).log = s.dev.log := by
  obtain ⟨n, hn⟩ := storeSeen_keeps s.dev
  have hdesc : ∃ dt bs, logReadDesc i x s.dev = complete i x.index stOk dt bs { s.dev with free := n } := by
    unfold logReadDesc
    rw [if_neg (by simp [hb])]
    dsimp only
    rw [hn]
    exact ⟨_, _, rfl⟩
  obtain ⟨dt, bs, hdesc⟩ := hdesc
  rw [hdesc]
  exact ⟨inFlight_completed h rfl rfl he, complete_log (d := { s.dev with free := n }) he⟩

end

section
variable {s : State} {i op : Nat} {x : InDesc} (h : Starts i op x s.dev)
include h

theorem fwBegin_opens (hop : op = 0xB0) (hf : s.dev.host.fwOpen = false) : fwBegin i s =
    { s with mem := { s.mem with fwSet := [] },
             dev := complete i x.index stOk 0 [] (updHost (fun g => { g with fwOpen := true, fwLength := paramAt x 24 4 }) s.dev) } := by
  obtain ⟨-, hnext, hx⟩ := h
  have hcode : (x.opcode != 0xB0) = false := by simp [hx, hop]
  simp only [fwBegin, hnext, hcode, hf, Bool.false_eq_true, if_false]

theorem tableLoad_stages (hop : op = 0x20) : tableLoad i s =
    { s with mem := { s.mem with staging := memWriteBytes s.mem.staging (paramAt x 24 4) x.buf },
             dev := complete i x.index stOk 0 [] (raise F.REG_TABLE_STATUS.STAGED_DIRTY s.dev) } := by
  obtain ⟨-, hnext, hx⟩ := h
  simp only [tableLoad, hnext, hx, hop, if_true]

end

/-- As `delivers_onHub`, for a command that also acts on the memories. -/
theorem delivers_state {c : Instr} {n m : Nat} {t u : State} {P : State → Prop} {s : State} (hn : n < m) (hc : exec c s = onHub n m id t) (ht : t = u)
    (hp : u.pending = s.pending) (h : s.dev.ecc = [] → P u) : Delivers c s P :=
  ⟨u, by rw [hc, onHub_present _ _ _ _ hn, ht]; rfl, hp, h⟩

/-- What a completion sees of the ring engine beside its rings. -/
theorem ringBlind_host {β : Type} (g : HostIf → β) (hg : ∀ h r, g { h with rings := r } = g h) : RingBlind fun d => g d.host where
  toReportBlind := ⟨fun _ _ _ _ => rfl, fun _ _ => rfl, fun _ _ => rfl, fun _ _ => rfl⟩
  status _ _ _ := rfl
  ecc _ _ := rfl
  out _ _ := rfl
  pcie _ _ := rfl
  rings r d := hg d.host r

theorem ringBlind_fwOpen : RingBlind fun d => d.host.fwOpen := ringBlind_host HostIf.fwOpen fun _ _ => rfl

theorem ringBlind_fwLength : RingBlind fun d => d.host.fwLength := ringBlind_host HostIf.fwLength fun _ _ => rfl

/-- Settles O33: each opcode acts before it completes, and `inFlight_completed` says of each that its descriptor is in flight no more. -/
theorem descriptorsActAtOnce : Obligations.DescriptorsActAtOnce := by
  intro s i x
  refine ⟨fun h => exec_starts h (exec_nop i s), fun h ha => (exec_starts h (exec_arm i s)).trans ?armed, fun h ha hr => ?arms, fun h ha hr => ?armRefused,
    fun h ha => ?disarms, fun h ha => (exec_starts h (exec_disarm i s)).trans ?disarmed, fun h => ?health, fun h hb => ?read, fun h hf hb => ?freeze,
    fun h => ?release, fun h hf => ?begin, fun h => ?load⟩
  case armed => rw [armDesc, if_pos ha]
  case arms =>
    refine completes_starts h (exec_arm i s) ?_
    dsimp only
    rw [armDesc, if_neg (by simp [ha]), hr]
    exact ⟨List.mem_append_right _ (List.mem_singleton_self _), rfl⟩
  case armRefused => exact delivers_starts h (exec_arm i s) fun he => armDesc_refused h.2.1 h.1 he ha hr
  case disarms =>
    refine completes_starts h (exec_disarm i s) ?_
    dsimp only
    rw [disarmDesc, if_pos ha]
    exact ⟨List.mem_append_right _ (List.mem_singleton_self _), rfl⟩
  case disarmed => rw [disarmDesc, if_neg (by simp [ha])]
  case health =>
    refine delivers_starts h (exec_healthNow i s) fun he => ⟨?_, inFlight_completed h.2.1 rfl rfl he⟩
    dsimp only
    rw [complete_health (by exact he)]
    rfl
  case read => exact delivers_starts h (exec_logRead i s) fun he => logReadDesc_reads h.2.1 he hb
  case freeze => exact delivers_starts h (exec_logFreeze i s) fun he => logFreezeDesc_freezes h.2.1 h.1 he hf hb
  case release =>
    refine delivers_starts h (exec_logRelease i s) fun he => ⟨?_, inFlight_completed (e := endFreeze s.dev) h.2.1 rfl rfl he⟩
    dsimp only
    rw [complete_log (by exact he)]
    rfl
  case begin =>
    refine delivers_state h.1 (exec_fwBegin i s) (fwBegin_opens h rfl hf) rfl fun he => ?_
    refine ⟨?_, ?_, rfl, rfl, inFlight_completed (e := updHost (fun g => { g with fwOpen := true, fwLength := paramAt x 24 4 }) s.dev) h.2.1 rfl rfl he⟩
    · exact ringBlind_fwOpen.complete ..
    · exact ringBlind_fwLength.complete ..
  case load =>
    have hne : (R.HIF_RING_STATUS i).off ≠ F.REG_TABLE_STATUS.STAGED_DIRTY.reg.off := by
      simp only [R.HIF_RING_STATUS, F.REG_TABLE_STATUS.STAGED_DIRTY, R.REG_TABLE_STATUS]
      have hi := h.1
      omega
    refine delivers_state h.1 (exec_tableLoad i s) (tableLoad_stages h rfl) rfl fun he => ?_
    refine ⟨?_, ?_, memReadBytes_memWriteBytes .., fun a ha => memWriteBytes_frame _ _ _ _ ha, rfl⟩
    · dsimp only
      rw [getF_of_regs _ (complete_regs (by exact he)), getF_raise_same _ _ (by decide) rfl]
    · exact inFlight_completed_raise h.2.1 he hne

end Sys2Proof.Proofs
end

section
/-! Firmware sets: staging, commit, the flash write and activation (R117 to R120). -/
namespace Sys2Proof.Proofs
open Sys2Proof Sys2Proof.Machine Sys2Proof.Laws

theorem complete_pwr {i j st dt : Nat} {bs : List Byte} {d : Dev} (he : d.ecc = []) : (complete i j st dt bs d).pwr = d.pwr :=
  (complete_clean i j st dt bs he .pwr (by decide)).symm

theorem complete_chip {i j st dt : Nat} {bs : List Byte} {d : Dev} (he : d.ecc = []) : (complete i j st dt bs d).chip = d.chip :=
  (complete_clean i j st dt bs he .chip (by decide)).symm

theorem ringBlind_fwCommitted : RingBlind fun d => d.host.fwCommitted := ringBlind_host HostIf.fwCommitted fun _ _ => rfl

theorem ringBlind_flashCommit : RingBlind fun d => d.host.flashCommit := ringBlind_host HostIf.flashCommit fun _ _ => rfl

/-! ### Refusals -/

section
variable {s : State} {i op : Nat} {x : InDesc} (h : Starts i op x s.dev)
include h


theorem fwChunk_stages (hop : op = 0xB1) (hf : s.dev.host.fwOpen = true) (hlen : paramAt x 24 4 + x.len ≤ s.dev.host.fwLength) : fwChunk i s =
    { s with mem := { s.mem with fwSet := memWriteBytes s.mem.fwSet (paramAt x 24 4) x.buf }, dev := complete i x.index stOk 0 [] s.dev } := by
  obtain ⟨-, hnext, hx⟩ := h
  have hcode : (x.opcode != 0xB1) = false := by simp [hx, hop]
  have hfits : ¬ s.dev.host.fwLength < paramAt x 24 4 + x.len := by omega
  simp [fwChunk, hnext, hcode, hf, hfits]

theorem fwChunk_aborts (hop : op = 0xB1) (hf : s.dev.host.fwOpen = false) :
    fwChunk i s = { s with dev := complete i x.index stAborted 0 [] s.dev } := by
  obtain ⟨-, hnext, hx⟩ := h
  have hcode : (x.opcode != 0xB1) = false := by simp [hx, hop]
  simp [fwChunk, hnext, hcode, hf]

theorem fwCommit_aborts (defs : List (Nat × Word)) (role : Option (List Byte)) (hop : op = 0xB2) (hf : s.dev.host.fwOpen = false) :
    fwCommit i defs role s = { s with dev := complete i x.index stAborted 0 [] s.dev } := by
  obtain ⟨-, hnext, hx⟩ := h
  have hcode : (x.opcode != 0xB2) = false := by simp [hx, hop]
  simp [fwCommit, hnext, hcode, hf]

theorem fwActivate_aborts (hop : op = 0xB3) (hf : s.dev.host.fwCommitted = false) :
    fwActivate i s = { s with dev := complete i x.index stAborted 0 [] s.dev } := by
  obtain ⟨-, hnext, hx⟩ := h
  have hcode : (x.opcode != 0xB3) = false := by simp [hx, hop]
  simp [fwActivate, hnext, hcode, hf]

theorem fwActivate_restarts (hop : op = 0xB3) (hf : s.dev.host.fwCommitted = true) (ha : isArmed s.dev = false) :
    fwActivate i s = { s with mem := {}, dev := clearHub 3 true (complete i x.index stOk 0 [] s.dev) } := by
  obtain ⟨-, hnext, hx⟩ := h
  have hcode : (x.opcode != 0xB3) = false := by simp [hx, hop]
  simp [fwActivate, hnext, hcode, hf, ha, restart, clearMems]

end

/-! ### The checks of a commit (R118) -/

/-- The staged set as FW_COMMIT reads it, with the defaults and the role of its fifth image. -/
def stagedSet (defs : List (Nat × Word)) (role : Option (List Byte)) (s : State) : Option ImageSet :=
  (parseSet s.dev.chip (stagedBytes s)).map fun z => if z.images.any (·.kind == 5) then { z with defaults := defs, role := role } else z

theorem stagedSet_images {defs : List (Nat × Word)} {role : Option (List Byte)} {s : State} {z : ImageSet} (h : stagedSet defs role s = some z) :
    ∃ y, parseSet s.dev.chip (stagedBytes s) = some y ∧ z.images = y.images := by
  obtain ⟨y, hy, rfl⟩ := Option.map_eq_some_iff.mp h
  exact ⟨y, hy, by split <;> rfl⟩

theorem commitDetail_badLayout {z : ImageSet} (c : Chip) (h : layoutOk z = false) : commitDetail (some z) c = 1 := by simp [commitDetail, h]

theorem commitDetail_badImage {z : ImageSet} {c : Chip} {v : ImageV} (hv : v ∈ z.images) (h : imageDetail v c ≠ 0) : commitDetail (some z) c ≠ 0 := by
  unfold commitDetail
  dsimp only
  split
  · decide
  · cases hfind : (z.images.map (imageDetail · c)).find? fun n => n != 0 with
    | some n => simpa using List.find?_some hfind
    | none => exact absurd (by simpa using List.find?_eq_none.mp hfind _ (List.mem_map_of_mem hv)) h

theorem commitDetail_bad {defs : List (Nat × Word)} {role : Option (List Byte)} {s : State}
    (h : ∀ set, parseSet s.dev.chip (stagedBytes s) = some set → layoutOk set = false ∨ ∃ v ∈ set.images, imageDetail v s.dev.chip ≠ 0) :
    commitDetail (stagedSet defs role s) s.dev.chip ≠ 0 := by
  cases hset : stagedSet defs role s with
  | none => exact Nat.one_ne_zero
  | some z =>
    obtain ⟨y, hy, himages⟩ := stagedSet_images hset
    rcases h y hy with hlayout | ⟨v, hv, hbad⟩
    · have hlayout' : layoutOk z = false := by rw [layoutOk, himages, ← layoutOk, hlayout]
      rw [commitDetail_badLayout _ hlayout']
      decide
    · exact commitDetail_badImage (himages ▸ hv) hbad

/-! ### What a commit leaves -/

/-- The device with a set in the image store and the session closed. -/
def committed (z : ImageSet) (d : Dev) : Dev :=
  updHost (fun h => { h with fwCommitted := true, staged := {} }) (updPwr (fun p => { p with store := z, storeValid := true }) (fwClose d))

theorem commitPlaced_stays (i j : Nat) (z : ImageSet) (s : State) :
    commitPlaced i j false z s = { s with dev := complete i j stOk 0 [] (committed z s.dev) } := rfl

/-- The session is closed and the store holds the set once the commit completes. -/
theorem committed_effect {i j : Nat} {z : ImageSet} {d : Dev} (he : d.ecc = []) : let t := complete i j stOk 0 [] (committed z d)
    t.host.fwOpen = false ∧ t.host.fwCommitted = true ∧ t.host.flashCommit = none ∧ t.pwr.storeValid = true ∧ t.pwr.store = z := by
  have hpwr := complete_pwr (i := i) (j := j) (st := stOk) (dt := 0) (bs := []) (d := committed z d) he
  refine ⟨ringBlind_fwOpen.complete .., ringBlind_fwCommitted.complete .., ringBlind_flashCommit.complete .., ?_, ?_⟩
  · rw [hpwr]; rfl
  · rw [hpwr]; rfl

section
variable {s : State} {i : Nat} {x : InDesc} {defs : List (Nat × Word)} {role : Option (List Byte)} (h : Starts i 0xB2 x s.dev)
  (hf : s.dev.host.fwOpen = true) (hw : s.dev.host.flashCommit = none)
include h hf hw

theorem fwCommit_places {z : ImageSet} (hset : stagedSet defs role s = some z) (hgood : commitDetail (some z) s.dev.chip = 0)
    (hflash : paramBits x 24 0 1 = 0) (hact : paramBits x 24 1 1 = 0) : fwCommit i defs role s = commitPlaced i x.index false z s := by
  obtain ⟨-, hnext, hx⟩ := h
  have hcode : (x.opcode != 0xB2) = false := by simp [hx]
  have hgo : (!s.dev.host.fwOpen || s.dev.host.flashCommit.isSome) = false := by simp [hf, hw]
  unfold fwCommit
  rw [hnext]
  dsimp only
  rw [hcode, hgo, if_neg Bool.false_ne_true, if_neg Bool.false_ne_true, ← stagedSet, hset, hgood, hflash, hact]
  rfl

/-- The session of a set that fails a check is closed, and its commit answered. -/
theorem fwCommit_fails (hbad : commitDetail (stagedSet defs role s) s.dev.chip ≠ 0) : ∃ c, fwCommit i defs role s =
    { s with dev := complete i x.index stBadCrc c [] (crcFail 16 i x.index (fwClose s.dev)) } := by
  obtain ⟨-, hnext, hx⟩ := h
  have hcode : (x.opcode != 0xB2) = false := by simp [hx]
  have hgo : (!s.dev.host.fwOpen || s.dev.host.flashCommit.isSome) = false := by simp [hf, hw]
  obtain ⟨n, hn⟩ := Nat.exists_eq_succ_of_ne_zero hbad
  refine ⟨n + 1, ?_⟩
  unfold fwCommit
  rw [hnext]
  dsimp only
  rw [hcode, hgo, if_neg Bool.false_ne_true, if_neg Bool.false_ne_true, ← stagedSet, hn]
  rfl

end

theorem failedCommit_effect {i : Nat} {x : InDesc} {c : Nat} {d : Dev} (hi : i < 32) (hnext : nextDesc i d = some x) (he : d.ecc = []) :
    let t := complete i x.index stBadCrc c [] (crcFail 16 i x.index (fwClose d))
    t.host.fwOpen = false ∧ t.pwr = d.pwr ∧ inFlight i x.index t = none := by
  have hclean : (crcFail 16 i x.index (fwClose d)).ecc = [] := (crcFail_ecc ..).trans he
  refine ⟨?_, ?_, inFlight_completed hnext (crcFail_ring ..) (crcFail_ringState hi _) hclean⟩
  · exact (ringBlind_fwOpen.complete ..).trans (ringBlind_fwOpen.logEvent ..)
  · rw [complete_pwr hclean]
    exact reportBlind_pwr.logEvent ..

/-! ### The flash write (R119) -/

section
variable {s : State} {i j : Nat} (hw : s.dev.host.flashCommit = some (i, j, false))
include hw

/-- The sequence number of a set written to flash stands with its half. -/
theorem flashDone_good : ∃ f, flashDone true s = commitPlaced i j false
    { s.dev.host.staged with seq := max s.dev.pwr.seqA s.dev.pwr.seqB + 1 } { s with dev := updPwr f s.dev } := by
  unfold flashDone
  rw [hw]
  exact ⟨_, rfl⟩

theorem flashDone_failed : flashDone false s =
    { s with dev := complete i j stTimeout 7 [] (fwClose (updHost (fun h => { h with staged := {} }) s.dev)) } := by
  unfold flashDone
  rw [hw]
  rfl

end

/-! ### Activation (R120) -/

theorem clockBlind_store : ClockBlind fun d => d.pwr.store := by
  constructor
  case toHubBlind => constructor <;> (intros; rfl)
  all_goals intros; rfl

theorem detachNow_store (d : Dev) : (detachNow d).pwr.store = d.pwr.store := by
  have hreport := whenD_keeps (fun d : Dev => d.pwr.store) (isAttached d) _
    fun e => (clockBlind_store.tdmEvent 2 0 0 _).trans (clockBlind_store.logEvent 0x0905 2 ⟨0, 8, 0⟩ 0 0 0 e)
  unfold detachNow
  refine ite_keeps (p := fun d => d.pwr.store) rfl ((hreport _).trans ?_)
  simp only [updTdm_pwr, setF_pwr, lower_pwr]

theorem ringDrop_store (i : Nat) (d : Dev) : (ringDrop i d).pwr.store = d.pwr.store := by
  rw [ringDrop, setRingState, setF_pwr]
  rfl

theorem clearHub_store (b : Nat) (fromStore : Bool) (d : Dev) : (clearHub b fromStore d).pwr.store = d.pwr.store := by
  have hkept : ∃ e i c, clearHub b fromStore d = resumeSources (bitF F.PWR_CAUSE.RESET b true (setF F.PWR_CAUSE.SAFE c (setF F.HLT_PKG.PKG_ILIM i e))) ∧
      e.pwr.store = (idleRails (enterHoldover 0 (detachNow (dropRings ringDrop d)))).2.pwr.store := ⟨_, _, _, rfl, rfl⟩
  obtain ⟨e, i, c, hdo, hstore⟩ := hkept
  rw [hdo, ctlBlind_pwr.resumeSources, bitF_pwr, setF_pwr, setF_pwr, hstore]
  refine (clockBlind_store.idleRails _).trans ((clockBlind_store.enterHoldover ..).trans ((detachNow_store _).trans ?_))
  exact dropRings_keeps (p := fun d => d.pwr.store) ringDrop_store (fun _ _ => rfl) d

/-! ### The obligation -/

/-- Settles O41: what each operation makes of the state is its equation, and the completion that follows leaves the store and the session alone. -/
theorem firmwareCommands : Obligations.FirmwareCommands := by
  intro s i x
  have hrefused {c : Instr} {t u : State} (hi : i < 32) (hc : exec c s = onHub i 32 id t) (ht : t = u) : exec c s = .next u := by
    rw [hc, onHub_present _ _ _ _ hi, ht]
    rfl
  refine ⟨fun h hf hl => ?chunk, fun h hf => hrefused h.1 (exec_fwChunk i s) (fwChunk_aborts h rfl hf),
    fun defs role h hf => hrefused h.1 (exec_fwCommit i defs role s) (fwCommit_aborts h defs role rfl hf),
    fun defs role z h hf hw hset hgood hflash hact => ?commit, fun defs role h hf hw hbad => ?bad, fun j hw => ⟨?flash, ?flashBad⟩,
    fun h hf ha => ?activate, fun h hf => hrefused h.1 (exec_fwActivate i s) (fwActivate_aborts h rfl hf)⟩
  case chunk =>
    refine delivers_state h.1 (exec_fwChunk i s) (fwChunk_stages h rfl hf hl) rfl fun he => ?_
    exact ⟨memReadBytes_memWriteBytes .., fun a ha => memWriteBytes_frame _ _ _ _ ha, rfl, inFlight_completed h.2.1 rfl rfl he, complete_regs he⟩
  case commit =>
    refine delivers_state h.1 (exec_fwCommit i defs role s) ((fwCommit_places h hf hw hset hgood hflash hact).trans (commitPlaced_stays ..)) rfl fun he => ?_
    obtain ⟨hopen, hdone, -, hvalid, hstore⟩ := committed_effect (i := i) (j := x.index) (z := z) he
    exact ⟨hopen, hdone, hvalid, hstore, inFlight_completed (e := committed z s.dev) h.2.1 rfl rfl he, rfl⟩
  case bad =>
    obtain ⟨c, hfail⟩ := fwCommit_fails h hf hw (commitDetail_bad hbad)
    refine delivers_state h.1 (exec_fwCommit i defs role s) hfail rfl fun he => ?_
    obtain ⟨hopen, hpwr, hgone⟩ := failedCommit_effect (c := c) h.1 h.2.1 he
    exact ⟨hopen, hpwr, hgone, rfl⟩
  case flash =>
    obtain ⟨f, hdone⟩ := flashDone_good hw
    refine ⟨_, (exec_flashWriteDone true s).trans (congrArg (run id) hdone), rfl, fun he => ?_⟩
    obtain ⟨hopen, -, hflash, hvalid, hstore⟩ := committed_effect (i := i) (j := j)
      (z := { s.dev.host.staged with seq := max s.dev.pwr.seqA s.dev.pwr.seqB + 1 }) (d := updPwr f s.dev) he
    exact ⟨hflash, hopen, hvalid, congrArg ImageSet.seq hstore, rfl⟩
  case flashBad =>
    refine ⟨_, (exec_flashWriteDone false s).trans (congrArg (run id) (flashDone_failed hw)), rfl, fun he => ?_⟩
    refine ⟨ringBlind_flashCommit.complete .., ringBlind_fwOpen.complete .., ?_, rfl⟩
    exact complete_pwr (d := fwClose (updHost (fun h => { h with staged := {} }) s.dev)) he
  case activate =>
    refine delivers_state h.1 (exec_fwActivate i s) (fwActivate_restarts h rfl hf ha) rfl fun he => ?_
    obtain ⟨hstate, hfrom, -, -, hchip⟩ := clearHub_facts (b := 3) (by decide) true (complete i x.index stOk 0 [] s.dev)
    dsimp only
    exact ⟨rfl, hstate, hfrom, (clearHub_store ..).trans (congrArg Pwr.store (complete_pwr he)), hchip.trans (complete_chip he)⟩

end Sys2Proof.Proofs
end

section
/-! What a command answers (R117, R145): the form of each meaning says that it keeps the queue, the memories unless it is one of those that stage,
commit or reset, and that operands that pass their checks make it complete. -/
namespace Sys2Proof.Proofs
open Sys2Proof Sys2Proof.Machine Sys2Proof.Laws

/-- Command c answers, at s, a state with the queue of s; or it faults, and then its operands fail their checks. -/
def KeepsQueue (c : Instr) (s : State) : Prop := (∃ t, exec c s = .next t ∧ t.pending = s.pending) ∨ c.check ≠ [] ∧ ∃ e, exec c s = .fault e

/-- As `KeepsQueue`, where only the device of s changes. -/
def KeepsMemory (c : Instr) (s : State) : Prop := (∃ d, exec c s = .next { s with dev := d }) ∨ c.check ≠ [] ∧ ∃ e, exec c s = .fault e

theorem KeepsMemory.keepsQueue {c : Instr} {s : State} (h : KeepsMemory c s) : KeepsQueue c s :=
  h.imp_left fun ⟨_, hd⟩ => ⟨_, hd, rfl⟩

theorem okBelow_eq_nil {n m : Nat} {e : Nat → IllFormed} : okBelow n m e = [] ↔ n < m := by simp [okBelow]

/-! ### The forms of a meaning -/

section
variable {c : Instr} {s : State} {k n m : Nat} {f : Dev → Dev}

theorem keepsMemory_run (hc : exec c s = run f s) : KeepsMemory c s := .inl ⟨_, hc⟩

theorem keepsMemory_onSpoke (hc : exec c s = onSpoke k f s) : KeepsMemory c s := by
  cases hk : hasSpoke k s.dev with
  | true => exact .inl ⟨_, hc.trans (onSpoke_present k f s hk)⟩
  | false => exact .inl ⟨s.dev, hc.trans (onSpoke_absent k f s hk)⟩

theorem keepsMemory_onUnit (hc : exec c s = onUnit k n m f s) (hn : c.check = [] → n < m) : KeepsMemory c s := by
  by_cases h : n < m
  · exact keepsMemory_onSpoke (hc.trans (if_pos h))
  · exact .inr ⟨fun hok => h (hn hok), _, hc.trans (if_neg h)⟩

/-- A command about a unit of the hub; of what it makes of a state only the queue counts here. -/
theorem keepsQueue_onHub {u : State} (hc : exec c s = onHub n m f u) (hu : u.pending = s.pending) (hn : c.check = [] → n < m) : KeepsQueue c s := by
  by_cases h : n < m
  · exact .inl ⟨_, hc.trans (onHub_present n m f u h), hu⟩
  · exact .inr ⟨fun hok => h (hn hok), _, hc.trans (if_neg h)⟩

theorem keepsMemory_onHub (hc : exec c s = onHub n m f s) (hn : c.check = [] → n < m) : KeepsMemory c s := by
  by_cases h : n < m
  · exact .inl ⟨_, hc.trans (onHub_present n m f s h)⟩
  · exact .inr ⟨fun hok => h (hn hok), _, hc.trans (if_neg h)⟩

theorem keepsMemory_onDieUnit {die spoke : Nat} {g : Ctl → Dev → Dev} (hc : exec c s = onDieUnit die n m spoke g s)
    (hn : c.check = [] → n < if die = 0 then m else spoke) : KeepsMemory c s := by
  by_cases hdie : die = 0
  · exact keepsMemory_onHub (hc.trans (if_pos hdie)) fun hok => by simpa [hdie] using hn hok
  · exact keepsMemory_onUnit (hc.trans (if_neg hdie)) fun hok => by simpa [hdie] using hn hok

end

/-! ### The commands that leave the memories alone -/

section
variable {c : Instr} {s : State} {xs ys : List IllFormed} {n m : Nat} {e : Nat → IllFormed}

theorem lt_of_check (h : okBelow n m e = []) : n < m := okBelow_eq_nil.mp h

theorem lt_of_checkLeft (h : okBelow n m e ++ ys = []) : n < m := lt_of_check (List.append_eq_nil_iff.mp h).1

theorem lt_of_checkRight (h : xs ++ okBelow n m e = []) : n < m := lt_of_check (List.append_eq_nil_iff.mp h).2

theorem lt_of_checkMiddle (h : xs ++ okBelow n m e ++ ys = []) : n < m := lt_of_checkRight (List.append_eq_nil_iff.mp h).1

end

theorem msixUnmask_keepsMemory (change : MsixChange) (s : State) : KeepsMemory (.msixUnmask change) s := by
  cases change with
  | vector v masked => exact keepsMemory_onHub rfl lt_of_check
  | enable on => exact keepsMemory_run rfl
  | functionMask on => exact keepsMemory_run rfl
  | linkUp => exact keepsMemory_run rfl

theorem completionTimeout_keepsMemory (request : HostReq) (s : State) : KeepsMemory (.completionTimeout request) s := by
  cases request with
  | descriptor i => exact keepsMemory_onHub rfl lt_of_check
  | buffer i j => exact keepsMemory_onHub rfl lt_of_check
  | doorbell => exact keepsMemory_run rfl
  | atomic => exact keepsMemory_run rfl

theorem filterWord2Write_keepsMemory (ctl elem : Nat) (value : Word) (s : State) : KeepsMemory (.filterWord2Write ctl elem value) s := by
  by_cases h : ctl < 4
  · exact keepsMemory_onHub ((exec_filterWord2Write ctl elem value s).trans (if_pos h)) lt_of_checkRight
  · exact .inr ⟨fun hok => h (lt_of_checkLeft hok), _, (exec_filterWord2Write ctl elem value s).trans (if_neg h)⟩

/-- The commands that stage nothing and reset nothing answer by `run`, `onSpoke`, `onUnit`, `onHub` or `onDieUnit` on the state itself. -/
theorem keepsMemory_of_touchesMemory {c : Instr} (hc : touchesMemory c = false) (s : State) : KeepsMemory c s := by
  cases c with
  | powerOnReset | externalReset | watchdog | restart | vbatAoLoss | registerWrite | tableLoad | fwBegin | fwChunk | fwCommit |
    flashWriteDone | fwActivate => exact absurd hc Bool.noConfusion
  | pcieReset | d3hot | suppliesGood | supplyTimeout | supplyRetry | pllLocked | flashDescriptorRead | imageSetAuthenticated |
    spokePowerSwitch | selftestDone | refclkFail | thermal | hubFault | safe | safeClear | park | autoPark | parked | selftest | spokeReset
    | wake | parkTimerExpiry | heartbeatWake | wakeDelayDone | idnHostAbi | armBallLow | ptAdjustment | lanePowerUp | geometryCycleStart |
    cycleEvaluationDone | prefetchWalk | decisionReport | markHoldExpiry | wbIdle | wbMaxAge | tileWriteBack | casCompletion |
    invalidateTimeout | doorbellPoll | doorbellReadComplete | hifCfgWrite | tableChecksDone | epoch | epochRecord | timePulse | pulseEnd |
    autoHoldExpiry | cadenceSend | cadence | conflictEnd | leaderLost | poseBroadcast | posePartsTimeout | edge | plannerLost | state |
    stateKeepalive | probe | duplicate | probeWindowEnd | logbookEvent | recordStored | scanDone | colophonSave | powerFailWarning |
    freezeTimeout | erase | eraseDone | hltClear | replan | marginApply | heartbeatSlot | heartbeat | partnerPeriodEnd | outputsQuiet |
    digest | tandemFeed | loopstate | wbdone | yield_ | yieldTimeout | attach | attachTimeout | xfer | xferAck | xferResend | detach |
    tandemLinkDown | loopbackStart | loopbackStop | loopbackDone | pcieLoopback | boundaryScanInstruction | d0Entry | slewDone | aoClockFail
    | monitorMeasurement | heartbeatPulse | postWakePulse | tandemLinkDownTimeout | attachFrameSend | probeFrameSend | registerRead => exact .inl ⟨_, rfl⟩
  | spokeLinkTrained | spokeTrainTimeout | spokeLoaded | railAtTarget | prechargeTimeout | spokeDeclaresLinkLost | linkLost | ackTimeout |
    retrainingDone | retrainTimeout | resume | nak | frameBadCrc | idle | ptsync | ptadj | ptCheck | sched | feed | int | cmd | resp | data
    | clampEvent | boostFailure | outOfSupply | supplyRecovery | sclkCheck | agcUpdate | acquisitionDetection | jiEvaluation | derateCheck |
    powerGoodLoss => exact keepsMemory_onSpoke rfl
  | entryStart | entryEnd | windowStart | windowEnd | slipLimitExpiry | peakIReached | boostTmaxExpiry | peakTExpiry | chopThreshold |
    recovered | endOfTravel | decayKink | offWinExpiry | openLoadOn | openLoadOff | shortToBattery | shortToGround | overcurrent |
    overtemperature | overtempCooled | highSideOvercurrent | retryEnd | channelDisabledClear | cassetteDisabledClear | casOverload |
    loopTrigger | triggerTimeout | conversionDone | sampleComputed | pulseEdge | encoderEdge | spiPoll | spiFrameDone | pwmEnable |
    periodStart | midPeriodUpdate | deadTimeEnd | nodeCrossing | dtMaxExpiry | bootstrapRefresh | trip | clear | lockAchieved |
    pullInTimeout | lossOfLock | sidePeakShift | notchLock | notchRelease | chopPeriod | referenceEdge => exact keepsMemory_onUnit rfl lt_of_checkRight
  | compareMatch => exact keepsMemory_onUnit rfl lt_of_checkMiddle
  | missGraceExpiry | descriptorArrival | bufferReadDone | moderationTimer | ringStart | ringStop | ringStopped | ringReset | nop | pose |
    timeCorr | tableCommit | fieldSet | rateTable | tilePush | tileRequest | tileInvalidate | wbBuffer | arm | disarm | proof | outletForce
    | loopSetpoint | loopMode | loopCoeff | loopCommandTimeout | gnssBuffer | canSend | canAbort | canBuffer | logRead | logFreeze |
    logRelease | healthBuffer | healthNow | tdmAttach | tdmDetach | tdmYield | tdmBuffer | sbRole | sbProbe | sbBuffer | canEnable |
    canDisable | haltClear | busIntegration | protocolException | arbitration | frameTransmitted | busOffRecovery | recover | summaryPeriod
    | leakTimerExpiry | quietTimeout | foreignDrive | arbitrationLost => exact keepsMemory_onHub rfl lt_of_check
  | frameValid | attemptFailed | receiveError => exact keepsMemory_onHub rfl lt_of_checkLeft
  | edgeKeepalive | followerLost => exact keepsMemory_onHub rfl fun hok => (lt_of_check hok).trans (by decide)
  | sourceSignalChange => exact keepsMemory_onDieUnit (exec_sourceSignalChange ..) lt_of_checkRight
  | interruptTake => exact keepsMemory_onDieUnit (exec_interruptTake ..) lt_of_checkRight
  | eoi => exact keepsMemory_onDieUnit (exec_eoi ..) lt_of_checkRight
  | pendingWordWrite => exact keepsMemory_onDieUnit (exec_pendingWordWrite ..) lt_of_checkRight
  | configurationWrite => exact keepsMemory_onDieUnit (exec_configurationWrite ..) lt_of_checkRight
  | nudgeRaise => exact keepsMemory_onDieUnit (exec_nudgeRaise ..) lt_of_checkMiddle
  | nudgeLower => exact keepsMemory_onDieUnit (exec_nudgeLower ..) lt_of_checkMiddle
  | msixUnmask change => exact msixUnmask_keepsMemory change s
  | completionTimeout request => exact completionTimeout_keepsMemory request s
  | filterWord2Write ctl elem value => exact filterWord2Write_keepsMemory ctl elem value s

/-! ### The commands that stage, commit or reset -/

theorem pending_ite {c : Prop} [Decidable c] {s t u : State} (ht : t.pending = s.pending) (hu : u.pending = s.pending) :
    (if c then t else u).pending = s.pending := by
  split
  · exact ht
  · exact hu

theorem restart_pending (s : State) : (restart s).pending = s.pending := rfl

theorem restartCmd_pending (s : State) : (restartCmd s).pending = s.pending := pending_ite (restart_pending s) rfl

theorem storeWrite_pending (by_ : Agent) (off size : Nat) (v : Word) (s : State) : (storeWrite by_ off size v s).pending = s.pending :=
  pending_ite (restartCmd_pending s) rfl

theorem tableLoad_pending (i : Nat) (s : State) : (tableLoad i s).pending = s.pending := by
  unfold tableLoad
  split
  · exact pending_ite rfl rfl
  · rfl

theorem fwBegin_pending (i : Nat) (s : State) : (fwBegin i s).pending = s.pending := by
  unfold fwBegin
  split
  · exact pending_ite rfl (pending_ite rfl rfl)
  · rfl

theorem fwChunk_pending (i : Nat) (s : State) : (fwChunk i s).pending = s.pending := by
  unfold fwChunk
  split
  · exact pending_ite rfl (pending_ite rfl (pending_ite rfl rfl))
  · rfl

theorem commitPlaced_pending (i j : Nat) (act : Bool) (z : ImageSet) (s : State) : (commitPlaced i j act z s).pending = s.pending :=
  pending_ite rfl (pending_ite rfl (pending_ite rfl rfl))

theorem fwCommit_pending (i : Nat) (defs : List (Nat × Word)) (role : Option (List Byte)) (s : State) :
    (fwCommit i defs role s).pending = s.pending := by
  unfold fwCommit
  split
  · refine pending_ite rfl (pending_ite rfl ?_)
    dsimp only
    split
    · exact pending_ite (commitPlaced_pending ..) rfl
    · rfl
  · rfl

theorem fwActivate_pending (i : Nat) (s : State) : (fwActivate i s).pending = s.pending := by
  unfold fwActivate
  split
  · refine pending_ite rfl (pending_ite rfl (pending_ite rfl rfl))
  · rfl

theorem flashDone_pending (good : Bool) (s : State) : (flashDone good s).pending = s.pending := by
  unfold flashDone
  split
  · rfl
  · exact pending_ite (commitPlaced_pending ..) rfl

theorem keepsQueue_next {c : Instr} {s t : State} (hc : exec c s = .next t) (ht : t.pending = s.pending) : KeepsQueue c s := .inl ⟨t, hc, ht⟩

theorem externalReset_keepsQueue (level : Bool) (s : State) : KeepsQueue (.externalReset level) s := by
  cases level with
  | true => exact keepsQueue_next rfl rfl
  | false => exact keepsQueue_next rfl rfl

theorem watchdog_keepsQueue (s : State) : KeepsQueue .watchdog s := by
  by_cases h : (pstate s.dev = .cold || pstate s.dev = .parked) = true
  · exact keepsQueue_next ((exec_watchdog s).trans (if_pos h)) rfl
  · exact keepsQueue_next ((exec_watchdog s).trans (if_neg h)) rfl

/-- Every command keeps the queue. -/
theorem keepsQueue (c : Instr) (s : State) : KeepsQueue c s := by
  cases hc : touchesMemory c with
  | false => exact (keepsMemory_of_touchesMemory hc s).keepsQueue
  | true =>
    cases c with
    | powerOnReset => exact keepsQueue_next rfl rfl
    | externalReset level => exact externalReset_keepsQueue level s
    | watchdog => exact watchdog_keepsQueue s
    | restart => exact keepsQueue_next rfl (restartCmd_pending s)
    | vbatAoLoss at_ => exact keepsQueue_next rfl rfl
    | registerWrite addr size value by_ => exact keepsQueue_next rfl (pending_ite (storeWrite_pending ..) rfl)
    | tableLoad i => exact keepsQueue_onHub rfl (tableLoad_pending i s) lt_of_check
    | fwBegin i => exact keepsQueue_onHub rfl (fwBegin_pending i s) lt_of_check
    | fwChunk i => exact keepsQueue_onHub rfl (fwChunk_pending i s) lt_of_check
    | fwCommit i defs role => exact keepsQueue_onHub rfl (fwCommit_pending i defs role s) lt_of_check
    | flashWriteDone good => exact keepsQueue_next rfl (flashDone_pending good s)
    | fwActivate i => exact keepsQueue_onHub rfl (fwActivate_pending i s) lt_of_check
    | _ => exact absurd hc Bool.noConfusion

/-! ### The obligation -/

theorem exec_pending {c : Instr} {s t : State} (h : exec c s = .next t) : t.pending = s.pending := by
  obtain ⟨u, hu, hp⟩ | ⟨-, e, he⟩ := keepsQueue c s
  · rw [hu] at h
    cases h
    exact hp
  · rw [he] at h
    cases h

/-- As many steps as commands wait take the commands off the queue one by one. -/
theorem runsTo_empties {n : Nat} {s t : State} (hn : s.pending.length = n) (h : RunsTo n s t) : t.pending = [] := by
  induction n generalizing s with
  | zero =>
    obtain rfl : t = s := h
    exact List.length_eq_zero_iff.mp hn
  | succ n ih =>
    obtain ⟨u, hstep, hrest⟩ := h
    obtain ⟨c, rest, hs⟩ := List.exists_cons_of_length_eq_add_one hn
    rw [step_front hs] at hstep
    have hu : u.pending = rest := exec_pending hstep
    exact ih (by rw [hu]; simpa [hs] using hn) hrest

/-- Settles O54: every command keeps the queue (`keepsQueue`), one that faults fails its checks, and a command that stages and resets nothing changes
the device alone (`keepsMemory_of_touchesMemory`). -/
theorem commandsKeepQueueAndMemory : Obligations.CommandsKeepQueueAndMemory := by
  refine ⟨fun c s t h => exec_pending h, fun c s hok => ?_, fun s t h => runsTo_empties rfl h, fun c s t hc h a => ?_⟩
  · exact (keepsQueue c s).resolve_right fun hno => hno.1 hok
  · obtain ⟨d, hd⟩ | ⟨-, e, he⟩ := keepsMemory_of_touchesMemory hc s
    · rw [hd] at h
      cases h
      exact ⟨rfl, rfl⟩
    · rw [he] at h
      cases h

end Sys2Proof.Proofs
end

section
/-! The frame of the ring operations: where no buffer word is upset, each changes the parts of the device it names; where one is, those and what the
check changes (R43 to R45). -/
namespace Sys2Proof.Proofs
open Sys2Proof Sys2Proof.Machine Sys2Proof.Laws

/-- From a to b only the parts ps changed and no word became upset; or with an upset word those parts and what its check changes. -/
def Frame (ps : List Part) (a b : Dev) : Prop := (a.ecc = [] → Keeps ps a b ∧ b.ecc = []) ∧ Keeps (ps ++ upsetParts) a b

namespace Frame
variable {ps qs rs : List Part} {a b c : Dev}

theorem keeps_upset (h : Keeps qs a b) (hs : ∀ p ∈ qs, p ∈ upsetParts) : Keeps (ps ++ upsetParts) a b :=
  keeps_mono h fun p hp => List.mem_append_right _ (hs p hp)

/-- An operation that crosses a protection boundary, from what it changes with a good word and with any. -/
theorem of_crossing (hclean : a.ecc = [] → Keeps qs a b) (hupset : Keeps rs a b) (hs : ∀ p ∈ qs, p ∈ ps ∧ p ≠ .ecc)
    (hr : ∀ p ∈ rs, p ∈ ps ++ upsetParts) : Frame ps a b := by
  refine ⟨fun he => ⟨keeps_mono (hclean he) fun p hp => (hs p hp).1, ?_⟩, keeps_mono hupset hr⟩
  exact (hclean he .ecc fun hp => (hs _ hp).2 rfl).symm.trans he

theorem of_keeps (h : Keeps qs a b) (hs : ∀ p ∈ qs, p ∈ ps ∧ p ≠ .ecc) : Frame ps a b :=
  of_crossing (fun _ => h) h hs fun p hp => List.mem_append_left _ (hs p hp).1

theorem refl (ps : List Part) (a : Dev) : Frame ps a a := of_keeps (keeps_refl [] a) (List.forall_mem_nil _)

theorem mono (h : Frame qs a b) (hs : ∀ p ∈ qs, p ∈ ps) : Frame ps a b := by
  obtain ⟨hclean, hupset⟩ := h
  refine ⟨fun he => (hclean he).imp_left fun hk => keeps_mono hk hs, keeps_mono hupset fun p hp => ?_⟩
  exact List.mem_append.mpr ((List.mem_append.mp hp).imp_left (hs p))

theorem trans (h : Frame ps a b) (g : Frame ps b c) : Frame ps a c := by
  refine ⟨fun ha => ?_, keeps_trans h.2 g.2⟩
  obtain ⟨hab, hb⟩ := h.1 ha
  obtain ⟨hbc, hc⟩ := g.1 hb
  exact ⟨keeps_trans hab hbc, hc⟩

theorem ite {p : Prop} [Decidable p] (hb : Frame ps a b) (hc : Frame ps a c) : Frame ps a (if p then b else c) := by
  split
  · exact hb
  · exact hc

theorem eachD {α : Type} (xs : List α) {f : α → Dev → Dev} (h : ∀ x d, Frame ps d (f x d)) (d : Dev) :
    Frame ps d (eachD xs f d) := by
  induction xs generalizing d with
  | nil => exact refl ps d
  | cons x xs ih => exact (h x d).trans (ih (f x d))

theorem whenD {f : Dev → Dev} (w : Bool) (h : ∀ d, Frame ps d (f d)) (d : Dev) : Frame ps d (whenD w f d) := ite (h d) (refl ps d)

theorem checkEcc {p f : Dev → Dev} (row u die : Nat) (hp : ∀ d, Frame ps d (p d)) (hf : ∀ d, Keeps (ps ++ upsetParts) d (f d)) (d : Dev) :
    Frame ps d (checkEcc row u die p f d) := by
  unfold Machine.checkEcc
  split
  · exact hp d
  · rename_i x hx
    refine ⟨fun he => ?_, ?_⟩
    · rw [upsetAt_clean row u he] at hx
      cases hx
    · refine keeps_trans (keeps_upset (ecc_keeps (d.ecc.erase x) d) (by decide)) ?_
      dsimp only
      split
      · exact keeps_trans (keeps_upset (healthReport_keeps _ _ _) (by decide)) (hp _).2
      · exact hf _

theorem crossEcc {p f : Dev → Dev} (row u die r q : Nat) (hp : ∀ d, Frame ps d (p d)) (hf : ∀ d, Keeps (ps ++ upsetParts) d (f d)) (d : Dev) :
    Frame ps d (crossEcc row u die r q p f d) :=
  checkEcc row u die hp (fun e => keeps_trans (keeps_upset (logEvent_keeps _ _ _ _ _ _ e) (by decide)) (hf _)) d

theorem startDesc {f : InDesc → Dev → Dev} (i op : Nat) (h : ∀ x d, Frame ps d (f x d)) (d : Dev) : Frame ps d (startDesc i op f d) := by
  unfold Machine.startDesc
  split
  · exact ite (h _ d) (refl ps d)
  · exact refl ps d

/-! ### Completions -/

theorem putCompletion (i : Nat) (x : InDesc) (st dt : Nat) (bs : List Byte) (d : Dev) : Frame [.out, .pcie, .host] d (putCompletion i x st dt bs d) :=
  of_crossing (putCompletion_clean i x st dt bs d) (putCompletion_keeps i x st dt bs d) (by decide) (by decide)

theorem complete (i j st dt : Nat) (bs : List Byte) (d : Dev) : Frame [.out, .pcie, .host] d (complete i j st dt bs d) :=
  of_crossing (complete_clean i j st dt bs) (complete_keeps i j st dt bs d) (by decide) (by decide)

theorem writeProgress (slot v : Nat) (d : Dev) : Frame [.out] d (writeProgress slot v d) :=
  crossEcc _ _ _ _ _ (fun e => of_keeps (emit_keeps _ e) (by decide)) (fun e => keeps_upset (ringError_keeps _ _ _ e) (by decide)) d

/-! ### Buffers filled in order -/

theorem drainRx (c n : Nat) (d : Dev) : Frame [.regs, .out, .pcie, .host, .can] d (drainRx c n d) := by
  induction n generalizing d with
  | zero => exact refl _ d
  | succ n ih =>
    unfold Machine.drainRx
    split
    · exact refl _ d
    · split
      · exact (of_keeps (updCan_keeps _ _ _) (by decide)).trans (((putCompletion ..).mono (by decide)).trans (ih _))
      · exact of_keeps (noBuf_keeps _ _ _) (by decide)

theorem tdmDrain (n : Nat) (d : Dev) : Frame [.regs, .out, .pcie, .host, .tdm] d (tdmDrain n d) := by
  induction n generalizing d with
  | zero => exact refl _ d
  | succ n ih =>
    unfold Machine.tdmDrain
    split
    · exact refl _ d
    · split
      · exact (of_keeps (updTdm_keeps _ _) (by decide)).trans (((putCompletion ..).mono (by decide)).trans (ih _))
      · exact of_keeps (noBuf_keeps _ _ _) (by decide)

theorem soxDrain (n : Nat) (d : Dev) : Frame [.regs, .out, .pcie, .host, .sox] d (soxDrain n d) := by
  induction n generalizing d with
  | zero => exact refl _ d
  | succ n ih =>
    unfold Machine.soxDrain
    split
    · exact refl _ d
    · split
      · exact (of_keeps (updSox_keeps _ _) (by decide)).trans (((putCompletion ..).mono (by decide)).trans (ih _))
      · exact of_keeps (noBuf_keeps _ _ _) (by decide)

theorem updHealth_keeps (f : Health → Health) (d : Dev) : Keeps [.health] d (updHealth f d) := fun p hp => by
  cases p with
  | health => simp at hp
  | pt | regs => exact ⟨rfl, rfl⟩
  | _ => rfl

theorem healthDeliver (told : Bool) (n : Nat) (d : Dev) : Frame [.regs, .out, .pcie, .host, .health] d (healthDeliver told n d) := by
  induction n generalizing d with
  | zero => exact refl _ d
  | succ n ih =>
    unfold Machine.healthDeliver
    split
    · exact refl _ d
    · split
      · exact ite (of_keeps (keeps_trans (noBuf_keeps _ _ _) (raise_keeps _ _)) (by decide)) (refl _ d)
      · exact ite (((putCompletion ..).mono (by decide)).trans (ih _))
          ((of_keeps (updHealth_keeps _ _) (by decide)).trans ((putCompletion ..).mono (by decide)))

/-! ### The units an opcode names -/

theorem awaitCycle (i : Nat) (x : InDesc) (d : Dev) : Frame [.host, .eng] d (awaitCycle i x d) := of_keeps (awaitCycle_keeps i x d) (by decide)

theorem passLoop (i : Nat) (x : InDesc) (cmd : LoopCmd) (d : Dev) : Frame [.links, .host] d (passLoop i x cmd d) :=
  ite ((of_keeps (updDesc_keeps _ _ _ _) (by decide)).trans (of_keeps (linkSend_keeps _ _ _ _) (by decide)))
    (of_keeps (updDesc_keeps _ _ _ _) (by decide))

theorem endEntryTx (n : Nat) (e : TxEntry) (d : Dev) : Frame [.out, .pcie, .host] d (endEntryTx n e stAborted d) := by
  unfold Machine.endEntryTx
  split
  · exact complete ..
  · exact refl _ d
  · rw [if_neg (by decide)]
    exact refl _ d
  · exact refl _ d

theorem withdraw (n : Nat) (sel : TxEntry → Bool) (d : Dev) : Frame [.out, .pcie, .host, .can] d (withdraw n sel d).1 :=
  (of_keeps (updCan_keeps _ _ _) (by decide)).trans (eachD _ (fun e u => ((endEntryTx n e u).mono (by decide))) _)

/-- A DETACH frame carries nothing left open. -/
theorem tdmSend_detach (start : Nat) (d : Dev) : Frame [.out, .tdm] d (tdmSend (.detach start) d) :=
  crossEcc _ _ _ _ _ (fun e => (of_keeps (updTdm_keeps _ e) (by decide)).trans (of_keeps (emit_keeps _ _) (by decide))) (fun e => keeps_refl _ e) d

theorem tdmSend (f : TdmFrame) (d : Dev) : Frame [.free, .out, .tdm] d (tdmSend f d) :=
  crossEcc _ _ _ _ _ (fun e => of_keeps (tdmPut_keeps f e) (by decide)) (fun e => keeps_refl _ e) d

theorem attachSend (d : Dev) : Frame [.free, .out, .tdm] d (attachSend d) := by
  unfold Machine.attachSend
  split
  · exact refl _ d
  · exact (tdmSend _ d).trans (of_keeps (updTdm_keeps _ _) (by decide))

theorem nextCounter (cls : Nat) (d : Dev) : Frame [.free, .sox] d (nextCounter cls d).2 := by
  unfold Machine.nextCounter
  dsimp only
  split
  · exact of_keeps (updSox_keeps _ _) (by decide)
  · exact (of_keeps (fresh_keeps _) (by decide)).trans (of_keeps (updSox_keeps _ _) (by decide))

theorem soxQueue (cls dest spec : Nat) (single : Bool) (bs : List Byte) (d : Dev) : Frame [.free, .can, .sox] d (soxQueue cls dest spec single bs d) :=
  ite (refl _ d) (crossEcc _ _ _ _ _ (fun e => ((nextCounter cls e).mono (by decide)).trans (of_keeps (updCan_keeps _ _ _) (by decide)))
    (fun e => keeps_refl _ e) d)

theorem probeSend (d : Dev) : Frame [.free, .can, .sox] d (probeSend d) := by
  unfold Machine.probeSend
  split
  · exact refl _ d
  · exact (soxQueue ..).trans (of_keeps (updSox_keeps _ _) (by decide))

theorem probeStart (role : Option RoleRec) (desc : Option (Nat × Nat)) (d : Dev) : Frame [.free, .can, .sox] d (probeStart role desc d) :=
  (of_keeps (freeBytes_keeps 8 d) (by decide)).trans ((of_keeps (updSox_keeps _ _) (by decide)).trans (probeSend _))

/-! ### The logbook -/

theorem storeEntry (e : LogEntry) (d : Dev) : Frame [.regs, .log] d (storeEntry e d) := by
  have hslot (slot : Nat) (x : LogEntry) (u : Dev) : Frame [.regs, .log] u (writeSlot slot x u) :=
    (of_keeps (log_keeps _ u) (by decide)).trans (of_keeps (setF_keeps _ _ _) (by decide))
  have hsummary : Frame [.regs, .log] d (storeSummary e d) := by
    unfold storeSummary
    split
    · exact refl _ d
    · exact (hslot _ _ d).trans (of_keeps (log_keeps _ _) (by decide))
  have hdrop (u : Dev) : Frame [.regs, .log] u (storeDrop e.sev u) := by
    unfold storeDrop
    refine Frame.trans ?_ ((of_keeps (raise_keeps _ _) (by decide)).trans (of_keeps (noteDrop_keeps _ _) (by decide)))
    split
    · exact of_keeps (countF_keeps _ u) (by decide)
    · exact of_keeps (countF_keeps _ u) (by decide)
  unfold Machine.storeEntry
  dsimp only
  split
  · exact hsummary.trans (hslot _ _ _)
  · exact hsummary.trans (hdrop _)

theorem finishWrite (d : Dev) : Frame [.regs, .log] d (finishWrite d) := by
  have hhead : Frame [.regs, .log] d (storeHead d) := by
    unfold storeHead
    split
    · exact ite ((of_keeps (log_keeps _ d) (by decide)).trans
        (checkEcc _ _ _ (fun u => storeEntry _ u) (fun u => keeps_upset (galleyDrop_keeps _ u) (by decide)) _)) (refl _ d)
    · exact refl _ d
  have hsummary (e : LogEntry) : Frame [.regs, .log] d (storeSummary e d) := by
    unfold storeSummary
    split
    · exact refl _ d
    · exact ((of_keeps (log_keeps _ d) (by decide)).trans (of_keeps (setF_keeps _ _ _) (by decide))).trans (of_keeps (log_keeps _ _) (by decide))
  unfold Machine.finishWrite
  split
  · exact refl _ d
  · exact ite (hsummary _) hhead

theorem storeSeen (d : Dev) : Frame [.free] d (storeSeen d).2 := by
  unfold Machine.storeSeen
  split
  · exact refl _ d
  · exact of_keeps (fresh_keeps d) (by decide)

/-! ### Messages, reads and the ring commands -/

theorem pcie_keeps (x : Pcie) (d : Dev) : Keeps [.pcie] d { d with pcie := x } := fun p hp => by
  cases p with
  | pcie => simp at hp
  | pt | regs => exact ⟨rfl, rfl⟩
  | _ => rfl

theorem withReads_parts (reads waits : List HostRead) (es : List OutEvent) (d : Dev) : Keeps [.out, .host] d (withReads reads waits es d) :=
  fun p hp => by
  cases p with
  | out | host => simp at hp
  | pt | regs => exact ⟨rfl, rfl⟩
  | _ => rfl

theorem readsEnded (q : HostReq) (d : Dev) : Frame [.out, .host] d (readsEnded q d) := by
  obtain ⟨rs, ws, es, he⟩ := readsEnded_reads q d
  rw [he]
  exact of_keeps (withReads_parts rs ws es d) (by decide)

theorem msixRelease (d : Dev) : Frame [.out, .pcie] d (msixRelease d) :=
  (of_keeps (pcie_keeps _ d) (by decide)).trans (eachD _ (fun v u => of_keeps (msixGo_keeps v u) (by decide)) _)

theorem msixControl (on mask : Bool) (d : Dev) : Frame [.out, .pcie] d (msixControl on mask d) :=
  (of_keeps (pcie_keeps _ d) (by decide)).trans
    ((whenD _ (fun u => eachD _ (fun v w => of_keeps (msixSend_keeps v w) (by decide)) u) _).trans (msixRelease _))

theorem msixChange (change : MsixChange) (d : Dev) : Frame [.out, .pcie] d (msixChange change d) := by
  cases change with
  | vector v masked => exact (of_keeps (pcie_keeps _ d) (by decide)).trans (msixRelease _)
  | enable on => exact msixControl ..
  | functionMask on => exact msixControl ..
  | linkUp => exact (of_keeps (pcie_keeps _ d) (by decide)).trans (msixRelease _)

theorem ringWrite {f : Dev → Dev} (i : Nat) {d : Dev} (h : Frame ps d (f d)) : Frame ps d (ringWrite i f d) := ite (refl ps d) h

theorem ringStart (i : Nat) (d : Dev) : Frame [.regs, .out, .host] d (ringStart i d) := by
  refine ite (of_keeps (raise_keeps _ d) (by decide)) ?_
  refine (of_keeps (updRing_keeps i keepModeration d) (by decide)).trans ((of_keeps (setRingState_keeps i .running _) (by decide)).trans ?_)
  exact ((writeProgress ..).mono (by decide)).trans (((writeProgress ..).mono (by decide)).trans (of_keeps (updHost_keeps _ _) (by decide)))

theorem ringStop (i : Nat) (d : Dev) : Frame [.regs, .out, .pcie, .host, .can] d (ringStop i d) := by
  refine ite (of_keeps (raise_keeps _ d) (by decide)) ((of_keeps (setRingState_keeps i .stopping d) (by decide)).trans ?_)
  exact Frame.trans (ite ((withdraw ..).mono (by decide)) (refl _ _)) (eachD _ (fun x u => ((complete ..).mono (by decide))) _)

theorem ringStopped (i : Nat) (d : Dev) : Frame [.regs] d (ringStopped i d) := ite (of_keeps (setRingState_keeps i _ d) (by decide)) (refl _ d)

theorem moderationTimer (i : Nat) (d : Dev) : Frame [.out, .pcie, .host] d (moderationTimer i d) := by
  unfold Machine.moderationTimer
  dsimp only
  split
  · exact ite (of_keeps (ringMessage_keeps i d) (by decide)) (refl _ d)
  · exact refl _ d

theorem loopCmdTimeout (i j : Nat) (d : Dev) : Frame [.out, .pcie, .host] d (loopCmdTimeout i j d) := by
  unfold Machine.loopCmdTimeout
  split
  · exact refl _ d
  · exact ite (complete ..) (refl _ d)

theorem bufferRead (i j : Nat) (r : ReadResult) (d : Dev) : Frame [.regs, .out, .pcie, .host, .log] d (bufferRead i j r d) := by
  have hready (bs : List Byte) (u : Dev) :
      Frame [.regs, .out, .pcie, .host, .log] u (updDesc i j (fun x => { x with stage := .ready, buf := bs }) u) :=
    of_keeps (updDesc_keeps i j _ u) (by decide)
  have hbad (row : Nat) (u : Dev) : Frame [.regs, .out, .pcie, .host, .log] u (Machine.complete i j stBadCrc 3 [] (crcFail row i j u)) :=
    (of_keeps (logEvent_keeps _ _ _ _ _ _ u) (by decide)).trans ((complete ..).mono (by decide))
  unfold Machine.bufferRead
  refine ((readsEnded (.buffer i j) d).mono (by decide)).trans ?_
  generalize Machine.readsEnded (.buffer i j) d = u
  dsimp only
  split
  · exact refl _ u
  · refine ite (refl _ u) ?_
    split
    · exact ite (refl _ u) (ite (ite (hready _ u) (hbad 2 u)) (ite (hready _ u) (hbad 1 u)))
    · exact of_keeps (ringError_keeps _ _ _ u) (by decide)

theorem writeHifCfg (v : Nat) (d : Dev) : Frame [.regs, .eng] d (writeHifCfg v d) :=
  (whenD _ (fun u => of_keeps (setF_keeps _ _ u) (by decide)) d).trans ((of_keeps (flag_keeps _ _ _) (by decide)).trans
    (Frame.trans (ite (of_keeps (updEng_keeps (fun g => { g with casWithdrawn := false }) _) (by decide)) (refl _ _))
      (of_keeps (flag_keeps _ _ _) (by decide))))

/-! ### The opcodes -/

theorem armDesc (i : Nat) (x : InDesc) (d : Dev) : Frame [.regs, .out, .pwr, .pcie, .host] d (armDesc i x d) := by
  refine ite ((complete ..).mono (by decide)) ?_
  split
  · exact (of_keeps (holdDesc_keeps i x d) (by decide)).trans (of_keeps (updPwr_keeps _ _) (by decide))
  · exact (of_keeps (setF_keeps _ _ d) (by decide)).trans ((complete ..).mono (by decide))

theorem disarmDesc (i : Nat) (x : InDesc) (d : Dev) : Frame [.regs, .out, .pwr, .pcie, .host] d (disarmDesc i x d) :=
  ite ((of_keeps (holdDesc_keeps i x d) (by decide)).trans (of_keeps (updPwr_keeps _ _) (by decide))) ((complete ..).mono (by decide))

theorem pushDesc (i : Nat) (x : InDesc) (d : Dev) : Frame [.out, .pcie, .host, .eng] d (pushDesc i x d) := by
  unfold Machine.pushDesc
  split
  · exact ((awaitCycle ..).mono (by decide))
  · exact ((complete ..).mono (by decide))

theorem fieldDesc (i : Nat) (x : InDesc) (d : Dev) : Frame [.out, .pcie, .host, .eng] d (fieldDesc i x d) :=
  ite ((complete ..).mono (by decide)) ((awaitCycle ..).mono (by decide))

theorem forceDesc (i : Nat) (x : InDesc) (d : Dev) : Frame [.out, .pcie, .host, .eng] d (forceDesc i x d) :=
  ite ((complete ..).mono (by decide)) ((awaitCycle ..).mono (by decide))

theorem tableCommit (i : Nat) (d : Dev) : Frame [.out, .pcie, .host, .eng] d (tableCommit i d) :=
  startDesc i _ (fun x u => ite ((complete ..).mono (by decide))
    ((of_keeps (holdDesc_keeps i x u) (by decide)).trans (of_keeps (updEng_keeps _ _) (by decide)))) d

theorem logReadDesc (i : Nat) (x : InDesc) (d : Dev) : Frame [.free, .out, .pcie, .host] d (logReadDesc i x d) :=
  ite ((complete ..).mono (by decide)) (((storeSeen d).mono (by decide)).trans ((complete ..).mono (by decide)))

theorem logFreezeDesc (i : Nat) (x : InDesc) (d : Dev) : Frame [.regs, .out, .pcie, .host, .log] d (logFreezeDesc i x d) :=
  ite ((complete ..).mono (by decide)) (((finishWrite d).mono (by decide)).trans
    ((of_keeps (log_keeps _ _) (by decide)).trans ((complete ..).mono (by decide))))

theorem canSend (i : Nat) (d : Dev) : Frame [.regs, .out, .pcie, .host, .can] d (canSend i d) :=
  startDesc i _ (fun x u => ite ((complete ..).mono (by decide)) (ite ((complete ..).mono (by decide))
    (ite (refl _ u) ((of_keeps (holdDesc_keeps i x u) (by decide)).trans (of_keeps (updCan_keeps _ _ _) (by decide)))))) d

theorem canAbort (i : Nat) (d : Dev) : Frame [.regs, .out, .pcie, .host, .can] d (canAbort i d) :=
  startDesc i _ (fun _ _ => ((withdraw ..).mono (by decide)).trans ((complete ..).mono (by decide))) d

theorem tdmDetach (i : Nat) (d : Dev) : Frame [.regs, .out, .pcie, .host, .tdm] d (tdmDetach i d) :=
  startDesc i _ (fun x u => ite (refl _ u) ((of_keeps (holdDesc_keeps i x u) (by decide)).trans
    ((whenD _ (fun w => ((tdmSend_detach _ w).mono (by decide))) _).trans (of_keeps (updTdm_keeps _ _) (by decide))))) d

theorem tdmYield (i : Nat) (d : Dev) : Frame [.regs, .out, .pcie, .host, .tdm] d (tdmYield i d) :=
  startDesc i _ (fun x u => ite ((complete ..).mono (by decide))
    ((of_keeps (holdDesc_keeps i x u) (by decide)).trans (of_keeps (updTdm_keeps _ _) (by decide)))) d

theorem tdmAttach (i : Nat) (d : Dev) : Frame [.free, .regs, .out, .pcie, .host, .tdm] d (tdmAttach i d) :=
  startDesc i _ (fun x u => ite (refl _ u) ((of_keeps (holdDesc_keeps i x u) (by decide)).trans
    ((whenD _ (fun w => of_keeps (setF_keeps _ _ w) (by decide)) _).trans
    ((of_keeps (updTdm_keeps _ _) (by decide)).trans ((attachSend _).mono (by decide)))))) d

theorem sbRole (i : Nat) (d : Dev) : Frame [.free, .regs, .out, .pcie, .host, .can, .sox] d (sbRole i d) :=
  startDesc i _ (fun x u => ite ((complete ..).mono (by decide)) (ite ((complete ..).mono (by decide)) (ite (refl _ u)
    ((of_keeps (holdDesc_keeps i x u) (by decide)).trans (ite (of_keeps (updSox_keeps _ _) (by decide)) ((probeStart ..).mono (by decide))))))) d

theorem sbProbe (i : Nat) (d : Dev) : Frame [.free, .regs, .out, .pcie, .host, .can, .sox] d (sbProbe i d) :=
  startDesc i _ (fun x u => ite ((complete ..).mono (by decide)) (ite (refl _ u)
    ((of_keeps (holdDesc_keeps i x u) (by decide)).trans ((probeStart ..).mono (by decide))))) d

theorem waitDesc (i op : Nat) (d : Dev) : Frame [.host] d (waitDesc i op d) := of_keeps (waitDesc_keeps i op d) (by decide)

end Frame

/-! ### The frame of a command -/

section
variable {ps : List Part} {c : Instr} {s u : State} {n m : Nat} {f : Dev → Dev}

theorem changesOnly_run (hc : exec c s = run f s) (h : Frame ps s.dev (f s.dev)) : ChangesOnly ps c s := by
  intro t ht
  rw [hc, run_next] at ht
  cases ht
  exact ⟨fun he => (h.1 he).1, h.2⟩

theorem changesOnly_onHub (hc : exec c s = onHub n m f u) (h : Frame ps s.dev (f u.dev)) : ChangesOnly ps c s := by
  intro t ht
  rw [hc, onHub] at ht
  split at ht
  · cases ht
    exact ⟨fun he => (h.1 he).1, h.2⟩
  · cases ht

end

theorem frame_tableLoad (i : Nat) (s : State) : Frame [.regs, .out, .pcie, .host] s.dev (tableLoad i s).dev := by
  unfold tableLoad
  split
  · split
    · exact (Frame.of_keeps (raise_keeps _ _) (by decide)).trans ((Frame.complete ..).mono (by decide))
    · exact Frame.refl _ _
  · exact Frame.refl _ _

theorem frame_fwBegin (i : Nat) (s : State) : Frame [.out, .pcie, .host] s.dev (fwBegin i s).dev := by
  unfold fwBegin
  split
  · split
    · exact Frame.refl _ _
    · split
      · exact Frame.complete ..
      · exact (Frame.of_keeps (updHost_keeps _ _) (by decide)).trans (Frame.complete ..)
  · exact Frame.refl _ _

theorem frame_fwChunk (i : Nat) (s : State) : Frame [.out, .pcie, .host] s.dev (fwChunk i s).dev := by
  unfold fwChunk
  split
  · dsimp only
    split
    · exact Frame.refl _ _
    · split
      · exact Frame.complete ..
      · split
        · exact Frame.complete ..
        · exact Frame.complete ..
  · exact Frame.refl _ _

/-- Settles O60: each command answers with the operation whose frame is above. -/
theorem framesOfRingOperations : Obligations.FramesOfRingOperations := by
  intro s i m r chg w on
  simp only [List.forall_mem_cons, List.not_mem_nil, IsEmpty.forall_iff, implies_true, and_true]
  have hhub {ps : List Part} {c : Instr} {f : Dev → Dev} (hc : exec c s = onHub i 32 f s) (h : ∀ d, Frame ps d (f d)) : ChangesOnly ps c s :=
    changesOnly_onHub hc (h s.dev)
  have hstart {ps : List Part} {c : Instr} {op : Nat} {f : InDesc → Dev → Dev} (hc : exec c s = onHub i 32 (startDesc i op f) s)
      (h : ∀ x d, Frame ps d (f x d)) : ChangesOnly ps c s := hhub hc (Frame.startDesc i op h)
  refine ⟨⟨?_, ?_, ?_⟩, ⟨?_, ?_, ?_⟩, ⟨?_, ?_, ?_⟩, ?_, ⟨?_, ?_, ?_, ?_⟩, ⟨?_, ?_, ?_, ?_⟩, ?_, ?_, ⟨?_, ?_⟩, ⟨?_, ?_, ?_⟩, ⟨?_, ?_⟩, ⟨?_, ?_, ?_⟩,
    ⟨?_, ?_, ?_⟩, ?_, ?_, ?_, ?_, ?_, ?_, ?_, ?_, ?_, ?_⟩
  · exact hhub (exec_tileRequest i s) (Frame.waitDesc i 0x31)
  · exact hhub (exec_wbBuffer i s) (Frame.waitDesc i 0x40)
  · exact hhub (exec_gnssBuffer i s) (Frame.waitDesc i 0x70)
  · exact hstart (exec_rateTable i s) (Frame.awaitCycle i)
  · exact hstart (exec_tileInvalidate i s) (Frame.awaitCycle i)
  · exact hstart (exec_proof i s) (Frame.awaitCycle i)
  · exact hstart (exec_loopSetpoint i s) fun x => Frame.passLoop i x _
  · exact hstart (exec_loopMode i s) fun x => Frame.passLoop i x _
  · exact hstart (exec_loopCoeff i s) fun x => Frame.passLoop i x _
  · exact hstart (exec_logRead i s) (Frame.logReadDesc i)
  · exact hstart (exec_nop i s) fun x => Frame.complete i x.index stOk 0 []
  · exact changesOnly_onHub (exec_fwBegin i s) (frame_fwBegin i s)
  · exact changesOnly_onHub (exec_fwChunk i s) (frame_fwChunk i s)
  · exact hhub (exec_moderationTimer i s) (Frame.moderationTimer i)
  · exact hhub (exec_tableCommit i s) (Frame.tableCommit i)
  · exact hstart (exec_fieldSet i s) (Frame.fieldDesc i)
  · exact hstart (exec_tilePush i s) (Frame.pushDesc i)
  · exact hstart (exec_outletForce i s) (Frame.forceDesc i)
  · exact hstart (exec_logFreeze i s) (Frame.logFreezeDesc i)
  · exact hstart (exec_logRelease i s) fun x d => (Frame.of_keeps (log_keeps _ d) (by decide)).trans ((Frame.complete ..).mono (by decide))
  · exact hstart (exec_arm i s) (Frame.armDesc i)
  · exact hstart (exec_disarm i s) (Frame.disarmDesc i)
  · exact hhub (exec_canSend i s) (Frame.canSend i)
  · exact hhub (exec_canAbort i s) (Frame.canAbort i)
  · exact hhub (exec_canBuffer i s) fun d => ((Frame.waitDesc i 0x90 d).mono (by decide)).trans (Frame.drainRx ..)
  · exact hhub (exec_healthBuffer i s) fun d => ((Frame.waitDesc i 0xC0 d).mono (by decide)).trans (Frame.healthDeliver ..)
  · exact hstart (exec_healthNow i s) fun x d => (Frame.of_keeps (Frame.updHealth_keeps _ d) (by decide)).trans ((Frame.complete ..).mono (by decide))
  · exact hhub (exec_tdmDetach i s) (Frame.tdmDetach i)
  · exact hhub (exec_tdmYield i s) (Frame.tdmYield i)
  · exact hhub (exec_tdmBuffer i s) fun d => ((Frame.waitDesc i 0xD3 d).mono (by decide)).trans (Frame.tdmDrain ..)
  · exact hhub (exec_sbRole i s) (Frame.sbRole i)
  · exact hhub (exec_sbProbe i s) (Frame.sbProbe i)
  · exact hhub (exec_sbBuffer i s) fun d => ((Frame.waitDesc i 0xE2 d).mono (by decide)).trans ((Frame.soxDrain ..).mono (by decide))
  · exact changesOnly_onHub (exec_tableLoad i s) (frame_tableLoad i s)
  · exact hhub (exec_ringStopped i s) (Frame.ringStopped i)
  · exact hhub (exec_ringStart i s) fun d => Frame.ringWrite i (Frame.ringStart i d)
  · exact hhub (exec_ringStop i s) fun d => Frame.ringWrite i (Frame.ringStop i d)
  · exact hhub (exec_bufferReadDone i m r s) (Frame.bufferRead i m r)
  · exact hhub (exec_loopCommandTimeout i m s) (Frame.loopCmdTimeout i m)
  · cases chg with
    | vector v masked => exact changesOnly_onHub (exec_msixUnmask (.vector v masked) s) (Frame.msixChange ..)
    | enable on => exact changesOnly_run (exec_msixUnmask (.enable on) s) (Frame.msixChange ..)
    | functionMask on => exact changesOnly_run (exec_msixUnmask (.functionMask on) s) (Frame.msixChange ..)
    | linkUp => exact changesOnly_run (exec_msixUnmask .linkUp s) (Frame.msixChange ..)
  · refine changesOnly_run (exec_d0Entry s) (Frame.ite ?_ (Frame.refl _ _))
    exact (Frame.of_keeps (Frame.pcie_keeps _ s.dev) (by decide)).trans
      ((Frame.of_keeps (updHost_keeps (fun h => { h with nextPoll := nextPeriod s.dev }) _) (by decide)).trans
        ((Frame.msixRelease _).mono (by decide)))
  · refine changesOnly_run (exec_hifCfgWrite w on s) ?_
    exact (Frame.of_keeps (Frame.pcie_keeps _ s.dev) (by decide)).trans ((Frame.writeHifCfg ..).mono (by decide))
  · exact hhub (exec_tdmAttach i s) (Frame.tdmAttach i)

end Sys2Proof.Proofs
end

section
/-! Timers and write-back of tiles (R185, R201 to R207), and the compare-and-swap of a merge (R89). -/
namespace Sys2Proof.Proofs
open Sys2Proof Sys2Proof.Machine Sys2Proof.Laws

/-! ### The tile of the field in force at a place -/

/-- A change of a tile that leaves its place and its field. -/
def KeepsKey (g : Tile → Tile) : Prop := ∀ t, (g t).kind = t.kind ∧ (g t).e = t.e ∧ (g t).n = t.n ∧ (g t).k = t.k ∧ (g t).fid = t.fid

theorem KeepsKey.ite {g : Tile → Tile} (p : Tile → Bool) (hg : KeepsKey g) : KeepsKey fun t => if p t then g t else t := fun t => by
  dsimp only
  split
  · exact hg t
  · exact ⟨rfl, rfl, rfl, rfl, rfl⟩

/-- A change of tiles that keeps their places is seen by `findTile`. -/
theorem findTile_map {g : Tile → Tile} (hg : KeepsKey g) (kind : Nat) (e n : Int) (d : Dev) :
    findTile kind e n (updEng (fun x => { x with tiles := x.tiles.map g }) d) = (findTile kind e n d).map g := by
  have hkey : (fun t => tileIs kind e n t && inField d t) ∘ g = fun t => tileIs kind e n t && inField d t := by
    funext t
    obtain ⟨hkind, he, hn, hk, hfid⟩ := hg t
    simp only [Function.comp, tileIs, inField, hkind, he, hn, hk, hfid]
  have hfind := List.find?_map (f := g) (p := fun t => tileIs kind e n t && inField d t) (l := d.eng.tiles)
  rw [hkey] at hfind
  exact hfind

theorem sameTile_self (t : Tile) : sameTile t t = true := by simp [sameTile, tileIs]

section
variable {e n : Int} {u : Tile} {d : Dev} (h : findTile 0 e n d = some u)
include h

theorem findTile_is : tileIs 0 e n u = true ∧ inField d u = true := by simpa using List.find?_some h

/-- The tile found, changed by name. -/
theorem findTile_updTile {g : Tile → Tile} (hg : KeepsKey g) : findTile 0 e n (updTile u g d) = some (g u) := by
  have hmap := findTile_map (hg.ite (sameTile u)) 0 e n d
  rw [h, Option.map_some, if_pos (sameTile_self u)] at hmap
  exact hmap

/-- The tile found, changed with all of its place. -/
theorem findTile_updTiles {g : Tile → Tile} (hg : KeepsKey g) : findTile 0 e n (updTiles e n g d) = some (g u) := by
  have hmap := findTile_map (hg.ite (tileIs 0 e n)) 0 e n d
  rw [h, Option.map_some, if_pos (findTile_is h).1] at hmap
  exact hmap

theorem markHoldExpiry_due (hf : u.fresh ≠ []) (ht : u.lastMark + 125000000 * getF F.REG_CFG.MARK_HOLD d ≤ d.pt) (hm : u.markOnly = false) :
    markHoldExpiry e n d = updTile u (fun t => { t with fresh := [] }) d := by
  have hlate : ¬ d.pt < u.lastMark + ms (500 * getF F.REG_CFG.MARK_HOLD d) := by
    unfold ms
    omega
  simp [markHoldExpiry, h, hf, hlate, hm]

theorem findTile_wbIdle (hd : isDirty u = true) (hm : u.markOnly = false) (ht : u.lastRef + 250000 * getF F.REG_WB.IDLE d ≤ d.pt) :
    findTile 0 e n (wbIdle e n d) = some { u with wbDue := true } := by
  have hidle : u.lastRef + ms (getF F.REG_WB.IDLE d) ≤ d.pt := ht
  refine (findTile_updTiles h fun t => ?_).trans ?_
  · split <;> exact ⟨rfl, rfl, rfl, rfl, rfl⟩
  · simp [hd, hm, hidle]

theorem findTile_wbMaxAge {o : Nat} (hd : isDirty u = true) (ho : u.oldest = some o) (ht : o + 2500000 * getF F.REG_WB.MAX_AGE d ≤ d.pt) :
    findTile 0 e n (wbMaxAge e n d) = some { u with wbDue := true } := by
  have hage : o + ms (10 * getF F.REG_WB.MAX_AGE d) ≤ d.pt := by
    unfold ms
    omega
  refine (findTile_updTiles h fun t => ?_).trans ?_
  · split
    · split <;> exact ⟨rfl, rfl, rfl, rfl, rfl⟩
    · exact ⟨rfl, rfl, rfl, rfl, rfl⟩
  · simp [ho, hd, hage]

end

/-! ### An invalidation that could not write its tile (R185) -/

theorem marksLost_noted (t : Tile) (d : Dev) : getF F.REG_STATUS.MARK_LOST (marksLost t d) = 1 := by
  have hraise := getF_raise_same F.REG_STATUS.MARK_LOST d (by decide) rfl
  unfold marksLost
  dsimp only
  split
  · exact hraise
  · exact (getF_setF_otherReg _ _ _ _ (by decide)).trans hraise

theorem invalidateTimeout_lost {e n : Int} {u : Tile} {d : Dev} (h : lateTile e n d = some u) (hf : u.dropFor = []) :
    (∀ x ∈ (invalidateTimeout e n d).eng.tiles, sameTile u x = false) ∧ getF F.REG_STATUS.MARK_LOST (invalidateTimeout e n d) = 1 := by
  have hdrop (v : Dev) : dropDone u v = dropTile u v := by rw [dropDone, hf]; rfl
  have heq : invalidateTimeout e n d = dropTile u (logEvent 0x0305 4 ⟨0, 2, 0⟩ (toBits 32 e) (toBits 32 n) 0 (marksLost u d)) := by
    rw [← hdrop]
    simp only [invalidateTimeout, h]
  rw [heq]
  refine ⟨fun x hx => ?_, ?_⟩
  · obtain ⟨-, hno⟩ := List.mem_filter.mp hx
    simpa using hno
  · have hlog := (reportBlind_field (g := F.REG_STATUS.MARK_LOST) (by decide)).logEvent 0x0305 4 ⟨0, 2, 0⟩ (toBits 32 e) (toBits 32 n) 0 (marksLost u d)
    exact hlog.trans (marksLost_noted u d)

/-! ### A tile whose write-back is out (R204, R205) -/

/-- The tile without the increments that went out, and the captain's word of it to its partner. -/
def wroteOut (u : Tile) (snap : KMap Nat) (cycle : Nat) (d : Dev) : Dev :=
  let written := updTile u (fun t =>
    let left := lessSnap t.incr snap
    { t with incr := left, wbDue := false, marks := [], oldest := if left = [] then none else t.since.or t.oldest }) d
  whenD (isCaptain written) (tdmSend (.wbdone u.e u.n (implOf cycle written))) written

/-- An invalidated tile then leaves the store, with its marks lost where some are left; so does one that held its place for the marks alone. -/
theorem writeDone_cases (u : Tile) (snap : KMap Nat) (cycle : Nat) (d : Dev) : writeDone u snap cycle d = wroteOut u snap cycle d ∨
    ∃ t, writeDone u snap cycle d = dropDone t (wroteOut u snap cycle d) ∨
      writeDone u snap cycle d = marksLost t (dropDone t (wroteOut u snap cycle d)) ∨ writeDone u snap cycle d = dropTile t (wroteOut u snap cycle d) := by
  unfold writeDone
  dsimp only
  rw [← wroteOut]
  split
  · exact .inl rfl
  · rename_i t _
    split
    · split
      · exact .inr ⟨t, .inl rfl⟩
      · exact .inr ⟨t, .inr (.inl rfl)⟩
    · split
      · exact .inr ⟨t, .inr (.inr rfl)⟩
      · exact .inl rfl

/-! ### A failed compare-and-swap (R89) -/

/-- What a write-back that ends its merge changes of the registers: the flags of the tile store and its count of lost marks. -/
def mergeRegs : List Nat := [R.REG_STATUS.off, R.REG_TILE_STATS.off]

/-- What p shows of a device does not depend on how a write-back without compare-and-swap goes out. -/
structure MergeBlind {β : Type} (p : Dev → β) : Prop extends RingBlind p where
  mergeRegs : ∀ r w d, r.off ∈ mergeRegs → p (rput r w d) = p d
  host : ∀ x d, p { d with host := x } = p d
  tdm : ∀ x d, p { d with tdm := x } = p d
  eng : ∀ f d, (∀ g, (f g).writing = g.writing ∧ (f g).casWithdrawn = g.casWithdrawn) → p (updEng f d) = p d

namespace MergeBlind
variable {β : Type} {p : Dev → β} (hp : MergeBlind p)
include hp

theorem updTile (u : Tile) (f : Tile → Tile) (d : Dev) : p (updTile u f d) = p d := hp.eng _ _ fun _ => ⟨rfl, rfl⟩
theorem dropTile (u : Tile) (d : Dev) : p (dropTile u d) = p d := hp.eng _ _ fun _ => ⟨rfl, rfl⟩

theorem marksLost (t : Tile) (d : Dev) : p (marksLost t d) = p d := by
  have hraise : p (raise F.REG_STATUS.MARK_LOST d) = p d := (hp.marks _ _).trans (hp.mergeRegs _ _ _ (by decide))
  unfold Machine.marksLost
  dsimp only
  refine ite_keeps hraise ((hp.mergeRegs _ _ _ (by decide)).trans (Eq.trans ?_ hraise))
  exact hp.eng _ _ fun _ => ⟨rfl, rfl⟩

theorem dropDone (t : Tile) (d : Dev) : p (dropDone t d) = p d :=
  (eachD_keeps p _ _ (fun _ _ => whenD_keeps p _ _ (fun _ => hp.complete ..) _) _).trans (hp.dropTile t d)

theorem writtenSent (e n : Int) (c : Nat) (d : Dev) : p (tdmSend (.wbdone e n c) d) = p d :=
  hp.crossEcc _ _ _ _ _ (fun _ => (hp.out _ _).trans (hp.tdm _ _)) (fun _ => rfl) d

theorem wroteOut (u : Tile) (snap : KMap Nat) (c : Nat) (d : Dev) : p (wroteOut u snap c d) = p d :=
  (whenD_keeps p _ _ (fun _ => hp.writtenSent ..) _).trans (hp.updTile ..)

theorem writeDone (u : Tile) (snap : KMap Nat) (c : Nat) (d : Dev) : p (writeDone u snap c d) = p d := by
  obtain h | ⟨t, h | h | h⟩ := writeDone_cases u snap c d
  · rw [h, hp.wroteOut]
  · rw [h, hp.dropDone, hp.wroteOut]
  · rw [h, hp.marksLost, hp.dropDone, hp.wroteOut]
  · rw [h, hp.dropTile, hp.wroteOut]

theorem putTile (i : Nat) (x : InDesc) (dt : Nat) (bs : List Byte) (t : Tile) {done : Dev → Dev} (hdone : ∀ d, p (done d) = p d) (d : Dev) :
    p (putTile i x dt bs t done d) = p d := by
  refine hp.crossEcc _ _ _ _ _ (fun e => ?_) (fun e => ?_) d
  · exact (whenD_keeps p _ _ hdone _).trans (hp.putCompletion ..)
  · exact (hp.dropDone ..).trans ((hp.marksLost ..).trans (hp.putCompletion ..))

theorem releaseBuffer (w : WriteBack) (d : Dev) : p (releaseBuffer w d) = p d := ite_keeps (hp.host _ _) (hp.complete ..)

/-- The merge has ended; the tile goes out with what its words became. -/
theorem writeMerged (w : WriteBack) (fallback : Bool) (d : Dev) :
    p (writeMerged w fallback d) = p (updEng (fun g => { g with writing := none }) d) := by
  unfold Machine.writeMerged
  dsimp only
  split
  · exact ite_keeps (hp.putTile _ _ _ _ _ (hp.writeDone _ _ _) _) (hp.putTile _ _ _ _ _ (hp.writeDone _ _ _) _)
  · exact hp.releaseBuffer ..
  · rfl

end MergeBlind

theorem mergeBlind_field {f : Fld} (h : f.reg.off ∉ reportRegs) (hs : ∀ i, f.reg.off ≠ (R.HIF_RING_STATUS i).off) (hm : f.reg.off ∉ mergeRegs) :
    MergeBlind (getF f) where
  toRingBlind := ringBlind_field h hs
  mergeRegs r w d hr := by
    have hne : f.reg.off ≠ r.off := fun e => hm (e ▸ hr)
    simp [getF, rget_rput_other _ _ _ _ hne]
  host _ _ := rfl
  tdm _ _ := rfl
  eng _ _ _ := rfl

theorem mergeBlind_status {f : Fld} (hf : f.reg = R.HIF_STATUS) : MergeBlind (getF f) := by
  refine mergeBlind_field ?_ (fun i => ?_) ?_
  · rw [hf]
    decide
  · rw [hf]
    simp only [R.HIF_STATUS, R.HIF_RING_STATUS]
    omega
  · rw [hf]
    decide

theorem ringBlind_eng : RingBlind Dev.eng := by
  constructor
  case toReportBlind => constructor <;> (intros; rfl)
  all_goals intros; rfl

theorem mergeBlind_writing : MergeBlind fun d => d.eng.writing where
  toReportBlind := ⟨fun _ _ _ _ => rfl, fun _ _ => rfl, fun _ _ => rfl, fun _ _ => rfl⟩
  status _ _ _ := rfl
  ecc _ _ := rfl
  out _ _ := rfl
  pcie _ _ := rfl
  rings _ _ := rfl
  mergeRegs _ _ _ _ := rfl
  host _ _ := rfl
  tdm _ _ := rfl
  eng _ _ hf := (hf _).1

theorem mergeBlind_casWithdrawn : MergeBlind fun d => d.eng.casWithdrawn where
  toReportBlind := ⟨fun _ _ _ _ => rfl, fun _ _ => rfl, fun _ _ => rfl, fun _ _ => rfl⟩
  status _ _ _ := rfl
  ecc _ _ := rfl
  out _ _ := rfl
  pcie _ _ := rfl
  rings _ _ := rfl
  mergeRegs _ _ _ _ := rfl
  host _ _ := rfl
  tdm _ _ := rfl
  eng _ _ hf := (hf _).2

/-- The device once the fallback of a merge is noted. -/
def fallbackNoted (d : Dev) : Dev := logEvent 0x0306 3 ⟨0, 2, 0⟩ 0 0 0 (raise F.REG_STATUS.CAS_FALLBACK d)

theorem fallbackNoted_eng (d : Dev) : (fallbackNoted d).eng = d.eng := ringBlind_eng.logEvent ..

theorem fallbackNoted_status {f : Fld} (hf : f.reg = R.HIF_STATUS) (d : Dev) : getF f (fallbackNoted d) = getF f d := by
  have hp := mergeBlind_status hf
  exact (hp.logEvent ..).trans ((hp.marks _ _).trans (hp.mergeRegs _ _ _ (by decide)))

/-- A merge that falls back ends without compare-and-swap. -/
theorem casFallback_ends {w : WriteBack} {d : Dev} (h : d.eng.writing = some w) : let t := casFallback d
    t.eng.writing = none ∧ t.eng.casWithdrawn = d.eng.casWithdrawn ∧ ∀ f : Fld, f.reg = R.HIF_STATUS → getF f t = getF f d := by
  intro t
  have ht : t = writeMerged w true (fallbackNoted d) := by
    simp only [t, casFallback, h]
    rfl
  rw [ht]
  refine ⟨mergeBlind_writing.writeMerged .., ?_, fun f hf => ?_⟩
  · have hkeep : (fallbackNoted d).eng.casWithdrawn = d.eng.casWithdrawn := congrArg Engine.casWithdrawn (fallbackNoted_eng d)
    exact (mergeBlind_casWithdrawn.writeMerged ..).trans hkeep
  · exact ((mergeBlind_status hf).writeMerged ..).trans (fallbackNoted_status hf d)

theorem atomicFail_effect (d : Dev) : (atomicFail d).eng = { d.eng with casWithdrawn := true } ∧
    getF F.HIF_STATUS.ATOMIC_FAIL (atomicFail d) = 1 ∧ getF F.HIF_STATUS.ATOMIC_ACTIVE (atomicFail d) = 0 := by
  obtain ⟨v, hv⟩ : ∃ v, v = lower F.HIF_STATUS.ATOMIC_ACTIVE (raise F.HIF_STATUS.ATOMIC_FAIL d) := ⟨_, rfl⟩
  have heng : v.eng = d.eng := by rw [hv, lower_eng, raise_eng]
  have hfail : getF F.HIF_STATUS.ATOMIC_FAIL v = 1 := by
    rw [hv]
    exact (getF_setF_otherField _ _ (by decide) (by decide)).trans (getF_raise_same _ _ (by decide) rfl)
  have hactive : getF F.HIF_STATUS.ATOMIC_ACTIVE v = 0 := by
    rw [hv]
    exact getF_lower_same _ _ (by decide)
  have hdo : atomicFail d = { logEvent 0x0205 4 ⟨0, 1, 0⟩ 0 0 0 v with
      eng := { (logEvent 0x0205 4 ⟨0, 1, 0⟩ 0 0 0 v).eng with casWithdrawn := true } } := by
    rw [hv]
    rfl
  rw [hdo, ringBlind_eng.logEvent, heng]
  exact ⟨rfl, ((mergeBlind_status (f := F.HIF_STATUS.ATOMIC_FAIL) rfl).logEvent ..).trans hfail,
    ((mergeBlind_status (f := F.HIF_STATUS.ATOMIC_ACTIVE) rfl).logEvent ..).trans hactive⟩

/-- A compare-and-swap that fails ends the merge, and the use of the operation. -/
theorem casCompletion_aborts {w : WriteBack} {d : Dev} (hw : d.eng.writing = some w) (hs : d.eng.casStale = 0) : let t := casCompletion .abort d
    t.eng.writing = none ∧ t.eng.casWithdrawn = true ∧ getF F.HIF_STATUS.ATOMIC_FAIL t = 1 ∧ getF F.HIF_STATUS.ATOMIC_ACTIVE t = 0 := by
  intro t
  have ht : t = casFallback (atomicFail d) := by simp [t, casCompletion, hs, hw]
  obtain ⟨heng, hfail, hactive⟩ := atomicFail_effect d
  obtain ⟨hwriting, hgone, hstatus⟩ := casFallback_ends (d := atomicFail d) (w := w) (by rw [heng, hw])
  rw [ht]
  exact ⟨hwriting, hgone.trans (by rw [heng]), (hstatus _ rfl).trans hfail, (hstatus _ rfl).trans hactive⟩

/-- One whose merge was given up leaves the merge in progress alone. -/
theorem casCompletion_staleAborts {d : Dev} (hs : d.eng.casStale ≠ 0) : let t := casCompletion .abort d
    t.eng.writing = d.eng.writing ∧ t.eng.casStale = d.eng.casStale - 1 ∧ t.eng.casWithdrawn = true ∧ getF F.HIF_STATUS.ATOMIC_FAIL t = 1 ∧
      getF F.HIF_STATUS.ATOMIC_ACTIVE t = 0 := by
  intro t
  have ht : t = atomicFail (updEng (fun g => { g with casStale := g.casStale - 1 }) d) := by simp [t, casCompletion, hs]
  obtain ⟨heng, hfail, hactive⟩ := atomicFail_effect (updEng (fun g => { g with casStale := g.casStale - 1 }) d)
  rw [ht, heng]
  exact ⟨rfl, rfl, rfl, hfail, hactive⟩

/-- Both ways for a compare-and-swap to fail come to the same, once a read that ends has freed its place. -/
theorem completes_casAbort {s : State} {P : State → Prop} (h : ∀ d : Dev, d.eng = s.dev.eng → P { s with dev := casCompletion .abort d }) :
    ∀ c ∈ [Instr.casCompletion .abort, .completionTimeout .atomic], Completes c s P := by
  simp only [List.forall_mem_cons, List.not_mem_nil, IsEmpty.forall_iff, implies_true, and_true]
  refine ⟨completes_run (exec_casCompletion .abort s) (h _ rfl), completes_run (exec_completionTimeout .atomic s) ?_⟩
  obtain ⟨rs, ws, es, he⟩ := readEnded_reads .atomic s.dev
  have hdo : requestTimeout .atomic s.dev = casCompletion .abort (readEnded .atomic s.dev) := rfl
  rw [hdo]
  exact h _ (by rw [he]; rfl)

/-! ### A compare-and-swap that found another value (R206) -/

theorem tileOf_found {e n : Int} {u : Tile} {w : WriteBack} {d : Dev} (h : findTile 0 e n d = some u) (hk : sameTile u (tileKey w) = true) :
    tileOf w d = some u := by
  obtain ⟨hplace, hfield⟩ := findTile_is h
  simp only [sameTile, tileIs, inField, tileKey, Bool.and_eq_true, beq_iff_eq] at hk hplace hfield
  obtain ⟨⟨⟨⟨hkind, he⟩, hn⟩, hk'⟩, hfid⟩ := hk
  obtain ⟨⟨hkind', he'⟩, hn'⟩ := hplace
  obtain ⟨hfieldK, hfieldId⟩ := hfield
  have hpred : sameTile (tileKey w) = fun t => tileIs 0 e n t && inField d t := by
    funext t
    simp only [sameTile, tileIs, inField, tileKey]
    rw [← hkind', ← he', ← hn', ← hfieldK, ← hfieldId, hkind, he, hn, hk', hfid]
    rw [Bool.beq_comm (a := w.k), Bool.beq_comm (a := w.fid), Bool.and_assoc]
  rw [tileOf, hpred]
  exact h

theorem casCompletion_retries {u : Tile} {w : WriteBack} {bs : List Byte} {d : Dev} (hw : d.eng.writing = some w) (hs : d.eng.casStale = 0)
    (ht : tileOf w d = some u) (hne : leAt bs 0 8 ≠ w.expect) (htries : w.tries < 7) (ha : atomicsOpen d = true) :
    casCompletion (.ok bs) d = issueCas u { w with tries := w.tries + 1, expect := leAt bs 0 8 } d := by
  have hmore : w.tries ≠ 7 := by omega
  simp [casCompletion, hs, hw, hne, hmore, ht, tryCas, ha]

/-! ### A due tile goes out (R203, R204) -/

/-- From a to b a descriptor that is gone stays gone, and what was written to host memory stays written: messages alone are ever taken back. -/
def Onward (i j : Nat) (a b : Dev) : Prop :=
  (inFlight i j a = none → inFlight i j b = none) ∧ ∀ m bs, OutEvent.hostWrite m bs ∈ a.out → OutEvent.hostWrite m bs ∈ b.out

namespace Onward
variable {i j : Nat} {a b c : Dev}

theorem refl (a : Dev) : Onward i j a a := ⟨id, fun _ _ => id⟩

theorem trans (h : Onward i j a b) (g : Onward i j b c) : Onward i j a c := ⟨g.1 ∘ h.1, fun m bs hm => g.2 m bs (h.2 m bs hm)⟩

theorem of_keeps {ps : List Part} (h : Keeps ps a b) (hs : Part.out ∉ ps ∧ Part.host ∉ ps) : Onward i j a b := by
  obtain ⟨ho, hh⟩ := hs
  have hhost : a.host = b.host := h .host hh
  have hout : a.out = b.out := h .out ho
  refine ⟨fun hn => ?_, fun m bs hm => hout ▸ hm⟩
  rw [inFlight_of_ring (getRing_of_rings (congrArg HostIf.rings hhost.symm)), hn]

theorem ite {p : Prop} [Decidable p] (hb : Onward i j a b) (hc : Onward i j a c) : Onward i j a (if p then b else c) := by
  split
  · exact hb
  · exact hc

theorem whenD {f : Dev → Dev} (w : Bool) (h : ∀ d, Onward i j d (f d)) (d : Dev) : Onward i j d (whenD w f d) := ite (h d) (refl d)

theorem eachD {α : Type} (xs : List α) {f : α → Dev → Dev} (h : ∀ x d, Onward i j d (f x d)) (d : Dev) : Onward i j d (eachD xs f d) := by
  induction xs generalizing d with
  | nil => exact refl d
  | cons x xs ih => exact (h x d).trans (ih (f x d))

theorem crossEcc {p f : Dev → Dev} (row u die r q : Nat) (hp : ∀ d, Onward i j d (p d)) (hf : ∀ d, Onward i j d (f d)) (d : Dev) :
    Onward i j d (crossEcc row u die r q p f d) := by
  unfold Machine.crossEcc checkEcc
  split
  · exact hp d
  · rename_i x _
    refine (of_keeps (ecc_keeps (d.ecc.erase x) d) (by decide)).trans ?_
    dsimp only
    split
    · exact (of_keeps (healthReport_keeps _ _ _) (by decide)).trans (hp _)
    · exact (of_keeps (logEvent_keeps _ _ _ _ _ _ _) (by decide)).trans (hf _)

theorem emit (e : OutEvent) (d : Dev) : Onward i j d (emit e d) := ⟨id, fun _ _ hm => List.mem_append_left _ hm⟩

/-- A ring from which descriptors are only taken. -/
theorem updRing (k : Nat) {f : Ring → Ring} (hf : ∀ r, (f r).inflight.Sublist r.inflight) (d : Dev) : Onward i j d (updRing k f d) := by
  refine ⟨fun hn => ?_, fun _ _ => id⟩
  by_cases hk : i = k
  · subst hk
    rw [inFlight, getRing_updRing]
    exact List.find?_eq_none.mpr fun x hx => List.find?_eq_none.mp hn x ((hf _).subset hx)
  · have hring : getRing i (Machine.updRing k f d) = getRing i d := kget_kupd_other _ _ _ _ _ _ hk
    rw [inFlight_of_ring hring, hn]

theorem msixSend (v : Nat) (d : Dev) : Onward i j d (msixSend v d) := by
  have hgo : Onward i j d (msixGo v d) := by
    unfold msixGo
    dsimp only
    split
    · refine ⟨id, fun m bs hm => List.mem_append_left _ ?_⟩
      rw [dropLast, List.mem_reverse]
      exact (List.mem_erase_of_ne (by simp [msixEvent])).mpr (List.mem_reverse.mpr hm)
    · exact ⟨id, fun m bs hm => List.mem_append_left _ hm⟩
  exact ite hgo (ite (refl d) (of_keeps (Frame.pcie_keeps _ d) (by decide)))

theorem ringMessage (k : Nat) (d : Dev) : Onward i j d (ringMessage k d) :=
  (updRing k (f := fun r => { r with unsignalled := 0, oldest := none }) (fun _ => List.Sublist.refl _) d).trans (msixSend _ _)

theorem moderate (k : Nat) (w : Bool) (d : Dev) : Onward i j d (moderate k w d) := by
  refine (updRing k (f := fun r => { r with
    unsignalled := r.unsignalled + 1
    oldest := if r.oldest.isSome then r.oldest else some d.pt
    modTime := getF (F.HIF_RING_MOD.TIME k) d }) (fun _ => List.Sublist.refl _) d).trans ?_
  exact ite (refl _) (ite (ringMessage ..) (refl _))

theorem writeCompletion (k : Nat) (x : InDesc) (st dt : Nat) (bs : List Byte) (d : Dev) : Onward i j d (writeCompletion k x st dt bs d) :=
  (updRing k (f := fun r => { r with
    inflight := r.inflight.filter fun y => y.index != x.index, cqTail := ((getRing k d).cqTail + 1) % 2 ^ 32 }) (fun _ => List.filter_sublist) d).trans
    ((eachD _ emit _).trans (emit _ _))

theorem writeProgress (slot v : Nat) (d : Dev) : Onward i j d (writeProgress slot v d) :=
  crossEcc _ _ _ _ _ (emit _) (fun _ => of_keeps (ringError_keeps _ _ _ _) (by decide)) d

theorem putCompletion (k : Nat) (x : InDesc) (st dt : Nat) (bs : List Byte) (d : Dev) : Onward i j d (putCompletion k x st dt bs d) := by
  have hcross := crossEcc (i := i) (j := j) 8 k 0 k x.index (writeCompletion k x st dt bs)
    (fun u => of_keeps (ringError_keeps k 5 x.index u) (by decide)) d
  refine ite (hcross.trans (ite ((writeProgress ..).trans (whenD _ (moderate k _) _)) (refl _))) (refl d)

theorem complete (k l st dt : Nat) (bs : List Byte) (d : Dev) : Onward i j d (complete k l st dt bs d) := by
  unfold Machine.complete
  split
  · exact refl d
  · exact ite (refl d) (putCompletion ..)

theorem dropTile (t : Tile) (d : Dev) : Onward i j d (dropTile t d) := of_keeps (updEng_keeps _ d) (by decide)

theorem dropDone (t : Tile) (d : Dev) : Onward i j d (dropDone t d) :=
  (dropTile t d).trans (eachD _ (fun (w : Nat × Nat) u => whenD (!dropWaits w u) (complete w.1 w.2 stOk 0 []) u) _)

theorem marksLost (t : Tile) (d : Dev) : Onward i j d (marksLost t d) :=
  (of_keeps (raise_keeps F.REG_STATUS.MARK_LOST d) (by decide)).trans
    (ite (refl _) ((of_keeps (updEng_keeps _ _) (by decide)).trans (of_keeps (countF_keeps _ _) (by decide))))

theorem wroteOut (u : Tile) (snap : KMap Nat) (n : Nat) (d : Dev) : Onward i j d (wroteOut u snap n d) := by
  refine (of_keeps (updTile_keeps u _ d) (by decide)).trans (whenD _ (fun v => crossEcc _ _ _ _ _ (fun w => ?_) (fun w => refl w) v) _)
  exact (of_keeps (updTdm_keeps _ w) (by decide)).trans (emit _ _)

theorem writeDone (u : Tile) (snap : KMap Nat) (n : Nat) (d : Dev) : Onward i j d (writeDone u snap n d) := by
  have hout := wroteOut (i := i) (j := j) u snap n d
  obtain h | ⟨t, h | h | h⟩ := writeDone_cases u snap n d
  · exact h ▸ hout
  · exact h ▸ hout.trans (dropDone ..)
  · exact h ▸ hout.trans ((dropDone ..).trans (marksLost ..))
  · exact h ▸ hout.trans (dropTile ..)

end Onward

/-- What a completion with data writes: the data, in requests within the payload size, and then its entry. -/
theorem putCompletion_data {i : Nat} {x : InDesc} {st dt : Nat} {bs : List Byte} {d : Dev} (hl : ringLive i d = true) (he : d.ecc = []) :
    ∀ w ∈ splitWrite x.addr (max 128 (min 256 d.pcie.mps)) bs, w ∈ (putCompletion i x st dt bs d).out := by
  intro w hw
  obtain ⟨m, data, rfl⟩ : ∃ m data, w = .hostWrite m data := by
    obtain ⟨k, -, rfl⟩ := List.mem_map.mp hw
    exact ⟨_, _, rfl⟩
  rw [putCompletion_sound hl he]
  refine ((Onward.emit (i := i) (j := 0) _ _).trans (Onward.moderate ..)).2 m data ?_
  have hout : (writeHost x.addr bs (updRing i (fun r => { r with
      inflight := r.inflight.filter fun y => y.index != x.index, cqTail := ((getRing i d).cqTail + 1) % 2 ^ 32 }) d)).out =
      d.out ++ (splitWrite x.addr (max 128 (min 256 d.pcie.mps)) bs).map id := congrArg Dev.out (eachD_emit _ id _)
  unfold writeCompletion
  refine List.mem_append_left _ ?_
  rw [hout, List.map_id]
  exact List.mem_append_right _ hw

/-- A fold that at each element keeps its choice or takes the element ends with the first choice or an element. -/
theorem foldl_chosen {α : Type} {f : Option α → α → Option α} (hf : ∀ b e, f b e = b ∨ f b e = some e) {l : List α} {b : Option α} {y : α}
    (h : l.foldl f b = some y) : b = some y ∨ y ∈ l := by
  induction l generalizing b with
  | nil => exact .inl h
  | cons e l ih =>
    obtain hb | hl := ih h
    · obtain hkeep | htake := hf b e
      · exact .inl (hkeep.symm.trans hb)
      · have he : e = y := Option.some.inj (htake.symm.trans hb)
        exact .inr (he ▸ List.mem_cons_self)
    · exact .inr (List.mem_cons_of_mem _ hl)

/-- A buffer that waits is of a ring that runs. -/
theorem waitingBuffer_running {cls op i : Nat} {inst : Option Nat} {x : InDesc} {d : Dev} (h : waitingBuffer cls op inst d = some (i, x)) :
    ringState i d = .running := by
  unfold waitingBuffer at h
  have hmem := (foldl_chosen (fun b e => ?_) h).resolve_left (by simp)
  · obtain ⟨k, hk, hx⟩ := List.mem_flatMap.mp hmem
    obtain ⟨y, -, hy⟩ := List.mem_map.mp hx
    obtain rfl : k = i := congrArg Prod.fst hy
    obtain ⟨-, hrun⟩ := List.mem_filter.mp hk
    simp only [Bool.and_eq_true, beq_iff_eq] at hrun
    obtain ⟨⟨hstate, -⟩, -⟩ := hrun
    exact hstate
  · cases b with
    | none => exact .inr rfl
    | some b =>
      dsimp only
      split
      · exact .inr rfl
      · exact .inl rfl

theorem tileWriteBack_unmerged {e n : Int} {t : Tile} {i : Nat} {x : InDesc} {d : Dev} (h : dueTile e n d = some t) (hw : d.eng.writing = none)
    (hs : isStoker d = false) (hb : waitingBuffer 4 0x40 none d = some (i, x)) (hm : isSet F.REG_CFG.MERGE d = false) : tileWriteBack e n d =
    putTile i x 0 (tileBytes t (getF F.REG_CFG.APPLICATOR_ID d) t.incr d) t (writeDone t t.incr d.eng.cycleStart) d := by
  simp [tileWriteBack, h, writeTile, writeOwn, hw, hs, hb, hm]

theorem tileWriteBack_noBuffer {e n : Int} {t : Tile} {d : Dev} (h : dueTile e n d = some t) (hw : d.eng.writing = none) (hs : isStoker d = false)
    (hb : waitingBuffer 4 0x40 none d = none) : tileWriteBack e n d = noBuf 4 none d := by
  simp [tileWriteBack, h, writeTile, writeOwn, hw, hs, hb]

/-- A tile written into a buffer completes it, and what it wrote stays through what follows. -/
theorem putTile_effect {i : Nat} {x : InDesc} {dt n : Nat} {bs : List Byte} {t : Tile} {snap : KMap Nat} {d : Dev} (hl : ringLive i d = true)
    (he : d.ecc = []) : let r := putTile i x dt bs t (writeDone t snap n) d
    inFlight i x.index r = none ∧ ∀ w ∈ splitWrite x.addr (max 128 (min 256 d.pcie.mps)) bs, w ∈ r.out := by
  intro r
  have hr : ∃ b, r = whenD b (writeDone t snap n) (putCompletion i x stOk dt bs d) := ⟨_, crossEcc_clean _ _ _ _ _ _ _ _ he⟩
  obtain ⟨b, hr⟩ := hr
  have hgone : inFlight i x.index (putCompletion i x stOk dt bs d) = none := by
    rw [inFlight, getRing_putCompletion hl he (p := Ring.inflight) fun _ _ _ _ => rfl, find_completedRing]
  have hon := Onward.whenD (i := i) (j := x.index) b (Onward.writeDone t snap n) (putCompletion i x stOk dt bs d)
  rw [hr]
  refine ⟨hon.1 hgone, fun w hw => ?_⟩
  obtain ⟨k, -, rfl⟩ := List.mem_map.mp hw
  exact hon.2 _ _ (putCompletion_data hl he _ hw)

/-! ### The obligation -/

/-- Settles O37: the timers act on the tile found (`findTile_updTiles`), a due tile goes out by `putTile`, and a compare-and-swap ends by
`casCompletion`. -/
theorem tileTimersAndWriteBack : Obligations.TileTimersAndWriteBack := by
  intro s e n u h
  refine ⟨fun hf ht hm => ?hold, fun hd hm ht => ?idle, fun o hd ho ht => ?age, fun i x hdue hw hs hb hm => ?written, fun hdue hw hs hb => ?noBuffer,
    fun hl hf => ?late, fun w hw hs => completes_casAbort fun d hd => ?aborts, fun hs => completes_casAbort fun d hd => ?stale,
    fun w bs hw hs hk hne htries ha => ?retries⟩
  case hold =>
    refine completes_run (exec_markHoldExpiry e n s) ?_
    have hfind := findTile_updTile h (g := fun t => { t with fresh := [] }) fun t => ⟨rfl, rfl, rfl, rfl, rfl⟩
    dsimp only
    rw [markHoldExpiry_due h hf ht hm, hfind]
    exact ⟨rfl, rfl, rfl⟩
  case idle => exact completes_run (exec_wbIdle e n s) ⟨findTile_wbIdle h hd hm ht, rfl⟩
  case age => exact completes_run (exec_wbMaxAge e n s) ⟨findTile_wbMaxAge h hd ho ht, rfl⟩
  case written =>
    refine ⟨_, exec_tileWriteBack e n s, rfl, fun he => ?_⟩
    have hlive : ringLive i s.dev = true := by simp [ringLive, waitingBuffer_running hb]
    dsimp only
    rw [tileWriteBack_unmerged hdue hw hs hb hm]
    exact putTile_effect hlive he
  case noBuffer => rw [exec_tileWriteBack, execTileWriteBack, run_next, tileWriteBack_noBuffer hdue hw hs hb]
  case late => exact ⟨_, exec_invalidateTimeout e n s, rfl, fun _ => invalidateTimeout_lost hl hf⟩
  case aborts => exact casCompletion_aborts (by rw [hd, hw]) (by rw [hd, hs])
  case stale =>
    have haborts := casCompletion_staleAborts (d := d) (by rw [hd]; exact hs)
    rw [hd] at haborts
    exact haborts
  case retries =>
    refine ⟨_, exec_casCompletion (.ok bs) s, rfl, fun _ => ?_⟩
    dsimp only
    rw [casCompletion_retries hw hs (tileOf_found h hk) hne htries ha]
    exact ⟨rfl, rfl, rfl⟩

end Sys2Proof.Proofs
end

section
/-! What a command may make of the byte memories (R117, R145, R146): it leaves them, empties them, or writes bytes into one of them; and each of
these keeps the canonical form. -/
namespace Sys2Proof.Proofs
open Sys2Proof Sys2Proof.Machine Sys2Proof.Laws

/-- What the memories m may become in one command. -/
inductive MemEffect (m : Mems) : Mems → Prop where
  | kept : MemEffect m m
  | cleared : MemEffect m {}
  | setEmptied : MemEffect m { m with fwSet := [] }
  | tableStaged (a : Nat) (bs : List Byte) : MemEffect m { m with staging := memWriteBytes m.staging a bs }
  | setStaged (a : Nat) (bs : List Byte) : MemEffect m { m with fwSet := memWriteBytes m.fwSet a bs }

namespace MemEffect
variable {m n : Mems}

/-- Each effect keeps the canonical form: an empty memory has it, and writing bytes keeps it. -/
theorem wf (h : MemEffect m n) (hm : Memory.wf m.staging = true ∧ Memory.wf m.fwSet = true) :
    Memory.wf n.staging = true ∧ Memory.wf n.fwSet = true := by
  obtain ⟨htable, hset⟩ := hm
  cases h with
  | kept => exact ⟨htable, hset⟩
  | cleared => exact ⟨rfl, rfl⟩
  | setEmptied => exact ⟨htable, rfl⟩
  | tableStaged a bs => exact ⟨memWriteBytes_wf bs _ a htable, hset⟩
  | setStaged a bs => exact ⟨htable, memWriteBytes_wf bs _ a hset⟩

theorem ite {p : Prop} [Decidable p] {a b : State} (ha : MemEffect m a.mem) (hb : MemEffect m b.mem) : MemEffect m (if p then a else b).mem := by
  split
  · exact ha
  · exact hb

/-! ### The operations that stage, commit or reset -/

theorem restartCmd (s : State) : MemEffect s.mem (restartCmd s).mem := ite cleared kept

theorem storeWrite (by_ : Agent) (off size : Nat) (v : Word) (s : State) : MemEffect s.mem (storeWrite by_ off size v s).mem :=
  ite (restartCmd s) kept

theorem tableLoad (i : Nat) (s : State) : MemEffect s.mem (tableLoad i s).mem := by
  unfold Machine.tableLoad
  split
  · exact ite (tableStaged _ _) kept
  · exact kept

theorem fwBegin (i : Nat) (s : State) : MemEffect s.mem (fwBegin i s).mem := by
  unfold Machine.fwBegin
  split
  · exact ite kept (ite kept setEmptied)
  · exact kept

theorem fwChunk (i : Nat) (s : State) : MemEffect s.mem (fwChunk i s).mem := by
  unfold Machine.fwChunk
  split
  · exact ite kept (ite kept (ite kept (setStaged _ _)))
  · exact kept

theorem commitPlaced (i j : Nat) (act : Bool) (z : ImageSet) {s : State} (hs : s.mem = m) : MemEffect m (commitPlaced i j act z s).mem := by
  subst hs
  exact ite kept (ite kept (ite kept cleared))

theorem fwCommit (i : Nat) (defs : List (Nat × Word)) (role : Option (List Byte)) (s : State) : MemEffect s.mem (fwCommit i defs role s).mem := by
  unfold Machine.fwCommit
  split
  · refine ite kept (ite kept ?_)
    dsimp only
    split
    · exact ite (commitPlaced _ _ _ _ rfl) kept
    · exact kept
  · exact kept

theorem flashDone (good : Bool) (s : State) : MemEffect s.mem (flashDone good s).mem := by
  unfold Machine.flashDone
  split
  · exact kept
  · dsimp only
    exact ite (commitPlaced _ _ _ _ rfl) kept

theorem fwActivate (i : Nat) (s : State) : MemEffect s.mem (fwActivate i s).mem := by
  unfold Machine.fwActivate
  split
  · exact ite kept (ite kept (ite kept cleared))
  · exact kept

end MemEffect

/-! ### The commands -/

/-- What command c makes of the memories of s is one of the effects. -/
def ActsOnMemory (c : Instr) (s : State) : Prop := ∀ t, exec c s = .next t → MemEffect s.mem t.mem

section
variable {c : Instr} {s u : State} {n m : Nat} {f : Dev → Dev}

theorem actsOnMemory_next (hc : exec c s = .next u) (hu : MemEffect s.mem u.mem) : ActsOnMemory c s := by
  intro t ht
  obtain rfl : u = t := Host.Outcome.next.inj (hc.symm.trans ht)
  exact hu

theorem actsOnMemory_fault {e : Fault} (hc : exec c s = .fault e) : ActsOnMemory c s := by
  intro t ht
  cases hc.symm.trans ht

theorem actsOnMemory_onHub (hc : exec c s = onHub n m f u) (hu : MemEffect s.mem u.mem) : ActsOnMemory c s := by
  by_cases hn : n < m
  · exact actsOnMemory_next (hc.trans (onHub_present n m f u hn)) hu
  · exact actsOnMemory_fault (hc.trans (onHub_absent n m f u (Nat.not_lt.mp hn)))

theorem KeepsMemory.actsOnMemory (h : KeepsMemory c s) : ActsOnMemory c s := by
  obtain ⟨d, hd⟩ | ⟨-, e, he⟩ := h
  · exact actsOnMemory_next hd .kept
  · exact actsOnMemory_fault he

end

theorem externalReset_actsOnMemory (level : Bool) (s : State) : ActsOnMemory (.externalReset level) s := by
  cases level with
  | true => exact actsOnMemory_next rfl .kept
  | false => exact actsOnMemory_next rfl .cleared

theorem watchdog_actsOnMemory (s : State) : ActsOnMemory .watchdog s := by
  by_cases h : (pstate s.dev = .cold || pstate s.dev = .parked) = true
  · exact actsOnMemory_next ((exec_watchdog s).trans (if_pos h)) .kept
  · exact actsOnMemory_next ((exec_watchdog s).trans (if_neg h)) .cleared

/-- Every command has one of the effects on the memories. -/
theorem actsOnMemory (c : Instr) (s : State) : ActsOnMemory c s := by
  cases hc : touchesMemory c with
  | false => exact (keepsMemory_of_touchesMemory hc s).actsOnMemory
  | true =>
    cases c with
    | powerOnReset => exact actsOnMemory_next rfl .cleared
    | externalReset level => exact externalReset_actsOnMemory level s
    | watchdog => exact watchdog_actsOnMemory s
    | restart => exact actsOnMemory_next rfl (.restartCmd s)
    | vbatAoLoss at_ => exact actsOnMemory_next rfl .cleared
    | registerWrite addr size value by_ => exact actsOnMemory_next rfl (.ite (.storeWrite ..) .kept)
    | tableLoad i => exact actsOnMemory_onHub rfl (.tableLoad i s)
    | fwBegin i => exact actsOnMemory_onHub rfl (.fwBegin i s)
    | fwChunk i => exact actsOnMemory_onHub rfl (.fwChunk i s)
    | fwCommit i defs role => exact actsOnMemory_onHub rfl (.fwCommit i defs role s)
    | flashWriteDone good => exact actsOnMemory_next rfl (.flashDone good s)
    | fwActivate i => exact actsOnMemory_onHub rfl (.fwActivate i s)
    | _ => exact absurd hc Bool.noConfusion

/-! ### The obligation -/

/-- One step has one of the effects: a tick of package time none, a command its own. -/
theorem step_memEffect {s t : State} (h : step s = .next t) : MemEffect s.mem t.mem := by
  cases hp : s.pending with
  | nil =>
    obtain rfl := Host.Outcome.next.inj ((step_empty hp).symm.trans h)
    exact .kept
  | cons c rest => exact actsOnMemory c { s with pending := rest } t ((step_front hp).symm.trans h)

/-- Settles O55: a step has one of the effects on the memories (`step_memEffect`), and each keeps the canonical form (`MemEffect.wf`). -/
theorem stepsKeepMemoryCanonical : Obligations.StepsKeepMemoryCanonical := fun _ _ hs h => (step_memEffect h).wf hs

end Sys2Proof.Proofs
end

section
/-! Poses and table commits (R148, R149, R155, R156, R412): what a newer pose leaves of the engine, and how the checks of a commit end. -/
namespace Sys2Proof.Proofs
open Sys2Proof Sys2Proof.Machine Sys2Proof.Laws

theorem complete_eng {i j st dt : Nat} {bs : List Byte} {d : Dev} (he : d.ecc = []) : (complete i j st dt bs d).eng = d.eng :=
  (complete_clean i j st dt bs he .eng (by decide)).symm

/-- The state of a ring lies below the registers of the make-ready block and of all blocks after it (R537). -/
theorem ringState_setF_above {i v : Nat} {f : Fld} (hi : i < 32) (hf : 0x2000 ≤ f.reg.off) (d : Dev) : ringState i (setF f v d) = ringState i d := by
  refine ringState_of_field (getF_setF_otherReg _ _ _ _ ?_)
  change 0x111C + 0x20 * i ≠ f.reg.off
  omega

/-! ### A newer pose (R155, R156) -/

/-- The device with p as its newest pose, which has no record. -/
def poseTaken (p : Pose) (d : Dev) : Dev :=
  setF F.REG_POSE_TAG.TAG (p.tag % 2 ^ 32) (updEng (fun g => { g with pose := some p, newestTag := some p.tag }) d)

theorem poseAccept_newer {p : Pose} {d : Dev} (h : ∀ n, d.eng.newestTag = some n → n < p.tag) : ∃ dt, poseAccept p none d = (dt, poseTaken p d) := by
  cases hn : d.eng.newestTag with
  | none => exact ⟨_, by simp only [poseAccept, hn, Bool.false_eq_true, if_false]; rfl⟩
  | some n =>
    have hnew : decide (p.tag ≤ n) = false := decide_eq_false (Nat.not_le.mpr (h n hn))
    exact ⟨_, by simp only [poseAccept, hn, hnew, Bool.false_eq_true, if_false]; rfl⟩

theorem poseDesc_newer {i : Nat} {x : InDesc} {p : Pose} {d : Dev} (hp : poseOf x.param (paramBits x 56 0 1 == 1) = p) (hlen : x.len = 0)
    (hpt : p.tag ≤ d.pt) (h : ∀ n, d.eng.newestTag = some n → n < p.tag) :
    ∃ dt w, poseDesc i x d = complete i x.index stOk dt [] (whenD w (poseBroadcast p none) (poseTaken p d)) := by
  obtain ⟨dt, hacc⟩ := poseAccept_newer h
  refine ⟨dt, dt % 2 == 0, ?_⟩
  simp [poseDesc, hp, hlen, Nat.not_lt.mpr hpt, hacc]

theorem Frame.poseBroadcast (p : Pose) (rec_ : Option (List (List Int))) (d : Dev) : Frame [.free, .can, .sox] d (poseBroadcast p rec_ d) :=
  ite (refl _ d) ((soxQueue ..).trans (eachD _ (fun _ _ => soxQueue ..) _))

/-- A newer pose is in the engine, and its descriptor is done. -/
theorem poseDesc_takes {i : Nat} {x : InDesc} {p : Pose} {d : Dev} (hi : i < 32) (hnext : nextDesc i d = some x)
    (hp : poseOf x.param (paramBits x 56 0 1 == 1) = p) (hlen : x.len = 0) (hpt : p.tag ≤ d.pt) (h : ∀ n, d.eng.newestTag = some n → n < p.tag)
    (he : d.ecc = []) : (poseDesc i x d).eng = { d.eng with pose := some p, newestTag := some p.tag } ∧ inFlight i x.index (poseDesc i x d) = none := by
  obtain ⟨dt, w, hdesc⟩ := poseDesc_newer (i := i) hp hlen hpt h
  obtain ⟨hkeep, hecc⟩ := (Frame.whenD w (Frame.poseBroadcast p none) (poseTaken p d)).1 he
  obtain ⟨e, hsent⟩ : ∃ e, e = whenD w (poseBroadcast p none) (poseTaken p d) := ⟨_, rfl⟩
  rw [hdesc, ← hsent]
  rw [← hsent] at hkeep hecc
  have hring : getRing i e = getRing i d := getRing_of_rings (congrArg HostIf.rings (hkeep .host (by decide)).symm)
  have hstate : ringState i e = ringState i d :=
    (ringState_of_regs (hkeep .regs (by decide)).1.symm).trans (ringState_setF_above hi (by decide) _)
  exact ⟨(complete_eng hecc).trans (hkeep .eng (by decide)).symm, inFlight_completed hnext hring hstate hecc⟩

/-! ### The checks of a commit end (R148, R149, R151) -/

/-- No ring has its status where the engine has LAST_CODE. -/
theorem ringLive_lastCode (i n : Nat) (d : Dev) : ringLive i (setF F.REG_TABLE_STATUS.LAST_CODE n d) = ringLive i d := by
  refine ringLive_of_state (ringState_of_field (getF_setF_otherReg _ _ _ _ ?_))
  change 0x111C + 0x20 * i ≠ 0x810C
  omega

section
variable {m : List Host.Cell} {tb : Table} {keep : Bool} {i j st dt : Nat} {x : InDesc} {d : Dev}

/-- A commit that ends leaves the table that was active, and its descriptor is done. -/
theorem commitEnds_effect (hl : ringLive i d = true) (he : d.ecc = []) (hx : inFlight i j d = some x) (hs : x.stage ≠ .done) :
    (commitEnds i j st dt d).eng.commit = none ∧ (commitEnds i j st dt d).eng.table = d.eng.table ∧
      inFlight i j (commitEnds i j st dt d) = none := by
  have heng : (commitEnds i j st dt d).eng = { d.eng with commit := none } := complete_eng (d := updEng (fun g => { g with commit := none }) d) he
  refine ⟨congrArg Engine.commit heng, by rw [heng], ?_⟩
  exact inFlight_complete (d := updEng (fun g => { g with commit := none }) d) hl he hx hs

/-- As `commitEnds_effect`, once the code of the failed check stands in LAST_CODE. -/
theorem commitEnds_failed {code : Nat} (hl : ringLive i d = true) (he : d.ecc = []) (hx : inFlight i j d = some x) (hs : x.stage ≠ .done) :
    let t := commitEnds i j st dt (setF F.REG_TABLE_STATUS.LAST_CODE code d)
    t.eng.commit = none ∧ t.eng.table = d.eng.table ∧ inFlight i j t = none := by
  have hring : getRing i (setF F.REG_TABLE_STATUS.LAST_CODE code d) = getRing i d := getRing_of_rings (by rw [setF_host])
  have hends := commitEnds_effect (st := st) (dt := dt) ((ringLive_lastCode i code d).trans hl) ((setF_ecc ..).trans he)
    ((inFlight_of_ring hring).trans hx) hs
  rwa [setF_eng] at hends

variable (hc : d.eng.commit = some (tb, keep, i, j, false)) (hx : inFlight i j d = some x)
include hc hx

theorem tableChecked_armed (ha : isArmed d = true) : tableChecked m d = commitEnds i j stBusy 0 d := by simp [tableChecked, hc, hx, ha]

theorem tableChecked_passes (ha : isArmed d = false) (h : (commitCheck m d).1 = 0) :
    tableChecked m d = updEng (fun g => { g with commit := some (parseTable m, keep, i, j, true) }) d := by
  simp [tableChecked, hc, hx, ha, h]

theorem tableChecked_fails (ha : isArmed d = false) (h : (commitCheck m d).1 ≠ 0) : tableChecked m d =
    commitEnds i j stBadLength ((commitCheck m d).1 + 65536 * (commitCheck m d).2) (setF F.REG_TABLE_STATUS.LAST_CODE (commitCheck m d).1 d) := by
  simp [tableChecked, hc, hx, ha, h]

end

end Sys2Proof.Proofs
end

section
/-! A SET of field time (R352, R354, R355, R361): it makes field time valid, ends holdover and drops slew and step; the uncertainty, the pulse and
the record of it, which follow, leave that alone. -/
namespace Sys2Proof.Proofs
open Sys2Proof Sys2Proof.Machine Sys2Proof.Laws

theorem complete_time {i j st dt : Nat} {bs : List Byte} {d : Dev} (he : d.ecc = []) : (complete i j st dt bs d).time = d.time :=
  (complete_clean i j st dt bs he .time (by decide)).symm

/-- What a correction sets of the time unit: the slew and the step that remain, and when it came. -/
def correction (t : TimeUnit) : Int × Option Int × Nat := (t.slew, t.step, t.lastCorr)

/-- What p shows of a device does not depend on the uncertainty of field time, on TPULSE, or on the parts of the time unit beside its correction. -/
structure UncBlind {β : Type} (p : Dev → β) : Prop extends ReportBlind p where
  unc : ∀ v d, p (setF F.TIM_UNC.UNC v d) = p d
  uncOver : ∀ v d, p (setF F.TIM_STATUS.UNC_OVER v d) = p d
  time : ∀ f d, (∀ t, correction (f t) = correction t) → p (updTime f d) = p d
  pulse : ∀ b d, p { d with pins := { d.pins with timePulse := b } } = p d

namespace UncBlind

theorem field {f : Fld} (h : f.reg.off ∉ reportRegs) (hunc : f.reg.off ≠ R.TIM_UNC.off)
    (hover : f.reg.off ≠ R.TIM_STATUS.off ∨ f.reg = R.TIM_STATUS ∧ (f.lo + f.len ≤ 10 ∨ 11 ≤ f.lo)) : UncBlind (getF f) where
  toReportBlind := reportBlind_field h
  unc v d := getF_setF_otherReg _ _ v d hunc
  uncOver v d := getF_setF_otherField v d (by decide) hover
  time _ _ _ := rfl
  pulse _ _ := rfl

theorem ofCorrection : UncBlind fun d => correction d.time where
  regs _ _ _ _ := rfl
  marks _ _ := rfl
  log _ _ := rfl
  health _ _ := rfl
  unc _ _ := congrArg correction (setF_time ..)
  uncOver _ _ := congrArg correction (setF_time ..)
  time _ d h := h d.time
  pulse _ _ := rfl

theorem ofRingState {i : Nat} (hi : i < 32) : UncBlind (ringState i) where
  toReportBlind := reportBlind_ringState hi
  unc _ d := ringState_setF_above hi (by decide) d
  uncOver _ d := ringState_setF_above hi (by decide) d
  time _ _ _ := rfl
  pulse _ _ := rfl

theorem ofRing (i : Nat) : UncBlind (getRing i) where
  toReportBlind := reportBlind_getRing i
  unc _ _ := getRing_of_rings (congrArg HostIf.rings (setF_host ..))
  uncOver _ _ := getRing_of_rings (congrArg HostIf.rings (setF_host ..))
  time _ _ _ := rfl
  pulse _ _ := rfl

theorem ofEcc : UncBlind Dev.ecc where
  regs _ _ _ _ := rfl
  marks _ _ := rfl
  log _ _ := rfl
  health _ _ := rfl
  unc _ _ := setF_ecc ..
  uncOver _ _ := setF_ecc ..
  time _ _ _ := rfl
  pulse _ _ := rfl

variable {β : Type} {p : Dev → β} (hp : UncBlind p)
include hp

theorem holdPulse (d : Dev) : p (holdPulse d) = p d := by
  unfold Machine.holdPulse
  exact ite_keeps rfl ((hp.pulse false _).trans (hp.time _ _ (by exact fun _ => rfl)))

theorem setUnc (n : Nat) (d : Dev) : p (setUnc n d) = p d := by
  have hraise (e : Dev) : p (raise F.TIM_STATUS.UNC_OVER e) = p e := (hp.marks _ _).trans (hp.uncOver 1 e)
  unfold Machine.setUnc
  exact (hp.holdPulse _).trans ((hp.time _ _ (by exact fun _ => rfl)).trans ((whenD_keeps p _ _ hraise _).trans (hp.unc _ d)))

theorem passTo (reset : Bool) (d : Dev) : p (passTo reset d) = p d := by
  unfold Machine.passTo
  exact hp.time _ d (by exact fun _ => rfl)

end UncBlind

/-! ### A SET -/

/-- Field time runs from ft on, valid and corrected. -/
def timeStarted (ft : Int) (d : Dev) : Dev :=
  d |> dropSlew |> updTime (fun t => { t with ft := ft, lastCorr := d.pt }) |> raise F.TIM_STATUS.VALID |> lower F.TIM_STATUS.HOLDOVER

/-- What follows in a SET once field time runs again is the uncertainty, the pulse and the record. -/
theorem UncBlind.timeSet {β : Type} {p : Dev → β} (hp : UncBlind p) (atPt value unc : Nat) (d : Dev) : p (timeSet atPt value unc d) =
    p (timeStarted ((value : Int) * ftNs + ftCarried atPt d d.pt (rateY d) d.time.rates) d) :=
  (hp.logEvent ..).trans ((hp.passTo true _).trans (hp.setUnc unc _))

/-- Field time is valid and as a SET at PT n left it. -/
def SetAt (n : Nat) (d : Dev) : Prop :=
  getF F.TIM_STATUS.VALID d = 1 ∧ getF F.TIM_STATUS.HOLDOVER d = 0 ∧ correction d.time = (0, none, n)

theorem timeSet_setAt (atPt value unc : Nat) (d : Dev) : SetAt d.pt (timeSet atPt value unc d) := by
  refine ⟨?valid, ?holdover, UncBlind.ofCorrection.timeSet atPt value unc d⟩
  case valid =>
    rw [(UncBlind.field (by decide) (by decide) (by decide)).timeSet, timeStarted, lower, getF_setF_otherField _ _ (by decide) (by decide),
      getF_raise_same _ _ (by decide) rfl]
  case holdover => rw [(UncBlind.field (by decide) (by decide) (by decide)).timeSet, timeStarted, getF_lower_same _ _ (by decide)]

theorem SetAt.complete {n i j st dt : Nat} {bs : List Byte} {d : Dev} (h : SetAt n d) (he : d.ecc = []) : SetAt n (complete i j st dt bs d) := by
  obtain ⟨hvalid, hhold, hcorr⟩ := h
  refine ⟨(getF_of_regs _ (complete_regs he)).trans hvalid, (getF_of_regs _ (complete_regs he)).trans hhold, ?_⟩
  rw [complete_time he, hcorr]

/-- The time unit lies apart from the rings and from the upset words. -/
theorem timeStarted_keeps {i : Nat} (hi : i < 32) (ft : Int) (d : Dev) :
    getRing i (timeStarted ft d) = getRing i d ∧ ringState i (timeStarted ft d) = ringState i d ∧ (timeStarted ft d).ecc = d.ecc := by
  have hlower {f : Fld} (hf : 0x2000 ≤ f.reg.off) (e : Dev) : ringState i (lower f e) = ringState i e := ringState_setF_above hi hf e
  have hraise {f : Fld} (hf : 0x2000 ≤ f.reg.off) (e : Dev) : ringState i (raise f e) = ringState i e := ringState_setF_above hi hf e
  have hunit (g : TimeUnit → TimeUnit) (e : Dev) : ringState i (updTime g e) = ringState i e := rfl
  refine ⟨getRing_of_rings (by simp [timeStarted, dropSlew]), ?_, by simp [timeStarted, dropSlew]⟩
  rw [timeStarted, hlower (by decide), hraise (by decide), hunit, dropSlew, hlower (by decide), hlower (by decide), hunit]

/-! ### TIME_CORR (R354) -/

/-- The rate that a correction brings is in force. -/
def rateTaken (valid : Bool) (rate : Int) (d : Dev) : Dev :=
  whenD valid (fun d => d |> updTime (fun t => { t with rates := (d.pt, rateY d) :: lastSecond d t.rates }) |> setF F.TIM_RATE.RATE (toBits 32 rate)) d

theorem timeCorr_set {valid : Bool} {atPt unc : Nat} {value rate : Int} {d : Dev} (hr : rate.natAbs ≤ 200000000) (hv : 0 ≤ value) (hpast : atPt ≤ d.pt)
    (hlate : d.pt ≤ atPt + 250000000) :
    timeCorr 0 valid atPt value rate unc d = ((stOk, 0), timeSet atPt value.toNat unc (rateTaken valid rate d)) := by
  have hsec : d.pt ≤ atPt + sec 1 := hlate
  simp [timeCorr, rateTaken, Nat.not_lt.mpr hr, Int.not_lt.mpr hv, Nat.not_lt.mpr hpast, Nat.not_lt.mpr hsec]

theorem rateTaken_keeps {i : Nat} (hi : i < 32) (valid : Bool) (rate : Int) (d : Dev) :
    getRing i (rateTaken valid rate d) = getRing i d ∧ ringState i (rateTaken valid rate d) = ringState i d ∧
      (rateTaken valid rate d).ecc = d.ecc ∧ (rateTaken valid rate d).pt = d.pt := by
  cases valid with
  | false => exact ⟨rfl, rfl, rfl, rfl⟩
  | true => exact ⟨rfl, ringState_setF_above hi (by decide) _, rfl, rfl⟩

/-- A SET with its rate leaves the ring of its descriptor as it was, and the descriptor completes. -/
theorem timeSet_completes {i atPt value unc : Nat} {x : InDesc} {valid : Bool} {rate : Int} {d t : Dev} (hi : i < 32) (hnext : nextDesc i d = some x)
    (he : d.ecc = []) (ht : t = complete i x.index stOk 0 [] (timeSet atPt value unc (rateTaken valid rate d))) :
    SetAt d.pt t ∧ inFlight i x.index t = none := by
  obtain ⟨hring, hstate, hecc, hpt⟩ := rateTaken_keeps hi valid rate d
  generalize rateTaken valid rate d = e at *
  obtain ⟨hring', hstate', hecc'⟩ := timeStarted_keeps hi ((value : Int) * ftNs + ftCarried atPt e e.pt (rateY e) e.time.rates) e
  have hclean : (timeSet atPt value unc e).ecc = [] := by rw [UncBlind.ofEcc.timeSet, hecc', hecc, he]
  rw [ht]
  refine ⟨hpt ▸ (timeSet_setAt atPt value unc e).complete hclean, inFlight_completed hnext ?_ ?_ hclean⟩
  · rw [(UncBlind.ofRing i).timeSet, hring', hring]
  · rw [(UncBlind.ofRingState hi).timeSet, hstate', hstate]

/-! ### The obligation -/

/-- Settles O36: a newer pose by `poseDesc_takes`, a SET by `timeSet_completes`, the checks of a commit by the way each case of `tableChecked` ends. -/
theorem posesTimesAndTables : Obligations.PosesTimesAndTables := by
  refine ⟨fun s i x => ⟨fun h hlen hpt hnew => ?pose, fun h hkind hr hv hpast hlate => ?time⟩, fun s tb keep i j x hc hl hx hs =>
    ⟨fun ha hgood => ?passes, fun ha hbad => ?fails, fun ha => ?armed⟩⟩
  case pose =>
    refine delivers_starts h (exec_pose i s) fun he => ?_
    obtain ⟨hi, hnext, -⟩ := h
    obtain ⟨heng, hdone⟩ := poseDesc_takes hi hnext rfl hlen hpt hnew he
    dsimp only
    rw [heng]
    exact ⟨rfl, rfl, rfl, hdone⟩
  case time =>
    refine delivers_starts h (exec_timeCorr i s) fun he => ?_
    obtain ⟨hi, hnext, -⟩ := h
    dsimp only
    rw [hkind, if_neg (by decide), timeCorr_set hr hv hpast hlate]
    dsimp only
    generalize hset : complete i x.index stOk 0 [] _ = t
    obtain ⟨⟨hvalid, hhold, hcorr⟩, hdone⟩ := timeSet_completes hi hnext he hset.symm
    obtain ⟨hslew, hrest⟩ := Prod.mk.inj hcorr
    obtain ⟨hstep, hwhen⟩ := Prod.mk.inj hrest
    exact ⟨hvalid, hhold, hslew, hstep, hwhen, hdone⟩
  case passes =>
    refine ⟨_, exec_tableChecksDone s, rfl, fun _ => ?_⟩
    dsimp only
    rw [tableChecked_passes hc hx ha hgood]
    exact ⟨rfl, rfl, rfl⟩
  case fails =>
    refine ⟨_, exec_tableChecksDone s, rfl, fun he => ?_⟩
    dsimp only
    rw [tableChecked_fails hc hx ha hbad]
    exact commitEnds_failed hl he hx hs
  case armed =>
    refine ⟨_, exec_tableChecksDone s, rfl, fun he => ?_⟩
    dsimp only
    rw [tableChecked_armed hc hx ha]
    exact commitEnds_effect hl he hx hs

end Sys2Proof.Proofs
end

section
/-! What the start of an opening cannot reach (R227, R239 to R245, R253): events, counts and the passing of a boost switch leave the registers below
the drive's as they are, and of each channel its entries, but for what an opening takes from the running one, and the end of its interval on. -/
namespace Sys2Proof.Proofs
open Sys2Proof Sys2Proof.Machine Sys2Proof.Laws

/-! ### Channels and cassettes of a spoke -/

theorem getChan_updChan_other {k n m : Nat} (h : m ≠ n) (f : Chan → Chan) (d : Dev) : getChan k m (updChan k n f d) = getChan k m d := by
  simp [getChan, updChan, kget_kupd_other _ _ _ _ _ _ h]

@[simp] theorem getChan_updCas (k n c : Nat) (f : Cassette → Cassette) (d : Dev) : getChan k n (updCas k c f d) = getChan k n d := by
  simp [getChan, updCas]

@[simp] theorem getCas_updChan (k c n : Nat) (f : Chan → Chan) (d : Dev) : getCas k c (updChan k n f d) = getCas k c d := by
  simp [getCas, updChan]

theorem getCas_updCas_other {k c b : Nat} (h : b ≠ c) (f : Cassette → Cassette) (d : Dev) : getCas k b (updCas k c f d) = getCas k b d := by
  simp [getCas, updCas, kget_kupd_other _ _ _ _ _ _ h]

/-- What of cassette b no update of a cassette changes does not change with one. -/
theorem getCas_updCas_keeps {β : Type} {p : Cassette → β} {f : Cassette → Cassette} (hf : ∀ x, p (f x) = p x) (k b c : Nat) (d : Dev) :
    p (getCas k b (updCas k c f d)) = p (getCas k b d) := by
  by_cases h : b = c
  · subst h
    rw [getCas_updCas, hf]
  · rw [getCas_updCas_other h]

/-- As `getCas_updCas_keeps`, of channel m. -/
theorem getChan_updChan_keeps {β : Type} {p : Chan → β} {f : Chan → Chan} (hf : ∀ x, p (f x) = p x) (k m n : Nat) (d : Dev) :
    p (getChan k m (updChan k n f d)) = p (getChan k m d) := by
  by_cases h : m = n
  · subst h
    rw [getChan_updChan, hf]
  · rw [getChan_updChan_other h]

/-! ### Events and counts (R245, R253 to R256) -/

/-- What p shows does not depend on what an event of a channel of spoke k changes: the registers of the drive, the open values it uses up, the
frames that wait at the spoke's end of the link, and what a report changes. -/
structure EventBlind (k : Nat) {β : Type} (p : Dev → β) : Prop extends ReportBlind p where
  drive : ∀ r w d, spk k + 0x500 ≤ r.off → p (rput r w d) = p d
  free : ∀ n d, p { d with free := n } = p d
  waiting : ∀ x d, p (linkSend k .spoke x d) = p d

theorem eventBlind_spokes (k : Nat) : EventBlind k Dev.spokes where
  regs _ _ _ _ := rfl
  marks _ _ := rfl
  log _ _ := rfl
  health _ _ := rfl
  drive _ _ _ _ := rfl
  free _ _ := rfl
  waiting _ _ := rfl

/-- A register of the drive of spoke k. -/
theorem driveReg {k a b : Nat} (h : 0x500 ≤ a) : spk k + 0x500 ≤ spk k + a + b := by omega

/-- The report of an opening: of its channel it changes only that it was made. -/
def reportOpening (c : Chan) : Chan := { c with opening := c.opening.map fun o => { o with reported := true } }

namespace EventBlind
variable {k : Nat} {β : Type} {p : Dev → β} (hp : EventBlind k p)
include hp

theorem setF {f : Fld} (h : spk k + 0x500 ≤ f.reg.off) (v : Nat) (d : Dev) : p (setF f v d) = p d := hp.drive _ _ _ h
theorem lower {f : Fld} (h : spk k + 0x500 ≤ f.reg.off) (d : Dev) : p (lower f d) = p d := hp.drive _ _ _ h
theorem countF {f : Fld} (h : spk k + 0x500 ≤ f.reg.off) (d : Dev) : p (countF f d) = p d := hp.drive _ _ _ h
theorem raise {f : Fld} (h : spk k + 0x500 ≤ f.reg.off) (d : Dev) : p (raise f d) = p d := (hp.marks _ _).trans (hp.setF h _ _)

theorem toUs (t : Nat) (d : Dev) : p (toUs t d).2 = p d := by
  unfold Machine.toUs
  split
  · rfl
  · exact hp.free _ _

theorem feedEvent (n : Nat) (ev : FeedEvent) (a b : Nat) (o : Opening) (d : Dev) : p (feedEvent k n ev a b o d) = p d := by
  unfold Machine.feedEvent
  refine ite_keeps rfl ((hp.waiting _ _).trans ?_)
  split
  · exact (hp.setF (driveReg (by decide)) _ _).trans (hp.toUs _ _)
  · exact (hp.setF (driveReg (by decide)) _ _).trans (hp.toUs _ _)
  · exact hp.toUs _ _

theorem cutRise (n : Nat) (d : Dev) : p (cutRise k n d) = p d := by
  unfold Machine.cutRise
  dsimp only
  split
  · exact ite_keeps rfl ((hp.setF (driveReg (by decide)) _ _).trans (hp.toUs _ _))
  · rfl

theorem valveFault (n code sev outlet : Nat) (d : Dev) : p (valveFault k n code sev outlet d) = p d := by
  unfold Machine.valveFault
  dsimp only
  rw [whenD_keeps p _ _ (eachD_keeps p _ _ fun _ => hp.raise (driveReg (by decide))), hp.healthEvent]
  exact (hp.health _ _).trans (hp.logEvent ..)

/-- An opening without travel is counted and reported; of its channel it changes only that it was. -/
theorem noTravelEvent (n : Nat) (whole : Bool) (outlet : Nat) (o : Opening) (d : Dev)
    (hchan : ∀ e, p (updChan k n reportOpening e) = p e) : p (noTravelEvent k n whole outlet o d) = p d := by
  have hnote {c : Prop} [Decidable c] (code sev : Nat) {f g : Fld} (hf : spk k + 0x500 ≤ f.reg.off) (hg : spk k + 0x500 ≤ g.reg.off)
      {e : Dev} (he : p e = p d) :
      p (if c then Machine.valveFault k n code sev outlet (Machine.raise g (Machine.raise f e)) else e) = p d :=
    ite_keeps (by rw [hp.valveFault, hp.raise hg, hp.raise hf, he]) he
  refine (hp.feedEvent ..).trans ((hchan _).trans (ite_keeps ?_ (ite_keeps rfl ?_)))
  · refine hnote _ _ (driveReg (by decide)) (driveReg (by decide)) (hnote _ _ (driveReg (by decide)) (driveReg (by decide)) ?_)
    rw [hp.setF (driveReg (by decide)), hp.setF (driveReg (by decide))]
  · rw [hp.lower (driveReg (by decide)), hp.lower (driveReg (by decide))]

end EventBlind

/-! ### What the start of an opening leaves of a channel (R22, R227, R239, R243) -/

/-- An entry but for what an opening takes from it. -/
def untaken (e : Entry) : Entry := { e with late := false, fromStart := false, begun := false }

/-- What stays of a channel where openings start and a boost switch passes on. -/
def entriesOf (c : Chan) : Option Entry × Option Entry × Option Nat := (c.pending, c.running.map untaken, c.onEnd)

/-- What p shows does not depend on what the start of an opening on spoke k changes: what an event changes, the cassettes, and of a channel anything but
its entries. -/
structure StartBlind (k : Nat) {β : Type} (p : Dev → β) : Prop extends EventBlind k p where
  cas : ∀ c f d, p (updCas k c f d) = p d
  chan : ∀ n f d, (∀ c, entriesOf (f c) = entriesOf c) → p (updChan k n f d) = p d

theorem startBlind_entries (k m : Nat) : StartBlind k fun d => entriesOf (getChan k m d) where
  regs _ _ _ _ := rfl
  marks _ _ := rfl
  log _ _ := rfl
  health _ _ := rfl
  drive _ _ _ _ := rfl
  free _ _ := rfl
  waiting _ _ := rfl
  cas c f d := by rw [getChan_updCas]
  chan n f d hf := getChan_updChan_keeps hf k m n d

/-- Every field below the registers of the drive, as SPK_SUPPLY. -/
theorem startBlind_field {k : Nat} {g : Fld} (hlow : 0x14000 ≤ g.reg.off) (hg : g.reg.off < spk k + 0x500) : StartBlind k (getF g) where
  toReportBlind := reportBlind_field fun h => by
    have : g.reg.off < 0x14000 := (by decide : ∀ n ∈ reportRegs, n < 0x14000) _ h
    omega
  drive r w d h := by rw [getF, rget_rput_other _ _ _ _ (by omega), getF]
  free _ _ := rfl
  waiting _ _ := rfl
  cas _ _ _ := rfl
  chan _ _ _ _ := rfl

/-- What an opening takes from the running entry is none of what stays. -/
theorem entriesOf_taken {c e : Chan} (hpend : e.pending = c.pending) (hrun : e.running = c.running.map takeOpening) (hon : e.onEnd = c.onEnd) :
    entriesOf e = entriesOf c := by
  have hcomp : untaken ∘ takeOpening = untaken := rfl
  simp [entriesOf, hpend, hon, hrun, hcomp]

namespace StartBlind
variable {k : Nat} {β : Type} {p : Dev → β} (hp : StartBlind k p)
include hp

theorem countFromStart (n : Nat) (d : Dev) : p (countFromStart k n d) = p d :=
  hp.chan _ _ _ fun c => by
    have hcomp : untaken ∘ (fun e : Entry => { e with fromStart := true }) = untaken := rfl
    simp [entriesOf, hcomp]

theorem prevented (n : Nat) (d : Dev) : p (prevented k n d) = p d := by
  unfold Machine.prevented
  exact ite_keeps ((hp.feedEvent ..).trans (hp.countFromStart ..)) rfl

theorem cutClosing (n : Nat) (d : Dev) : p (cutClosing k n d) = p d := by
  unfold Machine.cutClosing
  split
  · rfl
  · exact (whenD_keeps p _ _ (fun e => hp.feedEvent ..) _).trans (hp.chan _ _ _ fun _ => rfl)

theorem newOffInterval (n : Nat) (d : Dev) : p (newOffInterval k n d) = p d :=
  eachD_keeps p _ _ (fun _ _ => hp.chan _ _ _ fun c => by rw [entriesOf, entriesOf]) d

theorem startPeak (n : Nat) (slow : Bool) (due sched : Nat) (late : Bool) (d : Dev) : p (startPeak k n slow due sched late d) = p d := by
  unfold Machine.startPeak
  dsimp only
  refine ite_keeps ((hp.countF (driveReg (by decide)) _).trans ((hp.countF (driveReg (by decide)) _).trans ?_))
    ((hp.countF (driveReg (by decide)) _).trans ((hp.cas ..).trans ?_))
  all_goals
    refine (hp.setF (driveReg (by decide)) _ _).trans ((hp.toUs _ _).trans ((hp.chan _ _ _ fun c => ?_).trans
      ((hp.newOffInterval ..).trans (hp.cutClosing ..))))
    exact entriesOf_taken rfl rfl rfl

theorem serveQueue (c m : Nat) (d : Dev) : p (serveQueue k c m d) = p d := by
  induction m generalizing d with
  | zero => rfl
  | succ m ih =>
    unfold Machine.serveQueue
    dsimp only
    split
    · exact ite_keeps ((ih _).trans (hp.cas ..)) (ite_keeps ((ih _).trans ((hp.startPeak ..).trans (hp.cas ..)))
        ((hp.startPeak ..).trans (hp.cas ..)))
    · rfl

theorem releaseSwitch (n : Nat) (d : Dev) : p (releaseSwitch k n d) = p d := by
  unfold Machine.releaseSwitch
  dsimp only
  split
  · exact ite_keeps ((hp.cas ..).trans ((hp.serveQueue ..).trans (hp.cas ..))) rfl
  · rfl

theorem riseDue (n key sched : Nat) (late : Bool) (d : Dev) : p (riseDue k n key sched late d) = p d := by
  unfold Machine.riseDue
  refine ite_keeps (hp.prevented ..) (ite_keeps ((hp.chan _ _ _ fun c => ?_).trans (hp.newOffInterval ..))
    (ite_keeps (hp.startPeak ..) (ite_keeps (hp.startPeak ..) (hp.cas ..))))
  exact entriesOf_taken rfl rfl rfl

theorem noTravelEvent (n : Nat) (whole : Bool) (outlet : Nat) (o : Opening) (d : Dev) : p (noTravelEvent k n whole outlet o d) = p d :=
  hp.toEventBlind.noTravelEvent n whole outlet o d fun _ => hp.chan _ _ _ fun _ => rfl

end StartBlind
end Sys2Proof.Proofs
end

section
/-! The off phase (R220, R227, R228, R547): what becomes of a channel whose interval on, entry or opening ends. -/
namespace Sys2Proof.Proofs
open Sys2Proof Sys2Proof.Machine Sys2Proof.Laws

/-! ### The three ways an off phase begins -/

/-- The report of an opening that ends: of the fault that ended it, or that it opened where it was not said before (R234, R253, R547). -/
def endReported (k n : Nat) (fault : Bool) (outlet : Nat) (o : Opening) (d : Dev) : Dev :=
  if fault then feedEvent k n .disabledByFault (spokePt k d) 0xFFFF o (cutRise k n d)
  else if o.reported then cutRise k n d
  else if isProp k n d then feedEvent k n .opened (spokePt k d) 0xFFFF o (cutRise k n d)
  else noTravelEvent k n false outlet o (cutRise k n d)

/-- The closing that the detector watches from the end of an opening on (R252). -/
def closingFrom (k n : Nat) (fault force : Bool) (d : Dev) : Option Closing :=
  let ended := match (getChan k n d).running with
    | some e => decide (e.finish ≤ spokePt k d)
    | none => true
  if fault then none
  else if isProp k n d then some { start := spokePt k d, slow := (slowDecay k n force d).1, ended := ended, offEvent := false }
  else some { start := spokePt k d, slow := (slowDecay k n force d).1, ended := ended }

/-- A channel that goes to its off phase from an opening. -/
def turnedOff (slow : Bool) (cl : Option Closing) (c : Chan) : Chan :=
  { c with phase := .off, opening := none, onEnd := none, lowClosed := false, lastSlow := slow, closing := cl }

section
variable {k n : Nat} {d : Dev} (fault force : Bool) (outlet : Nat)

theorem beginOffWith_opening {o : Opening} (h : (getChan k n d).opening = some o) : beginOffWith k n fault force outlet d =
    releaseSwitch k n (whenD (slowDecay k n force d).2 (raise (F.DRV_CH_STATUS.SLOW_OFF k n))
      (updChan k n (turnedOff (slowDecay k n force d).1 (closingFrom k n fault force d)) (endReported k n fault outlet o d))) := by
  unfold beginOffWith
  dsimp only
  rw [h]
  rfl

theorem beginOffWith_conducting (h : (getChan k n d).opening = none) (hc : conducts (getChan k n d) = true) :
    beginOffWith k n fault force outlet d = regulationOff k n force d := by simp [beginOffWith, h, hc]

theorem beginOffWith_idle (h : (getChan k n d).opening = none) (hc : conducts (getChan k n d) = false) :
    beginOffWith k n fault force outlet d = leaveQueue k n (updChan k n (fun c => forceFast force { c with onEnd := none }) d) := by
  simp [beginOffWith, h, hc]

end

theorem EventBlind.endReported {k : Nat} {β : Type} {p : Dev → β} (hp : EventBlind k p) (n : Nat) (fault : Bool) (outlet : Nat)
    (o : Opening) (d : Dev) (hchan : ∀ e, p (updChan k n reportOpening e) = p e) : p (endReported k n fault outlet o d) = p d :=
  ite_keeps ((hp.feedEvent ..).trans (hp.cutRise ..)) (ite_keeps (hp.cutRise ..) (ite_keeps ((hp.feedEvent ..).trans (hp.cutRise ..))
    ((hp.noTravelEvent _ _ _ _ _ hchan).trans (hp.cutRise ..))))

/-- What a regulation without an opening ends, it ends in its channel (R234). -/
def regulationEnded (slow : Bool) (c : Chan) : Chan :=
  { c with phase := .off, opening := none, onEnd := none, lowClosed := false, closing := none, running := none, loopSet := 0, lastSlow := slow }

theorem getChan_regulationOff (k n : Nat) (force : Bool) (d : Dev) :
    getChan k n (regulationOff k n force d) = regulationEnded (slowDecay k n force d).1 (getChan k n d) := by
  refine (whenD_keeps (getChan k n) _ _ (fun _ => getChan_ofSpokes (raise_spokes _ _)) _).trans ?_
  rw [getChan_updChan]
  rfl

/-! ### The entries of a channel whose off phase begins -/

/-- A channel whose interval on ends, as far as its entries go: a regulation without an opening ends its entry too. -/
def intervalEnded (c : Chan) : Chan :=
  { c with onEnd := none, running := if c.opening.isNone && conducts c then none else c.running }

theorem intervalEnded_keepsRunning {c : Chan} (h : c.opening = none → conducts c = false) : intervalEnded c = { c with onEnd := none } := by
  unfold intervalEnded
  cases ho : c.opening with
  | none => simp [h ho]
  | some o => simp

theorem entriesOf_turnedOff {c e : Chan} (slow : Bool) (cl : Option Closing) (h : entriesOf e = entriesOf c) :
    entriesOf (turnedOff slow cl e) = entriesOf { c with onEnd := none } := by
  simp only [entriesOf, Prod.mk.injEq] at h ⊢
  exact ⟨h.1, h.2.1, rfl⟩

theorem entriesOf_forceFast (force : Bool) (c : Chan) : entriesOf (forceFast force c) = entriesOf c := by
  unfold forceFast
  split <;> rfl

theorem entriesOf_beginOffWith (k n : Nat) (fault force : Bool) (outlet : Nat) (d : Dev) :
    entriesOf (getChan k n (beginOffWith k n fault force outlet d)) = entriesOf (intervalEnded (getChan k n d)) := by
  have hp := startBlind_entries k n
  cases hopen : (getChan k n d).opening with
  | none =>
    cases hcond : conducts (getChan k n d) with
    | true =>
      rw [beginOffWith_conducting _ _ _ hopen hcond, getChan_regulationOff, intervalEnded, hopen, hcond]
      rfl
    | false =>
      rw [beginOffWith_idle _ _ _ hopen hcond, leaveQueue, getChan_updCas, getChan_updChan, entriesOf_forceFast,
        intervalEnded_keepsRunning fun _ => hcond]
  | some o =>
    rw [beginOffWith_opening _ _ _ hopen, hp.releaseSwitch, intervalEnded_keepsRunning fun h => absurd (hopen.symm.trans h) (by simp)]
    refine (congrArg entriesOf (whenD_keeps (getChan k n) _ _ (fun _ => getChan_ofSpokes (raise_spokes _ _)) _)).trans ?_
    rw [getChan_updChan]
    exact entriesOf_turnedOff _ _ (hp.endReported _ _ _ _ _ fun _ => hp.chan _ _ _ fun _ => rfl)

end Sys2Proof.Proofs
end

section
/-! Delivery of entries (R226, R227): what becomes of the pending entry, the running one and the end of its interval on. -/
namespace Sys2Proof.Proofs
open Sys2Proof Sys2Proof.Machine Sys2Proof.Laws

theorem completes_onUnit {c : Instr} {k n m : Nat} {f : Dev → Dev} {s : State} {P : State → Prop} (hk : hasSpoke k s.dev = true) (hn : n < m)
    (hc : exec c s = onUnit k n m f s) (h : P { s with dev := f s.dev }) : Completes c s P :=
  ⟨_, hc.trans (onUnit_present k n m f s hk hn), rfl, h⟩

/-- The running entry of a channel is e but for what openings take from it. -/
def Runs (e : Entry) (c : Chan) : Prop := c.running.map untaken = some (untaken e)

theorem runs_of_some {e : Entry} {c : Chan} (h : c.running = some e) : Runs e c := by rw [Runs, h, Option.map_some]

theorem runs_of_entries {e : Entry} {b c : Chan} (h : entriesOf b = entriesOf c) (hc : Runs e c) : Runs e b := by
  simp only [entriesOf, Prod.mk.injEq] at h
  exact h.2.1.trans hc

theorem pending_of_entries {b c : Chan} (h : entriesOf b = entriesOf c) : b.pending = c.pending := (Prod.mk.inj h).1

theorem onEnd_of_entries {b c : Chan} (h : entriesOf b = entriesOf c) : b.onEnd = c.onEnd := (Prod.mk.inj (Prod.mk.inj h).2).2

/-- What a channel that runs e shows of the entry. -/
theorem Runs.entry {e r : Entry} {c : Chan} (h : Runs e c) (hr : c.running = some r) :
    r.start = e.start ∧ r.finish = e.finish ∧ r.lastG = e.lastG ∧ r.ended = e.ended := by
  rw [Runs, hr, Option.map_some, Option.some_inj] at h
  simp only [untaken, Entry.mk.injEq] at h
  obtain ⟨hs, hf, -, -, -, -, -, hl, hend, -⟩ := h
  exact ⟨hs, hf, hl, hend⟩

theorem Runs.exists {e : Entry} {c : Chan} (h : Runs e c) : ∃ r, c.running = some r := by
  obtain ⟨r, hr, -⟩ := Option.map_eq_some_iff.mp h
  exact ⟨r, hr⟩

/-- Where an interval on has ended, the channel runs what it ran, or nothing. -/
theorem runs_of_intervalEnded {e : Entry} {b c : Chan} (h : entriesOf b = entriesOf (intervalEnded c)) (hc : Runs e c) :
    b.running = none ∨ Runs e b := by
  simp only [entriesOf, Prod.mk.injEq] at h
  obtain ⟨-, hrun, -⟩ := h
  unfold intervalEnded at hrun
  dsimp only at hrun
  split at hrun
  · exact .inl (by simpa using hrun)
  · exact .inr (hrun.trans hc)

/-- An entry that begins runs from then on, whether or not its channel may open (R226, R237). -/
theorem beginEntry_runs (k n : Nat) (e : Entry) (d : Dev) : ∃ r, r.start = e.start ∧ r.finish = e.finish ∧
    Runs r (getChan k n (beginEntry k n e d)) ∧ (getChan k n (beginEntry k n e d)).pending = (getChan k n d).pending := by
  have hp := startBlind_entries k n
  have hthen {u v : Dev} {r : Entry} (h : entriesOf (getChan k n u) = entriesOf (getChan k n v)) (hv : (getChan k n v).running = some r)
      (hpend : (getChan k n v).pending = (getChan k n d).pending) (hspan : r.start = e.start ∧ r.finish = e.finish) : ∃ r, r.start = e.start ∧
      r.finish = e.finish ∧ Runs r (getChan k n u) ∧ (getChan k n u).pending = (getChan k n d).pending :=
    ⟨r, hspan.1, hspan.2, runs_of_entries h (runs_of_some hv), (pending_of_entries h).trans hpend⟩
  unfold beginEntry
  dsimp only
  split
  · exact hthen rfl (by rw [getChan_updChan]) (by rw [getChan_updChan]) (by exact ⟨rfl, rfl⟩)
  · split
    · exact hthen rfl (by rw [getChan_updChan]) (by rw [getChan_updChan]) (by exact ⟨rfl, rfl⟩)
    · split
      · exact hthen (hp.prevented ..) (by rw [getChan_updChan]) (by rw [getChan_updChan]) (by exact ⟨rfl, rfl⟩)
      · exact hthen ((hp.riseDue ..).trans (congrArg entriesOf
          (whenD_keeps (getChan k n) _ _ (fun _ => getChan_ofSpokes (raise_spokes _ _)) _))) (by rw [getChan_updChan]) (by rw [getChan_updChan])
          (by exact ⟨rfl, rfl⟩)

/-- A pending entry whose END has not come starts on an idle channel. -/
theorem startPending_begins {k n : Nat} {e : Entry} (outlet : Nat) {d : Dev} (hpend : (getChan k n d).pending = some e)
    (hstart : e.start ≤ spokePt k d) (hend : spokePt k d < e.finish) (hrun : (getChan k n d).running = none) (hidle : (getChan k n d).phase = .idle) :
    startPending k n outlet d = beginEntry k n e (updChan k n (fun c => { c with pending := none, running := none }) d) := by
  have hnot : ¬ e.finish ≤ max e.start (spokePt k d) := by omega
  simp [startPending, hpend, hrun, hidle, Nat.not_lt.mpr hstart, show spokePt k (updChan k n _ d) = spokePt k d from rfl, hnot]

/-- One whose END has come too leaves. -/
theorem startPending_over {k n : Nat} {e : Entry} (outlet : Nat) {d : Dev} (hpend : (getChan k n d).pending = some e)
    (hstart : e.start ≤ spokePt k d) (hend : e.finish ≤ spokePt k d) (hrun : (getChan k n d).running = none) :
    startPending k n outlet d = updChan k n (fun c => { c with pending := none, running := none }) d := by
  have hover : e.finish ≤ max e.start (spokePt k d) := by omega
  simp [startPending, hpend, hrun, Nat.not_lt.mpr hstart, show spokePt k (updChan k n _ d) = spokePt k d from rfl, hover]

/-- An entry that ends is ended, with END no later than now, wherever it still runs (R227, R244). -/
theorem endEntry_ended {k n : Nat} {e r : Entry} (outlet : Nat) {d : Dev} (hrun : (getChan k n d).running = some e)
    (hr : (getChan k n (endEntry k n outlet d)).running = some r) : r.ended = true ∧ r.finish = min e.finish (spokePt k d) := by
  unfold endEntry endEntryWith at hr
  dsimp only at hr
  generalize hmark : updChan k n _ d = b at hr
  have hb : Runs { e with finish := min e.finish (spokePt k d), ended := true } (getChan k n b) :=
    runs_of_some (by rw [← hmark, getChan_updChan, hrun, Option.map_some])
  have hoff := entriesOf_beginOffWith k n false false outlet (leaveQueue k n b)
  rw [getChan_updChan] at hr
  generalize getChan k n (beginOffWith k n false false outlet (leaveQueue k n b)) = c at hr hoff
  have hc : c.running = some r := by
    split at hr
    · exact absurd hr (by simp)
    · exact hr
  rw [leaveQueue, getChan_updCas] at hoff
  obtain hnone | hruns := runs_of_intervalEnded hoff hb
  · exact absurd (hnone.symm.trans hc) (by simp)
  · obtain ⟨-, hf, -, hend⟩ := hruns.entry hc
    exact ⟨hend, hf⟩

/-! ### Windows (R227) -/

/-- A grid instant inside the entry that runs begins its window, unless it was seen. -/
theorem windowStart_seen {k n : Nat} {e : Entry} {g : Nat} {d : Dev} (hrun : (getChan k n d).running = some e) (hfreq : e.freq ≠ 0)
    (hon : e.ended = false) (hend : spokePt k d < e.finish) (hwait : (getChan k n d).waitRec = false) (hprop : isProp k n d = false)
    (hgrid : gridLe e.freq e.slot (spokePt k d) = some g) (hstart : e.start ≤ g) (hnew : ∀ l, e.lastG = some l → l < g)
    (hcond : (getChan k n d).opening = none → conducts (getChan k n d) = false) :
    Runs { e with lastG := some g } (getChan k n (windowStart k n d)) := by
  have hp := startBlind_entries k n
  have hset {on : Option Nat} {short : Bool} {b : Dev} (hb : Runs { e with lastG := some g } (getChan k n b)) : Runs { e with lastG := some g }
      (getChan k n (whenD short (raise (F.DRV_CH_STATUS.STRETCHED k n)) (updChan k n (fun c => { c with onEnd := on }) b))) := by
    rw [whenD_keeps (getChan k n) _ _ fun _ => getChan_ofSpokes (raise_spokes _ _), getChan_updChan]
    exact hb
  unfold windowStart
  dsimp only
  rw [hrun]
  dsimp only
  rw [if_neg (by simp [hfreq, hon, hwait, hprop, hend]), hgrid]
  dsimp only
  rw [if_neg (by cases hl : e.lastG with
    | none => simpa using hstart
    | some l => simpa using ⟨hstart, hnew l hl⟩)]
  generalize hmark : updChan k n _ d = b
  have hb : Runs { e with lastG := some g } (getChan k n b) := runs_of_some (by rw [← hmark, getChan_updChan])
  split
  · split
    · split
      · refine runs_of_entries ((entriesOf_beginOffWith ..).trans ?_) (hset (on := none) (short := false) hb)
        rw [intervalEnded_keepsRunning (by rw [← hmark, getChan_updChan]; exact hcond), whenD_false, getChan_updChan]
      · exact hb
    · exact hset hb
  · split
    · exact hb
    · split
      · exact runs_of_entries (hp.prevented ..) hb
      · exact runs_of_entries (hp.riseDue ..) (hset hb)

/-- The end of an interval on is taken: the channel stays on into the next, or its off phase begins. -/
theorem windowEnd_onEnd {k n stop : Nat} {e : Entry} {d : Dev} (hrun : (getChan k n d).running = some e) (hstop : (getChan k n d).onEnd = some stop)
    (hpt : stop ≤ spokePt k d) (hfreq : e.freq ≠ 0) (hprop : isProp k n d = false) : (getChan k n (windowEnd k n d)).onEnd = none := by
  unfold windowEnd
  dsimp only
  rw [hrun, hstop]
  dsimp only
  rw [if_neg (by simp [hpt, hfreq, hprop])]
  split
  · rw [getChan_updChan]
  · exact onEnd_of_entries (entriesOf_beginOffWith ..)

/-! ### The obligation -/

/-- Settles O17: each command by what it makes of the entries of its channel. -/
theorem entryDelivery : Obligations.EntryDelivery := by
  refine fun s k n hk hn => ⟨fun e hpend hstart hend hrun hidle => ?starts, fun e hpend hstart hend hrun => ?tooLate, fun e hrun hon hend => ?ends,
    fun e g hrun hfreq hon hend hwait hprop hgrid hstart hnew hcond => ?window, fun e stop hrun hstop hpt hfreq hprop => ?windowEnd⟩
  case starts =>
    refine completes_onUnit hk hn (exec_entryStart k n s) ?_
    dsimp only
    rw [startPending_begins _ hpend hstart hend hrun hidle]
    obtain ⟨r, hs, hf, hruns, hpend'⟩ := beginEntry_runs k n e (updChan k n (fun c => { c with pending := none, running := none }) s.dev)
    obtain ⟨r', hr'⟩ := hruns.exists
    obtain ⟨hs', hf', -⟩ := hruns.entry hr'
    exact ⟨hpend'.trans (by rw [getChan_updChan]), r', hr', hs'.trans hs, hf'.trans hf⟩
  case tooLate =>
    refine completes_onUnit hk hn (exec_entryStart k n s) ?_
    dsimp only
    rw [startPending_over _ hpend hstart hend hrun, getChan_updChan]
    exact ⟨rfl, rfl, rfl, rfl⟩
  case ends =>
    refine completes_onUnit hk hn (exec_entryEnd k n s) fun r hr => ?_
    dsimp only at hr
    rw [hrun] at hr
    dsimp only at hr
    rw [if_neg (by simp [hon, hend])] at hr
    obtain ⟨hended, hfin⟩ := endEntry_ended _ hrun hr
    exact ⟨hended, hfin.trans (Nat.min_eq_left hend)⟩
  case window =>
    refine completes_onUnit hk hn (exec_windowStart k n s) ?_
    have hruns := windowStart_seen hrun hfreq hon hend hwait hprop hgrid hstart hnew hcond
    obtain ⟨r, hr⟩ := hruns.exists
    obtain ⟨-, -, hl, -⟩ := hruns.entry hr
    exact ⟨r, hr, hl⟩
  case windowEnd => exact completes_onUnit hk hn (exec_windowEnd k n s) (windowEnd_onEnd hrun hstop hpt hfreq hprop)

end Sys2Proof.Proofs
end

section
/-! Phases of an opening (R220 to R222, R242, R245): the rise, dwell, hold and regulation of a channel, and its recovery. -/
namespace Sys2Proof.Proofs
open Sys2Proof Sys2Proof.Machine Sys2Proof.Laws

/-! ### A boost switch that no rise waits for (R240) -/

theorem serveQueue_empty {k c : Nat} {d : Dev} (h : (getCas k c d).queue = []) (m : Nat) : serveQueue k c m d = d := by
  cases m with
  | zero => rfl
  | succ m =>
    simp only [serveQueue, h]
    cases (getCas k c d).serving <;> rfl

theorem feedRail_queue (rail : Bool) (t : Nat) (c : Cassette) : (feedRail rail t c).queue = c.queue := by
  unfold feedRail
  split <;> rfl

/-- The switch passes to nobody: of the cassette only who is served changes, and where its output stands. -/
theorem releaseSwitch_empty {β : Type} {p : Dev → β} {k n : Nat} {d : Dev}
    (hp : ∀ c f e, (∀ x : Cassette, (f x).queue = x.queue) → p (updCas k c f e) = p e) (h : (getCas k (cassetteOf n) d).queue = []) :
    p (releaseSwitch k n d) = p d := by
  unfold releaseSwitch
  dsimp only
  split
  · refine ite_keeps ((hp _ _ _ fun x => ?_).trans ?_) rfl
    · split
      · exact feedRail_queue ..
      · rfl
    · rw [serveQueue_empty (by rw [getCas_updCas]; exact h)]
      exact hp _ _ _ fun _ => rfl
  · rfl

/-! ### The end of a rise (R220, R221, R245) -/

/-- A slow peak that reaches PEAK_I goes to dwell (R242). -/
theorem peakReached_slow {k n : Nat} {o : Opening} {d : Dev} (hph : (getChan k n d).phase = .rise) (hop : (getChan k n d).opening = some o)
    (hslow : o.slow = true) : peakReached k n d = updChan k n (fun c => { c with phase := .dwell, lowClosed := false }) d := by
  simp [peakReached, hph, hop, hslow]

/-- A boost rise that nothing waits behind runs out of BOOST_TMAX. -/
theorem boostTmaxEnd_dwells {k n : Nat} {o : Opening} {d : Dev} (hph : (getChan k n d).phase = .rise) (hop : (getChan k n d).opening = some o)
    (hslow : o.slow = false) (hpt : o.peak + boostTmax k n d ≤ spokePt k d) (hq : (getCas k (cassetteOf n) d).queue = []) :
    (getChan k n (boostTmaxEnd k n d)).phase = .dwell ∧ getF (F.DRV_CH_STATUS.PEAK_TIMEOUT k n) (boostTmaxEnd k n d) = 1 := by
  have hspokes : (toUs (spokePt k d - o.peak) d).2.spokes = d.spokes := (eventBlind_spokes k).toUs _ _
  have hreg : (F.DRV_CH_STATUS.PEAK_TIMEOUT k n).reg.off ≠ (F.DRV_CH_RISE.LAST_RISE k n).reg.off := by
    change spk k + 0x0804 + 0x10 * n ≠ spk k + 0x0C04 + 0x10 * n
    omega
  unfold boostTmaxEnd
  simp only [hph, hop, hslow, Nat.not_lt.mpr hpt, decide_false, Bool.or_self, Bool.false_eq_true, if_false]
  generalize toUs (spokePt k d - o.peak) d = r at hspokes ⊢
  obtain ⟨us, e⟩ := r
  dsimp only at hspokes ⊢
  have hqueue : (getCas k (cassetteOf n) e).queue = [] := by rw [getCas, getSpoke, hspokes]; exact hq
  generalize hdw : updChan k n _ e = u
  have hchan : (getChan k n u).phase = .dwell := by rw [← hdw, getChan_updChan]
  have hu : (getCas k (cassetteOf n) u).queue = [] := by rw [← hdw, getCas_updChan]; exact hqueue
  have hflags : getF (F.DRV_CH_STATUS.PEAK_TIMEOUT k n) (raise (F.DRV_CH_STATUS.PEAK_TIMEOUT k n) u) = 1 :=
    getF_raise_same _ _ (by simp [F.DRV_CH_STATUS.PEAK_TIMEOUT]) rfl
  generalize hw : setF (F.DRV_CH_RISE.LAST_RISE k n) _ (raise _ u) = w
  have hsame : w.spokes = u.spokes := by rw [← hw, setF_spokes, raise_spokes]
  have hwait : (getCas k (cassetteOf n) w).queue = [] := by rw [getCas, getSpoke, hsame]; exact hu
  rw [releaseSwitch_empty (p := getChan k n) (fun _ _ _ _ => getChan_updCas ..) hwait,
    releaseSwitch_empty (p := getF (F.DRV_CH_STATUS.PEAK_TIMEOUT k n)) (fun _ _ _ _ => rfl) hwait, getChan_ofSpokes hsame, ← hw,
    getF_setF_otherReg _ _ _ _ hreg]
  exact ⟨hchan, hflags⟩

/-- The peak of an opening that was reported ends in dwell (R221). -/
theorem peakTEnd_holds {k n : Nat} {o : Opening} {d : Dev} (hph : (getChan k n d).phase = .dwell) (hop : (getChan k n d).opening = some o)
    (hrep : o.reported = true) (hpt : o.peak + peakT k n d ≤ spokePt k d) :
    peakTEnd k n d = updChan k n (fun c => { c with phase := .hold }) d := by
  have hcut : cutRise k n d = d := by simp [cutRise, hph]
  have hdwell : (Phase.dwell == Phase.rise) = false := rfl
  simp [peakTEnd, hop, hph, hrep, Nat.not_lt.mpr hpt, hcut, hdwell]

/-! ### Chopping (R220, R222) -/

theorem chopThreshold_elsewhere {k n : Nat} {d : Dev} (above : Bool) (hd : (getChan k n d).phase ≠ .dwell) (hh : (getChan k n d).phase ≠ .hold) :
    chopThreshold k n above d = d := by simp [chopThreshold, hd, hh]

theorem chopThreshold_lower {k n : Nat} {d : Dev} (hph : (getChan k n d).phase = .dwell ∨ (getChan k n d).phase = .hold)
    (hopen : (getChan k n d).lowClosed = false) (hnever : (getChan k n d).closedAt = none) : chopThreshold k n false d =
    updChan k n (fun c => { c with lowClosed := true, closedAt := some (spokePt k d), slopes := { c.slopes with onAt := some (spokePt k d) } }) d := by
  rcases hph with hph | hph <;> simp [chopThreshold, hph, hopen, hnever]

/-- The slope of an on-interval goes into the slopes of its channel alone (R250, R251). -/
theorem dwellSlope_keeps {β : Type} {p : Dev → β} {k n : Nat}
    (hp : ∀ (f : Chan → DwellSlopes) e, p (updChan k n (fun c => { c with slopes := f c }) e) = p e) (d : Dev) : p (dwellSlope k n d) = p d := by
  unfold dwellSlope
  dsimp only
  split
  · exact ite_keeps (hp _ _) ((hp _ _).trans (hp _ _))
  · rfl

/-- Above the upper threshold the low side opens, in the phase the channel is in. -/
theorem chopThreshold_upper {k n : Nat} {d : Dev} (hph : (getChan k n d).phase = .dwell ∨ (getChan k n d).phase = .hold) :
    let t := chopThreshold k n true d
    t.regs = d.regs ∧ (getChan k n t).lowClosed = false ∧ (getChan k n t).phase = (getChan k n d).phase := by
  have hdo : chopThreshold k n true d = dwellSlope k n (updChan k n (fun c => { c with lowClosed := false }) d) := by
    rcases hph with hph | hph <;> simp [chopThreshold, hph]
  dsimp only
  rw [hdo, dwellSlope_keeps (p := Dev.regs) fun _ _ => rfl,
    dwellSlope_keeps (p := fun e => (getChan k n e).lowClosed) fun _ _ => by rw [getChan_updChan],
    dwellSlope_keeps (p := fun e => (getChan k n e).phase) fun _ _ => by rw [getChan_updChan], getChan_updChan]
  exact ⟨rfl, rfl, rfl⟩

/-! ### A slow peak starts (R242, R243) -/

/-- What depends on the spokes alone does not see an event. -/
theorem eventBlind_ofSpokes {β : Type} (k : Nat) (p : KMap Spoke → β) : EventBlind k fun d => p d.spokes where
  regs _ _ _ _ := rfl
  marks _ _ := rfl
  log _ _ := rfl
  health _ _ := rfl
  drive _ _ _ _ := rfl
  free _ _ := rfl
  waiting _ _ := rfl

theorem eventBlind_getChan (k n : Nat) : EventBlind k (getChan k n) := eventBlind_ofSpokes k fun m => kget (kget m k {}).chans n {}

theorem eventBlind_getCas (k c : Nat) : EventBlind k (getCas k c) := eventBlind_ofSpokes k fun m => kget (kget m k {}).cas c {}

theorem EventBlind.cutClosing {k n : Nat} {β : Type} {p : Dev → β} (hp : EventBlind k p) (hchan : ∀ f e, p (updChan k n f e) = p e) (d : Dev) :
    p (cutClosing k n d) = p d := by
  unfold Machine.cutClosing
  split
  · rfl
  · exact (whenD_keeps p _ _ (fun _ => hp.feedEvent ..) _).trans (hchan _ _)

/-- The channel of a slow peak, which needs no boost switch. -/
theorem startPeak_slow (k n due sched : Nat) (late : Bool) (d : Dev) : let t := startPeak k n true due sched late d
    (getChan k n t).phase = .rise ∧ (getChan k n t).opening = some { sched := sched, peak := spokePt k d, slow := true, late := late } ∧
      ∀ c, getCas k c t = getCas k c d := by
  have hcount {β : Type} {p : Dev → β} (hp : EventBlind k p) (v w : Nat) (e : Dev) : p (countF (F.DRV_CH_TRAVEL.SLOW_PEAKS k n)
      (countF (F.DRV_CAS_PEAKS.SLOW_PEAKS k (cassetteOf n)) (setF (F.DRV_CAS_SCHED.MAX_SLIP k (cassetteOf n)) v (toUs w e).2))) = p e := by
    rw [hp.countF (driveReg (by decide)), hp.countF (driveReg (by decide)), hp.setF (driveReg (by decide)), hp.toUs]
  unfold startPeak
  dsimp only
  rw [if_pos rfl, hcount (eventBlind_getChan k n), getChan_updChan]
  refine ⟨rfl, rfl, fun c => ?_⟩
  rw [hcount (eventBlind_getCas k c), getCas_updChan, newOffInterval, eachD_keeps (getCas k c) _ _ fun _ _ => getCas_updChan ..,
    (eventBlind_getCas k c).cutClosing fun _ _ => getCas_updChan ..]

theorem leaveQueue_without (k n : Nat) (d : Dev) : ∀ x ∈ (getCas k (cassetteOf n) (leaveQueue k n d)).queue, x.chan ≠ n := by
  rw [leaveQueue, getCas_updCas]
  intro x hx
  simpa using (List.mem_filter.mp hx).2

/-! ### Recovery and regulation (R218, R226, R232 to R234) -/

/-- The phase of a channel and what runs on it. -/
def activity (c : Chan) : Phase × Option Entry := (c.phase, c.running)

theorem eventBlind_activity (k n : Nat) : EventBlind k fun d => activity (getChan k n d) :=
  eventBlind_ofSpokes k fun m => activity (kget (kget m k {}).chans n {})

theorem EventBlind.heldTravel {k n : Nat} {β : Type} {p : Dev → β} (hp : EventBlind k p) (d : Dev) : p (heldTravel k n d) = p d := by
  exact ite_keeps rfl ((hp.lower (driveReg (by decide)) _).trans (hp.lower (driveReg (by decide)) _))

/-- An owner that is settled leaves what each channel does as it is (R218, R235). -/
theorem settleOwner_activity (k n j : Nat) (d : Dev) : activity (getChan k n (settleOwner k j d)) = activity (getChan k n d) := by
  have hp := eventBlind_activity k n
  have hset (f : Chan → Chan) (hf : ∀ c, activity (f c) = activity c) (e : Dev) :
      activity (getChan k n (updChan k j f e)) = activity (getChan k n e) := getChan_updChan_keeps hf ..
  have hreg : spk k + 0x500 ≤ (R.DRV_CH_CFG k j).off := driveReg (by decide)
  unfold settleOwner
  refine ite_keeps (p := fun e => activity (getChan k n e)) ((hp.heldTravel _).trans ?_) rfl
  exact (hset _ (by intro _; rfl) _).trans ((hp.drive _ _ _ hreg).trans (hset _ (by intro _; rfl) _))

theorem settlePairOwner_activity (k n j : Nat) (d : Dev) : activity (getChan k n (settlePairOwner k j d)) = activity (getChan k n d) :=
  (settleOwner_activity k n j _).trans (whenD_keeps (fun e => activity (getChan k n e)) _ _ (settleOwner_activity k n (j + 1)) d)

/-- A channel without an entry that has recovered is idle. -/
theorem recovered_idle {k n : Nat} {d : Dev} (hph : (getChan k n d).phase = .off) (hrun : (getChan k n d).running = none) :
    activity (getChan k n (recovered k n d)) = (.idle, none) := by
  have hp := eventBlind_activity k n
  unfold recovered
  dsimp only
  rw [if_neg (by simp [hph]), settlePairOwner_activity, hrun]
  dsimp only
  generalize hmark : updChan k n _ d = b
  have hb : activity (getChan k n b) = (.idle, none) := by rw [← hmark, getChan_updChan, activity, hrun]
  have hreturn : activity (getChan k n (energyReturned k b)) = activity (getChan k n b) := rfl
  generalize hrest : (if (getChan k n d).lastSlow = true then b else energyReturned k b) = e
  have he : activity (getChan k n e) = (.idle, none) := by
    rw [← hrest]
    exact (ite_keeps (p := fun e => activity (getChan k n e)) rfl hreturn).trans hb
  split
  · refine (ite_keeps (p := fun e => activity (getChan k n e)) rfl ((hp.feedEvent ..).trans ?_)).trans he
    rw [getChan_updChan]
    rfl
  · exact he

theorem clampI_bounded (hi : Nat) (x : Int) : (clampI 0 hi x).toNat ≤ hi := by
  unfold clampI
  split
  · simp
  · split <;> omega

/-- That a proportional channel came near its set-point is an event (R234). -/
theorem EventBlind.propOpened {k n : Nat} {β : Type} {p : Dev → β} (hp : EventBlind k p)
    (hchan : ∀ (o : Opening) e, p (updChan k n (fun c => { c with opening := some o }) e) = p e) (d : Dev) : p (propOpened k n d) = p d := by
  unfold Machine.propOpened
  split
  · rfl
  · exact ite_keeps rfl ((hp.feedEvent ..).trans (hchan ..))

/-- The registers, which set the full scale, and the spokes. -/
def drivenBy (d : Dev) : KMap Word × KMap Spoke := (d.regs, d.spokes)

theorem setPoint_drivenBy (k n : Nat) (d : Dev) : drivenBy (setPoint k n d).2 = drivenBy d := by
  unfold setPoint
  dsimp only
  split
  · rfl
  · exact divFree_free (p := drivenBy) (fun _ _ => rfl) ..

theorem fullScale_ofRegs {d e : Dev} (k n : Nat) (h : d.regs = e.regs) : fullScale k n d = fullScale k n e := by
  rw [fullScale, fullScale, pairFold, pairFold, tplOf, tplOf, isSet, isSet, getF_of_regs (F.DRV_CH_CFG.TEMPLATE k n) h,
    getF_of_regs (F.DRV_CH_CFG.BOND k n) h, getF_of_regs _ h]

/-- A chopping period of a channel in regulation: the low side closes and the target is within FS_I (R232, R233). -/
theorem chopPeriod_regulates {k n : Nat} {d : Dev} (hph : (getChan k n d).phase = .regulation) : let c := getChan k n (chopPeriod k n d)
    c.phase = .regulation ∧ c.lowClosed = true ∧ c.target ≤ fullScale k n d := by
  unfold chopPeriod
  dsimp only
  rw [if_neg (by simp [hph])]
  have hset := setPoint_drivenBy k n d
  generalize setPoint k n d = r at hset ⊢
  obtain ⟨sp, e⟩ := r
  dsimp only at hset ⊢
  have hdith (a : Int) (b : Nat) : drivenBy (divFree a b e).2 = drivenBy d := (divFree_free (p := drivenBy) (fun _ _ => rfl) ..).trans hset
  generalize hr : divFree _ _ e = r
  obtain ⟨a, u⟩ := r
  have hu : drivenBy (a, u).2 = drivenBy d := by rw [← hr]; exact hdith _ _
  obtain ⟨hregs, hspokes⟩ := Prod.mk.inj hu
  have hopen {β : Type} (q : Chan → β) (hq : ∀ o c, q { c with opening := some o } = q c) (w : Bool) (v : Dev) :
      q (getChan k n (whenD w (propOpened k n) v)) = q (getChan k n v) :=
    whenD_keeps (fun v => q (getChan k n v)) _ _ ((eventBlind_ofSpokes k fun m => q (kget (kget m k {}).chans n {})).propOpened fun o _ => by
      exact getChan_updChan_keeps (hq o) ..) v
  dsimp only
  rw [hopen Chan.phase (fun _ _ => rfl), hopen Chan.lowClosed (fun _ _ => rfl), hopen Chan.target (fun _ _ => rfl), getChan_updChan]
  refine ⟨?_, rfl, ?_⟩
  · exact (congrArg Chan.phase (getChan_ofSpokes hspokes)).trans hph
  · rw [← fullScale_ofRegs k n hregs]
    exact clampI_bounded ..

end Sys2Proof.Proofs
end

section
/-! Switches (R215 to R217): which are open where a channel is off, where it chops, and on a spoke that has declared its link lost (R26). -/
namespace Sys2Proof.Proofs
open Sys2Proof Sys2Proof.Machine Sys2Proof.Laws

/-! ### The switches of one channel -/

/-- No switch of the channel is closed: it is idle, or in fast decay. -/
def Quiet (c : Chan) : Prop := c.phase = .idle ∨ (c.phase = .off ∧ c.lastSlow = false)

theorem Quiet.switches {k n : Nat} {d : Dev} (h : Quiet (getChan k (leadOf k n d) d)) : lowSide k n d = false ∧ freewheel k n d = false := by
  rcases h with h | ⟨h, hfast⟩
  · simp [lowSide, freewheel, conducts, h]
  · simp [lowSide, freewheel, conducts, h, hfast]

theorem leadOf_single {k n : Nat} {d : Dev} (h : isSet (F.DRV_CH_CFG.BOND_ODD k n) d = false) : leadOf k n d = n := by simp [leadOf, h]

theorem leadOf_lt {k n m : Nat} (d : Dev) (h : n < m) : leadOf k n d < m := by
  unfold leadOf
  split <;> omega

theorem isSet_ofRegs (f : Fld) {d e : Dev} (h : d.regs = e.regs) : isSet f d = isSet f e := by rw [isSet, getF_of_regs f h, isSet]

/-- In dwell or hold, with its low side open, a channel of its own freewheels in slow decay (R217). -/
theorem freewheels {k n : Nat} {d : Dev} (hph : (getChan k n d).phase = .dwell ∨ (getChan k n d).phase = .hold)
    (hopen : (getChan k n d).lowClosed = false) (hodd : isSet (F.DRV_CH_CFG.BOND_ODD k n) d = false)
    (hen : isSet (F.DRV_STATUS.DRIVE_EN k) d = true) :
    lowSide k n d = false ∧ freewheel k n d = true ∧ pathOf k n d = .slowDecay := by
  have hlow : lowSide k n d = false := by simp [lowSide, leadOf_single hodd, hopen]
  have hwheel : freewheel k n d = true := by rcases hph with h | h <;> simp [freewheel, leadOf_single hodd, hlow, hen, h]
  exact ⟨hlow, hwheel, by simp [pathOf, hlow, hwheel]⟩

theorem mem_casChans (n : Nat) : n ∈ casChans (cassetteOf n) :=
  List.mem_map.mpr ⟨n % 8, List.mem_range.mpr (Nat.mod_lt _ (by decide)), Nat.div_add_mod n 8⟩

/-- With its low side closed it draws from the battery, unless a rise holds the cassette (R215, R216). -/
theorem drawsFromBattery {k n : Nat} {d : Dev} (hph : (getChan k n d).phase = .dwell ∨ (getChan k n d).phase = .hold)
    (hclosed : (getChan k n d).lowClosed = true) (hodd : isSet (F.DRV_CH_CFG.BOND_ODD k n) d = false) (hheld : casHeld k (cassetteOf n) d = false)
    (hserve : (getCas k (cassetteOf n) d).serving = none) (hen : isSet (F.DRV_STATUS.DRIVE_EN k) d = true) :
    freewheel k n d = false ∧ pathOf k n d = .battery := by
  have hlow : lowSide k n d = true := by rcases hph with h | h <;> simp [lowSide, conducts, leadOf_single hodd, hclosed, hen, h]
  have hneeds : needsBattery k n d = true := by rcases hph with h | h <;> simp [needsBattery, h]
  have hbat : batterySwitch k (cassetteOf n) d = true := by
    simpa [batterySwitch, hheld, hserve] using ⟨n, mem_casChans n, hneeds⟩
  exact ⟨by simp [freewheel, hlow], by simp [pathOf, hlow, boostSwitch, hserve, hbat]⟩

/-! ### An off phase that is forced (R26, R217) -/

theorem slowDecay_forced (k n : Nat) (d : Dev) : slowDecay k n true d = (false, false) := by simp [slowDecay]

theorem forceFast_quiet {c : Chan} (h : conducts c = false) : Quiet (forceFast true c) := by
  unfold forceFast
  cases hph : c.phase with
  | off => exact .inr ⟨by simp, by simp⟩
  | idle => exact .inl (by simp [hph])
  | _ => simp [conducts, hph] at h

/-- What a step of channel n leaves: the other channels, and queues in which nothing waits. -/
structure Beside (k n : Nat) (d e : Dev) : Prop where
  chans : ∀ m, m ≠ n → getChan k m e = getChan k m d
  queues : ∀ c, (getCas k c d).queue = [] → (getCas k c e).queue = []

namespace Beside
variable {k n : Nat} {a b d : Dev}

theorem trans (h : Beside k n a b) (g : Beside k n b d) : Beside k n a d :=
  ⟨fun m hm => (g.chans m hm).trans (h.chans m hm), fun c hc => g.queues c (h.queues c hc)⟩

theorem ofSpokes (h : b.spokes = a.spokes) : Beside k n a b :=
  ⟨fun _ _ => getChan_ofSpokes h, fun c hc => by rwa [getCas, getSpoke, h]⟩

theorem updChan (f : Chan → Chan) (d : Dev) : Beside k n d (updChan k n f d) :=
  ⟨fun _ hm => getChan_updChan_other hm f d, fun _ hc => by rwa [getCas_updChan]⟩

theorem leaveQueue (d : Dev) : Beside k n d (leaveQueue k n d) := by
  refine ⟨fun m _ => getChan_updCas .., fun c hc => ?_⟩
  by_cases h : c = cassetteOf n
  · subst h
    rw [Machine.leaveQueue, getCas_updCas, hc]
    rfl
  · rwa [Machine.leaveQueue, getCas_updCas_other h]

theorem endReported (fault : Bool) (outlet : Nat) (o : Opening) (d : Dev) : Beside k n d (endReported k n fault outlet o d) :=
  ⟨fun m hm => (eventBlind_getChan k m).endReported _ _ _ _ _ fun _ => getChan_updChan_other hm ..,
    fun c hc => by rwa [(eventBlind_getCas k c).endReported _ _ _ _ _ fun _ => getCas_updChan ..]⟩

theorem releaseSwitch (h : (getCas k (cassetteOf n) d).queue = []) : Beside k n d (releaseSwitch k n d) :=
  ⟨fun m _ => releaseSwitch_empty (p := getChan k m) (fun _ _ _ _ => getChan_updCas ..) h,
    fun c hc => (releaseSwitch_empty (p := fun e => (getCas k c e).queue) (fun _ _ _ hf => getCas_updCas_keeps hf ..) h).trans hc⟩

end Beside

/-- A channel forced off is quiet, and the others are as they were, where no rise waits in its cassette. -/
theorem beginOffWith_forced {k n : Nat} (fault : Bool) (outlet : Nat) {d : Dev} (hq : (getCas k (cassetteOf n) d).queue = []) :
    Quiet (getChan k n (beginOffWith k n fault true outlet d)) ∧ Beside k n d (beginOffWith k n fault true outlet d) := by
  cases hopen : (getChan k n d).opening with
  | none =>
    cases hcond : conducts (getChan k n d) with
    | true =>
      rw [beginOffWith_conducting _ _ _ hopen hcond]
      refine ⟨.inr ?_, ?_⟩
      · rw [getChan_regulationOff, slowDecay_forced]
        exact ⟨rfl, rfl⟩
      · simp only [regulationOff, slowDecay_forced, whenD_false]
        exact .updChan ..
    | false =>
      rw [beginOffWith_idle _ _ _ hopen hcond]
      refine ⟨?_, (Beside.updChan _ d).trans (.leaveQueue _)⟩
      rw [leaveQueue, getChan_updCas, getChan_updChan]
      exact forceFast_quiet hcond
  | some o =>
    rw [beginOffWith_opening _ _ _ hopen, slowDecay_forced]
    dsimp only
    rw [whenD_false]
    generalize hu : updChan k n (turnedOff false _) _ = u
    have hbeside : Beside k n d u := hu ▸ (Beside.endReported fault outlet o d).trans (.updChan _ _)
    have hqueue := hbeside.queues _ hq
    refine ⟨.inr ?_, hbeside.trans (.releaseSwitch hqueue)⟩
    rw [releaseSwitch_empty (p := getChan k n) (fun _ _ _ _ => getChan_updCas ..) hqueue, ← hu, getChan_updChan]
    exact ⟨rfl, rfl⟩

theorem stopChan_forced {k n : Nat} (outlet : Nat) {d : Dev} (hq : (getCas k (cassetteOf n) d).queue = []) :
    Quiet (getChan k n (stopChan k n true outlet d)) ∧ Beside k n d (stopChan k n true outlet d) := by
  unfold stopChan endEntryWith
  dsimp only
  generalize hdrop : leaveQueue k n _ = b
  have hb : Beside k n d b := hdrop ▸ ((Beside.updChan _ d).trans (.updChan _ _)).trans (.leaveQueue _)
  obtain ⟨hquiet, hoff⟩ := beginOffWith_forced false outlet (hb.queues _ hq)
  refine ⟨?_, (hb.trans hoff).trans (.updChan _ _)⟩
  rw [getChan_updChan]
  split
  · exact hquiet
  · exact hquiet

/-! ### A whole spoke (R26) -/

/-- Repetition under an invariant: what each element brings about, and the rest keep, holds in the end of every element. -/
theorem eachD_reaches {α : Type} {I : Dev → Prop} {P : α → Dev → Prop} {f : α → Dev → Dev} {xs : List α}
    (hinv : ∀ x ∈ xs, ∀ d, I d → I (f x d)) (hset : ∀ x ∈ xs, ∀ d, I d → P x (f x d))
    (hkeep : ∀ x ∈ xs, ∀ y d, I d → P y d → P y (f x d)) {d : Dev} (hd : I d) :
    I (eachD xs f d) ∧ ∀ y, y ∈ xs ∨ P y d → P y (eachD xs f d) := by
  induction xs generalizing d with
  | nil => exact ⟨hd, fun y hy => hy.resolve_left (by simp)⟩
  | cons x xs ih =>
    rw [List.forall_mem_cons] at hinv hset hkeep
    obtain ⟨hall, hreach⟩ := ih hinv.2 hset.2 hkeep.2 (hinv.1 d hd)
    refine ⟨hall, fun y hy => hreach y ?_⟩
    rcases hy with hy | hy
    · rcases List.mem_cons.mp hy with rfl | hy
      · exact .inr (hset.1 d hd)
      · exact .inl hy
    · exact .inr (hkeep.1 y d hd hy)

/-- No rise waits in a cassette of spoke k. -/
def NoneQueued (k : Nat) (d : Dev) : Prop := ∀ c, c < 8 → (getCas k c d).queue = []

theorem clearQueues_noneQueued (k : Nat) (d : Dev) : NoneQueued k (clearQueues k d) := by
  have hclear := eachD_reaches (I := fun _ => True) (P := fun c d => (getCas k c d).queue = []) (xs := List.range 8)
    (f := fun c => updCas k c fun cs => { cs with queue := [] }) (fun _ _ _ _ => trivial) (fun c _ d _ => by rw [getCas_updCas]) (fun c _ b d _ h => by
      by_cases hb : b = c
      · subst hb
        rw [getCas_updCas]
      · rwa [getCas_updCas_other hb]) (d := d) trivial
  exact fun c hc => hclear.2 c (.inl (List.mem_range.mpr hc))

theorem Beside.noneQueued {k n : Nat} {d e : Dev} (h : Beside k n d e) (hq : NoneQueued k d) : NoneQueued k e := fun c hc => h.queues c (hq c hc)

/-- A spoke stopped by force has every channel quiet. -/
theorem stopSpoke_quiet (k : Nat) (outletOf : Nat → Nat) (d : Dev) {m : Nat} (hm : m < 64) : Quiet (getChan k m (stopSpoke k true outletOf d)) := by
  have hstep (n : Nat) (hn : n ∈ List.range 64) (e : Dev) (he : NoneQueued k e) :
      Quiet (getChan k n (if getChan k n e = {} then e else stopChan k n true (outletOf n) e)) ∧
        Beside k n e (if getChan k n e = {} then e else stopChan k n true (outletOf n) e) := by
    split
    · next hnew => exact ⟨hnew ▸ .inl rfl, .ofSpokes rfl⟩
    · exact stopChan_forced _ (he _ (Nat.div_lt_of_lt_mul (List.mem_range.mp hn)))
  have hall := eachD_reaches (P := fun n e => Quiet (getChan k n e)) (fun n hn e he => (hstep n hn e he).2.noneQueued he)
    (fun n hn e he => (hstep n hn e he).1) (fun n hn j e he hj => by
      by_cases hjn : j = n
      · exact hjn ▸ (hstep n hn e he).1
      · rwa [(hstep n hn e he).2.chans j hjn]) (clearQueues_noneQueued k d)
  exact hall.2 m (.inl (List.mem_range.mpr hm))

/-- Regulations that end leave a quiet channel alone: it is in none. -/
theorem endLoopChannels_quiet {k m : Nat} {d : Dev} (h : Quiet (getChan k m d)) : Quiet (getChan k m (endLoopChannels k d)) := by
  have hreg (n : Nat) (e : Dev) (he : Quiet (getChan k m e)) : Quiet (getChan k m (endRegulation k n e)) := by
    unfold endRegulation
    split
    · next hn =>
      have hne : m ≠ n := by
        rintro rfl
        rcases he with he | ⟨he, -⟩ <;> simp [hn] at he
      rw [regulationOff]
      refine (whenD_keeps (getChan k m) _ _ (fun _ => getChan_ofSpokes (raise_spokes _ _)) _).symm ▸ ?_
      rwa [getChan_updChan_other hne]
    · exact he
  refine (eachD_reaches (I := fun e => Quiet (getChan k m e)) (P := fun _ _ => True) (fun n _ e he => ?_) (fun _ _ _ _ => trivial)
    (fun _ _ _ _ _ _ => trivial) h).1
  split
  · exact hreg n e he
  · exact he

theorem getChan_updLoop (k n l : Nat) (f : Loop → Loop) (d : Dev) : getChan k n (updLoop k l f d) = getChan k n d := by
  simp [getChan, updLoop, updCtl]

/-- Loops that take their SAFE action change no channel themselves (R302, R304). -/
theorem getChan_loopsSafe (k n cause : Nat) (d : Dev) : getChan k n (loopsSafe k cause d) = getChan k n d := by
  have hover (l : Nat) (e : Dev) : getChan k n (overrule k l e) = getChan k n e := by
    refine (eachD_keeps (getChan k n) _ _ (fun w e => ?_) _).trans (getChan_updLoop ..)
    split
    · exact getChan_ofSpokes (answerLoop_spokes ..)
    · rfl
  refine eachD_keeps (getChan k n) _ _ (fun l e => ite_keeps ?_ rfl) d
  exact (hover ..).trans ((getChan_updLoop ..).trans (getChan_ofSpokes (by rw [raise_spokes, setF_spokes, setMode, setF_spokes])))

/-- Pairs that settle change no channel. -/
theorem getChan_settlePairs (k n : Nat) (d : Dev) : getChan k n (settlePairs k d) = getChan k n d := by
  have hpair (p : Nat) (f : Pair → Pair) (e : Dev) : getChan k n (updPair k p f e) = getChan k n e := by simp [getChan, updPair]
  exact eachD_keeps (getChan k n) _ _ (fun p e => ite_keeps rfl (ite_keeps rfl (hpair ..))) d

/-- A spoke that declares its link lost opens every low side and every freewheel switch. -/
theorem spokeLinkOff_quiet (k : Nat) (d : Dev) {m : Nat} (hm : m < 64) : Quiet (getChan k m (spokeLinkOff k d)) := by
  unfold spokeLinkOff
  rw [getChan_settlePairs, getChan_loopsSafe]
  exact endLoopChannels_quiet (stopSpoke_quiet _ _ _ hm)

/-- With the switches of a spoke held open both switches of each cassette are open. -/
theorem cassetteSwitches_heldOpen {k : Nat} {d : Dev} (h : heldOpen k d = true) (c : Nat) : boostSwitch k c d = false ∧ batterySwitch k c d = false := by
  have hheld : casHeld k c d = true := by simp [casHeld, h]
  simp [boostSwitch, batterySwitch, hheld]

/-! ### The obligation -/

/-- Settles O18: the phases of a rise, dwell and hold, what each leaves of the switches, and a spoke without its link. -/
theorem phasesOfAnOpening : Obligations.PhasesOfAnOpening := by
  refine ⟨fun s k n hk hn => ⟨fun o hph hop hslow => ?peakI, fun o hph hop hslow hpt hq => ?boostTmax, fun o hph hop hrep hpt => ?peakT,
      fun above hd hh => ?elsewhere, fun hph => ?upper, fun hph hopen hnever => ?lower, fun r hr hpt hend => ?slipStarts, fun r hr hpt hend => ?slipLeaves⟩,
    fun s k n hk hn => ⟨fun hph hrun => ?recovered, fun hph => ?chopPeriod⟩,
    fun s k n hk hn => ⟨fun hboost => ?exclusive, fun hph hodd hen => ?freewheels, fun hph hodd hopen hnever hheld hserve hen => ?battery,
      fun hen => ?disabled, fun hoff hruns hloop hdead => ?linkLost⟩⟩
  case peakI =>
    refine completes_onUnit hk hn (exec_peakIReached k n s) ?_
    dsimp only
    rw [peakReached_slow hph hop hslow, getChan_updChan]
    exact ⟨rfl, rfl, hop, rfl⟩
  case boostTmax => exact completes_onUnit hk hn (exec_boostTmaxExpiry k n s) (boostTmaxEnd_dwells hph hop hslow hpt hq)
  case peakT =>
    refine completes_onUnit hk hn (exec_peakTExpiry k n s) ?_
    dsimp only
    rw [peakTEnd_holds hph hop hrep hpt, getChan_updChan]
    exact ⟨rfl, rfl, hop⟩
  case elsewhere => rw [exec_chopThreshold, execChopThreshold, onUnit_present _ _ _ _ _ hk hn, chopThreshold_elsewhere above hd hh]
  case upper =>
    obtain ⟨hregs, hlow, -⟩ := chopThreshold_upper hph
    exact completes_onUnit hk hn (exec_chopThreshold k n true s) ⟨hlow, hregs⟩
  case lower =>
    refine completes_onUnit hk hn (exec_chopThreshold k n false s) ?_
    dsimp only
    rw [chopThreshold_lower hph hopen hnever, getChan_updChan]
    exact ⟨rfl, rfl, rfl⟩
  case slipStarts =>
    refine completes_onUnit hk hn (exec_slipLimitExpiry k n s) ?_
    have hdo : slipExpired k n s.dev = startPeak k n true r.key r.sched r.late (leaveQueue k n s.dev) := by
      simp [slipExpired, hr, Nat.not_lt.mpr hpt, hend]
    obtain ⟨hph, hop, hcas⟩ := startPeak_slow k n r.key r.sched r.late (leaveQueue k n s.dev)
    dsimp only
    rw [hdo, hcas]
    exact ⟨hph, hop, leaveQueue_without k n s.dev⟩
  case slipLeaves =>
    refine completes_onUnit hk hn (exec_slipLimitExpiry k n s) ?_
    have hdo : slipExpired k n s.dev = leaveQueue k n s.dev := by simp [slipExpired, hr, Nat.not_lt.mpr hpt, hend]
    dsimp only
    rw [hdo]
    exact ⟨rfl, congrArg Chan.phase (getChan_updCas ..), leaveQueue_without k n s.dev⟩
  case recovered => exact completes_onUnit hk hn (exec_recovered k n s) (Prod.mk.inj (recovered_idle hph hrun))
  case chopPeriod => exact completes_onUnit hk hn (exec_chopPeriod k n s) (chopPeriod_regulates hph)
  case exclusive =>
    obtain ⟨-, hserve⟩ := Bool.and_eq_true_iff.mp hboost
    simp [batterySwitch, Option.isNone_eq_false_iff.mpr hserve]
  case freewheels =>
    obtain ⟨hregs, hlow, hsame⟩ := chopThreshold_upper hph
    exact completes_onUnit hk hn (exec_chopThreshold k n true s) (freewheels (hsame ▸ hph) hlow ((isSet_ofRegs _ hregs).trans hodd)
      ((isSet_ofRegs _ hregs).trans hen))
  case battery =>
    refine completes_onUnit hk hn (exec_chopThreshold k n false s) ?_
    dsimp only
    rw [chopThreshold_lower hph hopen hnever]
    refine drawsFromBattery (by rw [getChan_updChan]; exact hph) (by rw [getChan_updChan]) hodd ?_ (by rw [getCas_updChan]; exact hserve) hen
    rw [casHeld, getCas_updChan]
    exact hheld
  case disabled => simp [lowSide, freewheel, hen]
  case linkLost =>
    refine completes_onSpoke hk (exec_spokeDeclaresLinkLost k s) ?_
    dsimp only
    rw [if_neg (by simp [hoff, hruns, hloop, hdead])]
    exact ⟨fun m hm => (spokeLinkOff_quiet k s.dev (leadOf_lt _ hm)).switches,
      cassetteSwitches_heldOpen (by rw [heldOpen, spokeLinkOff_spokeOff]; rfl)⟩

end Sys2Proof.Proofs
end

section
/-! The boost rail and the supplies of a spoke (R228 to R230, R236, R514, R515): clamp events, a boost failure, and a spoke out of supply. -/
namespace Sys2Proof.Proofs
open Sys2Proof Sys2Proof.Machine Sys2Proof.Laws

/-- A report notes nothing in the window of a spoke. -/
theorem spokeReg_noReport {a : Nat} (h : 0x14000 ≤ a) : a ∉ reportRegs := fun hr => by
  have : a < 0x14000 := (by decide : ∀ n ∈ reportRegs, n < 0x14000) _ hr
  omega

/-! ### The boost rail (R228 to R230, R236) -/

theorem getSpoke_updBoost (k : Nat) (f : Boost → Boost) (d : Dev) : (getSpoke k (updBoost k f d)).boost = f (getSpoke k d).boost := by
  rw [updBoost, getSpoke_updSpoke]

theorem getF_updBoost (g : Fld) (k : Nat) (f : Boost → Boost) (d : Dev) : getF g (updBoost k f d) = getF g d := rfl

/-- The converter starts and stops; the rail and the clamp stay. -/
theorem settleConverter_boost (k : Nat) (d : Dev) : ∃ go, (getSpoke k (settleConverter k d)).boost = { (getSpoke k d).boost with charging := go } :=
  ⟨_, getSpoke_updBoost ..⟩

theorem settleConverter_regs (k : Nat) (d : Dev) : (settleConverter k d).regs = d.regs := rfl

/-- A clamp event is noted before the converter follows it. -/
def clampNoted (k : Nat) (begins : Bool) (d : Dev) : Dev :=
  whenD begins (fun d => d |> countF (F.DRV_BOOST_STATUS.CLAMPS k) |> raise (F.DRV_BOOST_STATUS.CLAMPED k)) d

theorem clampNoted_spokes (k : Nat) (begins : Bool) (d : Dev) : (clampNoted k begins d).spokes = d.spokes :=
  whenD_keeps Dev.spokes _ _ (fun _ => by rw [raise_spokes, countF_spokes]) d

theorem clampEvent_powered {k rail : Nat} {d : Dev} (h : sboostOn k d = true) :
    let was := (getSpoke k d).boost.clamping
    let begins := !was && decide (320 < rail)
    clampEvent k rail d = settleConverter k (clampNoted k begins
      (updBoost k (fun b => { b with rail := rail, clamping := (was || begins) && decide (312 ≤ rail) }) d)) := by
  simp only [clampEvent, h]
  rfl

theorem clampEvent_unpowered {k rail : Nat} {d : Dev} (h : sboostOn k d = false) : clampEvent k rail d = d := by simp [clampEvent, h]

/-- The rail is what the event says, and the clamp is on from above 80 V until below 78 V. -/
theorem clampEvent_boost {k rail : Nat} {d : Dev} (h : sboostOn k d = true) : let b := (getSpoke k (clampEvent k rail d)).boost
    let was := (getSpoke k d).boost.clamping
    b.rail = rail ∧ b.clamping = ((was || (!was && decide (320 < rail))) && decide (312 ≤ rail)) := by
  dsimp only
  rw [clampEvent_powered h]
  generalize hu : clampNoted k _ _ = u
  obtain ⟨go, hgo⟩ := settleConverter_boost k u
  rw [hgo, ← hu, getSpoke, clampNoted_spokes, ← getSpoke, getSpoke_updBoost]
  exact ⟨rfl, rfl⟩

/-- Above 80 V a clamp event begins and is noted. -/
theorem clampEvent_begins {k rail : Nat} {d : Dev} (h : sboostOn k d = true) (hrail : 320 < rail) (hwas : (getSpoke k d).boost.clamping = false) :
    getF (F.DRV_BOOST_STATUS.CLAMPED k) (clampEvent k rail d) = 1 := by
  rw [clampEvent_powered h, hwas, decide_eq_true hrail, getF_of_regs _ (settleConverter_regs ..), Bool.not_false, Bool.true_and, clampNoted, whenD_true]
  exact getF_raise_same _ _ (by simp [F.DRV_BOOST_STATUS.CLAMPED]) rfl

/-- A boost failure: it is noted, and the converter stops, for good where the failure is lasting (R236). -/
def boostFails (k : Nat) (d : Dev) : Dev :=
  let (d, lasting) := healthEvent 5 (k - 1) false (raise (F.DRV_BOOST_STATUS.BOOST_FAIL k) d)
  d |> updBoost k (fun b => { b with charging := false }) |> whenD lasting (raise (F.DRV_BOOST_STATUS.LASTING k))

theorem exec_boostFailure_fails (k : Nat) (s : State) : exec (.boostFailure k) s = onSpoke k (boostFails k) s := rfl

theorem boostFails_stops (k : Nat) (d : Dev) : (getSpoke k (boostFails k d)).boost.charging = false := by
  unfold boostFails
  dsimp only
  rw [getSpoke, whenD_keeps Dev.spokes _ _ fun _ => raise_spokes _ _, ← getSpoke, getSpoke_updBoost]

theorem boostFails_noted (k : Nat) (d : Dev) : getF (F.DRV_BOOST_STATUS.BOOST_FAIL k) (boostFails k d) = 1 := by
  have hother (e : Dev) : getF (F.DRV_BOOST_STATUS.BOOST_FAIL k) (raise (F.DRV_BOOST_STATUS.LASTING k) e) = getF (F.DRV_BOOST_STATUS.BOOST_FAIL k) e := by
    refine getF_raise_otherField e ?_ (.inr ⟨rfl, ?_⟩) <;> simp [F.DRV_BOOST_STATUS.LASTING, F.DRV_BOOST_STATUS.BOOST_FAIL]
  have hreport : ReportBlind (getF (F.DRV_BOOST_STATUS.BOOST_FAIL k)) := reportBlind_field (spokeReg_noReport spokeReg)
  unfold boostFails
  dsimp only
  rw [whenD_keeps (getF (F.DRV_BOOST_STATUS.BOOST_FAIL k)) _ _ hother, getF_updBoost, hreport.healthEvent]
  exact getF_raise_same _ _ (by simp [F.DRV_BOOST_STATUS.BOOST_FAIL]) rfl

/-! ### Every switch of a spoke opens (R514, R515) -/

namespace StartBlind
variable {k : Nat} {β : Type} {p : Dev → β} (hp : StartBlind k p) (hchan : ∀ n f d, p (updChan k n f d) = p d)
include hp hchan

theorem beginOffWith (n : Nat) (fault force : Bool) (outlet : Nat) (d : Dev) : p (beginOffWith k n fault force outlet d) = p d := by
  have hslow : spk k + 0x500 ≤ (F.DRV_CH_STATUS.SLOW_OFF k n).reg.off := driveReg (by decide)
  cases hopen : (getChan k n d).opening with
  | none =>
    cases hcond : conducts (getChan k n d) with
    | true =>
      rw [beginOffWith_conducting _ _ _ hopen hcond]
      exact (whenD_keeps p _ _ (fun _ => hp.raise hslow _) _).trans (hchan ..)
    | false =>
      rw [beginOffWith_idle _ _ _ hopen hcond]
      exact (hp.cas ..).trans (hchan ..)
  | some o =>
    rw [beginOffWith_opening _ _ _ hopen, hp.releaseSwitch, whenD_keeps p _ _ fun _ => hp.raise hslow _, hchan,
      hp.endReported _ _ _ _ _ fun _ => hchan ..]

theorem openSwitches (fault : Bool) (d : Dev) : p (openSwitches k fault d) = p d := by
  unfold Machine.openSwitches
  dsimp only
  rw [eachD_keeps p _ _ fun n e => hp.beginOffWith hchan .., clearQueues, eachD_keeps p _ _ fun c e => hp.cas .., eachD_keeps p _ _ hp.prevented]

theorem resumeChan (n : Nat) (d : Dev) : p (resumeChan k n d) = p d := by
  unfold Machine.resumeChan
  dsimp only
  split
  · exact hchan ..
  · refine ite_keeps (hchan ..) (ite_keeps (ite_keeps (hchan ..) ?_) (hchan ..))
    exact (hp.riseDue ..).trans ((hchan ..).trans (hchan ..))

end StartBlind

/-- A field of SPK_SUPPLY does not depend on what the drive does. -/
theorem startBlind_supply {k : Nat} {g : Fld} (hg : g.reg = R.SPK_SUPPLY k) : StartBlind k (getF g) :=
  startBlind_field (by rw [hg]; exact spokeReg) (by rw [hg]; exact Nat.add_lt_add_left (by decide) _)

theorem openSwitches_supply {k : Nat} {g : Fld} (hg : g.reg = R.SPK_SUPPLY k) (fault : Bool) (d : Dev) : getF g (openSwitches k fault d) = getF g d :=
  (startBlind_supply hg).openSwitches (fun _ _ _ => rfl) fault d

/-! ### Out of supply, and back (R514, R515) -/

/-- The mark of a spoke whose VBAT is above OV, or below UV (R515). -/
def supplyMark (k : Nat) (high : Bool) : Fld := if high then F.SPK_SUPPLY.OV k else F.SPK_SUPPLY.UV k

theorem supplyMark_place (k : Nat) (high : Bool) : (supplyMark k high).reg = R.SPK_SUPPLY k ∧ (supplyMark k high).len = 1 ∧
    (supplyMark k high).lo + (supplyMark k high).len ≤ 16 := by
  cases high
  · exact ⟨rfl, rfl, Nat.le_of_ble_eq_true rfl⟩
  · exact ⟨rfl, rfl, Nat.le_of_ble_eq_true rfl⟩

theorem outOfSupply_of_mark {k : Nat} {high : Bool} {d : Dev} (h : getF (supplyMark k high) d = 1) : outOfSupply k d = true := by
  cases high <;> simp_all [outOfSupply, isSet, supplyMark]

/-- A spoke that falls out of supply sets its mark, counts once, and has every switch held open and its converter stopped. -/
theorem outOfSupplyNow_opens {k : Nat} (high : Bool) {d : Dev} (hin : outOfSupply k d = false) : let t := outOfSupplyNow k high d
    getF (supplyMark k high) t = 1 ∧ heldOpen k t = true ∧ (getSpoke k t).boost.charging = false ∧
      getF (F.SPK_SUPPLY.OUTS k) t = min 65535 (getF (F.SPK_SUPPLY.OUTS k) d + 1) := by
  obtain ⟨hreg, hlen, hlo⟩ := supplyMark_place k high
  have hdo : outOfSupplyNow k high d = updBoost k (fun b => { b with charging := false })
      (openSwitches k true (countF (F.SPK_SUPPLY.OUTS k) (raise (supplyMark k high) d))) := by
    simp only [outOfSupplyNow, hin]
    rfl
  have hkeep {g : Fld} (hg : g.reg = R.SPK_SUPPLY k) : getF g (outOfSupplyNow k high d) =
      getF g (countF (F.SPK_SUPPLY.OUTS k) (raise (supplyMark k high) d)) := by
    rw [hdo, getF_updBoost, openSwitches_supply hg]
  have hmark : getF (supplyMark k high) (outOfSupplyNow k high d) = 1 := by
    rw [hkeep hreg, countF, getF_setF_disjoint _ _ _ _ hreg (by simp [F.SPK_SUPPLY.OUTS]) (.inl hlo), getF_raise_same _ _ (by omega) hlen]
  refine ⟨hmark, ?_, ?_, ?_⟩
  · simp [heldOpen, outOfSupply_of_mark hmark]
  · rw [hdo, getSpoke_updBoost]
  · rw [hkeep rfl, getF_countF_same _ _ (by simp [F.SPK_SUPPLY.OUTS]), getF_raise_otherField _ (by omega) (.inr ⟨hreg.symm, .inr hlo⟩)]
    rfl

/-- A spoke that was below UV alone is in supply again. -/
theorem supplyRecovery_clears {k : Nat} {d : Dev} (huv : isSet (F.SPK_SUPPLY.UV k) d = true) (hov : isSet (F.SPK_SUPPLY.OV k) d = false) :
    let t := supplyRecovery k false d
    getF (F.SPK_SUPPLY.UV k) t = 0 ∧ outOfSupply k t = false := by
  have hclear : getF (F.SPK_SUPPLY.UV k) (lower (F.SPK_SUPPLY.UV k) d) = 0 := getF_lower_same _ _ (by simp [F.SPK_SUPPLY.UV])
  have hover : getF (F.SPK_SUPPLY.OV k) (lower (F.SPK_SUPPLY.UV k) d) = getF (F.SPK_SUPPLY.OV k) d := by
    refine getF_setF_disjoint _ _ _ _ rfl ?_ ?_ <;> simp [F.SPK_SUPPLY.UV, F.SPK_SUPPLY.OV]
  have hin : outOfSupply k (lower (F.SPK_SUPPLY.UV k) d) = false := by
    rw [outOfSupply, isSet, isSet, hclear, hover, ← isSet, hov]
    rfl
  have hwas : outOfSupply k d = true := by rw [outOfSupply, huv, Bool.true_or]
  have hkeep {g : Fld} (hg : g.reg = R.SPK_SUPPLY k) : getF g (supplyRecovery k false d) = getF g (lower (F.SPK_SUPPLY.UV k) d) := by
    have hp := startBlind_supply hg
    unfold supplyRecovery
    dsimp only
    rw [hwas, if_neg Bool.false_ne_true, hin, if_neg (by simp), getF_of_regs _ (settleConverter_regs ..)]
    exact eachD_keeps (getF g) _ _ (fun n e => ite_keeps rfl (hp.resumeChan (fun _ _ _ => rfl) n e)) _
  have huv' := (hkeep (g := F.SPK_SUPPLY.UV k) rfl).trans hclear
  refine ⟨huv', ?_⟩
  rw [outOfSupply, isSet, isSet, hkeep rfl, hkeep rfl, ← isSet, ← isSet, ← outOfSupply, hin]

/-! ### The obligation -/

/-- Settles O20: the rail through clamp events, and SPK_SUPPLY, which nothing of the drive writes, through a spoke that opens its switches. -/
theorem boostRailAndSupplies : Obligations.BoostRailAndSupplies := by
  refine ⟨fun s k hk => ⟨fun rail hon => ?rail, fun rail hoff => ?unpowered, fun rail hon hrail hwas => ?clamped, ?failure⟩,
    fun s k hk => ⟨fun hin => ?under, fun hin => ?above, fun huv hov => ?recovery, fun hgood => ?powerGood⟩⟩
  case rail => exact completes_onSpoke hk (exec_clampEvent k rail s) (clampEvent_boost hon).1
  case unpowered => rw [exec_clampEvent, execClampEvent, onSpoke_present _ _ _ hk, clampEvent_unpowered hoff]
  case clamped =>
    refine completes_onSpoke hk (exec_clampEvent k rail s) ⟨?_, clampEvent_begins hon hrail hwas⟩
    rw [(clampEvent_boost hon).2, hwas]
    simp only [Bool.false_or, Bool.not_false, Bool.true_and, Bool.and_eq_true, decide_eq_true_eq]
    omega
  case failure => exact completes_onSpoke hk (exec_boostFailure_fails k s) ⟨boostFails_stops .., boostFails_noted ..⟩
  case under => exact completes_onSpoke hk (exec_outOfSupply k false s) (outOfSupplyNow_opens false hin)
  case above =>
    obtain ⟨hmark, hopen, -⟩ := outOfSupplyNow_opens true hin
    exact completes_onSpoke hk (exec_outOfSupply k true s) ⟨hmark, hopen⟩
  case recovery => exact completes_onSpoke hk (exec_supplyRecovery k false s) (supplyRecovery_clears huv hov)
  case powerGood =>
    refine completes_onSpoke hk (exec_powerGoodLoss k s) ?_
    dsimp only
    rw [hgood, if_neg Bool.false_ne_true]
    have hlow (d : Dev) : (settlePairs k (updPwr (fun p => { p with lowSpokes := k :: p.lowSpokes }) d)).pwr.lowSpokes.contains k = true := by
      rw [hubBlind_pwr.spoke.settlePairs, updPwr_pwr, List.contains_cons, beq_self_eq_true, Bool.true_or]
    exact ⟨hlow _, by rw [heldOpen, hlow, Bool.or_true, Bool.true_or]⟩

end Sys2Proof.Proofs
end

section
/-! Faults of a channel (R236): a state whose boost queue holds a rise of a channel that no spoke has. Where a fault frees the switch, that rise starts,
and its cassette's count of boost rises lies in the status word of the channel with the fault. -/
namespace Sys2Proof.Proofs
open Sys2Proof Sys2Proof.Machine Sys2Proof.Laws

/-- A rise of channel 448. A spoke has the channels 0 to 63 (R13), so the cassette of this one is 56, of 8, and the offset of that cassette's
DRV_CAS_PEAKS, 0x644 + 8 · 56, is the offset 0x804 of DRV_CH_STATUS of channel 0 (R537). -/
def strayRise : Rise := { key := 0, chan := 448, sched := 0, late := false }

/-- Spoke 1 with its boost converter enabled and its rail at 50 V. Channel 0 holds, its cassette serves it, and the stray rise waits behind it; the
bits of its status word below OPEN are set. -/
def strayState : State :=
  { State.reset with
    dev := Dev.reset |> setF (F.DRV_BOOST_CFG.EN 1) 1 |> updBoost 1 (fun b => { b with rail := 200 }) |> rput (R.DRV_CH_STATUS 1 0) 0x1F
      |> updChan 1 0 (fun c => { c with phase := .hold, opening := some { sched := 0, peak := 0, reported := true } })
      |> updCas 1 0 (fun c => { c with serving := some (0, 0), queue := [strayRise] }) }

/-- The open load sets OPEN, and the rise that starts counts in BOOST_RISES, the low half of the same word: 0x3F + 1 = 0x40. -/
theorem openLoadOn_stray : getF (F.DRV_CH_STATUS.OPEN 1 0) (conductingFault 1 0 0 (F.DRV_CH_STATUS.OPEN 1 0) strayState.dev) = 0 := by
  decide +kernel

/-- Refutes O21: OPEN_LOAD_ON at a conducting channel leaves OPEN at 0 where the fault frees the boost switch for a queued rise of a channel beyond the
64 of its spoke. The statement says of every state what holds of those whose queues name channels of the spoke. -/
theorem not_channelFaultsAndTheirEnd : ¬ Obligations.ChannelFaultsAndTheirEnd := by
  intro h
  obtain ⟨hfaults, -⟩ := h
  obtain ⟨hconducting, -⟩ := hfaults strayState 1 0 (by decide +kernel) (by decide)
  obtain ⟨⟨t, ht, -, hopen, -⟩, -⟩ := hconducting (by decide +kernel)
  rw [exec_openLoadOn, execOpenLoadOn, onUnit_present _ _ _ _ _ (by decide +kernel) (by decide)] at ht
  cases ht
  exact absurd (openLoadOn_stray.symm.trans hopen) (by decide)

end Sys2Proof.Proofs
end

section
/-! The armature detector (R250 to R254, R258): where an end of travel may lie, and what of a channel and its travel register a motion that was
found, or a closing window that ran out, changes. -/
namespace Sys2Proof.Proofs
open Sys2Proof Sys2Proof.Machine Sys2Proof.Laws

/-! ### The slopes of a rise (R250, R251) -/

/-- The sample that met the condition, if one has, lies in the span from a to b. -/
def FoundWithin (a b : Nat) (r : RiseScan) : Prop := ∀ x, r.found = some x → a ≤ x ∧ x ≤ b

theorem scanSlope_foundWithin {n ratio a b t : Nat} {xs : List Nat} {r : RiseScan} (j : Nat) (h : FoundWithin a b r) :
    FoundWithin a b (scanSlope n ratio a b t xs r j) := by
  unfold scanSlope
  dsimp only
  split
  · exact h
  · next hin =>
    simp only [Bool.or_eq_true, decide_eq_true_eq, not_or, Nat.not_lt] at hin
    obtain ⟨⟨⟨-, hfrom⟩, hto⟩, -⟩ := hin
    intro x hx
    dsimp only at hx
    split at hx
    · exact Option.some.inj hx ▸ ⟨hfrom, hto⟩
    · exact absurd hx (by simp)

/-- The end of travel of a rise lies between BLANK and PEAK_T. -/
theorem riseTravel_span {k n at_ : Nat} {o : Opening} {xs : List Nat} {d : Dev} (h : riseTravel k n o xs d = some at_) :
    o.peak + 2500 * getF (F.DRV_DET_CFG.BLANK k (tplOf k n d)) d ≤ at_ ∧ at_ ≤ o.peak + peakT k n d :=
  List.foldlRecOn (motive := FoundWithin _ _) _ _ (fun _ hx => absurd hx (by simp)) (fun _ hr j _ => scanSlope_foundWithin j hr) at_ h

/-! ### The travel register of a channel (R254) -/

/-- An event of a channel writes into DRV_CH_TIMING at most, so it leaves DRV_CH_TRAVEL alone. -/
theorem feedEvent_travel {k n : Nat} {g : Fld} (hg : g.reg = R.DRV_CH_TRAVEL k n) (ev : FeedEvent) (at_ delay : Nat) (o : Opening) (d : Dev) :
    getF g (feedEvent k n ev at_ delay o d) = getF g d := by
  have hus : getF g (toUs (o.peak - o.sched) d).2 = getF g d := (getF_of_regs g (toUs_keeps _ d .regs (by decide)).1).symm
  have hother : (R.DRV_CH_TRAVEL k n).off ≠ (R.DRV_CH_TIMING k n).off := by
    change spk k + 0x0C08 + 0x10 * n ≠ spk k + 0x0C00 + 0x10 * n
    omega
  have hset {f : Fld} (hf : f.reg = R.DRV_CH_TIMING k n) (v : Nat) (e : Dev) : getF g (setF f v e) = getF g e :=
    getF_setF_otherReg f g v e (by rw [hf, hg]; exact hother)
  unfold feedEvent
  refine ite_keeps rfl ((getF_of_regs g (linkSend_keeps _ _ _ _ .regs (by decide)).1).symm.trans ?_)
  split
  · exact (hset rfl _ _).trans hus
  · exact (hset rfl _ _).trans hus
  · exact hus

/-- The counts and flags of openings without travel, cleared where an end of travel is found (R254). -/
def travelCleared (k n : Nat) (d : Dev) : Dev :=
  d |> lower (F.DRV_CH_TRAVEL.MISS_ON k n) |> lower (F.DRV_CH_TRAVEL.NO_MOTION k n)
    |> lower (F.DRV_CH_TRAVEL.NO_TRAVEL k n) |> lower (F.DRV_CH_TRAVEL.STUCK k n)

theorem travelCleared_spokes (k n : Nat) (d : Dev) : (travelCleared k n d).spokes = d.spokes := by simp only [travelCleared, lower_spokes]

/-- They are cleared from the lowest bits of their register up, each without a change to those below. -/
theorem travelCleared_fields (k n : Nat) (d : Dev) : let t := travelCleared k n d
    getF (F.DRV_CH_TRAVEL.MISS_ON k n) t = 0 ∧ getF (F.DRV_CH_TRAVEL.NO_MOTION k n) t = 0 ∧ getF (F.DRV_CH_TRAVEL.NO_TRAVEL k n) t = 0 ∧
      getF (F.DRV_CH_TRAVEL.STUCK k n) t = 0 := by
  simp only [travelCleared, F.DRV_CH_TRAVEL.MISS_ON, F.DRV_CH_TRAVEL.NO_MOTION, F.DRV_CH_TRAVEL.NO_TRAVEL, F.DRV_CH_TRAVEL.STUCK]
  simp [lower, getF_setF_disjoint, getF_setF_same]

/-! ### An end of travel (R250, R251, R254) -/

/-- The opening was detected and reported. -/
def travelled (o : Opening) : Opening := { o with travel := true, reported := true }

theorem travelFound_eq (k n at_ : Nat) (o : Opening) (d : Dev) : travelFound k n at_ o d =
    feedEvent k n .opened at_ (min (toUs (at_ - o.peak) d).1 0xFFFF) o
      (travelCleared k n (updChan k n (fun c => { c with opening := some (travelled o) }) (toUs (at_ - o.peak) d).2)) := rfl

theorem travelFound_opening (k n at_ : Nat) (o : Opening) (d : Dev) :
    (getChan k n (travelFound k n at_ o d)).opening = some (travelled o) := by
  rw [travelFound_eq, (eventBlind_getChan k n).feedEvent, getChan_ofSpokes (travelCleared_spokes ..), getChan_updChan]

theorem travelFound_clears (k n at_ : Nat) (o : Opening) (d : Dev) : let t := travelFound k n at_ o d
    getF (F.DRV_CH_TRAVEL.MISS_ON k n) t = 0 ∧ getF (F.DRV_CH_TRAVEL.NO_MOTION k n) t = 0 ∧ getF (F.DRV_CH_TRAVEL.NO_TRAVEL k n) t = 0 ∧
      getF (F.DRV_CH_TRAVEL.STUCK k n) t = 0 := by
  dsimp only
  rw [travelFound_eq, feedEvent_travel rfl, feedEvent_travel rfl, feedEvent_travel rfl, feedEvent_travel rfl]
  exact travelCleared_fields k n _

/-- The detector finds the end of travel in the slopes of the rise, or where a dwell interval showed it. -/
theorem endOfTravel_found {k n at_ : Nat} {o : Opening} {xs : List Nat} {d : Dev} (hopen : (getChan k n d).opening = some o)
    (hnew : o.reported = false) (hdet : detOn k n d = true)
    (hat : (getChan k n d).phase = .rise ∧ riseTravel k n o xs d = some at_ ∨
      (getChan k n d).phase = .dwell ∧ (getChan k n d).slopes.found = some at_) :
    endOfTravel k n xs d = travelFound k n at_ o d := by
  obtain ⟨hph, hat⟩ | ⟨hph, hat⟩ := hat
  · simp [endOfTravel, hopen, hnew, hdet, hph, hat]
  · simp [endOfTravel, hopen, hnew, hdet, hph, hat]

/-! ### The end of a closing (R252 to R254) -/

/-- A channel whose closing is over, with what it showed of a kink. -/
def closingOver (noKink : Bool) (c : Chan) : Chan := { c with closing := none, noKink := noKink }

/-- A kink within OFF_WIN: the closing is over, and no flag of a stuck valve stays. -/
theorem decayKink_found {k n from_ at_ : Nat} {cl : Closing} {xs : List Nat} {d : Dev} (hclose : (getChan k n d).closing = some cl)
    (hoff : cl.offEvent = true) (hdet : detOn k n d = true) (hfrom : watchedFrom cl = some from_) (hat : kinkOf k n from_ xs d = some at_)
    (hwin : at_ < cl.start + offWin k n d) : ∃ delay e, decayKink k n xs d = feedEvent k n .closed at_ delay (nullOpening at_)
      (lower (F.DRV_CH_TRAVEL.STUCK k n) e) ∧ getChan k n e = closingOver false (getChan k n d) := by
  have hus : (toUs (at_ - cl.start) d).2.spokes = d.spokes := (eventBlind_spokes k).toUs _ _
  refine ⟨min (toUs (at_ - cl.start) d).1 0xFFFF, lower (F.DRV_CH_TRAVEL.NO_MOTION k n)
    (updChan k n (closingOver false) (toUs (at_ - cl.start) d).2), ?_, ?_⟩
  · simp only [decayKink, hclose, hfrom, hat]
    rw [if_neg (by simp [hoff, hdet, hwin])]
    rfl
  · exact (getChan_updChan ..).trans (congrArg _ (getChan_ofSpokes hus))

/-- A window that ran out: only with the detector on is the closing one without a kink. -/
theorem offWinEnd_over {k n : Nat} {cl : Closing} {d : Dev} (hclose : (getChan k n d).closing = some cl) (hoff : cl.offEvent = true)
    (hwin : cl.start + offWin k n d ≤ spokePt k d) :
    getChan k n (offWinEnd k n d) = closingOver (detOn k n d || (getChan k n d).noKink) (getChan k n d) := by
  have hdo : offWinEnd k n d = feedEvent k n .closed cl.start 0xFFFF (nullOpening cl.start)
      (updChan k n (fun c => closingOver (detOn k n d || c.noKink) c) d) := by
    simp [offWinEnd, hclose, hoff, Nat.not_lt.mpr hwin, closingOver]
  rw [hdo, (eventBlind_getChan k n).feedEvent, getChan_updChan]

/-! ### The obligation -/

/-- Settles O19: the span of the slopes, and each command of the detector by what it makes of its channel and of DRV_CH_TRAVEL. -/
theorem armatureDetection : Obligations.ArmatureDetection := by
  refine fun s k n hk hn => ⟨fun o xs a hat => ?span, fun o xs a hopen hnew hdet hat => ?travel,
    fun cl from_ xs a hclose hoff hdet hfrom hat hwin => ?kink, fun cl hclose hoff hwin => ?window⟩
  case span => exact riseTravel_span hat
  case travel =>
    refine completes_onUnit hk hn (exec_endOfTravel k n xs s) ?_
    dsimp only
    rw [endOfTravel_found hopen hnew hdet hat]
    exact ⟨travelFound_opening .., travelFound_clears ..⟩
  case kink =>
    refine completes_onUnit hk hn (exec_decayKink k n xs s) ?_
    obtain ⟨delay, e, hdo, hchan⟩ := decayKink_found hclose hoff hdet hfrom hat hwin
    dsimp only
    rw [hdo, (eventBlind_getChan k n).feedEvent, feedEvent_travel rfl, getChan_ofSpokes (lower_spokes ..), hchan]
    exact ⟨rfl, rfl, getF_lower_same _ _ (by simp [F.DRV_CH_TRAVEL.STUCK])⟩
  case window =>
    refine completes_onUnit hk hn (exec_offWinExpiry k n s) ?_
    dsimp only
    rw [offWinEnd_over hclose hoff hwin]
    exact ⟨rfl, rfl⟩

end Sys2Proof.Proofs
end

section
/-! The inputs of a control engine (R266, R273 to R275): what a conversion, a pulse edge, an encoder edge and an SPI frame leave. -/
namespace Sys2Proof.Proofs
open Sys2Proof Sys2Proof.Machine Sys2Proof.Laws

/-! ### Conversions (R266) -/

theorem adcQueue_setAdc (k a : Nat) (q : List Conv) (d : Dev) : adcQueue k a (setAdc k a q d) = q := by
  by_cases h : a = 0 <;> simp [adcQueue, setAdc, h]

theorem getF_setAdc (f : Fld) (k a : Nat) (q : List Conv) (d : Dev) : getF f (setAdc k a q d) = getF f d := rfl

section
variable {k a : Nat} (code : Nat) {d : Dev}

theorem convDone_periodic (hq : adcQueue k (adcOf a) d = []) (hen : bitOf (F.ADC_EN.AIN k) a d = true) :
    convDone k a code d = setF (F.ADC_AIN_VAL.CODE k a) code d := by simp [convDone, hq, hen]

/-- A conversion that no loop asked for, and behind which none waits, leaves its ADC free. -/
theorem convDone_unowned {st : Nat} (hq : adcQueue k (adcOf a) d = [{ ain := a, owner := none, start := some st }])
    (ht : st + 125 ≤ spokePt k d) : convDone k a code d = setAdc k (adcOf a) [] (setF (F.ADC_AIN_VAL.CODE k a) code d) := by
  simp [convDone, hq, Nat.not_lt.mpr ht, startHead]

end

/-! ### Pulse inputs (R273) -/

theorem pulseEdge_noted {k p width : Nat} {d : Dev} (hen : bitOf (F.ADC_EN.PULSE k) p d = true)
    (hpass : passesFilter (getF (F.ADC_PULSE_CFG.FILTER k p) d) width = true) : let t := pulseEdge k p width d
    t.regs = d.regs ∧ (kget (getCtl k t).pulses p {}).edges.head? = some (spokePt k d) := by
  rw [pulseEdge, if_neg (by simp [hen, hpass])]
  exact ⟨rfl, by simp⟩

/-! ### Encoders in quadrature mode (R274) -/

theorem getEnc_updEnc (k e : Nat) (f : Enc → Enc) (d : Dev) : getEnc k e (updEnc k e f d) = f (getEnc k e d) := by
  simp [getEnc, updEnc]

theorem getEnc_ofSpokes {k e : Nat} {c d : Dev} (h : c.spokes = d.spokes) : getEnc k e c = getEnc k e d := by
  rw [getEnc, getCtl, getSpoke, h, getEnc, getCtl, getSpoke]

/-- The lines of the encoder have been noted as `lines`. -/
def LinesNoted (k e lines : Nat) (d : Dev) : Prop := (getEnc k e d).lines = lines ∧ (getEnc k e d).seen = true

section
variable {k e lines : Nat} {d : Dev}

theorem LinesNoted.encCount (h : LinesNoted k e lines d) (n : Int) (back : Bool) : LinesNoted k e lines (encCount k e n back d) := by
  unfold LinesNoted Machine.encCount
  dsimp only
  rwa [getEnc_updEnc, getEnc_ofSpokes (rput_spokes ..)]

theorem linesNoted_encError : LinesNoted k e lines (encError k e lines d) := by
  unfold LinesNoted encError
  dsimp only
  rw [getEnc_ofSpokes ((countF_spokes ..).trans (raise_spokes ..)), getEnc_updEnc]
  exact ⟨rfl, rfl⟩

theorem encEdge_quadrature {width : Nat} (he : e < 3) (hen : bitOf (F.ADC_EN.ENC k) e d = true) (hmode : isHall k e d = false)
    (hpass : passesFilter (getF (F.ADC_ENC_CFG.FILTER k e) d) width = true) : LinesNoted k e (lines % 8) (encEdge k e lines width d) := by
  have hnew : LinesNoted k e (lines % 8) (updEnc k e (fun x => { x with lines := lines % 8, seen := true }) d) := by
    rw [LinesNoted, getEnc_updEnc]
    exact ⟨rfl, rfl⟩
  rw [encEdge, if_neg (by simp [hpass]; omega), if_neg (by simp [hen]), if_neg (by simp [hmode])]
  dsimp only
  split
  · exact hnew
  · split
    · exact hnew.encCount ..
    · split
      · exact hnew.encCount ..
      · exact linesNoted_encError

end

/-! ### SPI ports (R275) -/

theorem getSpi_updSpi (k p : Nat) (f : Spi → Spi) (d : Dev) : getSpi k p (updSpi k p f d) = f (getSpi k p d) := by
  simp [getSpi, updSpi]

theorem getSpi_ofSpokes {k p : Nat} {c d : Dev} (h : c.spokes = d.spokes) : getSpi k p c = getSpi k p d := by
  rw [getSpi, getCtl, getSpoke, h, getSpi, getCtl, getSpoke]

section
variable {k p : Nat} {d : Dev}

theorem spiPoll_first (hen : bitOf (F.ADC_EN.SPI k) p d = true) (hl : (getSpi k p d).lastPoll = none) : spiPoll k p d =
    emit (.spiFrame k p (spiTx k p d)) (updSpi k p (fun x => { x with lastPoll := some (spokePt k d), busy := true }) d) := by
  simp [spiPoll, hen, hl]

variable {bytes : List Byte} (hbusy : (getSpi k p d).busy = true) (hlen : bytes.length = getF (F.ADC_SPI_CFG.LEN k p) d)
include hbusy hlen

theorem spiDone_unchecked (hcrc : isSet (F.ADC_SPI_CFG.CRC_EN k p) d = false) : let t := spiDone k p bytes d
    (getSpi k p t).busy = false ∧ (getSpi k p t).validAt = some (spokePt k d) ∧ t.regs = d.regs := by
  have hok : isSet (F.ADC_SPI_CFG.CRC_EN k p) (updSpi k p (fun x => { x with busy := false }) d) = false := hcrc
  unfold spiDone
  dsimp only
  rw [if_neg (by simp [hbusy, hlen]), if_neg (by simp [hok]), getSpi_updSpi, getSpi_updSpi]
  exact ⟨rfl, rfl, rfl⟩

theorem spiDone_badCheck (hcrc : isSet (F.ADC_SPI_CFG.CRC_EN k p) d = true)
    (hbad : crc8 (bytes.take (bytes.length - 1)) ≠ leAt bytes (bytes.length - 1) 1) : let t := spiDone k p bytes d
    (getSpi k p t).busy = false ∧ getF (F.ADC_SPI_STATUS.CRC_ERR k p) t = 1 ∧ (getSpi k p t).validAt = (getSpi k p d).validAt := by
  have hon : isSet (F.ADC_SPI_CFG.CRC_EN k p) (updSpi k p (fun x => { x with busy := false }) d) = true := hcrc
  have hdo : spiDone k p bytes d = countF (F.ADC_SPI_STATUS.ERRORS k p) (raise (F.ADC_SPI_STATUS.CRC_ERR k p)
      (updSpi k p (fun x => { x with busy := false }) d)) := by
    rw [hlen] at hbad
    simp [spiDone, hbusy, hlen, hon, hbad]
  dsimp only
  rw [hdo, getSpi_ofSpokes ((countF_spokes ..).trans (raise_spokes ..)), getSpi_updSpi]
  refine ⟨rfl, ?_, rfl⟩
  have hcount (e : Dev) : getF (F.ADC_SPI_STATUS.CRC_ERR k p) (countF (F.ADC_SPI_STATUS.ERRORS k p) e) = getF (F.ADC_SPI_STATUS.CRC_ERR k p) e :=
    getF_setF_disjoint _ _ _ _ rfl (by simp [F.ADC_SPI_STATUS.ERRORS]) (.inl (by simp [F.ADC_SPI_STATUS.CRC_ERR, F.ADC_SPI_STATUS.ERRORS]))
  rw [hcount, getF_raise_same _ _ (by simp [F.ADC_SPI_STATUS.CRC_ERR]) rfl]

end

/-! ### The obligation -/

/-- Settles O23: each command of an input by what it notes. -/
theorem spokeInputCommands : Obligations.SpokeInputCommands := by
  refine fun s k hk => ⟨fun a code ha hq hen => ?periodic, fun a code st ha hq ht => ?conversion, fun p w hp hen hpass => ?pulse,
    fun e lines w he hen hmode hpass => ?encoder, fun p hp hen hl => ?poll, fun p bytes hp hbusy hlen hcrc => ?unchecked,
    fun p bytes hp hbusy hlen hcrc hbad => ?badCheck⟩
  case periodic =>
    rw [exec_conversionDone, execConversionDone, onUnit_present _ _ _ _ _ hk ha, convDone_periodic _ hq hen]
  case conversion =>
    refine completes_onUnit hk ha (exec_conversionDone k a code s) ?_
    dsimp only
    rw [convDone_unowned _ hq ht, getF_setAdc, adcQueue_setAdc, getF_setF_same _ _ _ (by simp [F.ADC_AIN_VAL.CODE])]
    exact ⟨Nat.mod_eq_of_lt (Nat.lt_succ_of_le (Nat.min_le_right ..)), rfl⟩
  case pulse => exact completes_onUnit hk hp (exec_pulseEdge k p w s) (pulseEdge_noted hen hpass)
  case encoder =>
    refine completes_onUnit hk he (exec_encoderEdge k e lines w s) ?_
    have hnoted := encEdge_quadrature (lines := lines % 8) he hen hmode hpass
    rwa [Nat.mod_mod] at hnoted
  case poll =>
    refine completes_onUnit hk hp (exec_spiPoll k p s) ?_
    dsimp only
    rw [spiPoll_first hen hl, getSpi_ofSpokes (emit_spokes ..), getSpi_updSpi]
    exact ⟨rfl, rfl, rfl⟩
  case unchecked => exact completes_onUnit hk hp (exec_spiFrameDone k p bytes s) (spiDone_unchecked hbusy hlen hcrc)
  case badCheck => exact completes_onUnit hk hp (exec_spiFrameDone k p bytes s) (spiDone_badCheck hbusy hlen hcrc hbad)

end Sys2Proof.Proofs
end

section
/-! What the outputs of the other loops of a spoke cannot reach (R265 to R267): where those that are due are written, a loop without a result of its
own stays as it is, and so do its mode and the package time of its spoke. -/
namespace Sys2Proof.Proofs
open Sys2Proof Sys2Proof.Machine Sys2Proof.Laws

/-! ### The loops of a spoke -/

theorem getLoop_ofSpokes {k l : Nat} {c d : Dev} (h : c.spokes = d.spokes) : getLoop k l c = getLoop k l d := by
  rw [getLoop, getCtl, getSpoke, h, getLoop, getCtl, getSpoke]

theorem getLoop_updLoop_other {k l m : Nat} (h : l ≠ m) (f : Loop → Loop) (d : Dev) : getLoop k l (updLoop k m f d) = getLoop k l d := by
  simp [getLoop, updLoop, kget_kupd_other _ _ _ _ _ _ h]

/-- What of loop l no update of a loop changes does not change with one. -/
theorem getLoop_updLoop_keeps {β : Type} {p : Loop → β} {f : Loop → Loop} (hf : ∀ x, p (f x) = p x) (k l m : Nat) (d : Dev) :
    p (getLoop k l (updLoop k m f d)) = p (getLoop k l d) := by
  by_cases h : l = m
  · subst h
    rw [getLoop_updLoop, hf]
  · rw [getLoop_updLoop_other h]

/-! ### Output writes (R267, R283 to R286) -/

/-- What p shows does not depend on what the outputs of a loop of spoke k other than l change: that loop, its output register, the pairs, the channels
and their status, and the open values used up. -/
structure OutputBlind (k l : Nat) {β : Type} (p : Dev → β) : Prop where
  marks : ∀ m d, p { d with marks := m } = p d
  free : ∀ n d, p { d with free := n } = p d
  chanStatus : ∀ n w d, p (rput (R.DRV_CH_STATUS k n) w d) = p d
  output : ∀ m w d, p (rput (R.CTL_LOOP_U k m) w d) = p d
  chan : ∀ n f d, p (updChan k n f d) = p d
  pair : ∀ n f d, p (updPair k n f d) = p d
  loop : ∀ m f d, l ≠ m → p (updLoop k m f d) = p d

theorem outputBlind_getLoop (k l : Nat) : OutputBlind k l (getLoop k l) where
  marks _ _ := rfl
  free _ _ := rfl
  chanStatus _ _ _ := rfl
  output _ _ _ := rfl
  chan n f d := by simp [getLoop, getCtl, updChan]
  pair n f d := by simp [getLoop, getCtl, updPair]
  loop _ f d h := getLoop_updLoop_other h f d

theorem outputBlind_spokePt (k l : Nat) : OutputBlind k l (spokePt k) := by constructor <;> (intros; rfl)

theorem outputBlind_loopMode (k l : Nat) : OutputBlind k l (loopMode k l) where
  marks _ _ := rfl
  free _ _ := rfl
  chanStatus n w d := by
    have hne : (F.CTL_LOOP_STATUS.MODE k l).reg.off ≠ (R.DRV_CH_STATUS k n).off := by
      simp only [F.CTL_LOOP_STATUS.MODE, R.CTL_LOOP_STATUS, R.DRV_CH_STATUS]
      omega
    rw [loopMode, getF, rget_rput_other _ _ _ _ hne, loopMode, getF]
  output m w d := by
    have hne : (F.CTL_LOOP_STATUS.MODE k l).reg.off ≠ (R.CTL_LOOP_U k m).off := by
      simp only [F.CTL_LOOP_STATUS.MODE, R.CTL_LOOP_STATUS, R.CTL_LOOP_U]
      omega
    rw [loopMode, getF, rget_rput_other _ _ _ _ hne, loopMode, getF]
  chan _ _ _ := rfl
  pair _ _ _ := rfl
  loop _ _ _ _ := rfl

namespace OutputBlind
variable {k l : Nat} {β : Type} {p : Dev → β} (hp : OutputBlind k l p)
include hp

theorem slowOff (n : Nat) (d : Dev) : p (raise (F.DRV_CH_STATUS.SLOW_OFF k n) d) = p d := (hp.marks _ _).trans (hp.chanStatus n _ d)

theorem regulationOff (n : Nat) (force : Bool) (d : Dev) : p (regulationOff k n force d) = p d :=
  (whenD_keeps p _ _ (hp.slowOff n) _).trans (hp.chan ..)

theorem endRegulation (n : Nat) (d : Dev) : p (endRegulation k n d) = p d := ite_keeps (hp.regulationOff ..) rfl

theorem startRegulation (n sched : Nat) (late : Bool) (d : Dev) : p (startRegulation k n sched late d) = p d :=
  (hp.chan ..).trans (eachD_keeps p _ _ (fun _ _ => hp.chan ..) d)

theorem askPair (n : Nat) (r : PairReq) (d : Dev) : p (askPair k n r d) = p d := (ite_keeps rfl (hp.pair ..)).trans (hp.pair ..)

theorem driveOutput (m : Nat) (o : OutCfg) (u : Int) (d : Dev) : p (driveOutput k m o u d) = p d := by
  unfold Machine.driveOutput
  dsimp only
  split
  · exact hp.askPair ..
  · have hthree (a b c : Nat) (x y z : PairReq) : p (Machine.askPair k a x (Machine.askPair k b y (Machine.askPair k c z d))) = p d := by
      rw [hp.askPair, hp.askPair, hp.askPair]
    split
    · exact ite_keeps (hthree ..) (hthree ..)
    · exact hthree ..
  · refine ite_keeps ((hp.chan ..).trans ((divFree_free hp.free ..).trans ?_)) (ite_keeps rfl (hp.endRegulation ..))
    exact ite_keeps rfl ((hp.chan ..).trans (hp.startRegulation ..))
  · rfl

theorem driveOutputs (m : Nat) (d : Dev) : p (driveOutputs k m d) = p d := by
  unfold Machine.driveOutputs
  split
  · rfl
  · exact eachD_keeps p _ _ (fun _ _ => hp.driveOutput ..) d

end OutputBlind

theorem writeOutputs_none {k l : Nat} {d : Dev} (h : (getLoop k l d).result = none) : writeOutputs k l d = d := by
  unfold writeOutputs
  rw [h]

theorem OutputBlind.writeOutputs {k l : Nat} {β : Type} {p : Dev → β} (hp : OutputBlind k l p) (m : Nat) {d : Dev}
    (h : (getLoop k l d).result = none) : p (writeOutputs k m d) = p d := by
  by_cases hm : l = m
  · subst hm
    rw [writeOutputs_none h]
  · unfold Machine.writeOutputs
    split
    · rfl
    · exact (hp.driveOutputs ..).trans ((hp.output ..).trans (hp.loop _ _ _ hm))

/-- The loops whose triggers fall into this tick write their outputs beside a loop that has none to write. -/
theorem OutputBlind.writeDue {k l : Nat} {β : Type} {p : Dev → β} (hp : OutputBlind k l p) {d : Dev}
    (h : (getLoop k l d).result = none) : p (writeDue k d) = p d := by
  unfold Machine.writeDue
  generalize List.range 24 = ms
  induction ms generalizing d with
  | nil => rfl
  | cons m ms ih =>
    rw [eachD_cons]
    split
    · refine (ih ?_).trans (hp.writeOutputs m h)
      rw [(outputBlind_getLoop k l).writeOutputs m h, h]
    · exact ih h

end Sys2Proof.Proofs
end

section
/-! Triggers of a loop and the lanes of its spoke (R265 to R268, R289, R290). -/
namespace Sys2Proof.Proofs
open Sys2Proof Sys2Proof.Machine Sys2Proof.Laws

/-! ### The lanes take a sample (R290) -/

/-- The lanes of spoke k take the sample of loop m. -/
def laneTakes (k m : Nat) (d : Dev) : Dev :=
  d |> updCtl k (fun c => { c with lane := some (m, spokePt k d) }) |> updLoop k m (fun x => { x with ready := false })

theorem laneServe_cases (k : Nat) (d : Dev) : laneServe k d = d ∨ (getCtl k d).lane = none ∧ ∃ m, laneServe k d = laneTakes k m d := by
  unfold laneServe
  dsimp only
  split
  · exact .inl rfl
  · rename_i hlane
    split
    · exact .inl rfl
    · exact .inr ⟨hlane, _, rfl⟩

theorem laneServe_regs (k : Nat) (d : Dev) : (laneServe k d).regs = d.regs := by
  obtain h | ⟨-, m, h⟩ := laneServe_cases k d
  · rw [h]
  · rw [h]
    rfl

/-- What of a loop does not depend on whether it waits for the lanes is as before where they take a sample. -/
theorem getLoop_laneServe {β : Type} {p : Loop → β} (hready : ∀ x, p { x with ready := false } = p x) (k l : Nat) (d : Dev) :
    p (getLoop k l (laneServe k d)) = p (getLoop k l d) := by
  obtain h | ⟨-, m, h⟩ := laneServe_cases k d
  · rw [h]
  · rw [h, laneTakes, getLoop_updLoop_keeps hready, getLoop, getCtl_updCtl, getLoop]

/-- A sample that free lanes take, they take at the present PT. -/
theorem lane_laneServe {k m t : Nat} {d : Dev} (hfree : (getCtl k d).lane = none) (h : (getCtl k (laneServe k d)).lane = some (m, t)) :
    t = spokePt k d := by
  obtain hs | ⟨-, n, hs⟩ := laneServe_cases k d
  · rw [hs, hfree] at h
    cases h
  · rw [hs, laneTakes, updLoop, getCtl_updCtl, getCtl_updCtl] at h
    cases h
    rfl

/-! ### A trigger (R265, R266) -/

theorem getLoop_queueConv (k l ain : Nat) (owner : Option (Nat × Nat)) (d : Dev) : getLoop k l (queueConv k ain owner d) = getLoop k l d := by
  simp only [getLoop, queueConv, setAdc, getCtl_updCtl]
  split <;> rfl

theorem latchSample_latched (k l : Nat) (b : LoopBlock) (t : Nat) (d : Dev) : let x := getLoop k l (latchSample k l b t d)
    x.latched = some t ∧ x.lastTrig = some t ∧ x.result = none := by
  unfold latchSample
  dsimp only
  rw [eachD_keeps (getLoop k l) _ _ fun _ _ => ite_keeps (getLoop_queueConv ..) rfl,
    eachD_keeps (getLoop k l) _ _ fun _ _ => ite_keeps (getLoop_queueConv ..) rfl, getLoop_updLoop]
  exact ⟨rfl, rfl, rfl⟩

/-- What a trigger notes of itself. -/
def triggered (k l : Nat) (d : Dev) : Dev :=
  updLoop k l (fun x => { x with trigAt := some (spokePt k d), gap := x.trigAt.map (spokePt k d - ·) }) d

/-- What an overrun leaves before the health unit counts it (R268). -/
def overrunNoted (k l : Nat) (d : Dev) : Dev :=
  d |> countF (F.CTL_LOOP_STATUS.OVERRUNS k l) |> raise (F.CTL_LOOP_STATUS.OVERRUN k l) |> raise (F.CTL_STATUS.OVERRUN k)

theorem judgeInterval_timer {b : LoopBlock} (hcmp : b.trigCmp = false) (k l t : Nat) (x : Loop) (d : Dev) : judgeInterval k l t b x d = d := by
  unfold judgeInterval
  split
  · rw [hcmp, Bool.false_and, whenD_false]
  · rfl

section
variable {k l : Nat} {b : LoopBlock} {d : Dev} (hb : loopBlock k l d = some b) (hm : loopMode k l d ≠ 0) (ht : (getLoop k l d).trigAt = none)
  (hr : (getLoop k l d).result = none)
include hb hm ht hr

theorem loopTrigger_latches (hcmp : b.trigCmp = false) (hl : (getLoop k l d).latched = none) (hc : (getLoop k l d).cmds = []) :
    loopTrigger k l d = latchSample k l b (spokePt k d) (triggered k l d) := by
  rw [loopBlock] at hb
  have hwrite : writeOutputs k l (triggered k l d) = triggered k l d := writeOutputs_none (by rw [triggered, getLoop_updLoop, hr])
  have hlatched : ¬ (getLoop k l (writeOutputs k l (triggered k l d))).latched.isSome = true := by
    rw [hwrite, triggered, getLoop_updLoop, hl]
    decide
  have hready : applyBlocks k l (getLoop k l d).cmds.length (judgeInterval k l (spokePt k d) b (getLoop k l d)
      (writeOutputs k l (triggered k l d))) = triggered k l d := by
    rw [hwrite, judgeInterval_timer hcmp, hc]
    rfl
  have hblock : loopBlock k l (triggered k l d) = some b := by rw [loopBlock, triggered, getLoop_updLoop, hb]
  unfold loopTrigger
  dsimp only
  rw [hb]
  dsimp only
  rw [if_neg (by simp [hm, ht])]
  refine (if_neg hlatched).trans ?_
  split
  · rename_i c hc
    cases hc.symm.trans ((congrArg (loopBlock k l) hready).trans hblock)
    exact congrArg (latchSample k l b (spokePt k d)) hready
  · rename_i hc
    cases hc.symm.trans ((congrArg (loopBlock k l) hready).trans hblock)

theorem loopTrigger_overruns (hl : (getLoop k l d).latched ≠ none) :
    loopTrigger k l d = countLoopEvent k l (overrunNoted k l (triggered k l d)) := by
  rw [loopBlock] at hb
  have hwrite : writeOutputs k l (triggered k l d) = triggered k l d := writeOutputs_none (by rw [triggered, getLoop_updLoop, hr])
  have hlatched : (getLoop k l (writeOutputs k l (triggered k l d))).latched.isSome = true := by
    rw [hwrite, triggered, getLoop_updLoop]
    exact Option.isSome_iff_ne_none.mpr hl
  unfold loopTrigger
  dsimp only
  rw [hb]
  dsimp only
  rw [if_neg (by simp [hm, ht])]
  exact (if_pos hlatched).trans (congrArg (fun e => countLoopEvent k l (overrunNoted k l e)) hwrite)

end

/-! ### Faults and events of a loop (R302, R475) -/

/-- What p shows does not depend on what a fault of loop l changes: the loop, its registers and those of its engine, the frames that wait at the
spoke's end of the link, and what a report changes. -/
structure FaultBlind (k l : Nat) {β : Type} (p : Dev → β) : Prop extends ReportBlind p where
  status : ∀ v d, p (setMode k l v d) = p d
  cause : ∀ v d, p (setF (F.CTL_LOOP_STATUS.CAUSE k l) v d) = p d
  seen : ∀ d, p (Machine.raise (F.CTL_LOOP_STATUS.FAULT_SEEN k l) d) = p d
  fault : ∀ d, p (Machine.raise (F.CTL_STATUS.FAULT k) d) = p d
  loop : ∀ f d, p (updLoop k l f d) = p d
  waiting : ∀ x d, p (linkSend k .spoke x d) = p d

namespace FaultBlind
variable {k l : Nat} {β : Type} {p : Dev → β} (hp : FaultBlind k l p)
include hp

theorem overrule (d : Dev) : p (overrule k l d) = p d := by
  refine (eachD_keeps p _ _ (fun w e => ?_) _).trans (hp.loop ..)
  split
  · exact hp.waiting ..
  · rfl

theorem enterFaulted (cause act : Nat) (d : Dev) : p (enterFaulted k l cause act d) = p d := by
  unfold Machine.enterFaulted
  rw [hp.overrule, hp.loop, hp.fault, hp.cause, hp.status]

theorem countLoopEvent (d : Dev) : p (countLoopEvent k l d) = p d := by
  unfold Machine.countLoopEvent
  exact (ite_keeps (hp.enterFaulted ..) rfl).trans (hp.healthEvent ..)

theorem loopFault (cause : Nat) (y0 : Int) (d : Dev) : p (loopFault k l cause y0 d) = p d := by
  unfold Machine.loopFault
  rw [hp.countLoopEvent, hp.logEvent, hp.seen]
  exact ite_keeps rfl (hp.enterFaulted ..)

end FaultBlind

/-- The status register of a control engine is none of its loops'. -/
theorem statusReg_ne_loop (k l : Nat) : (R.CTL_STATUS k).off ≠ (R.CTL_LOOP_STATUS k l).off := by
  simp only [R.CTL_STATUS, R.CTL_LOOP_STATUS]
  omega

theorem faultBlind_overrun (k l : Nat) : FaultBlind k l (getF (F.CTL_STATUS.OVERRUN k)) where
  toReportBlind := reportBlind_field (spokeReg_noReport spokeReg)
  status v d := getF_setF_otherReg _ _ _ _ (statusReg_ne_loop k l)
  cause v d := getF_setF_otherReg _ _ _ _ (statusReg_ne_loop k l)
  seen d := getF_raise_otherField d (by simp [F.CTL_LOOP_STATUS.FAULT_SEEN]) (.inl (statusReg_ne_loop k l))
  fault d := getF_raise_otherField d (by simp [F.CTL_STATUS.FAULT])
    (.inr ⟨rfl, .inl (by simp [F.CTL_STATUS.OVERRUN, F.CTL_STATUS.FAULT])⟩)
  loop _ _ := rfl
  waiting _ _ := rfl

theorem overrun_flagged (k l : Nat) (d : Dev) : getF (F.CTL_STATUS.OVERRUN k) (countLoopEvent k l (overrunNoted k l d)) = 1 := by
  rw [(faultBlind_overrun k l).countLoopEvent, overrunNoted, getF_raise_same _ _ (by simp [F.CTL_STATUS.OVERRUN]) rfl]

/-- The state in which a sample is computed (R264, R297): the loop is in some mode but DISABLED, and no command waits. -/
def Sampling (k l : Nat) (d : Dev) : Prop := loopMode k l d ≠ 0 ∧ (getLoop k l d).cmds = []

theorem reportBlind_sampling (k l : Nat) : ReportBlind (Sampling k l) where
  regs r w d h := by rw [Sampling, loopMode, (reportBlind_field (spokeReg_noReport spokeReg_at)).regs r w d h]; rfl
  marks _ _ := rfl
  log _ _ := rfl
  health _ _ := rfl

theorem overrule_regs (k l : Nat) (d : Dev) : (overrule k l d).regs = d.regs := by
  refine eachD_keeps Dev.regs _ _ (fun w e => ?_) _
  split <;> rfl

theorem overrule_cmds {k l : Nat} {d : Dev} (hc : (getLoop k l d).cmds = []) : (getLoop k l (overrule k l d)).cmds = [] := by
  unfold overrule
  dsimp only
  rw [hc, eachD_nil, getLoop_updLoop, hc]
  rfl

/-- A loop that is faulted is in FAULTED, and no mode command waits (R300, R302). -/
theorem sampling_enterFaulted {k l : Nat} (cause act : Nat) {d : Dev} (hc : (getLoop k l d).cmds = []) :
    Sampling k l (enterFaulted k l cause act d) := by
  constructor
  · have hcause (e : Dev) : loopMode k l (setF (F.CTL_LOOP_STATUS.CAUSE k l) cause e) = loopMode k l e :=
      getF_setF_disjoint _ _ _ _ rfl (by simp [F.CTL_LOOP_STATUS.CAUSE]) (.inl (by simp [F.CTL_LOOP_STATUS.MODE, F.CTL_LOOP_STATUS.CAUSE]))
    have hfault (e : Dev) : loopMode k l (raise (F.CTL_STATUS.FAULT k) e) = loopMode k l e :=
      getF_raise_otherField e (by simp [F.CTL_STATUS.FAULT]) (.inl (statusReg_ne_loop k l).symm)
    have hloop (f : Loop → Loop) (e : Dev) : loopMode k l (updLoop k l f e) = loopMode k l e := rfl
    rw [enterFaulted, loopMode_ofRegs (overrule_regs ..), hloop, hfault, hcause, setMode, loopMode,
      getF_setF_same _ _ _ (by simp [F.CTL_LOOP_STATUS.MODE])]
    simp [F.CTL_LOOP_STATUS.MODE]
  · have hloop (f : Loop → Loop) (e : Dev) (hf : ∀ x, (f x).cmds = x.cmds) (he : (getLoop k l e).cmds = []) :
        (getLoop k l (updLoop k l f e)).cmds = [] := by rw [getLoop_updLoop, hf, he]
    refine overrule_cmds (hloop _ _ (fun _ => rfl) ?_)
    exact (congrArg Loop.cmds (getLoop_ofSpokes ((raise_spokes ..).trans (setF_spokes ..)))).trans hc

theorem Sampling.loopFault {k l : Nat} {d : Dev} (h : Sampling k l d) (cause : Nat) (y0 : Int) : Sampling k l (loopFault k l cause y0 d) := by
  have hseen (e : Dev) : Sampling k l (raise (F.CTL_LOOP_STATUS.FAULT_SEEN k l) e) = Sampling k l e := by
    have hmode : loopMode k l (raise (F.CTL_LOOP_STATUS.FAULT_SEEN k l) e) = loopMode k l e :=
      getF_raise_otherField e (by simp [F.CTL_LOOP_STATUS.FAULT_SEEN])
        (.inr ⟨rfl, .inl (by simp [F.CTL_LOOP_STATUS.MODE, F.CTL_LOOP_STATUS.FAULT_SEEN])⟩)
    rw [Sampling, hmode, getLoop_ofSpokes (raise_spokes ..), Sampling]
  have hcount {e : Dev} (he : Sampling k l e) : Sampling k l (countLoopEvent k l e) := by
    have hevent : Sampling k l (healthEvent 8 (loopInst k l) false e).1 := ((reportBlind_sampling k l).healthEvent ..).mpr he
    unfold countLoopEvent
    dsimp only
    split
    · exact sampling_enterFaulted _ _ hevent.2
    · exact hevent
  unfold Machine.loopFault
  dsimp only
  refine hcount ?_
  rw [(reportBlind_sampling k l).logEvent, hseen]
  split
  · exact h
  · exact sampling_enterFaulted _ _ h.2

theorem Sampling.faults {k l : Nat} (y0 : Int) (causes : List Nat) {d : Dev} (h : Sampling k l d) :
    Sampling k l (eachD causes (fun cause => Machine.loopFault k l cause y0) d) := by
  induction causes generalizing d with
  | nil => exact h
  | cons cause causes ih => exact ih (h.loopFault cause y0)

/-! ### A sample is computed (R267, R277 to R304) -/

theorem superviseLoop_cmds (b : LoopBlock) (mode t : Nat) (y0 raw0 u0 lsb : Int) (valid : List Bool) (x : Loop) :
    (superviseLoop b mode t y0 raw0 u0 lsb valid x).2.cmds = x.cmds := by
  have hfrozen (auto : Bool) (y : Loop) : (checkFrozen b auto t raw0 u0 lsb y).2.cmds = y.cmds := by
    unfold checkFrozen
    extract_lets act win still
    split
    · rfl
    · split <;> rfl
  exact hfrozen ..

/-- Where none waits, no command applies. -/
theorem Sampling.applyWaiting {k l : Nat} {d : Dev} (h : Sampling k l d) (invalid : Bool) : Sampling k l (applyWaiting k l invalid d) := by
  unfold Machine.applyWaiting
  dsimp only
  rw [h.2, List.takeWhile_nil, eachD_nil]
  refine ⟨h.1, ?_⟩
  rw [getLoop_updLoop, h.2]
  rfl

/-- What p shows does not depend on what the computing of a sample of loop l changes, beside what a fault does: the registers and the open values
used up. -/
structure SampleBlind (k l : Nat) {β : Type} (p : Dev → β) : Prop extends ReportBlind p where
  allRegs : ∀ r w d, p (rput r w d) = p d
  free : ∀ n d, p { d with free := n } = p d
  loop : ∀ f d, p (updLoop k l f d) = p d
  waiting : ∀ x d, p (linkSend k .spoke x d) = p d

namespace SampleBlind
variable {k l : Nat} {β : Type} {p : Dev → β} (hp : SampleBlind k l p)
include hp

theorem setF (f : Fld) (v : Nat) (d : Dev) : p (setF f v d) = p d := hp.allRegs ..
theorem raise (f : Fld) (d : Dev) : p (raise f d) = p d := (hp.marks _ _).trans (hp.setF ..)
theorem flag (f : Fld) (b : Bool) (d : Dev) : p (flag f b d) = p d := ite_keeps (hp.raise ..) (hp.setF ..)

theorem fault : FaultBlind k l p where
  toReportBlind := hp.toReportBlind
  status _ _ := hp.setF ..
  cause _ _ := hp.setF ..
  seen _ := hp.raise ..
  fault _ := hp.raise ..
  loop := hp.loop
  waiting := hp.waiting

theorem divFree (num : Int) (den : Nat) (d : Dev) : p (divFree num den d).2 = p d := divFree_free hp.free num den d

/-- An open value drawn and two divisions leave what p shows. -/
theorem afterDivisions {q : Bool} {bits num₁ den₁ num₂ den₂} {v₁ v₂ : Int} {d d₁ d₂ d₃ : Dev}
    (h₁ : (if q = true then ((0 : Nat), d) else fresh d) = (bits, d₁)) (h₂ : Machine.divFree num₁ den₁ d₁ = (v₁, d₂))
    (h₃ : Machine.divFree num₂ den₂ d₂ = (v₂, d₃)) : p d₃ = p d := by
  have hdraw : p (if q = true then ((0 : Nat), d) else fresh d).2 = p d := by
    split
    · rfl
    · exact hp.free _ _
  calc p d₃ = p d₂ := (congrArg (fun x => p x.2) h₃).symm.trans (hp.divFree ..)
    _ = p d₁ := (congrArg (fun x => p x.2) h₂).symm.trans (hp.divFree ..)
    _ = p d := (congrArg (fun x => p x.2) h₁).symm.trans hdraw

theorem shape (c : SetCfg) (target : Int) (ticks : Nat) (x : Shaper) (d : Dev) : p (shape c target ticks x d).2 = p d := by
  fun_cases Machine.shape c target ticks x d
  case case1 => rfl
  case case2 hdraw _ _ _ _ _ hda _ _ _ hstep _ => exact hp.afterDivisions hdraw hda hstep
  case case3 hdraw _ _ _ _ _ hda _ _ _ hstep _ => exact hp.afterDivisions hdraw hda hstep

theorem shapeAll (b : LoopBlock) (targets : List Int) (ticks i : Nat) (xs : List Shaper) (d : Dev) :
    p (shapeAll b targets ticks i xs d).2 = p d := by
  induction xs generalizing i d with
  | nil => rfl
  | cons x xs ih => exact (ih ..).trans (hp.shape ..)

theorem safeStep (b : LoopBlock) (ticks : Nat) (d : Dev) : p (safeStep b ticks d).2 = p d := by
  unfold Machine.safeStep
  split
  · rfl
  · exact hp.divFree ..

/-- Where none waits, no command applies. -/
theorem applyWaiting {d : Dev} (h : Sampling k l d) (invalid : Bool) : p (applyWaiting k l invalid d) = p d := by
  unfold Machine.applyWaiting
  dsimp only
  rw [h.2, List.takeWhile_nil, eachD_nil, hp.loop]

theorem faults (y0 : Int) (causes : List Nat) (d : Dev) : p (eachD causes (fun cause => loopFault k l cause y0) d) = p d :=
  eachD_keeps p _ _ (fun cause => hp.fault.loopFault cause y0) d

end SampleBlind

/-- The sample of loop l is computed: outputs wait for the next trigger (R267), and what p shows is as it was. -/
def Computed (k l : Nat) {β : Type} (p : Dev → β) (d e : Dev) : Prop := p e = p d ∧ (getLoop k l e).result ≠ none

/-- The device once a sample has been supervised and the commands that waited have applied (R297 to R302), x being the loop the checks left. -/
def supervised (k l inv : Nat) (y0 : Int) (causes : List Nat) (x : Loop) (d : Dev) : Dev :=
  d |> setF (F.CTL_LOOP_STATUS.INVALID k l) inv |> setF (F.CTL_LOOP_Y.Y0 k l) (toBits 32 y0) |> updLoop k l (fun _ => x)
    |> eachD causes (fun cause => loopFault k l cause y0) |> applyWaiting k l (inv != 0)

section
variable {k l : Nat} {β : Type} {p : Dev → β} (hp : SampleBlind k l p) {d : Dev}
include hp

theorem supervised_keeps {x : Loop} (hm : loopMode k l d ≠ 0) (hx : x.cmds = []) (inv : Nat) (y0 : Int) (causes : List Nat) :
    Sampling k l (supervised k l inv y0 causes x d) ∧ p (supervised k l inv y0 causes x d) = p d := by
  have hy : (F.CTL_LOOP_STATUS.MODE k l).reg.off ≠ (F.CTL_LOOP_Y.Y0 k l).reg.off := by
    simp only [F.CTL_LOOP_STATUS.MODE, F.CTL_LOOP_Y.Y0, R.CTL_LOOP_STATUS, R.CTL_LOOP_Y]
    omega
  have hmode : loopMode k l (setF (F.CTL_LOOP_Y.Y0 k l) (toBits 32 y0) (setF (F.CTL_LOOP_STATUS.INVALID k l) inv d)) = loopMode k l d :=
    (getF_setF_otherReg _ _ _ _ hy).trans (getF_setF_disjoint _ _ _ _ rfl (by simp [F.CTL_LOOP_STATUS.INVALID])
      (.inl (by simp [F.CTL_LOOP_STATUS.MODE, F.CTL_LOOP_STATUS.INVALID])))
  have hstart (e : Dev) (he : loopMode k l e = loopMode k l d) : Sampling k l (updLoop k l (fun _ => x) e) :=
    ⟨fun h => hm (he.symm.trans h), by rw [getLoop_updLoop, hx]⟩
  have hfaults := (hstart _ hmode).faults y0 causes
  unfold supervised
  exact ⟨hfaults.applyWaiting _, by rw [hp.applyWaiting hfaults, hp.faults, hp.loop, hp.setF, hp.setF]⟩

namespace Computed
variable {e : Dev} (h : Computed k l p d e)
include h

theorem setF (f : Fld) (v : Nat) : Computed k l p d (setF f v e) := ⟨(hp.setF ..).trans h.1, h.2⟩
theorem flag (f : Fld) (b : Bool) : Computed k l p d (flag f b e) :=
  ⟨(hp.flag ..).trans h.1, by rw [getLoop_ofSpokes (flag_spokes ..)]; exact h.2⟩
theorem whenRaise (c : Bool) (f : Fld) : Computed k l p d (whenD c (raise f) e) := by
  cases c
  · exact h
  · exact ⟨(hp.raise ..).trans h.1, h.2⟩
theorem linkSend (x : Payload) : Computed k l p d (linkSend k .spoke x e) := ⟨(hp.waiting ..).trans h.1, h.2⟩

end Computed

/-- A loop that waits for no command and is not DISABLED ends its sample with outputs, whatever the checks found and whichever law gives them. -/
theorem computeSample_computes {b : LoopBlock} {u : Nat} (hb : loopBlock k l d = some b) (hl : (getLoop k l d).latched = some u)
    (hs : Sampling k l d) : Computed k l p d (computeSample k l d) := by
  rw [loopBlock] at hb
  unfold computeSample
  extract_lets x valid raw0
  split
  case h_2 hne => exact absurd hl (hne b u hb)
  case h_1 c t hc ht =>
  extract_lets ticks y inv d1 x1
  split
  rename_i causes x2 hsup
  have hx2 : x2.cmds = [] := by
    have hkept := superviseLoop_cmds c (loopMode k l d1) t (y.getD 0 0) raw0 (x1.u.getD 0 0) (rawLsb (c.meas.getD 0 {})) valid x1
    rw [hsup] at hkept
    exact hkept.trans hs.2
  extract_lets d2 d3 before d4 mode x3 x4 stale target goals xh yhat
  obtain ⟨h4, hp4⟩ : Sampling k l d4 ∧ p d4 = p d := supervised_keeps hp hs.1 hx2 inv (y.getD 0 0) causes
  rw [if_neg h4.1]
  split
  rename_i shapers d5 hshape
  have hp5 : p d5 = p d4 := by
    refine (congrArg (fun q => p q.2) hshape).symm.trans ?_
    split
    · exact hp.shapeAll ..
    · rfl
  extract_lets ws limited ff down
  split
  rename_i step d6 hstep
  have hp6 : p d6 = p d5 := (congrArg (fun q => p q.2) hstep).symm.trans (hp.safeStep ..)
  split
  extract_lets outs hi lo d7 d8
  have h7 : Computed k l p d d7 := ⟨by rw [hp.loop, hp6, hp5, hp4], by rw [getLoop_updLoop]; exact Option.some_ne_none _⟩
  have h8 : Computed k l p d d8 := ((((h7.setF hp _ _).flag hp _ _).flag hp _ _).flag hp _ _).whenRaise hp _ _
  split
  · exact h8.linkSend hp _
  · exact h8

end

/-! ### The lanes after a sample (R265, R290) -/

/-- What the computing of a sample leaves to the next one: the lanes and the package time of the spoke. -/
def lanesAt (k : Nat) (d : Dev) : Option (Nat × Nat) × Nat := ((getCtl k d).lane, spokePt k d)

theorem sampleBlind_lanesAt (k l : Nat) : SampleBlind k l (lanesAt k) where
  regs _ _ _ _ := rfl
  marks _ _ := rfl
  log _ _ := rfl
  health _ _ := rfl
  allRegs _ _ _ := rfl
  free _ _ := rfl
  loop f d := by rw [lanesAt, updLoop, getCtl_updCtl]; rfl
  waiting x d := by
    have hlane : getCtl k (linkSend k .spoke x d) = getCtl k d := rfl
    have hlink : (getLink k (linkSend k .spoke x d)).ptOff = (getLink k d).ptOff :=
      getLink_updEnd_keeps (·.ptOff) k .spoke _ d (fun _ _ => rfl) (fun _ _ => rfl)
    have hpt : (linkSend k .spoke x d).pt = d.pt := rfl
    rw [lanesAt, spokePt, hlane, hlink, hpt]
    rfl

/-- What depends on no open value, no register and no note of the lanes' use is as before once CTL_STATUS.UTIL is updated. -/
theorem utilRefresh_keeps {β : Type} {p : Dev → β} (k : Nat) (hfree : ∀ n d, p { d with free := n } = p d) (hreg : ∀ r w d, p (rput r w d) = p d)
    (hutil : ∀ (now : Nat) (log : LoopEngine → List (Nat × Nat)) d, p (updCtl k (fun c => { c with utilAt := now, laneLog := log c }) d) = p d) (d : Dev) :
    p (utilRefresh k d) = p d := by
  unfold utilRefresh
  extract_lets c now
  split
  · rfl
  · split
    rename_i pct e hpct
    exact (hutil _ _ _).trans ((hreg _ _ _).trans ((congrArg (fun x => p x.2) hpct).symm.trans (divFree_free hfree ..)))

theorem sampleDone_frees {k l start u : Nat} {b : LoopBlock} {d : Dev} (hb : loopBlock k l d = some b) (hlane : (getCtl k d).lane = some (l, start))
    (ht : start + laneTicks b ≤ spokePt k d) (hl : (getLoop k l d).latched = some u) (hs : Sampling k l d) :
    (getLoop k l (sampleDone k l d)).result ≠ none ∧ (getCtl k (sampleDone k l d)).lane ≠ some (l, start) := by
  have hlater : start ≠ spokePt k d := by
    rw [laneTicks] at ht
    omega
  have hdone : sampleDone k l d = laneServe k (utilRefresh k (computeSample k l
      (updCtl k (fun c => { c with lane := none, laneLog := (start, laneTicks b) :: c.laneLog }) d))) := by
    unfold sampleDone
    rw [hlane, hb]
    exact if_neg (by simp [ht])
  rw [hdone]
  generalize hfreed : updCtl k (fun c => { c with lane := none, laneLog := (start, laneTicks b) :: c.laneLog }) d = e
  have hloop : getLoop k l e = getLoop k l d := by rw [← hfreed, getLoop, getCtl_updCtl]; rfl
  have hview : lanesAt k e = (none, spokePt k d) := by rw [← hfreed, lanesAt, getCtl_updCtl]; rfl
  have hmode : loopMode k l e = loopMode k l d := by rw [← hfreed]; rfl
  have hsample : Sampling k l e := ⟨hmode ▸ hs.1, hloop ▸ hs.2⟩
  obtain ⟨hcview, hresult⟩ := computeSample_computes (sampleBlind_lanesAt k l) (by rw [loopBlock, hloop]; exact hb) (hloop ▸ hl) hsample
  have huview : lanesAt k (utilRefresh k (computeSample k l e)) = (none, spokePt k d) :=
    calc lanesAt k (utilRefresh k (computeSample k l e))
      _ = lanesAt k (computeSample k l e) := utilRefresh_keeps k (fun _ _ => rfl) (fun _ _ _ => rfl)
        (fun _ _ _ => by rw [lanesAt, getCtl_updCtl]; rfl) _
      _ = (none, spokePt k d) := hcview.trans hview
  have huloop : getLoop k l (utilRefresh k (computeSample k l e)) = getLoop k l (computeSample k l e) :=
    utilRefresh_keeps k (fun _ _ => rfl) (fun _ _ _ => rfl) (fun _ _ _ => by rw [getLoop, getCtl_updCtl]; rfl) _
  constructor
  · rw [getLoop_laneServe (p := Loop.result) (fun _ => rfl), huloop]
    exact hresult
  · intro h
    have hpt : spokePt k (utilRefresh k (computeSample k l e)) = spokePt k d := congrArg Prod.snd huview
    exact hlater ((lane_laneServe (congrArg Prod.fst huview) h).trans hpt)

/-! ### The triggers of a loop -/

/-- A loop that has no outputs to write is triggered as it stands before the outputs of the others. -/
theorem writeDue_keeps {k l : Nat} {d : Dev} (hr : (getLoop k l d).result = none) :
    getLoop k l (writeDue k d) = getLoop k l d ∧ loopMode k l (writeDue k d) = loopMode k l d ∧ spokePt k (writeDue k d) = spokePt k d :=
  ⟨(outputBlind_getLoop k l).writeDue hr, (outputBlind_loopMode k l).writeDue hr, (outputBlind_spokePt k l).writeDue hr⟩

section
variable {k l g : Nat} {b : LoopBlock} {d : Dev} (hb : loopBlock k l d = some b) (hg : gridReached b.period 0 (spokePt k d) = some g)
  (hcmp : b.trigCmp = false) (ht : (getLoop k l d).trigAt = none)
include hb hg hcmp ht

theorem timerTrigger_due : timerTrigger k l d = laneServe k (loopTrigger k l (writeDue k d)) := by
  unfold timerTrigger
  rw [hb]
  dsimp only
  rw [hg]
  exact if_neg (by simp [hcmp, ht])

variable (hm : loopMode k l d ≠ 0) (hr : (getLoop k l d).result = none)
include hm hr

theorem timerTrigger_latches (hl : (getLoop k l d).latched = none) (hc : (getLoop k l d).cmds = []) : let x := getLoop k l (timerTrigger k l d)
    x.latched = some (spokePt k d) ∧ x.lastTrig = some (spokePt k d) ∧ x.result = none := by
  have hserved (e : Dev) : let x := getLoop k l (laneServe k e)
      (x.latched, x.lastTrig, x.result) = ((getLoop k l e).latched, (getLoop k l e).lastTrig, (getLoop k l e).result) :=
    getLoop_laneServe (p := fun x => (x.latched, x.lastTrig, x.result)) (fun _ => rfl) k l e
  rw [timerTrigger_due hb hg hcmp ht]
  obtain ⟨hloop, hmode, hpt⟩ := writeDue_keeps hr
  rw [loopBlock, ← hloop] at hb
  rw [← hloop] at ht hr hl hc
  rw [← hmode] at hm
  rw [← hpt, loopTrigger_latches hb hm ht hr hcmp hl hc]
  obtain ⟨hlatched, hlast, hresult⟩ := latchSample_latched k l b (spokePt k (writeDue k d)) (triggered k l (writeDue k d))
  simpa only [hlatched, hlast, hresult, Prod.mk.injEq] using hserved (latchSample k l b (spokePt k (writeDue k d)) (triggered k l (writeDue k d)))

theorem timerTrigger_overruns (hl : (getLoop k l d).latched ≠ none) : getF (F.CTL_STATUS.OVERRUN k) (timerTrigger k l d) = 1 := by
  rw [timerTrigger_due hb hg hcmp ht, getF_of_regs _ (laneServe_regs k _)]
  obtain ⟨hloop, hmode, -⟩ := writeDue_keeps hr
  rw [loopBlock, ← hloop] at hb
  rw [← hloop] at ht hr hl
  rw [← hmode] at hm
  rw [loopTrigger_overruns hb hm ht hr hl]
  exact overrun_flagged ..

end

theorem triggerTimeout_late {k l : Nat} {b : LoopBlock} {d : Dev} (hb : loopBlock k l d = some b) (hcmp : b.trigCmp = true)
    (hm : loopMode k l d ≠ 0) (ht : (getLoop k l d).trigAt.getD (getLoop k l d).since + 2500000 ≤ spokePt k d) :
    triggerTimeout k l d = raise (F.CTL_LOOP_STATUS.RATE_RANGE k l) d := by
  have hms : ms 10 = 2500000 := by decide
  rw [loopBlock] at hb
  unfold triggerTimeout
  dsimp only
  rw [hb]
  dsimp only
  rw [hms]
  exact if_pos (by simp [hcmp, hm, ht])

/-- Settles O22: the outputs that other loops write at the tick do not reach a loop that has none to write, and the computing of a sample reaches
neither the lanes nor the package time. -/
theorem loopSampling : Obligations.LoopSampling := by
  intro s k l hk hl
  refine ⟨fun b g hb hg hcmp ht hm hlat hr hc => ?_, fun b g hb hg hcmp ht hm hlat hr => ?_, fun b hb hcmp hm ht => ?_,
    fun b start u hb hlane ht hlat hm hc => ?_⟩
  · exact completes_onUnit hk hl (exec_loopTrigger k l s) (timerTrigger_latches hb hg hcmp ht hm hr hlat hc)
  · exact completes_onUnit hk hl (exec_loopTrigger k l s) (timerTrigger_overruns hb hg hcmp ht hm hr hlat)
  · rw [exec_triggerTimeout, execTriggerTimeout, onUnit_present _ _ _ _ _ hk hl, triggerTimeout_late hb hcmp hm ht]
  · exact completes_onUnit hk hl (exec_sampleComputed k l s) (sampleDone_frees hb hlane ht hlat ⟨hm, hc⟩)

end Sys2Proof.Proofs
end
